-- ==== Sys2Proof/Word.lean ====
section
/-!
DEFINITION. The word types of the BQ-9624: 32-bit registers (R4), 48-bit positions in position ticks (R11),
64-bit device time (R12) and bytes.
-/
namespace Sys2Proof

/-- A register word (R4). -/
abbrev Word := BitVec 32

/-- A position in PT, a count modulo 2^48 (R11, R59). -/
abbrev Posn := BitVec 48

/-- Device time in ticks of 0.625 ns (R12). -/
abbrev DevTime := BitVec 64

/-- A byte. -/
abbrev Byte := BitVec 8

end Sys2Proof
end

