-- ==== Sys2Proof/Syntax.lean ====
section
/-!
DEFINITION. The commands of the BQ-9624, one constructor per row of spec/opcode_table.json. A command is what an
outside party or a unit's own event does to the block in one indivisible step. Copy numbers are bounded by their
type. `dt` is the device time in ticks that passes before the command takes effect (log entry 3).
-/
namespace Sys2Proof

/-- Which unit lock a write of UNIT_LOCK_WRITE names (R71); the DMA unit has one lock per engine (R354). -/
inductive LockId where
  | pos | trg | evr | lane | link | pipe | assay | noz | dma (e : Fin 16) | mem | twin | clk | pwr | hostep
  | bench | touch | glb
  deriving DecidableEq, Repr

/-- A code block as it arrives: its 66 wire bits, first bit in bit 0 (sync header in [1:0]), and the 58 scrambled payload bits
that came before it on its lane, oldest in bit 0 (R119, R120). -/
structure WireBlk where
  prior : BitVec 58
  bits : BitVec 66
  deriving DecidableEq, Repr

/-- Consecutive code blocks of one lane, after the 58 scrambled payload bits before the first. -/
structure LaneRx where
  prior : BitVec 58
  blocks : List (BitVec 66)
  deriving DecidableEq, Repr

/-- What a bond receives while a packet arrives: the code blocks of each position, 0 first, over the same slots after deskew,
and how many blocks of the bond stream in them come before the packet's header (R155). -/
structure BondRx where
  first : Nat
  lanes : List LaneRx
  deriving DecidableEq, Repr

/-- What the LEAD's snapshot at Ts carries (Table 14.4 step 4): axes (number, P_pub, high-water mark), generators (number,
TRG_TSACC, TRG_TSACCF, TRG_TSIDX, RUN), lists (number, read pointer), views (number, g), placements (view, queue place,
page, PSTART), READY pages (tenant, page) and each camera's next BLKSEQ. -/
structure TwinSnap where
  axes : List (Fin 8 × Posn × Posn)
  gens : List (Fin 96 × Posn × Word × Word × Bool)
  lists : List (Fin 64 × BitVec 16)
  views : List (Fin 16 × Word)
  places : List (Fin 16 × Fin 64 × Word × Posn)
  ready : List (Fin 16 × Word)
  seqs : List (Fin 96 × Word)
  deriving DecidableEq, Repr

/-- A page or placement as a CTRL packet names it (R434): kind 0 load, 1 free, 2 placement; tenant or view; page; PSTART. -/
structure TwinNamed where
  kind : Fin 3
  a : Fin 16
  page : Word
  pstart : Posn
  deriving DecidableEq, Repr

/-- The content of a CTRL packet from the partner (Table 14.1). -/
inductive CtrlMsg where
  /-- The partner holds an item (R434). -/
  | held (x : TwinNamed)
  /-- The LEAD activates an item from a position on (R434). -/
  | activate (x : TwinNamed) (act : Posn)
  /-- The LEAD's new g of a view (R435). -/
  | viewG (v : Fin 16) (g : Word)
  /-- The LEAD names Ts (Table 14.4). -/
  | snapshotAt (ts : BitVec 64)
  /-- The partner asks this device to fence itself (R442). -/
  | fence
  /-- Handover: the LEAD names Th; the FOLLOW confirms, or refuses for an inlay; the LEAD withdraws it (R441). -/
  | handover (th : BitVec 64)
  | handoverOk
  | handoverBusy
  | handoverOff
  /-- The partner dissolves the pair (R443). -/
  | unpair
  /-- The partner's configuration digest, beside the own one at that time (Table 14.5). -/
  | cfgdig (own peer : BitVec 64)
  deriving DecidableEq, Repr

/-- The content of a BULK packet (Table 14.1): copies of tracks from a first one on, 12 bytes each, or a request for the 128
tracks of a row of a bank (R437). -/
inductive BulkMsg where
  | tracks (first : BitVec 20) (bytes : List Byte) (last : Bool)
  | request (b : Fin 32) (row : Fin 256)
  deriving DecidableEq, Repr

/-- The way a register access takes: BAR0 of a function, BAR4 of PF0 (R361), the expansion ROM of PF0 (R384), or the
bench's own accesses to PF0's map. -/
inductive RegPath where
  | bar0 | bar4 | rom | bench
  deriving DecidableEq, Repr

/-- One write request on the register bus: its bytes in order, none where the byte enable is clear; whether it is poisoned
(R375); and the device time in ticks before it (log entry 119). -/
structure BusWrite where
  data : List (Option Byte)
  poison : Bool
  dt : Nat
  deriving DecidableEq, Repr

/-- One read request on the register bus: its byte enables in order, and the device time in ticks before it. -/
structure BusRead where
  ben : List Bool
  dt : Nat
  deriving DecidableEq, Repr

/-- What a command transfer gets from the host: the bytes that host memory delivers, and the translations (page,
translated page) that the endpoint asked for and got (R371). -/
structure HostRead where
  bytes : List Byte
  pages : List (BitVec 52 × BitVec 52)
  deriving DecidableEq, Repr

/-- How a pseudo-channel fails outright (R321): its PHY loses training, or it stops answering. -/
inductive PcLoss where
  | training | silent
  deriving DecidableEq, Repr

/-- The payload bytes of each direction of the host link over the interval that L0p looks at (R381), which ends after dt
ticks of device time. -/
structure LinkLoad where
  tx : Nat
  rx : Nat
  dt : Nat
  deriving DecidableEq, Repr

/-- A power domain that comes up, and the pipelines of its group that fail the self-test (R35, R459). -/
structure DomainUp where
  d : Fin 24
  bad : List (Fin 13)
  deriving DecidableEq, Repr

/-- The commands, in the order of spec/opcode_table.json. -/
inductive Instr where
  /-- REGISTER_WRITE (R7). A host or bench write to a register that has no row of its own takes effect by its field types, including W1C clears, RWL lock checks and size checks. -/
  | registerWrite (p : RegPath) (f : Fin 16) (off : BitVec 28) (w : BusWrite)
  /-- UNIT_LOCK_WRITE (R71). A write to a unit's lock register opens it on the key, when any claim is granted, and closes it otherwise. -/
  | unitLockWrite (u : LockId) (v : Word)
  /-- ENC_AB_EDGE (R44). A level change on ENC_A or ENC_B is filtered against the minimum interval and, if accepted, counts one quadrature count. -/
  | encAbEdge (n : Fin 8) (a b : Bool) (dt : Nat)
  /-- MIN_INTERVAL_END (R44). At the end of the minimum interval the decoder compares pin levels with its state and accepts a pending edge or applies the quadrature error rule. -/
  | minIntervalEnd (src : Fin 32) (dt : Nat)
  /-- GLITCH_CAUSE_END (R45). A full POS_AXGLWIN without a qualifying rejection ends the GLITCH cause. -/
  | glitchCauseEnd (n : Fin 8) (dt : Nat)
  /-- ENC_Z_EDGE (R60). An accepted, qualified index edge latches the index position and device time. -/
  | encZEdge (n : Fin 8) (z : Bool) (dt : Nat)
  /-- SINCOS_SAMPLE (R47). A sin/cos ADC sample pair is converted to phase and updates the measurement. -/
  | sincosSample (n : Fin 8) (adcSin adcCos : BitVec 14) (dt : Nat)
  /-- ABS_REQUEST (R50). The request period expires and an absolute-word frame begins with a falling edge of ENC_SCLK. -/
  | absRequest (n : Fin 8) (dt : Nat)
  /-- ABS_GAP_END (R49). The clock-high gap after a frame ends and a waiting request may start. -/
  | absGapEnd (n : Fin 8) (dt : Nat)
  /-- ABS_FRAME_END (R51). A complete absolute-word frame is checked and, if valid, advances the measurement. -/
  | absFrameEnd (n : Fin 8) (frame : List Bool) (dt : Nat)
  /-- POSITION_PUBLISH (R53). Every 4 TBCLK ticks each enabled axis publishes position, velocity and device time to the other units. -/
  | positionPublish (dt : Nat)
  /-- STILL (R57). The measurement has not changed for POS_AXSTILLT and the axis enters standstill. -/
  | still (n : Fin 8) (dt : Nat)
  /-- SPDWIN (R63). A speed window ends and its net travel and length are stored. -/
  | spdwin (n : Fin 8) (dt : Nat)
  /-- AXIS_CTL_WRITE (R68). A write of POS_AXCTL goes to the shadow while enabled, or takes effect at once while disabled, with MODE 0b11 refused. -/
  | axisCtlWrite (n : Fin 8) (v : Word)
  /-- POS_AXEN_WRITE (R70). Writing EN 1 applies the active control and restarts estimates; writing 0 freezes the position. -/
  | posAxenWrite (n : Fin 8) (v : Word)
  /-- RESYNC (R69). POS_AXCMD.RESYNC applies the shadow at the next publication tick and cancels an armed apply. -/
  | resync (n : Fin 8)
  /-- APPLYIDX (R69). POS_AXCMD.APPLYIDX arms an apply at the next accepted, qualified index. -/
  | applyidx (n : Fin 8)
  /-- ABSREQ (R50). POS_AXCMD.ABSREQ requests one absolute word when the request period is 0. -/
  | absreq (n : Fin 8)
  /-- CLRSUSP (R66). POS_AXCMD.CLRSUSP clears POS_AXSTAT.SUSPECT. -/
  | clrsusp (n : Fin 8)
  /-- AXIS_CLRCNT (R73). POS_AXCMD.CLRCNT clears the axis glitch, error and amplitude counters. -/
  | axisClrcnt (n : Fin 8)
  /-- SNAP (R72). A write of POS_SNAP.SNAP latches all eight positions and the device time. -/
  | snap
  /-- CROSSING (R75). The predicted crossing instant of a pending target arrives and its action takes place. -/
  | crossing (ecc : Nat)
  /-- MINPER_EXPIRY (R81). TRG_TSMINPER since the last trigger elapses and a limited trigger is issued at the expected position. -/
  | minperExpiry (g : Fin 96) (dt : Nat)
  /-- TSCMD_START (R78). TRG_TSCMD.START starts the generator at TRG_TSPHASE, skipping passed targets and sending a run-start record. -/
  | tscmdStart (g : Fin 96)
  /-- TSCMD_STOP (R83). TRG_TSCMD.STOP stops the generator at once, letting scheduled crossings occur. -/
  | tscmdStop (g : Fin 96)
  /-- TSCMD_ARM (R84). TRG_TSCMD.ARM applies the generator shadow at the next block boundary. -/
  | tscmdArm (g : Fin 96)
  /-- TSCMD_CLRCNT (R83). TRG_TSCMD.CLRCNT clears the generator counters. -/
  | tscmdClrcnt (g : Fin 96)
  /-- TRG_CLWR_WRITE (R88). A write of TRG_CLWR advances the write pointer if legal, or sets WRERR. -/
  | trgClwrWrite (l : Fin 64) (v : Word)
  /-- TRG_CLBASE_WRITE (R88). A write of TRG_CLBASE or TRG_CLSIZE empties the list's ring. -/
  | trgClbaseWrite (l : Fin 64) (size : Bool) (v : Word)
  /-- TRG_CLCTL_WRITE (R93). Enabling or disabling a list resumes at its head or closes its open windows. -/
  | trgClctlWrite (l : Fin 64) (v : Word)
  /-- PULSE_END (R96). A pin request interval ends after its width or stretch, and the output follows. -/
  | pulseEnd (p : Fin 32) (dt : Nat)
  /-- DEAD_TIME_END (R97). The dead time of a pin pair elapses and the output turning active switches. -/
  | deadTimeEnd (k : Fin 16) (dt : Nat)
  /-- TRG_PAIRCTL_WRITE (R97). A change of TRG_PAIRCTL.EN moves both outputs to the levels of their new rule. -/
  | trgPairctlWrite (k : Fin 16) (v : Word)
  /-- TRIG_IN_EDGE (R98). An accepted TRIG_IN edge latches device time and position and publishes its event. -/
  | trigInEdge (n : Fin 16) (level : Bool) (dt : Nat)
  /-- CMEM_WINDOW_WRITE (R101). A PF0 write to the compare memory window stores an entry while TRG_LOCK is open. -/
  | cmemWindowWrite (off : BitVec 19) (v : Word)
  /-- EVENT_DELIVER (R103). An event reaches each enabled subscriber of its channel after the router delay, gated per subscription. -/
  | eventDeliver (parity : Option (Bool × Fin 1024)) (dt : Nat)
  /-- EVR_ENTRY_WRITE (R106). A write to EVR_PUB or EVR_SUB takes effect in the tick after it completes. -/
  | evrEntryWrite (sub : Bool) (k : Fin 1024) (v : Word)
  /-- LANE_CTL_WRITE (R146). A write of LANE_CTL goes to the shadow while enabled, or takes effect at once while disabled. -/
  | laneCtlWrite (n : Fin 104) (v : Word)
  /-- LANE_RESTART (R124). LANE_CMD.RESTART sends a lane back to DETECT. -/
  | laneRestart (n : Fin 104)
  /-- LANE_APPLY (R146). LANE_CMD.APPLY applies the lane's shadow at once. -/
  | laneApply (n : Fin 104)
  /-- LANE_CLRCNT (R153). LANE_CMD.CLRCNT clears the lane error and training counters. -/
  | laneClrcnt (n : Fin 104)
  /-- PRBSRST (R148). LANE_CMD.PRBSRST restarts pattern synchronisation and clears the count. -/
  | prbsrst (n : Fin 104)
  /-- RECEIVER_DETECT (R125). Every 100 µs in DETECT the transmitter senses the far receiver and moves to TRAIN when one is found. -/
  | receiverDetect (n : Fin 112) (found clear : Bool) (dt : Nat)
  /-- NODETECT (R124). After 100 ms in DETECT the lane sets NODETECT. -/
  | nodetect (n : Fin 112) (dt : Nat)
  /-- TRAIN (R126). A received TRAIN block advances the rate agreement and the switch to operating rates. -/
  | train (n : Fin 112) (blk : WireBlk) (dt : Nat)
  /-- LANE_STATE_TIMEOUT (R129). A bring-up or RELOCK state exceeds its time limit and the attempt fails or the bond is muted. -/
  | laneStateTimeout (n : Fin 112) (dt : Nat)
  /-- COMMA (R122). A received comma block advances lock, deskew and bond checks. The block's sync header and, of its payload, bits
  [7:0], [23:8] and [63:24] (Table 5.3); the blocks since the comma before it; and the valid headers in a row (R128). -/
  | comma (n : Fin 112) (hdr : BitVec 2) (typ : BitVec 8) (mid : BitVec 16) (pat : BitVec 40) (gap run : Nat) (dt : Nat)
  /-- EQREQ (R130). A received EQREQ changes the transmitter taps and is answered with EQRSP. -/
  | eqreq (n : Fin 112) (blk : WireBlk) (dt : Nat)
  /-- EQRSP (R130). A received EQRSP advances the device's equalisation search. -/
  | eqrsp (n : Fin 112) (blk : WireBlk) (eyeh eyev : BitVec 8) (dt : Nat)
  /-- EQ_REQUEST_TIMEOUT (R130). An EQREQ unanswered after 20 µs is repeated, up to three times, then fails the attempt. -/
  | eqRequestTimeout (n : Fin 112) (dt : Nat)
  /-- LOS (R137). The lane's signal falls below V_LOS and LOS is raised. -/
  | los (n : Fin 112) (dt : Nat)
  /-- LOL (R137). CDR loss, block lock loss or a comma error raises LOL. -/
  | lol (n : Fin 112) (kind : Fin 3) (dt : Nat)
  /-- BER_INTERVAL (R137). A 1 ms interval ends and header errors above BERTH raise BER. -/
  | berInterval (n : Fin 112) (errs dt : Nat)
  /-- SWITCH_CONFIRM (R139). The camera's SWITCH confirm puts the spare in ACTIVE carrying the position and isolates the failed lane. -/
  | switchConfirm (n : Fin 104) (blk : WireBlk) (dt : Nat)
  /-- SWITCH_TIMEOUT (R142). A SWITCH request unconfirmed after 20 µs is resent once, then SWITCHTMO isolates lane and spare. -/
  | switchTimeout (c : Fin 96) (dt : Nat)
  /-- A1_CODE_GROUP (R150). Alaol-1 code groups gain or lose sync on K28.5 commas and invalid groups. -/
  | a1CodeGroup (n : Fin 104) (group : BitVec 10) (al : Fin 10) (dt : Nat)
  /-- A1SYNC_TIMEOUT (R150). A lane in A1SYNC for over 1 ms after A1ACTIVE raises L2 and is isolated. -/
  | a1syncTimeout (n : Fin 104) (dt : Nat)
  /-- A1_PACKET (R180). An Alaol-1 packet between K27.7 and K29.7 is received. -/
  | a1Packet (n : Fin 104) (groups : List (BitVec 10)) (dt : Nat)
  /-- SPRUE_SELFTEST (R35). Bench firmware self-tests each idle sprue lane and pipeline at least every 100 ms. -/
  | sprueSelftest (pipe : Bool) (k : Fin 8) (ok : Bool) (dt : Nat)
  /-- TSYNC (R166). The time round period elapses and the device sends TSYNC to a camera. -/
  | tsync (c : Fin 96) (dt : Nat)
  /-- TSECHO (R166). A received TSECHO yields DLY and OFS and the device sends TRESULT. -/
  | tsecho (c : Fin 96) (rx : BondRx) (dt : Nat)
  /-- TIME_ROUND_TIMEOUT (R166). A round with no TSECHO within 100 µs is abandoned. -/
  | timeRoundTimeout (c : Fin 96) (dt : Nat)
  /-- HEART (R169). The heartbeat period elapses and the device sends HEART to every ACTIVE camera. -/
  | heart (dt : Nat)
  /-- CAMERA_HEART (R170). A received camera HEART is copied into LINK_CAMHB and sets HBOK. -/
  | cameraHeart (c : Fin 96) (rx : BondRx) (dt : Nat)
  /-- HBLOST (R170). No camera HEART for 3 × HBPER clears HBOK. -/
  | hblost (c : Fin 96) (dt : Nat)
  /-- LINE_SEGMENT (R159). A LINE segment is received and assembled; a complete line is paired with its record. -/
  | lineSegment (c : Fin 96) (rx : BondRx) (dt : Nat)
  /-- FRAME_SEGMENT (R159). A FRAME segment of an area-camera row is received and assembled. -/
  | frameSegment (c : Fin 96) (rx : BondRx) (dt : Nat)
  /-- LINE_RECORD_TIMEOUT (R160). A record unpaired LINK_CAMLNTMO after its exposure closes as missing and sends a gap mark. -/
  | lineRecordTimeout (c : Fin 96) (dt : Nat)
  /-- REGRSP (R172). A camera register response completes its TAG's request. -/
  | regrsp (c : Fin 96) (rx : BondRx) (dt : Nat)
  /-- REG_TIMEOUT (R172). A camera request unanswered within LINK_REGTMO frees its TAG and ends with TIMEOUT. -/
  | regTimeout (c : Fin 96) (tag : Fin 16) (dt : Nat)
  /-- CAPR (R173). A received capability record is stored. -/
  | capr (c : Fin 96) (rx : BondRx) (dt : Nat)
  /-- FMT (R173). A received format table is checked under R175. -/
  | fmt (c : Fin 96) (rx : BondRx) (dt : Nat)
  /-- CAPEND (R173). CAPEND ends the exchange; the device runs the CAPS round and sends CAPACK. -/
  | capend (c : Fin 96) (rx : BondRx) (dt : Nat)
  /-- LINK_CAMCFG_WRITE (R176). A write of LINK_CAMCFG goes to the shadow while the bond is ACTIVE. -/
  | linkCamcfgWrite (c : Fin 96) (v : Word)
  /-- SLOT_FREE (R195). Stage 2 finishes reading a line and its assembly slot is freed. -/
  | slotFree (n : Fin 104) (dt : Nat)
  /-- DRAW_PLATE_EMIT (R211). Once line b or b + 1 has arrived or the run has ended, the draw plate emits output line i. -/
  | drawPlateEmit (n : Fin 104) (dt : Nat)
  /-- STAGE10_ACCEPT (R218). The assay stage or ring path accepts a held line and the stalled stages move on. -/
  | stage10Accept (n : Fin 104) (dt : Nat)
  /-- SHADOW_COPY_DONE (R222). The copy of the new active bank into the shadow completes and COPY clears. -/
  | shadowCopyDone (n : Fin 104) (dt : Nat)
  /-- PIPE_CMD_ARM (R220). PIPE_CMD.ARM sets PEND for a swap at the next boundary. -/
  | pipeCmdArm (n : Fin 104)
  /-- PIPE_CLRCNT (R228). PIPE_CMD.CLRCNT clears the pipeline counters. -/
  | pipeClrcnt (n : Fin 104)
  /-- PIPE_CTL_WRITE (R224). Setting EN waits for a boundary; clearing EN stops acceptance and delivers the block as PARTIAL. -/
  | pipeCtlWrite (n : Fin 104) (v : Word)
  /-- PIPE_BIND_WRITE (R228). A write of PIPE_BIND while EN is 1 is ignored and sets BADCFG. -/
  | pipeBindWrite (n : Fin 104) (v : Word)
  /-- CACHE_UE (R225). An uncorrectable line cache or table error is reported for inlay or isolation. -/
  | cacheUe (n : Fin 104) (dt : Nat)
  /-- CACHE_CE (R225). A corrected line cache or table error is counted. -/
  | cacheCe (n : Fin 104) (dt : Nat)
  /-- DPATH (R225). A datapath residue check fails in a pipeline or assay stage. -/
  | dpath (n : Fin 104) (assay : Bool) (dt : Nat)
  /-- PIPE_INLAY_DONE (R494). The sprue has loaded both banks from the image and accepts the stripe's next line. -/
  | pipeInlayDone (k : Fin 8) (dt : Nat)
  /-- ASSAY_LINE (R236). An output line enters the assay stage and is assigned a placement and reference row. -/
  | assayLine (n : Fin 104) (dt : Nat)
  /-- TIER_B_DONE (R246). Tier B finishes its SAD search for a queued cell. -/
  | tierBDone (n : Fin 104) (dt : Nat)
  /-- MARK_DONE (R249). A page mark measurement completes and may update the view offset g. -/
  | markDone (n : Fin 104) (k : Fin 4) (dt : Nat)
  /-- FRAGMENT_MERGE (R256). Once a seam fragment is final the crucible merges joined fragments into one record. -/
  | fragmentMerge (c : Fin 96) (dt : Nat)
  /-- RENDER_SET_COPY_DONE (R242). A render set's copy into the shadow banks completes and COPY clears. -/
  | renderSetCopyDone (k : Fin 8) (dt : Nat)
  /-- ASY_RSCMD_PUBLISH (R242). ASY_RSCMD.PUBLISH starts the copy of a render set to its stages. -/
  | asyRscmdPublish (v : Word)
  /-- ASY_CLRCNT (R267). ASY_CMD.CLRCNT clears the stage counters. -/
  | asyClrcnt (n : Fin 104)
  /-- TBL_UE (R266). An uncorrectable table bank error is reported for inlay or isolation. -/
  | tblUe (n : Fin 104) (rs : Bool) (dt : Nat)
  /-- TBL_CE (R266). A corrected table bank or reference band error is counted. -/
  | tblCe (n : Fin 104) (rs : Bool) (dt : Nat)
  /-- NOZ_UPDATE (R276). The accountant processes one update slot of a summary entry for one plane. -/
  | nozUpdate (dt : Nat)
  /-- COMMIT (R273). NOZ_PLCMD.COMMIT requests the swap of a plane to a new map run. -/
  | commit (p : Fin 8)
  /-- MAP_SWAP (R273). Between two summaries the plane swaps to the committed map, or the commit fails. -/
  | mapSwap (p : Fin 8) (dt : Nat)
  /-- TRK_UE (R283). An uncorrectable track row error starts a row inlay or isolates the row. -/
  | trkUe (b : Fin 32) (r : Fin 264) (dt : Nat)
  /-- TRK_CE (R284). A corrected track row error is counted; the fourth starts a preventive inlay. -/
  | trkCe (b : Fin 32) (r : Fin 264) (dt : Nat)
  /-- ROW_COPY_DONE (R284). A preventive row copy completes and the bank's held updates resume. -/
  | rowCopyDone (b : Fin 32) (dt : Nat)
  /-- ROW_INLAY_DONE (R283). The spare row serves the failed row's tracks. -/
  | rowInlayDone (b : Fin 32) (peer : List Byte) (dt : Nat)
  /-- MAP_UE (R286). An uncorrectable map memory error skips the segment for the summary in flight. -/
  | mapUe (g : Fin 4096) (dt : Nat)
  /-- NOZ_CLRCNT (R287). NOZ_CMD.CLRCNT clears the accountant counters. -/
  | nozClrcnt
  /-- TRACK_WINDOW_READ (R287). A read of a track's first word latches its other two words. -/
  | trackWindowRead (t : BitVec 20)
  /-- END_ITEM (R293). A stripe posts its end item once output, statistics and assay work are done. -/
  | endItem (n : Fin 104) (dt : Nat)
  /-- LATE_END_ITEM (R294). A late stripe drops the block and posts an end item marked late. -/
  | lateEndItem (n : Fin 104) (dt : Nat)
  /-- CRUCIBLE_INTAKE (R297). In each period the crucible takes at most one item from each ready pipeline in ascending order. -/
  | crucibleIntake (dt : Nat)
  /-- BLOCK_TAG (R298). When all its parts are complete the crucible writes the block's records and tag to staging. -/
  | blockTag (c : Fin 96) (dt : Nat)
  /-- TWIN_WAIT_EXPIRY (R300). CRU_TWINWAIT passes without a partner digest and the tag leaves with TWIN_UNCHECKED. -/
  | twinWaitExpiry (c : Fin 96) (dt : Nat)
  /-- RING_WRITE (R301). A staged entry is written to its ring when there is room, followed by the write-back. -/
  | ringWrite (f r : Fin 16) (dt : Nat)
  /-- MODTIME (R305). MODTIME passes since the first unsignalled entry and the ring's vector is sent. -/
  | modtime (f r : Fin 16) (dt : Nat)
  /-- DLV_RCIDX_WRITE (R301). The host advances a ring's consumer index, freeing entries and image runs. -/
  | dlvRcidxWrite (f r : Fin 16) (v : Word)
  /-- CRU_CLRCNT (R309). CRU_CMD.CLRCNT clears the camera counters. -/
  | cruClrcnt
  /-- TRANSFER_START (R307). A queued command transfer reaches the head of the tenant's transfer queue and starts. -/
  | transferStart (t : Fin 16) (host : HostRead) (fail : Bool) (dt : Nat)
  /-- TRANSFER_TIMEOUT (R401). A transfer not completed 10 s after reaching the queue head ends with TIMEOUT. -/
  | transferTimeout (t : Fin 16) (dt : Nat)
  /-- MONITOR_WINDOW (R316). A channel monitor window ends and an imbalance raises IMBAL. -/
  | monitorWindow (bytes : List Nat) (page : Fin 768) (dt : Nat)
  /-- RESALT (R317). MEM_CMD.RESALT starts migrating a hash page to a new salt. -/
  | resalt
  /-- RESALTDONE (R317). A page re-salt completes and the new salt takes effect. -/
  | resaltdone (dt : Nat)
  /-- INLAY (R322). MEM_CMD.INLAY starts a copying pseudo-channel inlay with mirroring. -/
  | inlay (fw : Bool)
  /-- INLAYDONE (R322). The copy completes and MEM_PCMAP switches to the sprue. -/
  | inlaydone (dt : Nat)
  /-- PCFAIL (R323). A pseudo-channel fails outright and its logical channel switches at once to a poisoned sprue. -/
  | pcfail (p : Fin 64) (why : PcLoss) (dt : Nat)
  /-- MEM_UE (R318). An uncorrectable memory error poisons its sector. -/
  | memUe (a : BitVec 36) (dt : Nat)
  /-- MEM_CE (R318). A corrected memory error is written back and counted. -/
  | memCe (a : BitVec 36) (dt : Nat)
  /-- SCRUB (R320). The scrubber reads each sector once per MEM_SCRUB.PASS. -/
  | scrub (sector : BitVec 31) (found : Fin 3) (dt : Nat)
  /-- MEM_CLRCNT (R353). MEM_CMD.CLRCNT clears MEM_PCECC and MEM_PARTVIOL. -/
  | memClrcnt
  /-- CHCMD_START (R344). DMA_CHCMD.START resumes a stopped or halted channel. -/
  | chcmdStart (ch : Fin 512)
  /-- CHCMD_STOP (R345). DMA_CHCMD.STOP lets the descriptor in progress complete and starts no other. -/
  | chcmdStop (ch : Fin 512)
  /-- GO (R333). DMA_CHCMD.GO marks the register-set shadow valid. -/
  | go (ch : Fin 512)
  /-- KICK (R335). DMA_CHCMD.KICK makes a channel in WAITOWN read its descriptor again. -/
  | kick (ch : Fin 512)
  /-- CLRERR (R344). DMA_CHCMD.CLRERR clears a channel's halt. -/
  | clrerr (ch : Fin 512)
  /-- CHCMD_CLRCNT (R338). DMA_CHCMD.CLRCNT clears the channel's counts and credits. -/
  | chcmdClrcnt (ch : Fin 512)
  /-- MBX_DMAKICK (R395). A write of MBX_DMAKICK gives an owned, non-crucible channel a KICK. -/
  | mbxDmakick (f : Fin 16) (ch : Fin 512)
  /-- ENGINE_PICK (R331). A free engine picks the highest-priority ready channel and runs its descriptor. -/
  | enginePick (e : Fin 16) (dt : Nat)
  /-- DESCRIPTOR_FETCH (R334). A fetched descriptor is checked and run if OWN is set, or the channel parks in WAITOWN. -/
  | descriptorFetch (ch : Fin 512) (host : List Byte) (dt : Nat)
  /-- DESCRIPTOR_COMPLETE (R341). A descriptor's last write leaves the engine; completion word, event, credits and interrupt follow. -/
  | descriptorComplete (e : Fin 16) (dt : Nat)
  /-- FENCE_READ_RETURN (R342). The zero-length read of a FENCE descriptor returns and the descriptor completes. -/
  | fenceReadReturn (e : Fin 16) (dt : Nat)
  /-- STALL (R339). A paced channel without credit for DMA_CHSTALL µs halts with STALL. -/
  | stall (ch : Fin 512) (dt : Nat)
  /-- BUF_UE (R352). An uncorrectable engine buffer error isolates the engine and halts its channels. -/
  | bufUe (e : Fin 16) (dt : Nat)
  /-- BUF_CE (R352). A corrected engine buffer error is counted. -/
  | bufCe (e : Fin 16) (dt : Nat)
  /-- FAB_UE (R481). An uncorrectable fabric buffer error is a level-L4 fault. -/
  | fabUe (dt : Nat)
  /-- BAR2_ACCESS (R359). A host access to device memory through BAR2 is performed or refused by range. -/
  | bar2Access (f : Fin 16) (off : BitVec 36) (len : Nat) (data : Option (List (Option Byte))) (poison : Bool)
  /-- READ_COMPLETION (R375). A host completion for a device read delivers its data, with poison if marked. -/
  | readCompletion (ch : Fin 512) (data : List Byte) (poison fail : Bool) (dt : Nat)
  /-- UNEXPCPL (R373). A completion matching no outstanding read is discarded. -/
  | unexpcpl (f : Fin 16) (dt : Nat)
  /-- CTO (R373). A device read times out and its descriptor ends with HOSTERR. -/
  | cto (ch : Fin 512) (dt : Nat)
  /-- FLR (R377). Initiate Function Level Reset starts the FLR of a function. -/
  | flr (f : Fin 16) (dt : Nat)
  /-- FLRDONE (R377). At t0 + 10 ms the function's registers hold reset values and it accepts requests. -/
  | flrdone (f : Fin 16) (dt : Nat)
  /-- INVALIDATE_REQUEST (R372). An ATS Invalidate Request stops use of the function's matching entries. -/
  | invalidateRequest (f : Fin 16) (first : BitVec 52) (n : Nat) (tag : Fin 32) (dt : Nat)
  /-- INVALIDATE_COMPLETION (R372). Once requests using the entries are sent the device sends the Invalidate Completion. -/
  | invalidateCompletion (dt : Nat)
  /-- TRANSLATION_COMPLETION (R371). A translation returns; a failed or denied one ends the descriptor with HOSTERR. -/
  | translationCompletion (ch : Fin 512) (page dst : BitVec 52) (ok : Bool) (dt : Nat)
  /-- LINKDOWN (R382). The data link goes down with PCIE_PERST_N high and the device resets through LINKLOSS. -/
  | linkdown (dt : Nat)
  /-- LINKUP (R387). The data link comes up; training below 64.0 GT/s x16 raises LINKDEG. -/
  | linkup (speed : Fin 7) (width : Fin 17) (flit : Bool) (cfg : List (Fin 16 × BitVec 5)) (ctl : BitVec 4) (cto : BitVec 4) (dt : Nat)
  /-- D3HOT_ENTRY (R379). A function enters D3hot and its DMA channels stop at a descriptor boundary. -/
  | d3hotEntry (f : Fin 16) (dt : Nat)
  /-- D0_RETURN (R379). A function returns to D0 keeping its state, and firmware restores capture domains for PF0. -/
  | d0Return (f : Fin 16) (dt : Nat)
  /-- NUMVFS_WRITE (R364). A write of NumVFs stores up to 15 unless VF Enable is set. -/
  | numvfsWrite (n : BitVec 16)
  /-- VF_ENABLE (R365). Setting VF Enable creates the VFs; clearing it removes every VF as if by FLR. -/
  | vfEnable (on : Bool)
  /-- MSIX_UNMASK (R366). A mask clearing sends once each pending vector. -/
  | msixUnmask (f : Fin 16) (enable fmask : Bool)
  /-- ASPM_L1 (R380). After HOSTEP_L1IDLE µs of idle the device requests L1. -/
  | aspmL1 (dt : Nat)
  /-- L0P_NARROW (R381). Traffic below NARROW over HOSTEP_L0PWIN halves the link width. -/
  | l0pNarrow (x : LinkLoad)
  /-- L0P_WIDEN (R381). Traffic above WIDEN over 10 µs doubles the link width. -/
  | l0pWiden (x : LinkLoad)
  /-- MAKERS_MARK_REWRITE (R384). Firmware rewrites the maker's mark with GEN incremented at start and end. -/
  | makersMarkRewrite (dt : Nat)
  /-- MBX_CMDDB (R394). A doorbell write hands a command slot to firmware and write-protects it. -/
  | mbxCmddb (f : Fin 16) (v : Word)
  /-- COMMAND_START (R396). Firmware starts a waiting command once earlier commands on the same object have completed. -/
  | commandStart (dt : Nat)
  /-- RESPONSE_WRITE (R397). Firmware writes a held response into a free response slot and signals it. -/
  | responseWrite (f : Fin 16) (dt : Nat)
  /-- MBX_RSPCIDX_WRITE (R394). The host advances the response consumer index, freeing response slots. -/
  | mbxRspcidxWrite (f : Fin 16) (v : Word)
  /-- SYS_INFO (R409). Returns identity, firmware version, tenant and device time. -/
  | sysInfo (f : Fin 16) (slot : Fin 64)
  /-- TENANT_CREATE (R404). Creates a VF tenant from a partition record. -/
  | tenantCreate (f : Fin 16) (slot : Fin 64)
  /-- TENANT_MODIFY (R404). Replaces a tenant's partition record. -/
  | tenantModify (f : Fin 16) (slot : Fin 64)
  /-- TENANT_DESTROY (R404). Resets a tenant, returns its objects to tenant 0 and removes its entry. -/
  | tenantDestroy (f : Fin 16) (slot : Fin 64)
  /-- TENANT_QUERY (R403). Returns a tenant's partition record. -/
  | tenantQuery (f : Fin 16) (slot : Fin 64)
  /-- TENANT_RESET (R406). Carries out the level-L3 reset of a tenant. -/
  | tenantReset (f : Fin 16) (slot : Fin 64)
  /-- NOTIFY_SET (R408). Replaces the tenant's FAULT notice class mask. -/
  | notifySet (f : Fin 16) (slot : Fin 64)
  /-- CAM_BIND (R133). Binds a camera's lanes, rates and axis from its cabling plan. -/
  | camBind (f : Fin 16) (slot : Fin 64)
  /-- CAM_UNBIND (R409). Unbinds a camera with no pipelines bound. -/
  | camUnbind (f : Fin 16) (slot : Fin 64)
  /-- CAM_STATUS (R409). Returns a camera's link status, lane states and capability record. -/
  | camStatus (f : Fin 16) (slot : Fin 64)
  /-- CAM_FORMAT_WRITE (R175). Writes a host format table after checking it. -/
  | camFormatWrite (f : Fin 16) (slot : Fin 64)
  /-- CAM_FORMAT_SELECT (R176). Selects the format source and table, applied at the next boundary. -/
  | camFormatSelect (f : Fin 16) (slot : Fin 64)
  /-- CAM_REG_READ (R172). Reads camera registers through REGRD. -/
  | camRegRead (f : Fin 16) (slot : Fin 64)
  /-- CAM_REG_WRITE (R172). Writes camera registers through REGWR. -/
  | camRegWrite (f : Fin 16) (slot : Fin 64)
  /-- CAM_RESTART (R144). Restarts every lane of a camera's bond. -/
  | camRestart (f : Fin 16) (slot : Fin 64)
  /-- LANE_TEST (R147). Runs a lane loop or pattern test for a duration and reports errors. -/
  | laneTest (f : Fin 16) (slot : Fin 64)
  /-- PIPE_BIND (R185). Binds a camera's stripes to pipelines after checking capacity and cache need. -/
  | pipeBind (f : Fin 16) (slot : Fin 64)
  /-- PIPE_UNBIND (R409). Unbinds a camera's pipelines. -/
  | pipeUnbind (f : Fin 16) (slot : Fin 64)
  /-- PIPE_CONTEXT_WRITE (R399). Writes register pairs into a stripe's shadow context. -/
  | pipeContextWrite (f : Fin 16) (slot : Fin 64)
  /-- PIPE_TABLE_WRITE (R188). Writes camera-wide table entries into each stripe's slice. -/
  | pipeTableWrite (f : Fin 16) (slot : Fin 64)
  /-- PIPE_ARM (R220). Arms the camera's pipelines, and optionally its generator, for a swap. -/
  | pipeArm (f : Fin 16) (slot : Fin 64)
  /-- PIPE_ENABLE (R224). Sets or clears EN on the camera's pipelines. -/
  | pipeEnable (f : Fin 16) (slot : Fin 64)
  /-- PIPE_STATUS (R409). Returns per-stripe pipeline status and counters. -/
  | pipeStatus (f : Fin 16) (slot : Fin 64)
  /-- AXIS_SET (R399). Writes register pairs of an owned axis. -/
  | axisSet (f : Fin 16) (slot : Fin 64)
  /-- AXIS_CMD (R24). Writes a POS_AXCMD value for an owned axis. -/
  | axisCmd (f : Fin 16) (slot : Fin 64)
  /-- AXIS_READ (R409). Returns an axis's position, velocity, status and index data. -/
  | axisRead (f : Fin 16) (slot : Fin 64)
  /-- POS_SNAPSHOT (R72). Takes a position snapshot and returns the positions of readable axes. -/
  | posSnapshot (f : Fin 16) (slot : Fin 64)
  /-- TS_SET (R84). Writes register pairs of a pitch generator. -/
  | tsSet (f : Fin 16) (slot : Fin 64)
  /-- TS_CMD (R83). Writes a TRG_TSCMD value and returns the generator counters. -/
  | tsCmd (f : Fin 16) (slot : Fin 64)
  /-- CL_SET (R88). Sets a disabled compare list's control and allocates its ring. -/
  | clSet (f : Fin 16) (slot : Fin 64)
  /-- CL_APPEND (R88). Appends up to 14 entries to a compare list if they all fit. -/
  | clAppend (f : Fin 16) (slot : Fin 64)
  /-- CL_STATUS (R409). Returns a compare list's pointers and counters. -/
  | clStatus (f : Fin 16) (slot : Fin 64)
  /-- PIN_SET (R399). Writes register pairs of an output pin, pair or input pin. -/
  | pinSet (f : Fin 16) (slot : Fin 64)
  /-- ROUTE_PUB (R109). Sets a producer's channel and enable, checking tenancy and cycles. -/
  | routePub (f : Fin 16) (slot : Fin 64)
  /-- ROUTE_SUB (R109). Sets a consumer's channel, enable and gate, checking tenancy and cycles. -/
  | routeSub (f : Fin 16) (slot : Fin 64)
  /-- ROUTE_SHARE (R109). Sets the subscription mask of an owned channel. -/
  | routeShare (f : Fin 16) (slot : Fin 64)
  /-- REF_PAGE_LOAD (R234). Describes a raster and makes its descriptor slot READY. -/
  | refPageLoad (f : Fin 16) (slot : Fin 64)
  /-- REF_PAGE_FREE (R234). Returns a page's slot to FREE unless a placement names it. -/
  | refPageFree (f : Fin 16) (slot : Fin 64)
  /-- REF_PLACE (R236). Appends a placement to a view's queue. -/
  | refPlace (f : Fin 16) (slot : Fin 64)
  /-- REF_VIEW_SET (R235). Creates or changes a view. -/
  | refViewSet (f : Fin 16) (slot : Fin 64)
  /-- RENDER_SET_WRITE (R242). Writes part of a render set. -/
  | renderSetWrite (f : Fin 16) (slot : Fin 64)
  /-- RENDER_SET_PUBLISH (R242). Publishes a render set and copies it to its stages. -/
  | renderSetPublish (f : Fin 16) (slot : Fin 64)
  /-- ASSAY_CONFIG (R230). Writes register pairs of a stripe's assay shadow context. -/
  | assayConfig (f : Fin 16) (slot : Fin 64)
  /-- REF_PAGE_STATUS (R234). Returns a page's state and the placements that name it. -/
  | refPageStatus (f : Fin 16) (slot : Fin 64)
  /-- NOZ_PLANE_SET (R270). Sets a plane's range, weights, thresholds and enables. -/
  | nozPlaneSet (f : Fin 16) (slot : Fin 64)
  /-- NOZ_MAP_WRITE (R273). Writes map segments into a free run. -/
  | nozMapWrite (f : Fin 16) (slot : Fin 64)
  /-- NOZ_MAP_COMMIT (R273). Checks a new run and makes it a plane's active map. -/
  | nozMapCommit (f : Fin 16) (slot : Fin 64)
  /-- NOZ_TRACK_READ (R281). Reads a range of tracks, each whole. -/
  | nozTrackRead (f : Fin 16) (slot : Fin 64)
  /-- NOZ_TRACK_RESET (R269). Returns a range of tracks to the initial state, keeping MASK. -/
  | nozTrackReset (f : Fin 16) (slot : Fin 64)
  /-- NOZ_TRACK_MASK (R269). Sets or clears MASK over a range of tracks. -/
  | nozTrackMask (f : Fin 16) (slot : Fin 64)
  /-- NOZ_TRACK_LOAD (R281). Writes tracks from host memory as a queued transfer. -/
  | nozTrackLoad (f : Fin 16) (slot : Fin 64)
  /-- NOZ_SNAPSHOT (R281). Copies a plane's tracks to host memory as a queued transfer. -/
  | nozSnapshot (f : Fin 16) (slot : Fin 64)
  /-- NOZ_STATUS (R409). Returns per-plane state counts and queue status. -/
  | nozStatus (f : Fin 16) (slot : Fin 64)
  /-- DLV_RING_SET (R301). Sets up and enables a delivery ring with a DMA channel. -/
  | dlvRingSet (f : Fin 16) (slot : Fin 64)
  /-- DLV_RING_CLEAR (R301). Disables a ring, discarding staged entries. -/
  | dlvRingClear (f : Fin 16) (slot : Fin 64)
  /-- CAM_DELIVERY_SET (R289). Sets a camera's slack, image delivery and capture-ring slots. -/
  | camDeliverySet (f : Fin 16) (slot : Fin 64)
  /-- DLV_BLOCK_FETCH (R299). Copies a kept block to an image ring as a queued transfer. -/
  | dlvBlockFetch (f : Fin 16) (slot : Fin 64)
  /-- DLV_SHARE_SET (R306). Sets a tenant's link weight, minimum bandwidth and queue depth. -/
  | dlvShareSet (f : Fin 16) (slot : Fin 64)
  /-- DLV_STATUS (R409). Returns a ring's indices and the tenant's transfer counters. -/
  | dlvStatus (f : Fin 16) (slot : Fin 64)
  /-- DMA_CHAN_SET (R338). Sets a channel's mode, priority, pacing, stall timeout, vector and head. -/
  | dmaChanSet (f : Fin 16) (slot : Fin 64)
  /-- DMA_CHAN_LOAD (R333). Writes a channel's shadow register set and gives GO. -/
  | dmaChanLoad (f : Fin 16) (slot : Fin 64)
  /-- DMA_CHAN_CTL (R345). Gives a channel START, STOP, CLRERR or CLRCNT. -/
  | dmaChanCtl (f : Fin 16) (slot : Fin 64)
  /-- DMA_CHAN_STATUS (R409). Returns a channel's state, counts and current descriptor. -/
  | dmaChanStatus (f : Fin 16) (slot : Fin 64)
  /-- MEM_STATUS (R409). Returns the tenant's memory range, violations and in-service figures. -/
  | memStatus (f : Fin 16) (slot : Fin 64)
  /-- TWIN_STATUS (R409). Returns twin state, role, epoch and link status. -/
  | twinStatus (f : Fin 16) (slot : Fin 64)
  /-- TWIN_PAIR (R432). Arms the device for pairing in the requested role. -/
  | twinPair (f : Fin 16) (slot : Fin 64)
  /-- TWIN_FENCE (R442). Fences this device, or asks the partner to fence itself. -/
  | twinFence (f : Fin 16) (slot : Fin 64)
  /-- TWIN_UNFENCE (R443). Makes a fenced device rejoin as FOLLOW. -/
  | twinUnfence (f : Fin 16) (slot : Fin 64)
  /-- TWIN_HANDOVER (R441). Hands the lead to the FOLLOW at a named instant. -/
  | twinHandover (f : Fin 16) (slot : Fin 64)
  /-- TWIN_UNPAIR (R443). Dissolves the pair. -/
  | twinUnpair (f : Fin 16) (slot : Fin 64)
  /-- FAULT_READ (R497). Returns and removes the oldest queued fault records of the tenant. -/
  | faultRead (f : Fin 16) (slot : Fin 64)
  /-- FAULT_ACK (R486). Acknowledges a fault class. -/
  | faultAck (f : Fin 16) (slot : Fin 64)
  /-- FAULT_FORCE (R493). Drives a source's force input once. -/
  | faultForce (f : Fin 16) (slot : Fin 64)
  /-- FAULT_CONFIG (R488). Writes a class's quiet period. -/
  | faultConfig (f : Fin 16) (slot : Fin 64)
  /-- FAULT_COUNTERS (R409). Returns the recovery counter of every class. -/
  | faultCounters (f : Fin 16) (slot : Fin 64)
  /-- CLK_STATUS (R409). Returns the timebase source, temper points and reference status. -/
  | clkStatus (f : Fin 16) (slot : Fin 64)
  /-- TEMPER_SET (R466). Sets a group's temper target, or AUTO. -/
  | temperSet (f : Fin 16) (slot : Fin 64)
  /-- PWR_DOMAIN (R472). Powers a domain on or off, with FORCE powering off dependants. -/
  | pwrDomain (f : Fin 16) (slot : Fin 64)
  /-- CLK_SOURCE (R451). Sets the preferred timebase source. -/
  | clkSource (f : Fin 16) (slot : Fin 64)
  /-- PWR_STATUS (R409). Returns domains on, hottest junction and device power. -/
  | pwrStatus (f : Fin 16) (slot : Fin 64)
  /-- FW_INFO (R409). Returns the FIRMWARE section. -/
  | fwInfo (f : Fin 16) (slot : Fin 64)
  /-- FW_STAGE (R415). Copies an image into the bench region. -/
  | fwStage (f : Fin 16) (slot : Fin 64)
  /-- FW_VERIFY (R416). Authenticates the staged image. -/
  | fwVerify (f : Fin 16) (slot : Fin 64)
  /-- FW_COMMIT (R415). Writes the verified image into the inactive flash slot and checks it. -/
  | fwCommit (f : Fin 16) (slot : Fin 64)
  /-- FW_ACTIVATE (R415). Restarts the bench with the staged image and switches the boot record. -/
  | fwActivate (f : Fin 16) (slot : Fin 64)
  /-- ACTIVATE_TIMEOUT (R415). A new image not in service within 200 ms falls back to the previous image. -/
  | activateTimeout (dt : Nat)
  /-- WATCHDOG_MISS (R389). A core misses its watchdog for 1 ms and BCORE halts it for inlay. -/
  | watchdogMiss (c : Fin 5) (dt : Nat)
  /-- CORE_INLAY_DONE (R389). BC4 has rebuilt the failed core's state and serves its duties. -/
  | coreInlayDone (dt : Nat)
  /-- BMEM_CE (R481). A corrected core local memory error is noted. -/
  | bmemCe (c : Fin 5) (dt : Nat)
  /-- BSHM_UE (R391). An uncorrectable bench shared memory error starts a bench restart. -/
  | bshmUe (dt : Nat)
  /-- BENCH_RESTART (R391). BENCH_CMD.RESTART resets all cores and reloads firmware from the bench region. -/
  | benchRestart
  /-- RESTARTED (R392). The restarted bench answers pending commands and resumes held doorbells. -/
  | restarted (dt : Nat)
  /-- BENCH_DWCLAIM_WRITE (R411). Setting a REQ bit claims a unit; clearing it closes the lock and releases the claim. -/
  | benchDwclaimWrite (v : Word)
  /-- GRANT (R411). Firmware completes its commands on a claimed unit and sets GRANT. -/
  | grant (u : Fin 14) (dt : Nat)
  /-- WITNESS_TOGGLE (R420). TWIN_ALIVE_O toggles every 250 ns while enabled and not fenced. -/
  | witnessToggle (dt : Nat)
  /-- WITNESS_EDGE (R420). An edge arrives on TWIN_ALIVE_I and the witness is present. -/
  | witnessEdge (dt : Nat)
  /-- WITNESS_ABSENT (R439). No witness edge for 8 µs; the twin acts under Table 14.6. -/
  | witnessAbsent (dt : Nat)
  /-- THEART_SEND (R424). Every 1 µs each enabled device sends THEART on every ACTIVE twin lane. -/
  | theartSend (dt : Nat)
  /-- THEART (R424). A valid partner heartbeat is taken, with position, role, epoch and fence checks. -/
  | theart (lane : Fin 8) (rx : LaneRx) (dt : Nat)
  /-- HEARTBEAT_ABSENT (R439). No valid heartbeat for 8 µs; the twin enters PARTITIONED, SOLO or takes over. -/
  | heartbeatAbsent (dt : Nat)
  /-- TWIN_TIME_ROUND (R427). Every 100 µs the LEAD runs a time round on the twin link and the FOLLOW slews its time. -/
  | twinTimeRound (t1 t2 t3 t4 : BitVec 64) (dt : Nat)
  /-- PAIRQ (R432). The PAIRQ exchange checks version, roles, configuration digest, fence and epoch. -/
  | pairq (serial : BitVec 64) (version : Word) (peerDig ownDig : BitVec 64) (epoch : BitVec 16) (follow fenced : Bool) (dt : Nat)
  /-- PAIRING_TS (R432). At Ts the FOLLOW adopts the LEAD's positions, generators, lists, views and pages. -/
  | pairingTs (m : TwinSnap) (dt : Nat)
  /-- CTRL (R423). A CTRL packet carries pages, placements, g, fence, handover or unpair. -/
  | ctrl (m : CtrlMsg) (dt : Nat)
  /-- DIGEST (R436). A partner block digest is compared with the own digest. -/
  | digest (c : Fin 96) (seq : Word) (dig : BitVec 64) (dt : Nat)
  /-- NOZDELTA (R437). A partner nozzle delta is matched against own track state changes. -/
  | nozdelta (t : BitVec 20) (state : Fin 8) (count : BitVec 24) (dt : Nat)
  /-- NOZDIFF (R437). A nozzle delta unmatched within 1 s raises NOZDIFF. -/
  | nozdiff (dt : Nat)
  /-- BULK (R437). A BULK packet delivers track copies or a row fetch. -/
  | bulk (m : BulkMsg) (dt : Nat)
  /-- CFGDIFF (R434). Ten differing configuration digests, or an item held by one twin for 1 s, raise CFGDIFF. -/
  | cfgdiff (dt : Nat)
  /-- REJOIN (R433). A heartbeat present for 100 µs in PARTITIONED starts the rejoin steps. -/
  | rejoin (dt : Nat)
  /-- HANDOVER_INSTANT (R441). At Th the FOLLOW leads and the former LEAD releases its pins. -/
  | handoverInstant (dt : Nat)
  /-- HANDOVER_END (R441). At Th + 2 µs the former LEAD sends ROLE 1 and becomes FOLLOW. -/
  | handoverEnd (dt : Nat)
  /-- HANDOVER_TIMEOUT (R441). A handover not confirmed within 1 ms ends with TIMEOUT. -/
  | handoverTimeout (dt : Nat)
  /-- FENCE_PEER_TIMEOUT (R442). No fenced heartbeat within 1 ms ends TWIN_FENCE of the partner with TIMEOUT. -/
  | fencePeerTimeout (dt : Nat)
  /-- TWIN_CMD_PAIR (R432). TWIN_CMD.PAIR arms pairing in TWIN_CTL.PAIRROLE. -/
  | twinCmdPair
  /-- TWIN_CMD_FENCE (R442). TWIN_CMD.FENCE fences this device. -/
  | twinCmdFence
  /-- TWIN_CMD_FENCEPEER (R442). TWIN_CMD.FENCEPEER asks the partner to fence itself. -/
  | twinCmdFencepeer
  /-- TWIN_CMD_UNFENCE (R443). TWIN_CMD.UNFENCE makes a fenced device rejoin. -/
  | twinCmdUnfence
  /-- TWIN_CMD_HANDOVER (R441). TWIN_CMD.HANDOVER starts a commanded handover. -/
  | twinCmdHandover
  /-- TWIN_CMD_UNPAIR (R443). TWIN_CMD.UNPAIR dissolves the pair. -/
  | twinCmdUnpair
  /-- TWIN_CLRCNT (R447). TWIN_CMD.CLRCNT clears the twin counters. -/
  | twinClrcnt
  /-- REFERENCE_LOSS (R450). A clock monitor declares REF_IN, the twin-recovered clock or PCIE_REFCLK lost. -/
  | referenceLoss (r : Fin 3) (dt : Nat)
  /-- REFERENCE_GOOD (R450). An input shows no loss for a full 4 µs window and becomes good. -/
  | referenceGood (r : Fin 3) (dt : Nat)
  /-- TBPLL_RELOCK (R452). TBPLL locks to the new source and the timebase switch completes. -/
  | tbpllRelock (dt : Nat)
  /-- HOLDOFF_END (R454). PREF good for 8 ms with AUTOREV set returns the timebase to PREF. -/
  | holdoffEnd (dt : Nat)
  /-- TBSWITCH (R454). CLK_CMD.TBSWITCH switches the timebase to PREF if good. -/
  | tbswitch
  /-- CLK_MUX_WRITE (R456). A write of CLK_MUX starts a glitch-free switch of a domain clock. -/
  | clkMuxWrite (d : Fin 15) (v : Word)
  /-- MUX_SWITCH_DONE (R456). A multiplexer switch selects the new clock at its low phase. -/
  | muxSwitchDone (d : Fin 15) (dt : Nat)
  /-- MUXHANG (R458). A switch BUSY for 50 µs completes on the forced path and raises MUXHANG. -/
  | muxhang (d : Fin 15) (dt : Nat)
  /-- PLLUNLOCK (R459). A PLL loses lock and its domain clocks move to bypass. -/
  | pllunlock (n : Fin 14) (dt : Nat)
  /-- PLLCFG_WRITE (R463). A write of CLK_PLLCFG.FREQ starts the PLL slewing to the new frequency. -/
  | pllcfgWrite (n : Fin 14) (v : Word)
  /-- SLEW_DONE (R463). A slewing PLL reaches its new frequency. -/
  | slewDone (n : Fin 14) (dt : Nat)
  /-- CLK_GATE_WRITE (R461). A clock enable change stops or restarts an instance's clock at its low phase. -/
  | clkGateWrite (w : Fin 8) (v : Word)
  /-- TPCFG_WRITE (R465). A write of CLK_TPCFG.TARGET starts the sequencer moving the group one point at a time. -/
  | tpcfgWrite (k : Fin 8) (v : Word)
  /-- TEMPER_STEP_DONE (R465). A voltage ramp or frequency slew of one temper step completes and the next begins. -/
  | temperStepDone (k : Fin 8) (dt : Nat)
  /-- TEMPERTMO (R465). A temper move that misses 50 µs holds the group and raises TEMPERTMO. -/
  | tempertmo (k : Fin 8) (dt : Nat)
  /-- IVRFAULT (R467). A regulator output outside ±5 % for 1 µs isolates the group. -/
  | ivrfault (k : Fin 8) (dt : Nat)
  /-- PWR_CTL_WRITE (R470). A write of PWR_CTL.ON requests a domain on or off, refused if prerequisites break. -/
  | pwrCtlWrite (d : Fin 24) (v : Word)
  /-- POWER_ON_DONE (R470). A domain completes its power-on steps and reads ON. -/
  | powerOnDone (d : DomainUp) (dt : Nat)
  /-- PWRTMO (R470). A domain not on within its time is left off. -/
  | pwrtmo (d : Fin 24) (dt : Nat)
  /-- DRAINTMO (R471). Writes still held 4 µs into a power-off drain are discarded. -/
  | draintmo (d : Fin 24) (n : Nat) (dt : Nat)
  /-- POWER_OFF_DONE (R471). A domain is isolated, reset and switched off. -/
  | powerOffDone (d : Fin 24) (dt : Nat)
  /-- TEMP_SAMPLE (R473). Every 100 µs the hottest junction reading is refreshed and thresholds applied. -/
  | tempSample (temp : BitVec 16) (sensor : Fin 32) (power : BitVec 16) (dt : Nat)
  /-- THERMHOT_STEP (R473). Every 1 ms under THERMHOT each group above TP0 is lowered one point. -/
  | thermhotStep (dt : Nat)
  /-- FAULT_REPORT (R478). A fault report reaches the touchstone, which writes or joins a record and starts its reaction. -/
  | faultReport (dt : Nat)
  /-- COALESCE_WINDOW_CLOSE (R479). A record's 2 µs window closes and later reports open new records. -/
  | coalesceWindowClose (dt : Nat)
  /-- CAUSE_END (R488). The cause line of a state-type fault goes absent. -/
  | causeEnd (dt : Nat)
  /-- CLASS_RECOVERY (R488). A class's quiet period passes and its state clears and its reactions release. -/
  | classRecovery (c : Fin 15) (dt : Nat)
  /-- SECONDARY_EXPIRY (R490). 100 µs after an explaining cause ends, sources still faulty report again. -/
  | secondaryExpiry (dt : Nat)
  /-- TOUCH_ACK (R486). A write to TOUCH_ACK acknowledges a class. -/
  | touchAck (v : Word)
  /-- TOUCH_FORCE_GO (R493). TOUCH_FORCECMD.GO drives the named source's force input once. -/
  | touchForceGo
  /-- RECORD_READ (R497). Bench firmware reads the next record, sends FAULT notices and queues it for FAULT_READ. -/
  | recordRead (dt : Nat)
  /-- TENANT_RESET_DONE (R483). Bench firmware completes the tenant reset's remaining work and notifies. -/
  | tenantResetDone (t : Fin 16) (dt : Nat)
  /-- POR (R502). The rails reach their good levels and everything resets, PD_AON included. -/
  | por
  /-- PERST_ASSERT (R502). PCIE_PERST_N goes low and holds the device in reset. -/
  | perstAssert
  /-- PERST_RELEASE (R505). PCIE_PERST_N is released and start-up begins. -/
  | perstRelease
  /-- GLB_RESET (R502). A write of the key to GLB_RESET resets the device. -/
  | glbReset (v : Word)
  /-- INTERNAL_RESET_END (R503). The 10 µs hold of an internal reset ends and start-up runs. -/
  | internalResetEnd (dt : Nat)
  /-- STARTUP_STAGE (R505). A start-up stage completes and the next begins. -/
  | startupStage (bad : List (Fin 5 × Nat)) (dt : Nat)
  /-- LOADMEM (R509). GLB_BOOTCMD.LOADMEM authenticates and runs a recovery image from BAR2. -/
  | loadmem
  /-- QUENCH_N (R514). QUENCH_N low for 40 ns with QPINEN requests a quench. -/
  | quenchN (dt : Nat)
  /-- GLB_QUENCH (R514). A write of the key to GLB_QUENCH requests a quench. -/
  | glbQuench (v : Word)
  /-- TAP_INSTRUCTION (R516). An instruction is loaded into the test port; QUENCH requests a quench. -/
  | tapInstruction (ir : BitVec 8) (dr : BitVec 40)
  /-- READDATA (R517). A Capture-DR of READDATA reads the word at READADDR and increments the address. -/
  | readdata
  /-- MAIN_POWER_LOSS (R524). A main rail falls below threshold while always-on rails hold, resetting all but PD_AON. -/
  | mainPowerLoss
  /-- MAIN_POWER_RETURN (R524). Main power returns and the device resets with CAUSE 6. -/
  | mainPowerReturn
  /-- REGISTER_READ (R5). A host read of a register latches the high half when it reads a low register, and a read of unsupported size or to a gated unit completes with Completer Abort or Unsupported Request and is counted. -/
  | registerRead (p : RegPath) (f : Fin 16) (off : BitVec 28) (r : BusRead)
  /-- LOCAL_MEMORY_UE (R389). A bench core reports an uncorrectable error in its local memory, which raises BCORE and halts the core for inlay. -/
  | localMemoryUe (c : Fin 5) (dt : Nat)
  /-- HBUF_UE (R374). An uncorrectable ECC error in the host endpoint buffers is logged through AER and reacts at L4. -/
  | hbufUe (f : Fin 16) (dt : Nat)
  /-- HBUF_CE (R374). A corrected ECC error in the host endpoint buffers is logged as a Corrected Internal Error and noted. -/
  | hbufCe (f : Fin 16) (dt : Nat)
  /-- LINKCE (R374). A link-layer error (Receiver, Bad TLP, Bad DLLP, replay) is logged as correctable and noted. -/
  | linkce (dt : Nat)
  /-- LINKPROT (R374). A protocol violation by the link partner (Malformed TLP, overflow, flow-control or data-link protocol error) is logged as fatal and noted. -/
  | linkprot (dt : Nat)
  /-- PRBSERR (R148). With CHK set, the receiver synchronises to the test pattern and counts bit errors, the first error setting LANE_IRQ.PRBSERR. -/
  | prbserr (n : Fin 104) (bits : List Bool) (dt : Nat)
  /-- TRST_N (R502). TRST_N asserted resets only the test port. -/
  | trstN
  /-- ALWAYS_ON_RAIL_LOSS (R524). An always-on rail falls below its reset threshold and holds the device in POR, losing the touchstone store. -/
  | alwaysOnRailLoss
  /-- TEST_DURATION_END (R409). The duration given to LANE_TEST (0x0209) expires and firmware reads LANE_PRBSERR and the lane state and answers. -/
  | testDurationEnd (n : Fin 104) (dt : Nat)
  /-- FABRIC_WRITE_ACK (R342). The fabric acknowledges every write of a FENCE descriptor with a device-memory destination, and the descriptor completes. -/
  | fabricWriteAck (e : Fin 16) (dt : Nat)
  /-- STOP_WAIT_END (R348). The 10 ms wait of a forced power-down ends and channels still in a descriptor are cut with POWERDOWN or SOURCE_WITHDRAWN. -/
  | stopWaitEnd (d : Fin 24) (dt : Nat)
  deriving DecidableEq, Repr

end Sys2Proof
end

