-- ==== Sys2Proof/Decode.lean ====
section
/-!
DEFINITION. The command that a word of the opcode table spells. The table of this block gives no row any bits (its
`fields` are empty): commands are events at the block's boundary, not words, so no word spells one (log entry 1).
-/
namespace Sys2Proof

/-- No word spells a command: no row of the opcode table gives bits. -/
def decodeTableWord (_nbits _w : Nat) : Option Instr := none

end Sys2Proof
end

