-- ==== Sys2Proof/Config.lean ====
section
/-!
DEFINITION. What an implementation fixes, and the values that the spec leaves open. A constant without a body is a
free value: nothing in Lean can evaluate it, so a theorem that mentions it holds for every value (log entry 2).
-/
namespace Sys2Proof.Config

/-- GLB_ID fields that are "Per part" (Table 17.10): REVDIG, REVLET and TEMP; PART is 0x9624. -/
opaque partRev : BitVec 8
/-- GLB_ID.TEMP: true for BQ-9624-I (Tables 0.2, 17.10). -/
opaque partTemp : Bool
/-- The serial number of this device (64 bits), per part. -/
opaque serial : BitVec 64
/-- The board block of the serial flash, as the board delivers it (Table 17.3). -/
opaque boardBlock : List (BitVec 8)
/-- What an image slot of the serial flash holds as the board delivers it: false slot A, true slot B (R413). -/
opaque flashImage : Bool → List (BitVec 8)
/-- The active slot of the boot record as the board delivers it: true for B (Table 17.3). -/
opaque flashSlot : Bool
/-- Revision index and manufacturer code of the test port's IDCODE (R516), per part. -/
opaque revIndex : BitVec 4
opaque jtagMaker : BitVec 11
/-- BENCH_SVNMIN, from on-package storage (R416). -/
opaque svnMin : BitVec 32
/-- BENCH_KEYS, from on-package storage (R416): [3:0] programmed, [7:4] revoked. -/
opaque keySlots : BitVec 8
/-- MEM_SALT(z) after device reset number g: random (R314). -/
opaque salt : Nat → Nat → BitVec 12
/-- A value the spec leaves open, one for each index that the machine draws (log entry 2). -/
opaque freeValue : Nat → BitVec 64
/-- Part number `part` of the open value drawn at index `i`, where one result holds several (log entry 2). -/
opaque freePart (i part : Nat) : BitVec 64
/-- What a register whose reading the spec leaves open shows: its offset and the device time of the read (log entry 2). -/
opaque freeRead (a t : Nat) : BitVec 64
/-- The position of the angle of (s, c) inside its quadrant, 14 bits: the rounding of atan2_16 is not stated (R47). -/
opaque atanFrac : Int → Int → BitVec 14
/-- The PCI Express vendor identifier that the maker's mark repeats (R356). -/
opaque vendorId : BitVec 16
/-- The SHA-384 digest of a key slot's public key, from one-time-programmable storage (R414). -/
opaque keyDigest : Nat → List (BitVec 8)
/-- SHA-384 of a byte string (R416). -/
opaque sha384 : List (BitVec 8) → List (BitVec 8)
/-- An ECDSA P-384 signature over a message verifies under a public key (R416, FIPS 186-5): key, message, signature. -/
opaque sigOk : List (BitVec 8) → List (BitVec 8) → List (BitVec 8) → Bool
/-- The bench-state format of a firmware version (R413, R416). -/
opaque stateFormat : Nat → BitVec 16
/-- Where bench firmware puts the page descriptor table and the summary queue in the bench region, in units of 64 bytes
(R244, R274). -/
opaque pageTable : BitVec 22
opaque sumQueue : BitVec 22

end Sys2Proof.Config
end

