-- ==== Sys2Proof/Machine/Bits.lean ====
section
/-!
DEFINITION. Bit fields, sign extension, saturation, byte order and the check codes of the spec, as plain functions
on numbers and bit vectors. Everything later is written with these.
-/
namespace Sys2Proof.Machine

/-- Bits [lo + n - 1 : lo] of a word. -/
def fldOf (w : Word) (lo n : Nat) : Nat := (w.toNat / 2 ^ lo) % 2 ^ n

/-- Bit i of a word. -/
def bitOf (w : Word) (i : Nat) : Bool := w.getLsbD i

/-- The word w with bits [lo + n - 1 : lo] replaced by v (v taken modulo 2^n). -/
def putFld (w : Word) (lo n v : Nat) : Word :=
  (w &&& ~~~ (BitVec.ofNat 32 ((2 ^ n - 1) * 2 ^ lo))) ||| BitVec.ofNat 32 ((v % 2 ^ n) * 2 ^ lo)

/-- A word from a number. -/
def w32 (n : Nat) : Word := BitVec.ofNat 32 n

/-- 1 for true, 0 for false. -/
def b2n (b : Bool) : Nat := if b then 1 else 0

/-- Saturating sum in n bits. -/
def satAdd (n a b : Nat) : Nat := min (a + b) (2 ^ n - 1)

/-- Two's-complement value of the low n bits of a number. -/
def sgn (n v : Nat) : Int :=
  if v % 2 ^ n < 2 ^ (n - 1) then (v % 2 ^ n : Nat) else (v % 2 ^ n : Nat) - (2 ^ n : Nat)

/-- The low n bits of an integer, as a number. -/
def low (n : Nat) (v : Int) : Nat := (v % (2 ^ n : Nat)).toNat

/-- An integer clamped to [lo, hi]. -/
def clampI (lo hi v : Int) : Int := if v < lo then lo else if hi < v then hi else v

/-- A number clamped to [lo, hi] (R74). -/
def clampN (lo hi v : Nat) : Nat := if v < lo then lo else if hi < v then hi else v

/-- An integer saturated to n bits of two's complement. -/
def satI (n : Nat) (v : Int) : Int := clampI (-(2 ^ (n - 1) : Nat)) ((2 ^ (n - 1) : Nat) - 1) v

/-- Division of an integer by 2^k, rounding half up (R192). -/
def roundShift (v : Int) (k : Nat) : Int :=
  if k = 0 then v else (v + (2 ^ (k - 1) : Nat)) / (2 ^ k : Nat)

/-- Division with rounding half up (R192); 0 for a divisor of 0. -/
def roundDiv (v d : Int) : Int := if d = 0 then 0 else (2 * v + d) / (2 * d)

/-- The signed difference of two positions (R59). -/
def posDiff (a b : Posn) : Int := (a - b).toInt

/-- a lies behind b (R59). -/
def posLt (a b : Posn) : Bool := decide (posDiff a b < 0)

/-- A position moved by a signed number of PT. -/
def posAdd (a : Posn) (d : Int) : Posn := a + BitVec.ofInt 48 d

/-- The position whose value is n modulo 2^48. -/
def posn (n : Nat) : Posn := BitVec.ofNat 48 n

/-- The largest k with k * k at most n, by bits from 2^(f-1) down. -/
def isqrtAux : Nat → Nat → Nat → Nat
  | 0, _, r => r
  | f + 1, n, r => isqrtAux f n (if (r + 2 ^ f) * (r + 2 ^ f) ≤ n then r + 2 ^ f else r)

/-- Integer square root of a number below 2^128. -/
def isqrt (n : Nat) : Nat := isqrtAux 64 n 0

/-- The n bytes of a number, least significant first. -/
def leBytes : Nat → Nat → List Byte
  | 0, _ => []
  | n + 1, v => BitVec.ofNat 8 v :: leBytes n (v / 256)

/-- The number that bytes spell, least significant first. -/
def leNat : List Byte → Nat
  | [] => 0
  | b :: r => b.toNat + 256 * leNat r

/-- n bytes of a list from offset o, read as a number, least significant first. -/
def leAt (bs : List Byte) (o n : Nat) : Nat := leNat ((bs.drop o).take n)

/-- The bits of a number, most significant of n first. -/
def bitsMsb : Nat → Nat → List Bool
  | 0, _ => []
  | n + 1, v => decide (v / 2 ^ n % 2 = 1) :: bitsMsb n v

/-- The number that bits spell, most significant first. -/
def natOfBits (bs : List Bool) : Nat := bs.foldl (fun a b => 2 * a + b2n b) 0

/-- One step of a CRC of n bits, most significant bit first, not reflected. -/
def crcBit (n poly : Nat) (c : Nat) (b : Bool) : Nat :=
  let c2 := (2 * c) % 2 ^ n
  if (decide (c / 2 ^ (n - 1) % 2 = 1)) != b then Nat.xor c2 (poly % 2 ^ n) else c2

/-- CRC of n bits over a bit string, neither reflected nor inverted. -/
def crcBits (n poly init : Nat) (bs : List Bool) : Nat := bs.foldl (crcBit n poly) (init % 2 ^ n)

/-- CRC of n bits over bytes, each most significant bit first. -/
def crcBytes (n poly init : Nat) (bs : List Byte) : Nat :=
  bs.foldl (fun c b => crcBits n poly c (bitsMsb 8 b.toNat)) (init % 2 ^ n)

/-- One step of a reflected CRC. -/
def crcRefBit (poly : Nat) (c : Nat) : Nat := if c % 2 = 1 then Nat.xor (c / 2) poly else c / 2

/-- Reflected CRC over bytes with reflected polynomial poly and start value init (no final inversion). -/
def crcRef (poly init : Nat) (bs : List Byte) : Nat :=
  bs.foldl (fun c b =>
    let x := Nat.xor c b.toNat
    crcRefBit poly (crcRefBit poly (crcRefBit poly (crcRefBit poly
      (crcRefBit poly (crcRefBit poly (crcRefBit poly (crcRefBit poly x)))))))) init

/-- Gray code to binary, most significant bit first. -/
def grayBits : List Bool → List Bool :=
  fun bs => (bs.foldl (fun (a : List Bool × Bool) b => ((a.2 != b) :: a.1, a.2 != b)) ([], false)).1.reverse

/-- The greatest number of a list, 0 for none. -/
def maxList (l : List Nat) : Nat := l.foldl max 0

/-- The sum of a list of integers. -/
def sumI (l : List Int) : Int := l.foldl (· + ·) 0

/-- Element i of a list, or a default. -/
def nth {α : Type} (l : List α) (i : Nat) (d : α) : α := (l[i]?).getD d

/-- Replace element i of a list. -/
def setNth {α : Type} : List α → Nat → α → List α
  | [], _, _ => []
  | _ :: r, 0, v => v :: r
  | x :: r, i + 1, v => x :: setNth r i v

/-- µs to device-time ticks of 0.625 ns (R12). -/
def usTicks (n : Nat) : Nat := 1600 * n

/-- Remove the first element that meets a test, if any. -/
def takeFirst {α : Type} (p : α → Bool) : List α → Option α × List α
  | [] => (none, [])
  | x :: r => if p x then (some x, r) else ((takeFirst p r).1, x :: (takeFirst p r).2)

end Sys2Proof.Machine
end

