-- ==== Sys2Proof/Machine/RegMap.lean ====
section
/-!
DEFINITION. The register map of PF0 BAR0 (Tables 19.1 and 19.3 of spec/19_register_index.md, R543 to R546):
one address function for every register name, written from the register tables of chapters 2 to 17, and one row
per register with its writable bits by field type (Table 0.3) and its reset value. Registers that every function
has in its own BAR0 (MBX, DLV, MSI-X) take the function number: function f's copy is kept at `fnBase f` + offset.
Memories that are reached only through a window are kept at keys of 2^32 and above.
-/
namespace Sys2Proof.Reg

/-- Where the registers of function f's own BAR0 are kept (R361, R393, R544); PF0's lie at their plain offset. -/
def fnBase (f : Nat) : Nat := f * 0x10000000

/-- 2.5: [0] reads 1 while the lock is open; see R71 -/
def POS_LOCK : Nat := 0x400000
/-- 2.5: [0] SNAP; see R72 -/
def POS_SNAP : Nat := 0x400004
/-- 2.5: Snapshot device time [31:0] -/
def POS_SNAPT_LO : Nat := 0x400008
/-- 2.5: Snapshot device time [63:32] -/
def POS_SNAPT_HI : Nat := 0x40000C
/-- 2.5: Owning tenant of axis n in [4n+3:4n]; bench firmware sets it from the partition table -/
def POS_OWNER : Nat := 0x400010
/-- 2.6: [0] EN: axis enabled -/
def POS_AXEN (n : Nat) : Nat := 0x401000 + 0x400 * n
/-- 2.6: Mode control, shadowed; Table 2.7 -/
def POS_AXCTL (n : Nat) : Nat := 0x401004 + 0x400 * n
/-- 2.6: Active mode control; layout as POS_AXCTL -/
def POS_AXCTLA (n : Nat) : Nat := 0x401008 + 0x400 * n
/-- 2.6: Table 2.8 -/
def POS_AXCMD (n : Nat) : Nat := 0x40100C + 0x400 * n
/-- 2.6: Table 2.9 -/
def POS_AXSTAT (n : Nat) : Nat := 0x401010 + 0x400 * n
/-- 2.6: Table 2.10 -/
def POS_AXIRQ (n : Nat) : Nat := 0x401014 + 0x400 * n
/-- 2.6: Interrupt enables; layout as POS_AXIRQ -/
def POS_AXIEN (n : Nat) : Nat := 0x401018 + 0x400 * n
/-- 2.6: P_pub [31:0]; [47:32] in _HI[15:0] -/
def POS_AXPOS_LO (n : Nat) : Nat := 0x401020 + 0x400 * n
/-- 2.6: P_pub [31:0]; [47:32] in _HI[15:0] -/
def POS_AXPOS_HI (n : Nat) : Nat := 0x401024 + 0x400 * n
/-- 2.6: High-water mark, as POS_AXPOS -/
def POS_AXHWM_LO (n : Nat) : Nat := 0x401028 + 0x400 * n
/-- 2.6: High-water mark, as POS_AXPOS -/
def POS_AXHWM_HI (n : Nat) : Nat := 0x40102C + 0x400 * n
/-- 2.6: V_pub, signed 8.24 PT per tick -/
def POS_AXVEL (n : Nat) : Nat := 0x401030 + 0x400 * n
/-- 2.6: Window travel, signed, 64-bit -/
def POS_AXSPD_LO (n : Nat) : Nat := 0x401038 + 0x400 * n
/-- 2.6: Window travel, signed, 64-bit -/
def POS_AXSPD_HI (n : Nat) : Nat := 0x40103C + 0x400 * n
/-- 2.6: [16:0] window in µs, 10 to 100,000 -/
def POS_AXSPDWIN (n : Nat) : Nat := 0x401040 + 0x400 * n
/-- 2.6: [12:0] A/B minimum interval in ticks, 8 to 8,000 -/
def POS_AXMINIV (n : Nat) : Nat := 0x401044 + 0x400 * n
/-- 2.6: [12:0] index minimum interval in ticks, 8 to 8,000 -/
def POS_AXZMINIV (n : Nat) : Nat := 0x401048 + 0x400 * n
/-- 2.6: [15:0] glitch window in µs, 1 to 65,535 -/
def POS_AXGLWIN (n : Nat) : Nat := 0x40104C + 0x400 * n
/-- 2.6: [15:0] A and B rejections, saturating; [31:16] index rejections, saturating (R44) -/
def POS_AXGLCNT (n : Nat) : Nat := 0x401050 + 0x400 * n
/-- 2.6: [15:0] quadrature errors, saturating -/
def POS_AXQERR (n : Nat) : Nat := 0x401054 + 0x400 * n
/-- 2.6: [15:0] reversal hysteresis in PT -/
def POS_AXHYST (n : Nat) : Nat := 0x401058 + 0x400 * n
/-- 2.6: [16:0] standstill time in µs -/
def POS_AXSTILLT (n : Nat) : Nat := 0x40105C + 0x400 * n
/-- 2.6: Last index position -/
def POS_AXIDX_LO (n : Nat) : Nat := 0x401060 + 0x400 * n
/-- 2.6: Last index position -/
def POS_AXIDX_HI (n : Nat) : Nat := 0x401064 + 0x400 * n
/-- 2.6: Previous index position -/
def POS_AXIDXPREV_LO (n : Nat) : Nat := 0x401068 + 0x400 * n
/-- 2.6: Previous index position -/
def POS_AXIDXPREV_HI (n : Nat) : Nat := 0x40106C + 0x400 * n
/-- 2.6: Device time of last index -/
def POS_AXIDXT_LO (n : Nat) : Nat := 0x401070 + 0x400 * n
/-- 2.6: Device time of last index -/
def POS_AXIDXT_HI (n : Nat) : Nat := 0x401074 + 0x400 * n
/-- 2.6: PT per revolution; 0 disables R61 and R62 -/
def POS_AXREVPT (n : Nat) : Nat := 0x401078 + 0x400 * n
/-- 2.6: [23:0] drift tolerance in PT -/
def POS_AXDRTOL (n : Nat) : Nat := 0x40107C + 0x400 * n
/-- 2.6: Last D, signed, saturating -/
def POS_AXDRIFT (n : Nat) : Nat := 0x401080 + 0x400 * n
/-- 2.6: [15:0] AMIN, [31:16] AMAX -/
def POS_AXAMPW (n : Nat) : Nat := 0x401084 + 0x400 * n
/-- 2.6: [7:0] consecutive samples, 1 to 255 -/
def POS_AXAMPCNT (n : Nat) : Nat := 0x401088 + 0x400 * n
/-- 2.6: [15:0] last q; [31:16] lowest q since CLRCNT -/
def POS_AXAMP (n : Nat) : Nat := 0x40108C + 0x400 * n
/-- 2.6: [15:0] SOFS, [31:16] COFS, signed codes -/
def POS_AXSCOFS (n : Nat) : Nat := 0x401090 + 0x400 * n
/-- 2.6: [15:0] cos gain, unsigned 1.15 -/
def POS_AXSCGAIN (n : Nat) : Nat := 0x401094 + 0x400 * n
/-- 2.6: [15:0] raw sin code, [31:16] raw cos code -/
def POS_AXADC (n : Nat) : Nat := 0x401098 + 0x400 * n
/-- 2.6: [5:0] WBITS, [7:6] NSTART, [10:8] SPAT, [11] GRAY, [13:12] CHK (0b00 none, 0b01 even, 0b10 odd, 0b11 CRC), [17:14] CRCLEN -/
def POS_AXABSFMT (n : Nat) : Nat := 0x40109C + 0x400 * n
/-- 2.6: [7:0] POLY, [15:8] INIT -/
def POS_AXABSPOLY (n : Nat) : Nat := 0x4010A0 + 0x400 * n
/-- 2.6: [15:0] DIV, [23:16] GAP in µs, 1 to 100 -/
def POS_AXABSCLK (n : Nat) : Nat := 0x4010A4 + 0x400 * n
/-- 2.6: [11:0] sample delay in ticks -/
def POS_AXABSDLY (n : Nat) : Nat := 0x4010A8 + 0x400 * n
/-- 2.6: [15:0] request period in µs; 0 = on command -/
def POS_AXABSPER (n : Nat) : Nat := 0x4010AC + 0x400 * n
/-- 2.6: Unsigned 24.8 PT per LSB -/
def POS_AXABSSCL (n : Nat) : Nat := 0x4010B0 + 0x400 * n
/-- 2.6: Load offset for ABSLOAD, 48-bit -/
def POS_AXABSOFS_LO (n : Nat) : Nat := 0x4010B4 + 0x400 * n
/-- 2.6: Load offset for ABSLOAD, 48-bit -/
def POS_AXABSOFS_HI (n : Nat) : Nat := 0x4010B8 + 0x400 * n
/-- 2.6: Largest plausible word step in PT -/
def POS_AXABSJMP (n : Nat) : Nat := 0x4010BC + 0x400 * n
/-- 2.6: [15:0] CHK failures, [31:16] JMP discards -/
def POS_AXABSERR (n : Nat) : Nat := 0x4010C0 + 0x400 * n
/-- 2.6: Last raw word -/
def POS_AXABSWORD_LO (n : Nat) : Nat := 0x4010C8 + 0x400 * n
/-- 2.6: Last raw word -/
def POS_AXABSWORD_HI (n : Nat) : Nat := 0x4010CC + 0x400 * n
/-- 2.6: Snapshot position -/
def POS_AXSNAP_LO (n : Nat) : Nat := 0x4010D0 + 0x400 * n
/-- 2.6: Snapshot position -/
def POS_AXSNAP_HI (n : Nat) : Nat := 0x4010D4 + 0x400 * n
/-- 2.6: Twin position tolerance in PT -/
def POS_AXTWTOL (n : Nat) : Nat := 0x4010D8 + 0x400 * n
/-- 2.6: Length of the window last reported in POS_AXSPD, in TBCLK ticks (R63) -/
def POS_AXSPDLEN (n : Nat) : Nat := 0x4010DC + 0x400 * n
/-- 3.5: [0] reads 1 while open -/
def TRG_LOCK : Nat := 0x500000
/-- 3.5: Tenant t = 0 to 15: [7:0] MISSED channel, [8] MISSED enable, [23:16] OVERSPEED channel, [24] OVERSPEED enable. The MISSED and OVERSPEED events of a... -/
def TRG_EVMAP (n : Nat) : Nat := 0x500040 + 0x4 * n
/-- 3.5: [0] window page -/
def TRG_CMEMPAGE : Nat := 0x500008
/-- 3.5: [0] HIZ: pins forced to high impedance (R87) -/
def TRG_ROLE : Nat := 0x50000C
/-- 3.5: All passed targets skipped, saturating -/
def TRG_MISSTOT : Nat := 0x500010
/-- 3.5: [15:0] corrected, [31:16] uncorrectable, saturating -/
def TRG_ECC : Nat := 0x500014
/-- 3.6: Shadowed under R84; Table 3.7 -/
def TRG_TSCTL (n : Nat) : Nat := 0x510000 + 0x100 * n
/-- 3.6: Active TRG_TSCTL -/
def TRG_TSCTLA (n : Nat) : Nat := 0x510004 + 0x100 * n
/-- 3.6: [0] START, [1] STOP, [2] ARM, [3] CLRCNT: clears TSTRIG, TSOVS, TSMISS and TSDROP. Bits set in one write act in the order of R83 -/
def TRG_TSCMD (n : Nat) : Nat := 0x510008 + 0x100 * n
/-- 3.6: [0] RUN, [1] ARMED, [2] OVS, [3] DONE, [4] BADCFG -/
def TRG_TSSTAT (n : Nat) : Nat := 0x51000C + 0x100 * n
/-- 3.6: [23:0] pitch integer PT; shadowed -/
def TRG_TSPITCH_I (n : Nat) : Nat := 0x510010 + 0x100 * n
/-- 3.6: Pitch fraction, 2^−32 PT; shadowed -/
def TRG_TSPITCH_F (n : Nat) : Nat := 0x510014 + 0x100 * n
/-- 3.6: First target for START, 48-bit -/
def TRG_TSPHASE_LO (n : Nat) : Nat := 0x510018 + 0x100 * n
/-- 3.6: First target for START, 48-bit -/
def TRG_TSPHASE_HI (n : Nat) : Nat := 0x51001C + 0x100 * n
/-- 3.6: [15:0] exposure delay in ticks; shadowed -/
def TRG_TSXDLY (n : Nat) : Nat := 0x510020 + 0x100 * n
/-- 3.6: [19:0] minimum trigger interval in ticks -/
def TRG_TSMINPER (n : Nat) : Nat := 0x510024 + 0x100 * n
/-- 3.6: [10:0] lines per block -/
def TRG_TSBLK (n : Nat) : Nat := 0x510028 + 0x100 * n
/-- 3.6: Targets per run; 0 = unlimited -/
def TRG_TSLINES (n : Nat) : Nat := 0x51002C + 0x100 * n
/-- 3.6: [23:0] mirror pulse width in ticks; shadowed -/
def TRG_TSPW (n : Nat) : Nat := 0x510030 + 0x100 * n
/-- 3.6: Next T_i -/
def TRG_TSACC_LO (n : Nat) : Nat := 0x510034 + 0x100 * n
/-- 3.6: Next T_i -/
def TRG_TSACC_HI (n : Nat) : Nat := 0x510038 + 0x100 * n
/-- 3.6: Fraction of A -/
def TRG_TSACCF (n : Nat) : Nat := 0x51003C + 0x100 * n
/-- 3.6: Target index i -/
def TRG_TSIDX (n : Nat) : Nat := 0x510040 + 0x100 * n
/-- 3.6: L in PT -/
def TRG_TSLEAD (n : Nat) : Nat := 0x510044 + 0x100 * n
/-- 3.6: Issued triggers, wrapping -/
def TRG_TSTRIG (n : Nat) : Nat := 0x510048 + 0x100 * n
/-- 3.6: Grid targets without a line under R81, saturating -/
def TRG_TSOVS (n : Nat) : Nat := 0x51004C + 0x100 * n
/-- 3.6: Passed targets skipped, saturating -/
def TRG_TSMISS (n : Nat) : Nat := 0x510050 + 0x100 * n
/-- 3.6: Messages dropped under R86, saturating -/
def TRG_TSDROP (n : Nat) : Nat := 0x510054 + 0x100 * n
/-- 3.8: [0] EN, [3:1] AXIS, [4] DIR (1 reverse) -/
def TRG_CLCTL (n : Nat) : Nat := 0x520000 + 0x40 * n
/-- 3.8: [15:0] first entry of the ring -/
def TRG_CLBASE (n : Nat) : Nat := 0x520004 + 0x40 * n
/-- 3.8: [16:0] ring size, 1 to 65,536 -/
def TRG_CLSIZE (n : Nat) : Nat := 0x520008 + 0x40 * n
/-- 3.8: [15:0] write pointer, ring-relative -/
def TRG_CLWR (n : Nat) : Nat := 0x52000C + 0x40 * n
/-- 3.8: [15:0] read pointer -/
def TRG_CLRD (n : Nat) : Nat := 0x520010 + 0x40 * n
/-- 3.8: Entries consumed, wrapping -/
def TRG_CLDONE (n : Nat) : Nat := 0x520014 + 0x40 * n
/-- 3.8: Passed entries skipped, saturating -/
def TRG_CLMISS (n : Nat) : Nat := 0x520018 + 0x40 * n
/-- 3.8: [15:0] collapsed, [31:16] inverted windows -/
def TRG_CLWDROP (n : Nat) : Nat := 0x52001C + 0x40 * n
/-- 3.8: [15:0] BAD entries, [31:16] WOVF windows -/
def TRG_CLERR (n : Nat) : Nat := 0x520020 + 0x40 * n
/-- 3.8: [0] EMPTY, [4:1] open windows, [5] WRERR: last write of TRG_CLWR refused (R88) -/
def TRG_CLSTAT (n : Nat) : Nat := 0x520024 + 0x40 * n
/-- 3.9: Table 3.10 -/
def TRG_PINCFG (n : Nat) : Nat := 0x530000 + 0x20 * n
/-- 3.9: [23:0] event pulse width in ticks -/
def TRG_PINEVW (n : Nat) : Nat := 0x530004 + 0x20 * n
/-- 3.9: [15:0] stretched, [31:16] filled gaps -/
def TRG_PINSTR (n : Nat) : Nat := 0x530008 + 0x20 * n
/-- 3.9: [15:0] suppressed by dead time -/
def TRG_PINSUP (n : Nat) : Nat := 0x53000C + 0x20 * n
/-- 3.9: [0] shaped request, [1] output level -/
def TRG_PINLVL (n : Nat) : Nat := 0x530010 + 0x20 * n
/-- 3.11: [0] EN, [11:1] DT in ticks -/
def TRG_PAIRCTL (n : Nat) : Nat := 0x530800 + 0x10 * n
/-- 3.12: [0] EN, [1] EDGE (0 rising), [2] BOTH, [15:3] MINIV in ticks (8 to 8,000), [18:16] AXIS, [19] EVEN, [27:20] EVCH -/
def TRG_INCFG (n : Nat) : Nat := 0x531000 + 0x40 * n
/-- 3.12: Position at the last edge -/
def TRG_INPOS_LO (n : Nat) : Nat := 0x531008 + 0x40 * n
/-- 3.12: Position at the last edge -/
def TRG_INPOS_HI (n : Nat) : Nat := 0x53100C + 0x40 * n
/-- 3.12: Device time of the last edge -/
def TRG_INT_LO (n : Nat) : Nat := 0x531010 + 0x40 * n
/-- 3.12: Device time of the last edge -/
def TRG_INT_HI (n : Nat) : Nat := 0x531014 + 0x40 * n
/-- 3.12: Accepted edges, wrapping -/
def TRG_INCNT (n : Nat) : Nat := 0x531018 + 0x40 * n
/-- 3.12: Rejected edges, saturating -/
def TRG_INGL (n : Nat) : Nat := 0x53101C + 0x40 * n
/-- 4.6: [0] reads 1 while open -/
def EVR_LOCK : Nat := 0x600000
/-- 4.6: [9:0] first failing entry, [12] table (0 producer, 1 subscriber), [13] valid, [31:16] parity errors, saturating -/
def EVR_PE : Nat := 0x600004
/-- 5.13: [0] reads 1 while open -/
def LANE_LOCK : Nat := 0x880000
/-- 5.13: [7:0] AVAIL: sprue of group k passed its last self-test; [15:8] HOT: sprue of group k in STANDBY; [23:16] INUSE: sprue of group k inlaid -/
def LANE_SPRUE : Nat := 0x880004
/-- 5.13: [15:0] sprue self-tests run, wrapping; [23:16] failures, saturating -/
def LANE_SELFT : Nat := 0x880008
/-- 5.14: Shadowed under R146; Table 5.15 -/
def LANE_CTL (n : Nat) : Nat := 0x800000 + 0x1000 * n
/-- 5.14: Active LANE_CTL -/
def LANE_CTLA (n : Nat) : Nat := 0x800004 + 0x1000 * n
/-- 5.14: [0] RESTART, [1] APPLY, [2] CLRCNT (clears HDRERR, CMAERR, TRN, EQCNT), [3] PRBSRST -/
def LANE_CMD (n : Nat) : Nat := 0x800008 + 0x1000 * n
/-- 5.14: Table 5.16 -/
def LANE_STAT (n : Nat) : Nat := 0x80000C + 0x1000 * n
/-- 5.14: Table 5.17 -/
def LANE_IRQ (n : Nat) : Nat := 0x800010 + 0x1000 * n
/-- 5.14: Interrupt enables; layout as LANE_IRQ -/
def LANE_IEN (n : Nat) : Nat := 0x800014 + 0x1000 * n
/-- 5.14: Table 5.18 -/
def LANE_BOND (n : Nat) : Nat := 0x800018 + 0x1000 * n
/-- 5.14: [2:0] LOSTH; [10:3] LOSTIME in 12.5 ns, 1 to 255; [23:16] BERTH per ms -/
def LANE_DET (n : Nat) : Nat := 0x80001C + 0x1000 * n
/-- 5.14: [1:0] LOOP; [3:2] PAT (0b00 PRBS7, 0b01 PRBS15, 0b10 PRBS31, 0b11 reserved); [4] GEN; [5] CHK -/
def LANE_TEST (n : Nat) : Nat := 0x800020 + 0x1000 * n
/-- 5.14: [2:0] INITP, initial preset -/
def LANE_TXFFE (n : Nat) : Nat := 0x800024 + 0x1000 * n
/-- 5.14: Device taps: [5:0] C−1, [13:8] C0, [21:16] C+1 -/
def LANE_TXTAP (n : Nat) : Nat := 0x800028 + 0x1000 * n
/-- 5.14: Camera taps from the last EQRSP; layout as LANE_TXTAP -/
def LANE_FARTAP (n : Nat) : Nat := 0x80002C + 0x1000 * n
/-- 5.14: [3:0] CTLE in dB; [15:8] EYEH in 1/64 UI; [23:16] EYEV in 4 mV -/
def LANE_RXEQ0 (n : Nat) : Nat := 0x800030 + 0x1000 * n
/-- 5.14: DFE taps 1 to 5 in [5:0], [11:6], [17:12], [23:18], [29:24]; signed, 4 mV steps -/
def LANE_RXEQ1 (n : Nat) : Nat := 0x800034 + 0x1000 * n
/-- 5.14: [0] FIX; [4:1] CTLE in dB; [5] DFEOFF -/
def LANE_EQOVR (n : Nat) : Nat := 0x800038 + 0x1000 * n
/-- 5.14: Sync header errors, or Alaol-1 invalid groups; saturating -/
def LANE_HDRERR (n : Nat) : Nat := 0x80003C + 0x1000 * n
/-- 5.14: [15:0] comma errors, [31:16] reserved-type blocks; saturating -/
def LANE_CMAERR (n : Nat) : Nat := 0x800040 + 0x1000 * n
/-- 5.14: [15:0] failed attempts, [31:16] relocks; saturating -/
def LANE_TRN (n : Nat) : Nat := 0x800044 + 0x1000 * n
/-- 5.14: [7:0] requests sent, [15:8] received, [23:16] repeats, [31:24] AT_LIMIT answers -/
def LANE_EQCNT (n : Nat) : Nat := 0x800048 + 0x1000 * n
/-- 5.14: [7:0] lead over the latest lane in code blocks, [8] valid -/
def LANE_SKEW (n : Nat) : Nat := 0x80004C + 0x1000 * n
/-- 5.14: Pattern bit errors, saturating -/
def LANE_PRBSERR (n : Nat) : Nat := 0x800050 + 0x1000 * n
/-- 5.14: [4:0] camera RXMASK, [9:5] camera TXMASK, [19:16] POS of last comma, [20] RXOK of last comma -/
def LANE_PEER (n : Nat) : Nat := 0x800054 + 0x1000 * n
/-- 6.14: [0] reads 1 while open -/
def LINK_LOCK : Nat := 0xA00000
/-- 6.14: [15:0] EPOCH; [16] FOLLOW -/
def LINK_ROLE : Nat := 0xA00004
/-- 6.14: [15:0] heartbeat period in µs, 10 to 10,000 -/
def LINK_HBPER : Nat := 0xA00008
/-- 6.14: [15:0] time round period in µs, 100 to 1,000 -/
def LINK_TSPER : Nat := 0xA0000C
/-- 6.14: [15:0] offset limit in 1/16 tick -/
def LINK_TSLIM : Nat := 0xA00010
/-- 6.14: [15:0] register timeout in µs -/
def LINK_REGTMO : Nat := 0xA00014
/-- 6.15: Shadowed under R176; Table 6.16 -/
def LINK_CAMCFG (n : Nat) : Nat := 0xA10000 + 0x100 * n
/-- 6.15: Active LINK_CAMCFG -/
def LINK_CAMCFGA (n : Nat) : Nat := 0xA10004 + 0x100 * n
/-- 6.15: Table 6.17 -/
def LINK_CAMSTAT (n : Nat) : Nat := 0xA10008 + 0x100 * n
/-- 6.15: Table 6.18 -/
def LINK_CAMIRQ (n : Nat) : Nat := 0xA1000C + 0x100 * n
/-- 6.15: Interrupt enables; layout as LINK_CAMIRQ -/
def LINK_CAMIEN (n : Nat) : Nat := 0xA10010 + 0x100 * n
/-- 6.15: [23:0] DLY in 1/16 tick -/
def LINK_CAMDLY (n : Nat) : Nat := 0xA10014 + 0x100 * n
/-- 6.15: Last OFS, signed, 1/16 tick -/
def LINK_CAMOFS_LO (n : Nat) : Nat := 0xA10018 + 0x100 * n
/-- 6.15: Last OFS, signed, 1/16 tick -/
def LINK_CAMOFS_HI (n : Nat) : Nat := 0xA1001C + 0x100 * n
/-- 6.15: [15:0] TRGRX, [31:16] TRGREJ -/
def LINK_CAMHB0 (n : Nat) : Nat := 0xA10020 + 0x100 * n
/-- 6.15: [15:0] LINES, [31:16] OVR -/
def LINK_CAMHB1 (n : Nat) : Nat := 0xA10024 + 0x100 * n
/-- 6.15: [7:0] TEMP, [15:8] FLAGS, [31:16] EPOCH -/
def LINK_CAMHB2 (n : Nat) : Nat := 0xA10028 + 0x100 * n
/-- 6.15: [15:0] header errors, [31:16] check errors; saturating -/
def LINK_CAMERR (n : Nat) : Nat := 0xA1002C + 0x100 * n
/-- 6.15: [15:0] orphan lines, [31:16] length errors; saturating -/
def LINK_CAMLNERR (n : Nat) : Nat := 0xA10030 + 0x100 * n
/-- 6.15: Records closed as missing, saturating -/
def LINK_CAMMISS (n : Nat) : Nat := 0xA10034 + 0x100 * n
/-- 6.15: Lines paired, wrapping -/
def LINK_CAMLINES (n : Nat) : Nat := 0xA10038 + 0x100 * n
/-- 6.15: [15:0] register timeouts, [31:16] late answers; saturating -/
def LINK_CAMREG (n : Nat) : Nat := 0xA1003C + 0x100 * n
/-- 6.15: [15:0] pairing timeout in µs -/
def LINK_CAMLNTMO (n : Nat) : Nat := 0xA10040 + 0x100 * n
/-- 6.15: [15:0] Alaol-1 trigger lead in ticks -/
def LINK_CAMA1DLY (n : Nat) : Nat := 0xA10044 + 0x100 * n
/-- 7.7: [0] EN (R224) -/
def PIPE_CTL (n : Nat) : Nat := 0xC00000 + 0x4000 * n
/-- 7.7: Table 7.8; writes while EN = 1 are ignored and set BADCFG -/
def PIPE_BIND (n : Nat) : Nat := 0xC00004 + 0x4000 * n
/-- 7.7: [0] ARM, [1] CLRCNT: clears OVF, DPCCNT, GAPCNT, GRIDERR -/
def PIPE_CMD (n : Nat) : Nat := 0xC00008 + 0x4000 * n
/-- 7.7: Table 7.9 -/
def PIPE_STAT (n : Nat) : Nat := 0xC0000C + 0x4000 * n
/-- 7.7: Table 7.10 -/
def PIPE_IRQ (n : Nat) : Nat := 0xC00010 + 0x4000 * n
/-- 7.7: Interrupt enables; layout as PIPE_IRQ -/
def PIPE_IEN (n : Nat) : Nat := 0xC00014 + 0x4000 * n
/-- 7.7: [1:0] TABLE: 0b00 shading, 0b01 defect map, 0b10 tone, 0b11 reserved; [2] BANK: 0 shadow, 1 active, read-only; [7:4] PAGE of 4 KiB, 0 to 11 -/
def PIPE_TBLSEL (n : Nat) : Nat := 0xC00018 + 0x4000 * n
/-- 7.7: [18:0] line cache bytes for the shadow (R190) -/
def PIPE_CACHEREQ (n : Nat) : Nat := 0xC0001C + 0x4000 * n
/-- 7.7: Lines received, wrapping -/
def PIPE_LINESIN (n : Nat) : Nat := 0xC00020 + 0x4000 * n
/-- 7.7: Lines and rows dropped (R196), saturating -/
def PIPE_OVF (n : Nat) : Nat := 0xC00024 + 0x4000 * n
/-- 7.7: Dynamic replacements, saturating -/
def PIPE_DPCCNT (n : Nat) : Nat := 0xC00028 + 0x4000 * n
/-- 7.7: [15:0] RESAMPLED, [31:16] FILLED; saturating -/
def PIPE_GAPCNT (n : Nat) : Nat := 0xC0002C + 0x4000 * n
/-- 7.7: Anchors off prediction, saturating -/
def PIPE_GRIDERR (n : Nat) : Nat := 0xC00030 + 0x4000 * n
/-- 7.7: [15:0] corrected, [31:16] uncorrectable; saturating -/
def PIPE_ECC (n : Nat) : Nat := 0xC00034 + 0x4000 * n
/-- 7.7: Blocks completed, wrapping -/
def PIPE_BLKSEQ (n : Nat) : Nat := 0xC00038 + 0x4000 * n
/-- 7.7: Frame number of the block in progress -/
def PIPE_FRAME (n : Nat) : Nat := 0xC0003C + 0x4000 * n
/-- 7.11: [15:0] CFIRST, [31:16] CWIDTH (R186) -/
def PIPE_COLS (n : Nat) : Nat := 0xC00100 + 0x4000 * n
/-- 7.11: [10:0] output lines per block -/
def PIPE_BLK (n : Nat) : Nat := 0xC00104 + 0x4000 * n
/-- 7.11: [23:0] black, plane 0, G24 -/
def PIPE_BLACK0 (n : Nat) : Nat := 0xC00108 + 0x4000 * n
/-- 7.11: [23:0] black, plane 1 -/
def PIPE_BLACK1 (n : Nat) : Nat := 0xC0010C + 0x4000 * n
/-- 7.11: [23:0] black, plane 2 -/
def PIPE_BLACK2 (n : Nat) : Nat := 0xC00110 + 0x4000 * n
/-- 7.11: [0] SEN static map, [1] DEN dynamic, [26:16] NSTAT -/
def PIPE_DPC (n : Nat) : Nat := 0xC00114 + 0x4000 * n
/-- 7.11: [23:0] hot margin, G24 -/
def PIPE_DPCHOT (n : Nat) : Nat := 0xC00118 + 0x4000 * n
/-- 7.11: [23:0] cold margin, G24 -/
def PIPE_DPCCOLD (n : Nat) : Nat := 0xC0011C + 0x4000 * n
/-- 7.11: [0] EN -/
def PIPE_SHD (n : Nat) : Nat := 0xC00120 + 0x4000 * n
/-- 7.11: [23:0] EDGETH, G24 -/
def PIPE_DM (n : Nat) : Nat := 0xC00124 + 0x4000 * n
/-- 7.11: [1:0] KSEL, [4:2] GAPMAX -/
def PIPE_DP (n : Nat) : Nat := 0xC00128 + 0x4000 * n
/-- 7.11: [23:0] pitch, integer PT -/
def PIPE_DPPITCH_I (n : Nat) : Nat := 0xC0012C + 0x4000 * n
/-- 7.11: Pitch fraction, 2^−32 PT -/
def PIPE_DPPITCH_F (n : Nat) : Nat := 0xC00130 + 0x4000 * n
/-- 7.11: Row pitch, unsigned 24.8 PT (R212) -/
def PIPE_DPROWP (n : Nat) : Nat := 0xC00134 + 0x4000 * n
/-- 7.11: [23:0] fill, plane 0 -/
def PIPE_FILL0 (n : Nat) : Nat := 0xC00138 + 0x4000 * n
/-- 7.11: [23:0] fill, plane 1 -/
def PIPE_FILL1 (n : Nat) : Nat := 0xC0013C + 0x4000 * n
/-- 7.11: [23:0] fill, plane 2 -/
def PIPE_FILL2 (n : Nat) : Nat := 0xC00140 + 0x4000 * n
/-- 7.11: [15:0] coefficient, row-major: CM00 at 0x44, CM01 at 0x48, …, CM22 at 0x64 -/
def PIPE_CM00 (n : Nat) : Nat := 0xC00144 + 0x4000 * n
/-- 7.11: [15:0] coefficient, row-major: CM00 at 0x44, CM01 at 0x48, …, CM22 at 0x64 -/
def PIPE_CM01 (n : Nat) : Nat := 0xC00148 + 0x4000 * n
/-- 7.11: [15:0] coefficient, row-major: CM00 at 0x44, CM01 at 0x48, …, CM22 at 0x64 -/
def PIPE_CM02 (n : Nat) : Nat := 0xC0014C + 0x4000 * n
/-- 7.11: [15:0] coefficient, row-major: CM00 at 0x44, CM01 at 0x48, …, CM22 at 0x64 -/
def PIPE_CM10 (n : Nat) : Nat := 0xC00150 + 0x4000 * n
/-- 7.11: [15:0] coefficient, row-major: CM00 at 0x44, CM01 at 0x48, …, CM22 at 0x64 -/
def PIPE_CM11 (n : Nat) : Nat := 0xC00154 + 0x4000 * n
/-- 7.11: [15:0] coefficient, row-major: CM00 at 0x44, CM01 at 0x48, …, CM22 at 0x64 -/
def PIPE_CM12 (n : Nat) : Nat := 0xC00158 + 0x4000 * n
/-- 7.11: [15:0] coefficient, row-major: CM00 at 0x44, CM01 at 0x48, …, CM22 at 0x64 -/
def PIPE_CM20 (n : Nat) : Nat := 0xC0015C + 0x4000 * n
/-- 7.11: [15:0] coefficient, row-major: CM00 at 0x44, CM01 at 0x48, …, CM22 at 0x64 -/
def PIPE_CM21 (n : Nat) : Nat := 0xC00160 + 0x4000 * n
/-- 7.11: [15:0] coefficient, row-major: CM00 at 0x44, CM01 at 0x48, …, CM22 at 0x64 -/
def PIPE_CM22 (n : Nat) : Nat := 0xC00164 + 0x4000 * n
/-- 7.11: [23:0] offset, S24 -/
def PIPE_CMOFS0 (n : Nat) : Nat := 0xC00168 + 0x4000 * n
/-- 7.11: [23:0] offset, S24 -/
def PIPE_CMOFS1 (n : Nat) : Nat := 0xC0016C + 0x4000 * n
/-- 7.11: [23:0] offset, S24 -/
def PIPE_CMOFS2 (n : Nat) : Nat := 0xC00170 + 0x4000 * n
/-- 7.11: [0] EN -/
def PIPE_TONE (n : Nat) : Nat := 0xC00174 + 0x4000 * n
/-- 7.11: [0] HIST, [1] PROF -/
def PIPE_STATCFG (n : Nat) : Nat := 0xC00178 + 0x4000 * n
/-- 7.11: [0] ASSAY, [1] RING, [3:2] RINGFMT, [10:4] AHALO -/
def PIPE_OUT (n : Nat) : Nat := 0xC0017C + 0x4000 * n
/-- 7.12: [0] reads 1 while open -/
def PIPE_LOCK : Nat := 0xDF0000
/-- 7.12: [7:0] AVAIL: sprue of group k passed its last self-test; [15:8] INUSE: sprue of group k inlaid -/
def PIPE_SPRUE : Nat := 0xDF0004
/-- 7.12: [4k+3:4k] index within group k, 0 to 11, of the pipeline the sprue replaces; valid while INUSE -/
def PIPE_SPRUEMAP : Nat := 0xDF0008
/-- 7.12: [15:0] sprue self-tests run, wrapping; [23:16] failures, saturating -/
def PIPE_SELFT : Nat := 0xDF000C
/-- 8.14: [0] RUN, [1] TCOPY: table copy into the shadow in progress, [2] NOREF: current line, [3] PLACED: current line, [4] TBQ: Tier B queue not empty, [5]... -/
def ASY_STAT (n : Nat) : Nat := 0xC02000 + 0x4000 * n
/-- 8.14: [0] PAGESTART, [1] PAGEEND, [2] NOREF, [3] MISREG, [4] MARK, [5] RECDROP, [6] LBLOVF, [7] TBOVF, [31:8] — -/
def ASY_IRQ (n : Nat) : Nat := 0xC02004 + 0x4000 * n
/-- 8.14: Interrupt enables; layout as ASY_IRQ -/
def ASY_IEN (n : Nat) : Nat := 0xC02008 + 0x4000 * n
/-- 8.14: [0] CLRCNT: clears 0x2020 to 0x2048 -/
def ASY_CMD (n : Nat) : Nat := 0xC0200C + 0x4000 * n
/-- 8.14: [0] BANK: 0 shadow, 1 active, read-only; [7:4] PAGE of 4 KiB, 0 to 11 -/
def ASY_TBLSEL (n : Nat) : Nat := 0xC02010 + 0x4000 * n
/-- 8.14: Page of the current line -/
def ASY_PAGEID (n : Nat) : Nat := 0xC02014 + 0x4000 * n
/-- 8.14: [15:0] current cell row v -/
def ASY_CELLROW (n : Nat) : Nat := 0xC02018 + 0x4000 * n
/-- 8.14: [15:0] GX, [31:16] GY in use; signed 12.4 -/
def ASY_G (n : Nat) : Nat := 0xC0201C + 0x4000 * n
/-- 8.14: FINE cells, saturating -/
def ASY_CFINE (n : Nat) : Nat := 0xC02020 + 0x4000 * n
/-- 8.14: COARSE cells, saturating -/
def ASY_CCOARSE (n : Nat) : Nat := 0xC02024 + 0x4000 * n
/-- 8.14: FLAT cells, saturating -/
def ASY_CFLAT (n : Nat) : Nat := 0xC02028 + 0x4000 * n
/-- 8.14: UNSURE cells, saturating -/
def ASY_CUNSURE (n : Nat) : Nat := 0xC0202C + 0x4000 * n
/-- 8.14: MISREG cells, saturating -/
def ASY_CMISREG (n : Nat) : Nat := 0xC02030 + 0x4000 * n
/-- 8.14: Tier B queue refusals, saturating -/
def ASY_TBOVF (n : Nat) : Nat := 0xC02034 + 0x4000 * n
/-- 8.14: Overflow blobs, saturating -/
def ASY_LBLOVF (n : Nat) : Nat := 0xC02038 + 0x4000 * n
/-- 8.14: Records discarded, saturating -/
def ASY_RECDROP (n : Nat) : Nat := 0xC0203C + 0x4000 * n
/-- 8.14: Off-page pixels, saturating -/
def ASY_OFFPAGE (n : Nat) : Nat := 0xC02040 + 0x4000 * n
/-- 8.14: NOREF lines, saturating -/
def ASY_NOREFL (n : Nat) : Nat := 0xC02044 + 0x4000 * n
/-- 8.14: [15:0] corrected, [31:16] uncorrectable; saturating -/
def ASY_ECC (n : Nat) : Nat := 0xC02048 + 0x4000 * n
/-- 8.15: Table 8.16 -/
def ASY_CFG (n : Nat) : Nat := 0xC02100 + 0x4000 * n
/-- 8.15: Signed 20.12 reference columns -/
def ASY_XOFS (n : Nat) : Nat := 0xC02104 + 0x4000 * n
/-- 8.15: Unsigned 2.30 -/
def ASY_XSCL (n : Nat) : Nat := 0xC02108 + 0x4000 * n
/-- 8.15: 2^−40 reference rows per PT -/
def ASY_YSCL (n : Nat) : Nat := 0xC0210C + 0x4000 * n
/-- 8.15: [15:0] CMIN, [31:16] CMAX, camera columns -/
def ASY_INSP (n : Nat) : Nat := 0xC02110 + 0x4000 * n
/-- 8.15: [15:0] CMIN contrast; [23:16] BRATIO in 1/256; [31:24] MISTOL in 1/16 pixel -/
def ASY_PLCFG (n : Nat) : Nat := 0xC02114 + 0x4000 * n
/-- 8.15: [1:0] MSRCH: 0b00 16, 0b01 32, 0b10 64, 0b11 refused at swap; [15:8] MRATIO in 1/256 -/
def ASY_MARK (n : Nat) : Nat := 0xC02118 + 0x4000 * n
/-- 8.15: [15:0] WL, [31:16] WA; unsigned 4.12 -/
def ASY_WLA (n : Nat) : Nat := 0xC0211C + 0x4000 * n
/-- 8.15: [15:0] WB, unsigned 4.12 -/
def ASY_WB (n : Nat) : Nat := 0xC02120 + 0x4000 * n
/-- 8.15: [15:0] TLO, [31:16] THI; unsigned 8.8 -/
def ASY_THR (n : Nat) : Nat := 0xC02124 + 0x4000 * n
/-- 8.15: [15:0] AMIN, [31:16] AMAJ; pixels -/
def ASY_AREA (n : Nat) : Nat := 0xC02128 + 0x4000 * n
/-- 8.15: [10:0] HMAX, 16 to 1,024; [25:16] RECMAX, 0 no limit -/
def ASY_BLOB (n : Nat) : Nat := 0xC0212C + 0x4000 * n
/-- 8.15: [15:0] STRTH, 8.8; [19:16] STRWMAX, 1 to 8 -/
def ASY_STR (n : Nat) : Nat := 0xC02130 + 0x4000 * n
/-- 8.15: [15:0] UNITH, 8.8; [31:16] UNIVAR, (8.4 units)² -/
def ASY_UNI (n : Nat) : Nat := 0xC02134 + 0x4000 * n
/-- 8.17: [0] reads 1 while open -/
def ASY_LOCK : Nat := 0xE00000
/-- 8.17: [7:0] PUBLISH set s (R242) -/
def ASY_RSCMD : Nat := 0xE00004
/-- 8.17: [7:0] COPY of set s; [15:8] set s published -/
def ASY_RSSTAT : Nat := 0xE00008
/-- 8.17: Device-memory address of the descriptor table; written by bench firmware -/
def ASY_PGTAB_LO : Nat := 0xE0000C
/-- 8.17: Device-memory address of the descriptor table; written by bench firmware -/
def ASY_PGTAB_HI : Nat := 0xE00010
/-- 8.17: Render set memory: [15:0] corrected, [31:16] uncorrectable; saturating -/
def ASY_RSECC : Nat := 0xE00014
/-- 8.17: [0] EN, [3:1] AXIS, [7:4] OWNER -/
def ASY_VCTL (n : Nat) : Nat := 0xE01000 + 0x40 * n
/-- 8.17: [15:0] GX, [31:16] GY; signed 12.4 -/
def ASY_VGINIT (n : Nat) : Nat := 0xE01004 + 0x40 * n
/-- 8.17: Carried g; layout as ASY_VGINIT -/
def ASY_VG (n : Nat) : Nat := 0xE01008 + 0x40 * n
/-- 8.17: [5:0] queue write pointer -/
def ASY_VQWR (n : Nat) : Nat := 0xE0100C + 0x40 * n
/-- 8.17: [5:0] oldest placement not retired -/
def ASY_VQRD (n : Nat) : Nat := 0xE01010 + 0x40 * n
/-- 8.17: Page of the latest placement taken by any stripe -/
def ASY_VPAGE (n : Nat) : Nat := 0xE01014 + 0x40 * n
/-- 8.17: Late placements (R236), saturating -/
def ASY_VLATEPL (n : Nat) : Nat := 0xE01018 + 0x40 * n
/-- 8.17: [15:0] marks accepted, [31:16] marks rejected or unmeasured; saturating -/
def ASY_VMARK (n : Nat) : Nat := 0xE0101C + 0x40 * n
/-- 9.11: [0] reads 1 while open -/
def NOZ_LOCK : Nat := 0x1000000
/-- 9.11: [0] EN: accountant takes summaries -/
def NOZ_CTL : Nat := 0x1000004
/-- 9.11: [0] RUN, [1] INLAY: row inlay in progress, [2] ROWLOST: a row is isolated -/
def NOZ_STAT : Nat := 0x1000008
/-- 9.11: [0] REPORT, [1] DEFER, [2] SUMDROP, [3] INLAY, [4] ROWLOST, [5] ECC, [6] MAPERR -/
def NOZ_IRQ : Nat := 0x100000C
/-- 9.11: Interrupt enables; layout as NOZ_IRQ -/
def NOZ_IEN : Nat := 0x1000010
/-- 9.11: [0] CLRCNT: clears 0x01C to 0x030 -/
def NOZ_CMD : Nat := 0x1000014
/-- 9.11: Updates applied, wrapping -/
def NOZ_UPDCNT : Nat := 0x1000018
/-- 9.11: Update slots not applied (R275), saturating -/
def NOZ_SKIPCNT : Nat := 0x100001C
/-- 9.11: Summaries discarded, saturating -/
def NOZ_SUMDROP : Nat := 0x1000020
/-- 9.11: Deferred changes (R280), saturating -/
def NOZ_RPTDEFER : Nat := 0x1000024
/-- 9.11: Updates skipped under inlay, saturating -/
def NOZ_INLSKIP : Nat := 0x1000028
/-- 9.11: Reports written, wrapping -/
def NOZ_RPTCNT : Nat := 0x100002C
/-- 9.11: [15:0] corrected, [31:16] uncorrectable; saturating -/
def NOZ_ECC : Nat := 0x1000030
/-- 9.11: [8:0] summaries queued, [24:16] high-water mark -/
def NOZ_SQ : Nat := 0x1000034
/-- 9.11: [12:0] reports queued -/
def NOZ_RPTQ : Nat := 0x1000038
/-- 9.11: Summary queue address, multiple of 64; written by bench firmware -/
def NOZ_SQBASE_LO : Nat := 0x1000040
/-- 9.11: Summary queue address, multiple of 64; written by bench firmware -/
def NOZ_SQBASE_HI : Nat := 0x1000044
/-- 9.11: [8:0] summaries, 16 to 256 -/
def NOZ_SQSIZE : Nat := 0x1000048
/-- 9.12: Table 9.13 -/
def NOZ_PLCFG (n : Nat) : Nat := 0x1001000 + 0x40 * n
/-- 9.12: [15:0] WR, [31:16] WG; signed 2.14 -/
def NOZ_PLW0 (n : Nat) : Nat := 0x1001004 + 0x40 * n
/-- 9.12: [15:0] WB, signed 2.14; [31:16] NPIX -/
def NOZ_PLW1 (n : Nat) : Nat := 0x1001008 + 0x40 * n
/-- 9.12: [15:0] TWEAK, [31:16] TOUT; unsigned 8.8 -/
def NOZ_PLTHR0 (n : Nat) : Nat := 0x100100C + 0x40 * n
/-- 9.12: [15:0] TREC, [31:16] TDEV; unsigned 8.8 -/
def NOZ_PLTHR1 (n : Nat) : Nat := 0x1001010 + 0x40 * n
/-- 9.12: [15:0] TVAR, unsigned 12.4 -/
def NOZ_PLTHR2 (n : Nat) : Nat := 0x1001014 + 0x40 * n
/-- 9.12: [19:0] first track -/
def NOZ_PLNLO (n : Nat) : Nat := 0x1001018 + 0x40 * n
/-- 9.12: [19:0] last track -/
def NOZ_PLNHI (n : Nat) : Nat := 0x100101C + 0x40 * n
/-- 9.12: Active map: [11:0] BASE, [24:12] COUNT, 0 to 4,096 -/
def NOZ_PLMAP (n : Nat) : Nat := 0x1001020 + 0x40 * n
/-- 9.12: Map for the next commit; layout as NOZ_PLMAP -/
def NOZ_PLMAPS (n : Nat) : Nat := 0x1001024 + 0x40 * n
/-- 9.12: [0] COMMIT (R273) -/
def NOZ_PLCMD (n : Nat) : Nat := 0x1001028 + 0x40 * n
/-- 9.12: [0] BADCFG: last commit refused; cleared by the next accepted commit -/
def NOZ_PLSTAT (n : Nat) : Nat := 0x100102C + 0x40 * n
/-- 9.12: [20:0] tracks in WEAK -/
def NOZ_PLNWEAK (n : Nat) : Nat := 0x1001030 + 0x40 * n
/-- 9.12: [20:0] tracks in OUT -/
def NOZ_PLNOUT (n : Nat) : Nat := 0x1001034 + 0x40 * n
/-- 9.12: [20:0] tracks in DEVIATING -/
def NOZ_PLNDEV (n : Nat) : Nat := 0x1001038 + 0x40 * n
/-- 9.12: Updates applied in the plane, wrapping -/
def NOZ_PLUPD (n : Nat) : Nat := 0x100103C + 0x40 * n
/-- 10.9: [0] RUN; [6:0] of [14:8] greatest intake queue depth since CLRCNT -/
def CRU_STAT : Nat := 0xDC0000
/-- 10.9: [15:0] µs, 1 to 10,000 (R300) -/
def CRU_TWINWAIT : Nat := 0xDC0004
/-- 10.9: [0] CLRCNT: clears the camera counters and CRU_STAT[14:8] -/
def CRU_CMD : Nat := 0xDC0008
/-- 10.9: [11:0] SLACK in lines, 16 to 4,095; [16] IMGEN -/
def CRU_CAMCFG (n : Nat) : Nat := 0xDC1000 + 0x40 * n
/-- 10.9: [4:0] open blocks -/
def CRU_CAMSTAT (n : Nat) : Nat := 0xDC1004 + 0x40 * n
/-- 10.9: BLKSEQ of the next block -/
def CRU_CAMBLKSEQ (n : Nat) : Nat := 0xDC1008 + 0x40 * n
/-- 10.9: D of the oldest open block -/
def CRU_CAMDL_LO (n : Nat) : Nat := 0xDC100C + 0x40 * n
/-- 10.9: D of the oldest open block -/
def CRU_CAMDL_HI (n : Nat) : Nat := 0xDC1010 + 0x40 * n
/-- 10.9: LATE blocks, saturating -/
def CRU_CAMLATE (n : Nat) : Nat := 0xDC1014 + 0x40 * n
/-- 10.9: PARTIAL blocks, saturating -/
def CRU_CAMPART (n : Nat) : Nat := 0xDC1018 + 0x40 * n
/-- 10.9: INLAY_GAP blocks, saturating -/
def CRU_CAMGAP (n : Nat) : Nat := 0xDC101C + 0x40 * n
/-- 10.9: Blocks not kept (R299), saturating -/
def CRU_CAMNOSLOT (n : Nat) : Nat := 0xDC1020 + 0x40 * n
/-- 10.9: Capture-ring address, multiple of 64 -/
def CRU_CAMCRBASE_LO (n : Nat) : Nat := 0xDC1024 + 0x40 * n
/-- 10.9: Capture-ring address, multiple of 64 -/
def CRU_CAMCRBASE_HI (n : Nat) : Nat := 0xDC1028 + 0x40 * n
/-- 10.9: [7:0] SLOTS, 2 to 255 -/
def CRU_CAMCRCFG (n : Nat) : Nat := 0xDC102C + 0x40 * n
/-- 10.9: [7:0] slots in use, [15:8] kept slots -/
def CRU_CAMCRSTAT (n : Nat) : Nat := 0xDC1030 + 0x40 * n
/-- 10.10: [0] EN, [3:1] KIND, [4] MAPEN, [11:5] CAM, [12] ALLCAM, [23:16] ESIZE in 64 bytes -/
def DLV_RCFG (f n : Nat) : Nat := fnBase f + 0x30000 + 0x40 * n
/-- 10.10: Ring address -/
def DLV_RBASE_LO (f n : Nat) : Nat := fnBase f + 0x30004 + 0x40 * n
/-- 10.10: Ring address -/
def DLV_RBASE_HI (f n : Nat) : Nat := fnBase f + 0x30008 + 0x40 * n
/-- 10.10: [4:0] LOG2SIZE, 6 to 20 -/
def DLV_RSIZE (f n : Nat) : Nat := fnBase f + 0x3000C + 0x40 * n
/-- 10.10: Write-back address -/
def DLV_RWB_LO (f n : Nat) : Nat := fnBase f + 0x30010 + 0x40 * n
/-- 10.10: Write-back address -/
def DLV_RWB_HI (f n : Nat) : Nat := fnBase f + 0x30014 + 0x40 * n
/-- 10.10: Producer index, free-running -/
def DLV_RPIDX (f n : Nat) : Nat := fnBase f + 0x30018 + 0x40 * n
/-- 10.10: Consumer index, free-running (R301) -/
def DLV_RCIDX (f n : Nat) : Nat := fnBase f + 0x3001C + 0x40 * n
/-- 10.10: [7:0] MODCNT, [23:8] MODTIME in µs, [29:24] VEC -/
def DLV_RMOD (f n : Nat) : Nat := fnBase f + 0x30020 + 0x40 * n
/-- 10.10: Image data area, multiple of 64 -/
def DLV_RDBASE_LO (f n : Nat) : Nat := fnBase f + 0x30024 + 0x40 * n
/-- 10.10: Image data area, multiple of 64 -/
def DLV_RDBASE_HI (f n : Nat) : Nat := fnBase f + 0x30028 + 0x40 * n
/-- 10.10: [15:0] data area in MiB -/
def DLV_RDSIZE (f n : Nat) : Nat := fnBase f + 0x3002C + 0x40 * n
/-- 10.10: Records and images discarded, saturating -/
def DLV_RLOST (f n : Nat) : Nat := fnBase f + 0x30030 + 0x40 * n
/-- 10.10: [0] FULL; [24:16] entries staged -/
def DLV_RSTAT (f n : Nat) : Nat := fnBase f + 0x30034 + 0x40 * n
/-- 10.10: [7:0] WEIGHT, 1 to 255; [31:16] MINBW in 0.1 GB/s -/
def DLV_TSHARE (f : Nat) : Nat := fnBase f + 0x30400
/-- 10.10: DEFERRED transfers, saturating -/
def DLV_TDEFER (f : Nat) : Nat := fnBase f + 0x30404
/-- 10.10: REFUSED_CAPACITY transfers, saturating -/
def DLV_TREFUSE (f : Nat) : Nat := fnBase f + 0x30408
/-- 10.10: [7:0] DEPTH, [15:8] queued -/
def DLV_TQ (f : Nat) : Nat := fnBase f + 0x3040C
/-- 10.10: Bytes delivered, wrapping -/
def DLV_TBYTES_LO (f : Nat) : Nat := fnBase f + 0x30410
/-- 10.10: Bytes delivered, wrapping -/
def DLV_TBYTES_HI (f : Nat) : Nat := fnBase f + 0x30414
/-- 11.12: [0] reads 1 while open -/
def MEM_LOCK : Nat := 0x2100000
/-- 11.12: [0] EN: controllers serve accesses; [1] SCRUBEN -/
def MEM_CTL : Nat := 0x2100004
/-- 11.12: [0] READY: both stacks trained; [1] INLAY busy; [2] RESALT busy; [3] IMBAL; [5:4] stack s has no sprue left -/
def MEM_STAT : Nat := 0x2100008
/-- 11.12: [0] CE, [1] UE, [2] IMBAL, [3] INLAYDONE, [4] RESALTDONE, [5] PCFAIL, [6] BADCFG -/
def MEM_IRQ : Nat := 0x210000C
/-- 11.12: Interrupt enables; layout as MEM_IRQ -/
def MEM_IEN : Nat := 0x2100010
/-- 11.12: [0] CLRCNT: clears MEM_PCECC and MEM_PARTVIOL; [1] INLAY; [2] RESALT -/
def MEM_CMD : Nat := 0x2100014
/-- 11.12: [5:0] FROM, physical; [13:8] TO, a sprue of the same stack -/
def MEM_INLAYSEL : Nat := 0x2100018
/-- 11.12: [9:0] MiB copied; [16] MIRROR active -/
def MEM_INLAYPROG : Nat := 0x210001C
/-- 11.12: [9:0] PAGE, 0 to 767; [27:16] NEWSALT -/
def MEM_RESALTSEL : Nat := 0x2100020
/-- 11.12: [11:0] sets migrated -/
def MEM_RESALTPROG : Nat := 0x2100024
/-- 11.12: [7:0] RATIO in 1/16, 0x40 = 4.0; [23:8] WINDOW in µs, 100 to 65,535 -/
def MEM_MONCFG : Nat := 0x2100028
/-- 11.12: [5:0] busiest logical channel; [15:8] ratio in 1/16, saturating; [25:16] its busiest hash page -/
def MEM_MONSTAT : Nat := 0x210002C
/-- 11.12: [15:0] PASS in s, 60 to 65,535 -/
def MEM_SCRUB : Nat := 0x2100030
/-- 11.12: [5:0] physical pseudo-channel; the controller rewrites it at each inlay -/
def MEM_PCMAP (n : Nat) : Nat := 0x2100100 + 0x4 * n
/-- 11.12: [1:0] ROLE: 0b00 service, 0b01 sprue, 0b10 SOURCE, 0b11 RETIRED; [7:2] logical channel served; [8] AVAIL: sprue passed its last self-test -/
def MEM_PCSTAT (n : Nat) : Nat := 0x2100200 + 0x4 * n
/-- 11.12: [15:0] corrected, [31:16] uncorrectable; saturating -/
def MEM_PCECC (n : Nat) : Nat := 0x2100300 + 0x4 * n
/-- 11.12: [5:0] MEMBASE in GiB; [8] VALID -/
def MEM_PARTBASE (n : Nat) : Nat := 0x2100400 + 0x10 * n
/-- 11.12: [5:0] MEMSIZE in GiB -/
def MEM_PARTSIZE (n : Nat) : Nat := 0x2100404 + 0x10 * n
/-- 11.12: Refused accesses, saturating -/
def MEM_PARTVIOL (n : Nat) : Nat := 0x2100408 + 0x10 * n
/-- 11.12: [11:0] salt; writable only while MEM_CTL.EN is 0 (R314) -/
def MEM_SALT (n : Nat) : Nat := 0x2101000 + 0x4 * n
/-- 11.13: [0] reads 1 while open -/
def DMA_LOCK (n : Nat) : Nat := 0x2000000 + 0x10000 * n
/-- 11.13: [0] EN -/
def DMA_ENGCTL (n : Nat) : Nat := 0x2000004 + 0x10000 * n
/-- 11.13: [0] RUN; [8:4] channel in service; [9] that field valid; [10] ISOLATED (BUF_UE) -/
def DMA_ENGSTAT (n : Nat) : Nat := 0x2000008 + 0x10000 * n
/-- 11.13: Bytes written, wrapping -/
def DMA_ENGBYTES_LO (n : Nat) : Nat := 0x200000C + 0x10000 * n
/-- 11.13: Bytes written, wrapping -/
def DMA_ENGBYTES_HI (n : Nat) : Nat := 0x2000010 + 0x10000 * n
/-- 11.13: [15:0] corrected, [31:16] uncorrectable; saturating -/
def DMA_ENGECC (n : Nat) : Nat := 0x2000014 + 0x10000 * n
/-- 11.14: [0] MODE: 0 register set, 1 linked; [1] DESCSP; [2] DESCAT; [4:3] PRIO, 3 highest; [15:5] VEC -/
def DMA_CHCFG (c : Nat) : Nat := 0x2001000 + 0x10000 * (c / 32) + 0x400 * (c % 32)
/-- 11.14: [3:0] tenant; [4] VALID; [5] CRU: driven by the crucible -/
def DMA_CHOWN (c : Nat) : Nat := 0x2001004 + 0x10000 * (c / 32) + 0x400 * (c % 32)
/-- 11.14: [0] START, [1] STOP, [2] GO, [3] KICK, [4] CLRERR, [5] CLRCNT -/
def DMA_CHCMD (c : Nat) : Nat := 0x2001008 + 0x10000 * (c / 32) + 0x400 * (c % 32)
/-- 11.14: [2:0] STATE: 0 IDLE, 1 READY, 2 RUN, 3 WAITCR, 4 WAITOWN, 5 STOPPED, 6 HALTED; [7:4] LASTST; [8] SHVALID; [23:16] credits held -/
def DMA_CHSTAT (c : Nat) : Nat := 0x200100C + 0x10000 * (c / 32) + 0x400 * (c % 32)
/-- 11.14: [0] HALF, [1] FULL, [2] HALT, [3] STALL, [4] GOERR, [5] CREDOVF -/
def DMA_CHIRQ (c : Nat) : Nat := 0x2001010 + 0x10000 * (c / 32) + 0x400 * (c % 32)
/-- 11.14: Interrupt enables; layout as DMA_CHIRQ -/
def DMA_CHIEN (c : Nat) : Nat := 0x2001014 + 0x10000 * (c / 32) + 0x400 * (c % 32)
/-- 11.14: [1:0] PACE; [10:2] PACECH, 0 to 511 -/
def DMA_CHPACE (c : Nat) : Nat := 0x2001018 + 0x10000 * (c / 32) + 0x400 * (c % 32)
/-- 11.14: [23:0] stall timeout in µs; 0 acts as 1 -/
def DMA_CHSTALL (c : Nat) : Nat := 0x200101C + 0x10000 * (c / 32) + 0x400 * (c % 32)
/-- 11.14: First descriptor, multiple of 64 -/
def DMA_CHHEAD_LO (c : Nat) : Nat := 0x2001020 + 0x10000 * (c / 32) + 0x400 * (c % 32)
/-- 11.14: First descriptor, multiple of 64 -/
def DMA_CHHEAD_HI (c : Nat) : Nat := 0x2001024 + 0x10000 * (c / 32) + 0x400 * (c % 32)
/-- 11.14: Descriptor in progress or next to run -/
def DMA_CHCUR_LO (c : Nat) : Nat := 0x2001028 + 0x10000 * (c / 32) + 0x400 * (c % 32)
/-- 11.14: Descriptor in progress or next to run -/
def DMA_CHCUR_HI (c : Nat) : Nat := 0x200102C + 0x10000 * (c / 32) + 0x400 * (c % 32)
/-- 11.14: Completion word address in register-set mode, multiple of 8 -/
def DMA_CHWB_LO (c : Nat) : Nat := 0x2001030 + 0x10000 * (c / 32) + 0x400 * (c % 32)
/-- 11.14: Completion word address in register-set mode, multiple of 8 -/
def DMA_CHWB_HI (c : Nat) : Nat := 0x2001034 + 0x10000 * (c / 32) + 0x400 * (c % 32)
/-- 11.14: Descriptors completed, wrapping -/
def DMA_CHDONE (c : Nat) : Nat := 0x2001038 + 0x10000 * (c / 32) + 0x400 * (c % 32)
/-- 11.14: [7:0] credits held; [31:16] credits lost to saturation, saturating -/
def DMA_CHCRED (c : Nat) : Nat := 0x200103C + 0x10000 * (c / 32) + 0x400 * (c % 32)
/-- 11.14: SRC, as Table 11.5 -/
def DMA_RSRC_LO (c : Nat) : Nat := 0x2001100 + 0x10000 * (c / 32) + 0x400 * (c % 32)
/-- 11.14: SRC, as Table 11.5 -/
def DMA_RSRC_HI (c : Nat) : Nat := 0x2001104 + 0x10000 * (c / 32) + 0x400 * (c % 32)
/-- 11.14: DST -/
def DMA_RDST_LO (c : Nat) : Nat := 0x2001108 + 0x10000 * (c / 32) + 0x400 * (c % 32)
/-- 11.14: DST -/
def DMA_RDST_HI (c : Nat) : Nat := 0x200110C + 0x10000 * (c / 32) + 0x400 * (c % 32)
/-- 11.14: LEN -/
def DMA_RLEN (c : Nat) : Nat := 0x2001110 + 0x10000 * (c / 32) + 0x400 * (c % 32)
/-- 11.14: CTL, Table 11.6; LAST is ignored -/
def DMA_RCTL (c : Nat) : Nat := 0x2001114 + 0x10000 * (c / 32) + 0x400 * (c % 32)
/-- 11.14: IDXADDR -/
def DMA_RIDX_LO (c : Nat) : Nat := 0x2001118 + 0x10000 * (c / 32) + 0x400 * (c % 32)
/-- 11.14: IDXADDR -/
def DMA_RIDX_HI (c : Nat) : Nat := 0x200111C + 0x10000 * (c / 32) + 0x400 * (c % 32)
/-- 11.14: IDXCNT -/
def DMA_RIDXCNT (c : Nat) : Nat := 0x2001120 + 0x10000 * (c / 32) + 0x400 * (c % 32)
/-- 11.14: [15:0] ESIZE -/
def DMA_RESIZE (c : Nat) : Nat := 0x2001124 + 0x10000 * (c / 32) + 0x400 * (c % 32)
/-- 12.17: [0] reads 1 while open -/
def HOSTEP_LOCK : Nat := 0x2400000
/-- 12.17: Table 12.18 -/
def HOSTEP_LINK : Nat := 0x2400004
/-- 12.17: Table 12.19 -/
def HOSTEP_IRQ : Nat := 0x2400008
/-- 12.17: Interrupt enables; layout as HOSTEP_IRQ -/
def HOSTEP_IEN : Nat := 0x240000C
/-- 12.17: [0] L0PAUTO (R381); [1] L1REQ: L1 requests allowed (R380) -/
def HOSTEP_CTL : Nat := 0x2400010
/-- 12.17: [2:0] MINW: 0b000 x16, 0b001 x8, 0b010 x4, 0b011 x2, 0b100 x1; [9:3] NARROW in %; [16:10] WIDEN in % -/
def HOSTEP_L0PCFG : Nat := 0x2400014
/-- 12.17: [15:0] window in µs, 10 to 65,535 -/
def HOSTEP_L0PWIN : Nat := 0x2400018
/-- 12.17: [15:0] idle time in µs -/
def HOSTEP_L1IDLE : Nat := 0x240001C
/-- 12.17: [2:0] n of R360 -/
def HOSTEP_VFMEMSZ : Nat := 0x2400020
/-- 12.17: [0] TWIN, [1] THERM -/
def HOSTEP_WAKECFG : Nat := 0x2400024
/-- 12.17: [0] TWIN, [1] THERM: source of the last wake -/
def HOSTEP_WAKESTAT : Nat := 0x2400028
/-- 12.17: [15:0] FLR in progress, bit f -/
def HOSTEP_FLRSTAT : Nat := 0x240002C
/-- 12.17: FLRs completed, wrapping -/
def HOSTEP_FLRCNT : Nat := 0x2400030
/-- 12.17: [15:0] correctable, [31:16] uncorrectable; saturating -/
def HOSTEP_ERRCNT : Nat := 0x2400034
/-- 12.17: Completion timeouts, saturating -/
def HOSTEP_CTOCNT : Nat := 0x2400038
/-- 12.17: [15:0] Completer Aborts sent, [31:16] Unsupported Requests sent; saturating -/
def HOSTEP_CACNT : Nat := 0x240003C
/-- 12.17: Accesses refused under R362, saturating -/
def HOSTEP_SIZEERR : Nat := 0x2400040
/-- 12.17: [13:0] device reads outstanding -/
def HOSTEP_RDOUT : Nat := 0x2400044
/-- 12.17: [15:0] invalidations completed, wrapping; [31:16] translation failures, saturating -/
def HOSTEP_ATS : Nat := 0x2400048
/-- 12.17: [15:0] narrowings, [31:16] widenings; wrapping -/
def HOSTEP_L0PCNT : Nat := 0x240004C
/-- 12.17: [1:0] D-state: 0b00 D0, 0b11 D3hot; [2] memory space enabled; [3] bus master enabled; [4] MSI-X enabled; [5] function masked; [6] ATS enabled; [7] ... -/
def HOSTEP_FNSTAT (n : Nat) : Nat := 0x2400100 + 0x4 * n
/-- 12.20: [10:0] VEC; [31] EN; s = 0 to 319 (R367) -/
def IRQ_ROUTE (n : Nat) : Nat := 0x2C000 + 0x4 * n
/-- 12.20: Bit b: source 32w + b asserted; w = 0 to 9 -/
def IRQ_ASSERT (n : Nat) : Nat := 0x2C800 + 0x4 * n
/-- 13.3: [5:0] SLOT: hands the slot to firmware -/
def MBX_CMDDB (f : Nat) : Nat := fnBase f + 0x18000
/-- 13.3: Bit s: slot s is held by firmware, s = 0 to 31 -/
def MBX_SLOTBUSY_LO (f : Nat) : Nat := fnBase f + 0x18004
/-- 13.3: Bit s: slot s + 32 is held -/
def MBX_SLOTBUSY_HI (f : Nat) : Nat := fnBase f + 0x18008
/-- 13.3: Responses written, free-running -/
def MBX_RSPPIDX (f : Nat) : Nat := fnBase f + 0x1800C
/-- 13.3: Responses consumed, free-running; a write that would pass MBX_RSPPIDX is ignored -/
def MBX_RSPCIDX (f : Nat) : Nat := fnBase f + 0x18010
/-- 13.3: [10:0] VEC; [16] RIEN: VEC on a response whose command set FLAGS.IRQ; [17] NIEN: VEC on each notice -/
def MBX_CTL (f : Nat) : Nat := fnBase f + 0x18014
/-- 13.3: [0] READY: firmware serves commands; [1] RESTART; [2] UPDATE: live update in progress; [3] FENCED; [4] NOTENANT -/
def MBX_STAT (f : Nat) : Nat := fnBase f + 0x18018
/-- 13.3: [15:0] doorbells ignored, [31:16] writes to held slots discarded; saturating -/
def MBX_ERR (f : Nat) : Nat := fnBase f + 0x1801C
/-- 13.3: [15:0] DEFERRED, [31:16] REFUSED_CAPACITY answers; saturating -/
def MBX_CAPCNT (f : Nat) : Nat := fnBase f + 0x18020
/-- 13.3: Notices lost (R397), saturating -/
def MBX_NOTLOST (f : Nat) : Nat := fnBase f + 0x18024
/-- 13.3: [0] EN; [63:3] write-back address, a multiple of 8 -/
def MBX_RSPWB_LO (f : Nat) : Nat := fnBase f + 0x18028
/-- 13.3: [0] EN; [63:3] write-back address, a multiple of 8 -/
def MBX_RSPWB_HI (f : Nat) : Nat := fnBase f + 0x1802C
/-- 13.3: Any write gives channel ch a KICK (R335) -/
def MBX_DMAKICK (f n : Nat) : Nat := fnBase f + 0x19000 + 0x4 * n
/-- 13.22: [0] reads 1 while open -/
def BENCH_LOCK : Nat := 0x2300000
/-- 13.22: [4:0] cores in service; [5] sprue in use; [7:6] core the sprue replaces; [8] RESTART; [9] UPDATE -/
def BENCH_STAT : Nat := 0x2300004
/-- 13.22: [0] RESTART (R391) -/
def BENCH_CMD : Nat := 0x2300008
/-- 13.22: [0] CORE: core inlaid; [1] RESTARTED; [2] UPDATED; [3] UPDFAIL -/
def BENCH_IRQ : Nat := 0x230000C
/-- 13.22: Interrupt enables; layout as BENCH_IRQ -/
def BENCH_IEN : Nat := 0x2300010
/-- 13.22: [13:0] REQ, bit u for POS, TRG, EVR, LANE, LINK, PIPE, ASSAY, NOZ, DMA, MEM, TWIN, CLK, PWR, HOSTEP in that order; [29:16] GRANT, read-only -/
def BENCH_DWCLAIM : Nat := 0x2300014
/-- 13.22: [15:0] restarts since device reset, saturating -/
def BENCH_RESTARTS : Nat := 0x2300018
/-- 13.22: Minimum SVN -/
def BENCH_SVNMIN : Nat := 0x230001C
/-- 13.22: [3:0] slot programmed; [7:4] slot revoked -/
def BENCH_KEYS : Nat := 0x2300020
/-- 13.22: Device time [31:0] of core c's last watchdog write, c = 0 to 4 -/
def BENCH_WDOG (n : Nat) : Nat := 0x2300040 + 0x4 * n
/-- 14.11: [0] reads 1 while open -/
def TWIN_LOCK : Nat := 0x2200000
/-- 14.11: Table 14.12 -/
def TWIN_CTL : Nat := 0x2200004
/-- 14.11: [0] PAIR, [1] FENCE, [2] FENCEPEER, [3] UNFENCE, [4] HANDOVER, [5] UNPAIR, [6] CLRCNT: clears 0x020 to 0x02C -/
def TWIN_CMD : Nat := 0x2200008
/-- 14.11: Table 14.13; ROLE NONE at reset -/
def TWIN_STAT : Nat := 0x220000C
/-- 14.11: Table 14.14 -/
def TWIN_IRQ : Nat := 0x2200010
/-- 14.11: Interrupt enables; layout as TWIN_IRQ -/
def TWIN_IEN : Nat := 0x2200014
/-- 14.11: [15:0] lead epoch (R426) -/
def TWIN_EPOCH : Nat := 0x2200018
/-- 14.11: [7:0] lane n in the bond; [15:8] lane n past DETECT -/
def TWIN_LANES : Nat := 0x220001C
/-- 14.11: Heartbeat SEQ values never received, saturating -/
def TWIN_HBMISS : Nat := 0x2200020
/-- 14.11: Digests compared, wrapping -/
def TWIN_DIGCMP : Nat := 0x2200024
/-- 14.11: [15:0] mismatches, [31:16] late digests; saturating -/
def TWIN_DIGERR : Nat := 0x2200028
/-- 14.11: [15:0] NOZDIFF, [31:16] g differences; saturating -/
def TWIN_DIFF : Nat := 0x220002C
/-- 14.11: Last OFS, signed, 1/16 tick -/
def TWIN_TOFS : Nat := 0x2200030
/-- 14.11: [23:0] link delay, 1/16 tick -/
def TWIN_TDLY : Nat := 0x2200034
/-- 14.11: [15:0] OFS limit, 1/16 tick (R427) -/
def TWIN_TLIM : Nat := 0x2200038
/-- 14.11: Activation lead in PT (R434) -/
def TWIN_ACTLEAD : Nat := 0x220003C
/-- 14.11: Own configuration digest -/
def TWIN_CFGDIG_LO : Nat := 0x2200040
/-- 14.11: Own configuration digest -/
def TWIN_CFGDIG_HI : Nat := 0x2200044
/-- 14.11: Partner's configuration digest -/
def TWIN_PEERCFG_LO : Nat := 0x2200048
/-- 14.11: Partner's configuration digest -/
def TWIN_PEERCFG_HI : Nat := 0x220004C
/-- 14.11: Partner's serial number -/
def TWIN_PEERSER_LO : Nat := 0x2200050
/-- 14.11: Partner's serial number -/
def TWIN_PEERSER_HI : Nat := 0x2200054
/-- 14.11: Partner's firmware VERSION -/
def TWIN_PEERVER : Nat := 0x2200058
/-- 14.11: Device time of the last state change -/
def TWIN_CHGT_LO : Nat := 0x2200060
/-- 14.11: Device time of the last state change -/
def TWIN_CHGT_HI : Nat := 0x2200064
/-- 14.11: [7:0] takeovers, [15:8] partitions, [23:16] handovers, [31:24] step-downs; saturating -/
def TWIN_EVCNT : Nat := 0x2200068
/-- 15.8: [0] reads 1 while open -/
def CLK_LOCK : Nat := 0x200000
/-- 15.8: [0] PREF: 0 REF_IN, 1 twin-recovered; [1] AUTOREV (R454) -/
def CLK_TBSEL : Nat := 0x200004
/-- 15.8: [0] SRC active; [1] SWITCH; [2] HOLDOVER; [3] HOLDOFF; [4] LOCK: TBPLL locked -/
def CLK_TBSTAT : Nat := 0x200008
/-- 15.8: [0] REFOK, [1] TWOK, [2] PCIOK; [21:8] PLL n locked, n = 0 to 13 -/
def CLK_MON : Nat := 0x20000C
/-- 15.8: [0] SRCCHG, [1] REFLOST, [2] TWLOST, [3] PCILOST, [4] PLLUNLOCK, [5] MUXHANG, [6] TPDONE -/
def CLK_IRQ : Nat := 0x200010
/-- 15.8: Interrupt enables; layout as CLK_IRQ -/
def CLK_IEN : Nat := 0x200014
/-- 15.8: [0] TBSWITCH: switch to PREF now, if PREF is good -/
def CLK_CMD : Nat := 0x200018
/-- 15.8: [7:0] fallbacks, [15:8] returns, [23:16] mux hangs; saturating -/
def CLK_SWCNT : Nat := 0x20001C
/-- 15.8: [11:0] FREQ in MHz; n = 1 to 5 only. RO for n = 0 and 6 to 13 -/
def CLK_PLLCFG (n : Nat) : Nat := 0x200100 + 0x4 * n
/-- 15.8: [0] LOCK, [1] SLEW, [27:16] output in MHz -/
def CLK_PLLSTAT (n : Nat) : Nat := 0x200140 + 0x4 * n
/-- 15.8: [0] SEL: 0 bypass, 1 PLL; d = 0 to 14. Read-only for d = 0 and 1 from start-up step 2 (R449). A write is ignored for d = 2 to 9 while the group has... -/
def CLK_MUX (n : Nat) : Nat := 0x200200 + 0x4 * n
/-- 15.8: [0] SEL in effect, [1] BUSY, [2] HUNG -/
def CLK_MUXSTAT (n : Nat) : Nat := 0x200240 + 0x4 * n
/-- 15.8: Enables of Table 15.3, w = 0 to 7 -/
def CLK_GATE (n : Nat) : Nat := 0x200300 + 0x4 * n
/-- 15.8: [2:0] TARGET, 0 to 5; 6 and 7 act as 5 -/
def CLK_TPCFG (n : Nat) : Nat := 0x200400 + 0x4 * n
/-- 15.8: [2:0] POINT, [3] BUSY, [25:16] regulator voltage in mV -/
def CLK_TPSTAT (n : Nat) : Nat := 0x200420 + 0x4 * n
/-- 15.8: [11:0] PGCLK in MHz, [25:16] voltage in mV; p = 0 to 5 -/
def CLK_TPTAB (n : Nat) : Nat := 0x200440 + 0x4 * n
/-- 15.9: [0] reads 1 while open -/
def PWR_LOCK : Nat := 0x300000
/-- 15.9: [23:0] domain d on -/
def PWR_ON : Nat := 0x300004
/-- 15.9: [0] ON, [1] OFF, [2] DRAINTMO, [3] IVR, [4] THERMWARN, [5] THERMHOT, [6] REFUSED, [7] PWRTMO -/
def PWR_IRQ : Nat := 0x300008
/-- 15.9: Interrupt enables; layout as PWR_IRQ -/
def PWR_IEN : Nat := 0x30000C
/-- 15.9: [7:0] WARN, [15:8] HOT, [23:16] WAKE; °C, unsigned -/
def PWR_THERM : Nat := 0x300010
/-- 15.9: [15:0] hottest junction, signed 1/16 °C; [20:16] sensor -/
def PWR_TEMP : Nat := 0x300014
/-- 15.9: [15:0] device power from the rail monitors, 0.1 W -/
def PWR_POWER : Nat := 0x300018
/-- 15.9: Writes discarded under R471, saturating -/
def PWR_DRAINCNT : Nat := 0x30001C
/-- 15.9: [0] ON requested; RO for d = 0, 1, 3 -/
def PWR_CTL (n : Nat) : Nat := 0x300100 + 0x4 * n
/-- 15.9: [2:0] STATE: 0 OFF, 1 RAMP, 2 INIT, 3 ON, 4 DRAIN, 5 ISOLATED; [3] ISO; [4] RST; [31:16] power-on count, wrapping -/
def PWR_DSTAT (n : Nat) : Nat := 0x300200 + 0x4 * n
/-- 16.10: [0] reads 1 while open -/
def TOUCH_LOCK : Nat := 0x100000
/-- 16.10: [15:0] ACTIVE of class c; [31:16] UNACK of class c -/
def TOUCH_STAT : Nat := 0x100004
/-- 16.10: [0] RECORD: a record was written; [1] ESCAL: a record escalated; [2] L3: a tenant reset began; [3] L4RESET: the last device reset came from L4; [4]... -/
def TOUCH_IRQ : Nat := 0x100008
/-- 16.10: Interrupt enables; layout as TOUCH_IRQ -/
def TOUCH_IEN : Nat := 0x10000C
/-- 16.10: [15:0] acknowledge class c (R486); bits read 0 -/
def TOUCH_ACK : Nat := 0x100010
/-- 16.10: SEQ of the next record -/
def TOUCH_RECWR : Nat := 0x100014
/-- 16.10: SEQ of the next record that bench firmware reads -/
def TOUCH_RECRD : Nat := 0x100018
/-- 16.10: Records overwritten unread, saturating -/
def TOUCH_RECLOST : Nat := 0x10001C
/-- 16.10: [30:0] SEQ [30:0] of the record of the last L4 reset; [31] VALID -/
def TOUCH_L4SEQ : Nat := 0x100020
/-- 16.10: [3:0] CLASS; [15:8] signature number; [31:16] SRC -/
def TOUCH_FORCE : Nat := 0x100024
/-- 16.10: [0] GO (R493) -/
def TOUCH_FORCECMD : Nat := 0x100028
/-- 16.10: [15:0] forces performed, [31:16] forces refused; saturating -/
def TOUCH_FORCECNT : Nat := 0x10002C
/-- 16.10: [23:0] QUIET in µs (R488); [26:24] ESCMAX, 0 to 4, where 5 to 7 act as 4 -/
def TOUCH_CLSCFG (n : Nat) : Nat := 0x100100 + 0x10 * n
/-- 16.10: [2:0] LEVEL; [3] ACTIVE; [4] UNACK; [5] CAUSE: a cause of the class is present; [31:16] SEQ [15:0] of the class's last record -/
def TOUCH_CLSSTAT (n : Nat) : Nat := 0x100104 + 0x10 * n
/-- 16.10: [15:0] recoveries, saturating -/
def TOUCH_RECOV (n : Nat) : Nat := 0x100108 + 0x10 * n
/-- 16.10: [15:0] first source (R492); [16] VALID; [17] OVF; 0 for classes other than 0, 2, 3, 4 and 6 -/
def TOUCH_ARRAY (n : Nat) : Nat := 0x10010C + 0x10 * n
/-- 16.11: ADDR of the first error -/
def TOUCH_FECADDR_LO (n : Nat) : Nat := 0x100200 + 0x20 * n
/-- 16.11: ADDR of the first error -/
def TOUCH_FECADDR_HI (n : Nat) : Nat := 0x100204 + 0x20 * n
/-- 16.11: [15:0] MASTER; [19:16] ACCESS; [23:20] CLASS; [31:24] signature number -/
def TOUCH_FECINFO (n : Nat) : Nat := 0x100208 + 0x20 * n
/-- 16.11: Device time of the first error -/
def TOUCH_FECT_LO (n : Nat) : Nat := 0x10020C + 0x20 * n
/-- 16.11: Device time of the first error -/
def TOUCH_FECT_HI (n : Nat) : Nat := 0x100210 + 0x20 * n
/-- 16.11: [0] VALID: write 1 to clear and re-arm; [1] OVF, cleared with VALID; [31:16] later errors, saturating, cleared with VALID -/
def TOUCH_FECSTAT (n : Nat) : Nat := 0x100214 + 0x20 * n
/-- 17.9: Table 17.10; VF -/
def GLB_ID : Nat := 0x0
/-- 17.9: Constant (R383); VF -/
def GLB_SIGNATURE : Nat := 0x4
/-- 17.9: Device time (R12), read under R5; VF -/
def GLB_DEVTIME_LO : Nat := 0x8
/-- 17.9: Device time (R12), read under R5; VF -/
def GLB_DEVTIME_HI : Nat := 0xC
/-- 17.9: [0] reads 1 while open -/
def GLB_LOCK : Nat := 0x10
/-- 17.9: [0] QONL4; [1] QPINEN (R514) -/
def GLB_CTL : Nat := 0x14
/-- 17.9: Table 17.11 -/
def GLB_BOOTSTAT : Nat := 0x18
/-- 17.9: [3:0] CAUSE (Table 17.1); [4] QUENCHED; [5] QSRC: 0 pin, 1 register or L4; [31:16] resets since POR, wrapping -/
def GLB_RSTCAUSE : Nat := 0x1C
/-- 17.9: 0x0000_D1E5: device reset -/
def GLB_RESET : Nat := 0x20
/-- 17.9: 0x0000_C0DA: quench -/
def GLB_QUENCH : Nat := 0x24
/-- 17.9: [0] LOADMEM (R509) -/
def GLB_BOOTCMD : Nat := 0x28
/-- 17.9: [24:0] recovery image length in bytes -/
def GLB_RECOVLEN : Nat := 0x2C
/-- 17.9: [19:0] tR to READY of the last start-up, ms -/
def GLB_BOOTTIME : Nat := 0x30
/-- 4.7:  -/
def EVR_CHTEN (n : Nat) : Nat := 0x601000 + 0x4 * n
/-- 4.8:  -/
def EVR_PUB (n : Nat) : Nat := 0x610000 + 0x4 * n
/-- 4.9:  -/
def EVR_SUB (n : Nat) : Nat := 0x620000 + 0x4 * n
/-- 9.14:  -/
def NOZ_BANK (n : Nat) : Nat := 0x1000800 + 0x4 * n

/-- The active copy of a PIPE or assay context register (suffix A, R545). -/
def act (shadow : Nat) : Nat := shadow + 0x100
/-- Twin lane n's copy of a LANE register offset (R447, prefix TWIN_LN). -/
def TWIN_LN (off n : Nat) : Nat := 0x2201000 + 0x100 * n + off
/-- Word w (0 to 3) of MSI-X table entry v of function f (Table 12.20). -/
def MSIX (f v w : Nat) : Nat := fnBase f + 0x20000 + 16 * v + 4 * w
/-- Word w of the pending bit array of function f (Table 12.20). -/
def PBA (f w : Nat) : Nat := fnBase f + 0x28000 + 4 * w
/-- Byte offset o of the command slots of function f's mailbox block (Table 13.2). -/
def MBX_SLOT (f o : Nat) : Nat := fnBase f + 0x10000 + o
/-- Byte offset o of the response slots of function f's mailbox block (Table 13.2). -/
def MBX_RSP (f o : Nat) : Nat := fnBase f + 0x14000 + o
/-- Word w of the touchstone's record store (R501: record SEQ n at 64 (n mod 256)). -/
def TOUCH_REC (n w : Nat) : Nat := 0x101000 + 64 * (n % 256) + 4 * w
/-- Word w of camera c's capability record (Table 6.9). -/
def LINK_CAPREC (c w : Nat) : Nat := 0xA40000 + 0x80 * c + 4 * w
/-- Word w of format table f of camera c (Tables 6.10, 6.11). -/
def LINK_FMTMEM (c f w : Nat) : Nat := 0xA80000 + 0x1000 * c + 0x100 * f + 4 * w
/-- Word w of entry i of view v's placement queue (R267). -/
def ASY_PLQ (v i w : Nat) : Nat := 0xE04000 + 0x400 * v + 16 * i + 4 * w
/-- Byte offset o of render set s (Table 8.3). -/
def RSET (s o : Nat) : Nat := 0xF00000 + 0x10000 * s + o
/-- Word w of nozzle map segment g (Table 9.2). -/
def NOZ_SEG (g w : Nat) : Nat := 0x1100000 + 16 * g + 4 * w
/-- Word w of track t (Table 9.1, R287). -/
def NOZ_TRK (t w : Nat) : Nat := 0x1400000 + 12 * t + 4 * w
/-- Word w of compare memory entry e (R101): the memory behind the window of TRG_CMEMPAGE. -/
def CMEM (e w : Nat) : Nat := 0x100000000 + 16 * e + 4 * w
/-- Byte offset o of table t (0 shading, 1 defect map, 2 tone) in bank b of pipeline n (R228). -/
def PTAB (n b t o : Nat) : Nat := 0x200000000 + ((n * 2 + b) * 4 + t) * 0x10000 + o
/-- Byte offset o of assay table bank b of pipeline n (Table 8.3). -/
def ATAB (n b o : Nat) : Nat := 0x400000000 + (n * 2 + b) * 0x10000 + o
/-- The image in device memory of a word of a pipeline's banks (R226). -/
def IMG (k : Nat) : Nat := 0x1000000000 + k

/-- One register, or a set of them at fixed strides: copy (i, j) lies at base + i*s1 + j*s2.
rw, rwl and w1c are the bits of each type (Table 0.3); the other bits are read-only or a command's.
Data only: a mistaken row is mended by its value in the lists below. -/
structure Row where
  base : Nat
  s1 : Nat
  c1 : Nat
  s2 : Nat
  c2 : Nat
  rw : Nat
  rwl : Nat
  w1c : Nat
  reset : Nat
  deriving DecidableEq, Repr

/-- Whether address a is a copy of this row's register. -/
def Row.hit (r : Row) (a : Nat) : Bool :=
  decide (r.base ≤ a) && decide ((a - r.base) / r.s1 < r.c1) &&
    decide (((a - r.base) % r.s1) / r.s2 < r.c2) && decide (((a - r.base) % r.s1) % r.s2 = 0)

/-- Register rows: pos. -/
def posRows0 : List Row := [
  ⟨0x400000, 0x4, 1, 0x4, 1, 0x0, 0x0, 0x0, 0x0⟩,
  ⟨0x400004, 0x4, 1, 0x4, 1, 0x0, 0x0, 0x0, 0x0⟩,
  ⟨0x400008, 0x4, 1, 0x4, 1, 0x0, 0x0, 0x0, 0x0⟩,
  ⟨0x40000C, 0x4, 1, 0x4, 1, 0x0, 0x0, 0x0, 0x0⟩,
  ⟨0x400010, 0x4, 1, 0x4, 1, 0x0, 0x0, 0x0, 0x0⟩,
  ⟨0x401000, 0x400, 8, 0x400, 1, 0x0, 0x1, 0x0, 0x0⟩,
  ⟨0x401004, 0x400, 8, 0x400, 1, 0x0, 0x1FF, 0x0, 0x0⟩,
  ⟨0x401008, 0x400, 8, 0x400, 1, 0x0, 0x0, 0x0, 0x0⟩,
  ⟨0x40100C, 0x400, 8, 0x400, 1, 0x0, 0x0, 0x0, 0x0⟩,
  ⟨0x401010, 0x400, 8, 0x400, 1, 0x0, 0x0, 0x0, 0x0⟩,
  ⟨0x401014, 0x400, 8, 0x400, 1, 0x0, 0x0, 0xFFF, 0x0⟩,
  ⟨0x401018, 0x400, 8, 0x400, 1, 0xFFF, 0x0, 0x0, 0x0⟩,
  ⟨0x401020, 0x400, 8, 0x400, 1, 0x0, 0x0, 0x0, 0x0⟩,
  ⟨0x401024, 0x400, 8, 0x400, 1, 0x0, 0x0, 0x0, 0x0⟩,
  ⟨0x401028, 0x400, 8, 0x400, 1, 0x0, 0x0, 0x0, 0x0⟩,
  ⟨0x40102C, 0x400, 8, 0x400, 1, 0x0, 0x0, 0x0, 0x0⟩,
  ⟨0x401030, 0x400, 8, 0x400, 1, 0x0, 0x0, 0x0, 0x0⟩,
  ⟨0x401038, 0x400, 8, 0x400, 1, 0x0, 0x0, 0x0, 0x0⟩,
  ⟨0x40103C, 0x400, 8, 0x400, 1, 0x0, 0x0, 0x0, 0x0⟩,
  ⟨0x401040, 0x400, 8, 0x400, 1, 0x0, 0x1FFFF, 0x0, 0x3E8⟩,
  ⟨0x401044, 0x400, 8, 0x400, 1, 0x0, 0x1FFF, 0x0, 0x10⟩,
  ⟨0x401048, 0x400, 8, 0x400, 1, 0x0, 0x1FFF, 0x0, 0x10⟩,
  ⟨0x40104C, 0x400, 8, 0x400, 1, 0x0, 0xFFFF, 0x0, 0x64⟩,
  ⟨0x401050, 0x400, 8, 0x400, 1, 0x0, 0x0, 0x0, 0x0⟩,
  ⟨0x401054, 0x400, 8, 0x400, 1, 0x0, 0x0, 0x0, 0x0⟩,
  ⟨0x401058, 0x400, 8, 0x400, 1, 0x0, 0xFFFF, 0x0, 0x2000⟩,
  ⟨0x40105C, 0x400, 8, 0x400, 1, 0x0, 0x1FFFF, 0x0, 0x2710⟩,
  ⟨0x401060, 0x400, 8, 0x400, 1, 0x0, 0x0, 0x0, 0x0⟩,
  ⟨0x401064, 0x400, 8, 0x400, 1, 0x0, 0x0, 0x0, 0x0⟩,
  ⟨0x401068, 0x400, 8, 0x400, 1, 0x0, 0x0, 0x0, 0x0⟩,
  ⟨0x40106C, 0x400, 8, 0x400, 1, 0x0, 0x0, 0x0, 0x0⟩,
  ⟨0x401070, 0x400, 8, 0x400, 1, 0x0, 0x0, 0x0, 0x0⟩,
  ⟨0x401074, 0x400, 8, 0x400, 1, 0x0, 0x0, 0x0, 0x0⟩,
  ⟨0x401078, 0x400, 8, 0x400, 1, 0x0, 0xFFFFFFFF, 0x0, 0x0⟩,
  ⟨0x40107C, 0x400, 8, 0x400, 1, 0x0, 0xFFFFFF, 0x0, 0x800⟩,
  ⟨0x401080, 0x400, 8, 0x400, 1, 0x0, 0x0, 0x0, 0x0⟩,
  ⟨0x401084, 0x400, 8, 0x400, 1, 0x0, 0xFFFFFFFF, 0x0, 0x1B0A07D7⟩,
  ⟨0x401088, 0x400, 8, 0x400, 1, 0x0, 0xFF, 0x0, 0x8⟩,
  ⟨0x40108C, 0x400, 8, 0x400, 1, 0x0, 0x0, 0x0, 0x0⟩,
  ⟨0x401090, 0x400, 8, 0x400, 1, 0x0, 0xFFFFFFFF, 0x0, 0x0⟩]
/-- Register rows: pos. -/
def posRows1 : List Row := [
  ⟨0x401094, 0x400, 8, 0x400, 1, 0x0, 0xFFFF, 0x0, 0x8000⟩,
  ⟨0x401098, 0x400, 8, 0x400, 1, 0x0, 0x0, 0x0, 0x0⟩,
  ⟨0x40109C, 0x400, 8, 0x400, 1, 0x0, 0x3FFFF, 0x0, 0x0⟩,
  ⟨0x4010A0, 0x400, 8, 0x400, 1, 0x0, 0xFFFF, 0x0, 0x0⟩,
  ⟨0x4010A4, 0x400, 8, 0x400, 1, 0x0, 0xFFFFFF, 0x0, 0x1E012B⟩,
  ⟨0x4010A8, 0x400, 8, 0x400, 1, 0x0, 0xFFF, 0x0, 0x0⟩,
  ⟨0x4010AC, 0x400, 8, 0x400, 1, 0x0, 0xFFFF, 0x0, 0x0⟩,
  ⟨0x4010B0, 0x400, 8, 0x400, 1, 0x0, 0xFFFFFFFF, 0x0, 0x100⟩,
  ⟨0x4010B4, 0x400, 8, 0x400, 1, 0x0, 0xFFFFFFFF, 0x0, 0x0⟩,
  ⟨0x4010B8, 0x400, 8, 0x400, 1, 0x0, 0xFFFF, 0x0, 0x0⟩,
  ⟨0x4010BC, 0x400, 8, 0x400, 1, 0x0, 0xFFFFFFFF, 0x0, 0xFFFFFFFF⟩,
  ⟨0x4010C0, 0x400, 8, 0x400, 1, 0x0, 0x0, 0x0, 0x0⟩,
  ⟨0x4010C8, 0x400, 8, 0x400, 1, 0x0, 0x0, 0x0, 0x0⟩,
  ⟨0x4010CC, 0x400, 8, 0x400, 1, 0x0, 0x0, 0x0, 0x0⟩,
  ⟨0x4010D0, 0x400, 8, 0x400, 1, 0x0, 0x0, 0x0, 0x0⟩,
  ⟨0x4010D4, 0x400, 8, 0x400, 1, 0x0, 0x0, 0x0, 0x0⟩,
  ⟨0x4010D8, 0x400, 8, 0x400, 1, 0x0, 0xFFFFFFFF, 0x0, 0x1000⟩,
  ⟨0x4010DC, 0x400, 8, 0x400, 1, 0x0, 0x0, 0x0, 0x0⟩]
/-- Register rows: pos. -/
def posRows : List Row := posRows0 ++ posRows1
/-- Register rows: trgGlobal. -/
def trgGlobalRows : List Row := [
  ⟨0x500000, 0x4, 1, 0x4, 1, 0x0, 0x0, 0x0, 0x0⟩,
  ⟨0x500040, 0x4, 16, 0x4, 1, 0x0, 0x1FF01FF, 0x0, 0x0⟩,
  ⟨0x500008, 0x4, 1, 0x4, 1, 0x1, 0x0, 0x0, 0x0⟩,
  ⟨0x50000C, 0x4, 1, 0x4, 1, 0x0, 0x0, 0x0, 0x0⟩,
  ⟨0x500010, 0x4, 1, 0x4, 1, 0x0, 0x0, 0x0, 0x0⟩,
  ⟨0x500014, 0x4, 1, 0x4, 1, 0x0, 0x0, 0x0, 0x0⟩]
/-- Register rows: trgGen. -/
def trgGenRows : List Row := [
  ⟨0x510000, 0x100, 96, 0x100, 1, 0x0, 0x3FFFFFF, 0x0, 0x0⟩,
  ⟨0x510004, 0x100, 96, 0x100, 1, 0x0, 0x0, 0x0, 0x0⟩,
  ⟨0x510008, 0x100, 96, 0x100, 1, 0x0, 0x0, 0x0, 0x0⟩,
  ⟨0x51000C, 0x100, 96, 0x100, 1, 0x0, 0x0, 0x0, 0x0⟩,
  ⟨0x510010, 0x100, 96, 0x100, 1, 0x0, 0xFFFFFF, 0x0, 0x0⟩,
  ⟨0x510014, 0x100, 96, 0x100, 1, 0x0, 0xFFFFFFFF, 0x0, 0x0⟩,
  ⟨0x510018, 0x100, 96, 0x100, 1, 0x0, 0xFFFFFFFF, 0x0, 0x0⟩,
  ⟨0x51001C, 0x100, 96, 0x100, 1, 0x0, 0xFFFF, 0x0, 0x0⟩,
  ⟨0x510020, 0x100, 96, 0x100, 1, 0x0, 0xFFFF, 0x0, 0x280⟩,
  ⟨0x510024, 0x100, 96, 0x100, 1, 0x0, 0xFFFFF, 0x0, 0x190⟩,
  ⟨0x510028, 0x100, 96, 0x100, 1, 0x0, 0x7FF, 0x0, 0x100⟩,
  ⟨0x51002C, 0x100, 96, 0x100, 1, 0x0, 0xFFFFFFFF, 0x0, 0x0⟩,
  ⟨0x510030, 0x100, 96, 0x100, 1, 0x0, 0xFFFFFF, 0x0, 0x0⟩,
  ⟨0x510034, 0x100, 96, 0x100, 1, 0x0, 0x0, 0x0, 0x0⟩,
  ⟨0x510038, 0x100, 96, 0x100, 1, 0x0, 0x0, 0x0, 0x0⟩,
  ⟨0x51003C, 0x100, 96, 0x100, 1, 0x0, 0x0, 0x0, 0x0⟩,
  ⟨0x510040, 0x100, 96, 0x100, 1, 0x0, 0x0, 0x0, 0x0⟩,
  ⟨0x510044, 0x100, 96, 0x100, 1, 0x0, 0x0, 0x0, 0x0⟩,
  ⟨0x510048, 0x100, 96, 0x100, 1, 0x0, 0x0, 0x0, 0x0⟩,
  ⟨0x51004C, 0x100, 96, 0x100, 1, 0x0, 0x0, 0x0, 0x0⟩,
  ⟨0x510050, 0x100, 96, 0x100, 1, 0x0, 0x0, 0x0, 0x0⟩,
  ⟨0x510054, 0x100, 96, 0x100, 1, 0x0, 0x0, 0x0, 0x0⟩]
/-- Register rows: trgList. -/
def trgListRows : List Row := [
  ⟨0x520000, 0x40, 64, 0x40, 1, 0x0, 0x1F, 0x0, 0x0⟩,
  ⟨0x520004, 0x40, 64, 0x40, 1, 0x0, 0xFFFF, 0x0, 0x0⟩,
  ⟨0x520008, 0x40, 64, 0x40, 1, 0x0, 0x1FFFF, 0x0, 0x1⟩,
  ⟨0x52000C, 0x40, 64, 0x40, 1, 0x0, 0x0, 0x0, 0x0⟩,
  ⟨0x520010, 0x40, 64, 0x40, 1, 0x0, 0x0, 0x0, 0x0⟩,
  ⟨0x520014, 0x40, 64, 0x40, 1, 0x0, 0x0, 0x0, 0x0⟩,
  ⟨0x520018, 0x40, 64, 0x40, 1, 0x0, 0x0, 0x0, 0x0⟩,
  ⟨0x52001C, 0x40, 64, 0x40, 1, 0x0, 0x0, 0x0, 0x0⟩,
  ⟨0x520020, 0x40, 64, 0x40, 1, 0x0, 0x0, 0x0, 0x0⟩,
  ⟨0x520024, 0x40, 64, 0x40, 1, 0x0, 0x0, 0x0, 0x1⟩]
/-- Register rows: trgPin. -/
def trgPinRows : List Row := [
  ⟨0x530000, 0x20, 32, 0x20, 1, 0x0, 0x7FF, 0x0, 0x0⟩,
  ⟨0x530004, 0x20, 32, 0x20, 1, 0x0, 0xFFFFFF, 0x0, 0x20⟩,
  ⟨0x530008, 0x20, 32, 0x20, 1, 0x0, 0x0, 0x0, 0x0⟩,
  ⟨0x53000C, 0x20, 32, 0x20, 1, 0x0, 0x0, 0x0, 0x0⟩,
  ⟨0x530010, 0x20, 32, 0x20, 1, 0x0, 0x0, 0x0, 0x0⟩,
  ⟨0x530800, 0x10, 16, 0x10, 1, 0x0, 0xFFF, 0x0, 0x0⟩,
  ⟨0x531000, 0x40, 16, 0x40, 1, 0x0, 0xFFFFFFF, 0x0, 0x80⟩,
  ⟨0x531008, 0x40, 16, 0x40, 1, 0x0, 0x0, 0x0, 0x0⟩,
  ⟨0x53100C, 0x40, 16, 0x40, 1, 0x0, 0x0, 0x0, 0x0⟩,
  ⟨0x531010, 0x40, 16, 0x40, 1, 0x0, 0x0, 0x0, 0x0⟩,
  ⟨0x531014, 0x40, 16, 0x40, 1, 0x0, 0x0, 0x0, 0x0⟩,
  ⟨0x531018, 0x40, 16, 0x40, 1, 0x0, 0x0, 0x0, 0x0⟩,
  ⟨0x53101C, 0x40, 16, 0x40, 1, 0x0, 0x0, 0x0, 0x0⟩]
/-- Register rows: evr. -/
def evrRows : List Row := [
  ⟨0x600000, 0x4, 1, 0x4, 1, 0x0, 0x0, 0x0, 0x0⟩,
  ⟨0x600004, 0x4, 1, 0x4, 1, 0x0, 0x0, 0x0, 0x0⟩,
  ⟨0x601000, 0x4, 256, 0x4, 1, 0x0, 0xFFFF000F, 0x0, 0x0⟩,
  ⟨0x610000, 0x4, 1024, 0x4, 1, 0x0, 0x1FF, 0x0, 0x0⟩,
  ⟨0x620000, 0x4, 1024, 0x4, 1, 0x0, 0x1FFFF, 0x0, 0x0⟩]
/-- Register rows: laneGlobal. -/
def laneGlobalRows : List Row := [
  ⟨0x880000, 0x4, 1, 0x4, 1, 0x0, 0x0, 0x0, 0x0⟩,
  ⟨0x880004, 0x4, 1, 0x4, 1, 0x0, 0x0, 0x0, 0x0⟩,
  ⟨0x880008, 0x4, 1, 0x4, 1, 0x0, 0x0, 0x0, 0x0⟩]
/-- Register rows: lane. -/
def laneRows : List Row := [
  ⟨0x800000, 0x1000, 104, 0x1000, 1, 0x0, 0x1FFF, 0x0, 0x1810⟩,
  ⟨0x800004, 0x1000, 104, 0x1000, 1, 0x0, 0x0, 0x0, 0x1810⟩,
  ⟨0x800008, 0x1000, 104, 0x1000, 1, 0x0, 0x0, 0x0, 0x0⟩,
  ⟨0x80000C, 0x1000, 104, 0x1000, 1, 0x0, 0x0, 0x0, 0x0⟩,
  ⟨0x800010, 0x1000, 104, 0x1000, 1, 0x0, 0x0, 0x3FF, 0x0⟩,
  ⟨0x800014, 0x1000, 104, 0x1000, 1, 0x3FF, 0x0, 0x0, 0x0⟩,
  ⟨0x800018, 0x1000, 104, 0x1000, 1, 0x0, 0xFFFF, 0x0, 0x0⟩,
  ⟨0x80001C, 0x1000, 104, 0x1000, 1, 0x0, 0xFF07FF, 0x0, 0x100042⟩,
  ⟨0x800020, 0x1000, 104, 0x1000, 1, 0x0, 0x3F, 0x0, 0x0⟩,
  ⟨0x800024, 0x1000, 104, 0x1000, 1, 0x0, 0x7, 0x0, 0x1⟩,
  ⟨0x800028, 0x1000, 104, 0x1000, 1, 0x0, 0x0, 0x0, 0x0⟩,
  ⟨0x80002C, 0x1000, 104, 0x1000, 1, 0x0, 0x0, 0x0, 0x0⟩,
  ⟨0x800030, 0x1000, 104, 0x1000, 1, 0x0, 0x0, 0x0, 0x0⟩,
  ⟨0x800034, 0x1000, 104, 0x1000, 1, 0x0, 0x0, 0x0, 0x0⟩,
  ⟨0x800038, 0x1000, 104, 0x1000, 1, 0x0, 0x3F, 0x0, 0x0⟩,
  ⟨0x80003C, 0x1000, 104, 0x1000, 1, 0x0, 0x0, 0x0, 0x0⟩,
  ⟨0x800040, 0x1000, 104, 0x1000, 1, 0x0, 0x0, 0x0, 0x0⟩,
  ⟨0x800044, 0x1000, 104, 0x1000, 1, 0x0, 0x0, 0x0, 0x0⟩,
  ⟨0x800048, 0x1000, 104, 0x1000, 1, 0x0, 0x0, 0x0, 0x0⟩,
  ⟨0x80004C, 0x1000, 104, 0x1000, 1, 0x0, 0x0, 0x0, 0x0⟩,
  ⟨0x800050, 0x1000, 104, 0x1000, 1, 0x0, 0x0, 0x0, 0x0⟩,
  ⟨0x800054, 0x1000, 104, 0x1000, 1, 0x0, 0x0, 0x0, 0x0⟩]
/-- Register rows: link. -/
def linkRows : List Row := [
  ⟨0xA00000, 0x4, 1, 0x4, 1, 0x0, 0x0, 0x0, 0x0⟩,
  ⟨0xA00004, 0x4, 1, 0x4, 1, 0x0, 0x0, 0x0, 0x0⟩,
  ⟨0xA00008, 0x4, 1, 0x4, 1, 0x0, 0xFFFF, 0x0, 0x64⟩,
  ⟨0xA0000C, 0x4, 1, 0x4, 1, 0x0, 0xFFFF, 0x0, 0x3E8⟩,
  ⟨0xA00010, 0x4, 1, 0x4, 1, 0x0, 0xFFFF, 0x0, 0xA0⟩,
  ⟨0xA00014, 0x4, 1, 0x4, 1, 0x0, 0xFFFF, 0x0, 0x3E8⟩,
  ⟨0xA10000, 0x100, 96, 0x100, 1, 0x0, 0xFF, 0x0, 0x80⟩,
  ⟨0xA10004, 0x100, 96, 0x100, 1, 0x0, 0x0, 0x0, 0x80⟩,
  ⟨0xA10008, 0x100, 96, 0x100, 1, 0x0, 0x0, 0x0, 0x0⟩,
  ⟨0xA1000C, 0x100, 96, 0x100, 1, 0x0, 0x0, 0x1FF, 0x0⟩,
  ⟨0xA10010, 0x100, 96, 0x100, 1, 0x1FF, 0x0, 0x0, 0x0⟩,
  ⟨0xA10014, 0x100, 96, 0x100, 1, 0x0, 0x0, 0x0, 0x0⟩,
  ⟨0xA10018, 0x100, 96, 0x100, 1, 0x0, 0x0, 0x0, 0x0⟩,
  ⟨0xA1001C, 0x100, 96, 0x100, 1, 0x0, 0x0, 0x0, 0x0⟩,
  ⟨0xA10020, 0x100, 96, 0x100, 1, 0x0, 0x0, 0x0, 0x0⟩,
  ⟨0xA10024, 0x100, 96, 0x100, 1, 0x0, 0x0, 0x0, 0x0⟩,
  ⟨0xA10028, 0x100, 96, 0x100, 1, 0x0, 0x0, 0x0, 0x0⟩,
  ⟨0xA1002C, 0x100, 96, 0x100, 1, 0x0, 0x0, 0x0, 0x0⟩,
  ⟨0xA10030, 0x100, 96, 0x100, 1, 0x0, 0x0, 0x0, 0x0⟩,
  ⟨0xA10034, 0x100, 96, 0x100, 1, 0x0, 0x0, 0x0, 0x0⟩,
  ⟨0xA10038, 0x100, 96, 0x100, 1, 0x0, 0x0, 0x0, 0x0⟩,
  ⟨0xA1003C, 0x100, 96, 0x100, 1, 0x0, 0x0, 0x0, 0x0⟩,
  ⟨0xA10040, 0x100, 96, 0x100, 1, 0x0, 0xFFFF, 0x0, 0x64⟩,
  ⟨0xA10044, 0x100, 96, 0x100, 1, 0x0, 0xFFFF, 0x0, 0x0⟩,
  ⟨0xA40000, 0x80, 96, 0x4, 32, 0x0, 0x0, 0x0, 0x0⟩,
  ⟨0xA80000, 0x1000, 96, 0x4, 1024, 0x0, 0xFFFFFFFF, 0x0, 0x0⟩]
/-- Register rows: pipe. -/
def pipeRows : List Row := [
  ⟨0xC00000, 0x4000, 104, 0x4000, 1, 0x0, 0x1, 0x0, 0x0⟩,
  ⟨0xC00004, 0x4000, 104, 0x4000, 1, 0x0, 0x77FF, 0x0, 0x0⟩,
  ⟨0xC00008, 0x4000, 104, 0x4000, 1, 0x0, 0x0, 0x0, 0x0⟩,
  ⟨0xC0000C, 0x4000, 104, 0x4000, 1, 0x0, 0x0, 0x0, 0x0⟩,
  ⟨0xC00010, 0x4000, 104, 0x4000, 1, 0x0, 0x0, 0x7F, 0x0⟩,
  ⟨0xC00014, 0x4000, 104, 0x4000, 1, 0x7F, 0x0, 0x0, 0x0⟩,
  ⟨0xC00018, 0x4000, 104, 0x4000, 1, 0xF7, 0x0, 0x0, 0x0⟩,
  ⟨0xC0001C, 0x4000, 104, 0x4000, 1, 0x0, 0x0, 0x0, 0x0⟩,
  ⟨0xC00020, 0x4000, 104, 0x4000, 1, 0x0, 0x0, 0x0, 0x0⟩,
  ⟨0xC00024, 0x4000, 104, 0x4000, 1, 0x0, 0x0, 0x0, 0x0⟩,
  ⟨0xC00028, 0x4000, 104, 0x4000, 1, 0x0, 0x0, 0x0, 0x0⟩,
  ⟨0xC0002C, 0x4000, 104, 0x4000, 1, 0x0, 0x0, 0x0, 0x0⟩,
  ⟨0xC00030, 0x4000, 104, 0x4000, 1, 0x0, 0x0, 0x0, 0x0⟩,
  ⟨0xC00034, 0x4000, 104, 0x4000, 1, 0x0, 0x0, 0x0, 0x0⟩,
  ⟨0xC00038, 0x4000, 104, 0x4000, 1, 0x0, 0x0, 0x0, 0x0⟩,
  ⟨0xC0003C, 0x4000, 104, 0x4000, 1, 0x0, 0x0, 0x0, 0x0⟩]
/-- Register rows: pipeCtx. -/
def pipeCtxRows0 : List Row := [
  ⟨0xC00100, 0x4000, 104, 0x4000, 1, 0x0, 0xFFFFFFFF, 0x0, 0x0⟩,
  ⟨0xC00200, 0x4000, 104, 0x4000, 1, 0x0, 0x0, 0x0, 0x0⟩,
  ⟨0xC00104, 0x4000, 104, 0x4000, 1, 0x0, 0x7FF, 0x0, 0x100⟩,
  ⟨0xC00204, 0x4000, 104, 0x4000, 1, 0x0, 0x0, 0x0, 0x100⟩,
  ⟨0xC00108, 0x4000, 104, 0x4000, 1, 0x0, 0xFFFFFF, 0x0, 0x0⟩,
  ⟨0xC00208, 0x4000, 104, 0x4000, 1, 0x0, 0x0, 0x0, 0x0⟩,
  ⟨0xC0010C, 0x4000, 104, 0x4000, 1, 0x0, 0xFFFFFF, 0x0, 0x0⟩,
  ⟨0xC0020C, 0x4000, 104, 0x4000, 1, 0x0, 0x0, 0x0, 0x0⟩,
  ⟨0xC00110, 0x4000, 104, 0x4000, 1, 0x0, 0xFFFFFF, 0x0, 0x0⟩,
  ⟨0xC00210, 0x4000, 104, 0x4000, 1, 0x0, 0x0, 0x0, 0x0⟩,
  ⟨0xC00114, 0x4000, 104, 0x4000, 1, 0x0, 0x7FF0003, 0x0, 0x0⟩,
  ⟨0xC00214, 0x4000, 104, 0x4000, 1, 0x0, 0x0, 0x0, 0x0⟩,
  ⟨0xC00118, 0x4000, 104, 0x4000, 1, 0x0, 0xFFFFFF, 0x0, 0x10000⟩,
  ⟨0xC00218, 0x4000, 104, 0x4000, 1, 0x0, 0x0, 0x0, 0x10000⟩,
  ⟨0xC0011C, 0x4000, 104, 0x4000, 1, 0x0, 0xFFFFFF, 0x0, 0x10000⟩,
  ⟨0xC0021C, 0x4000, 104, 0x4000, 1, 0x0, 0x0, 0x0, 0x10000⟩,
  ⟨0xC00120, 0x4000, 104, 0x4000, 1, 0x0, 0x1, 0x0, 0x0⟩,
  ⟨0xC00220, 0x4000, 104, 0x4000, 1, 0x0, 0x0, 0x0, 0x0⟩,
  ⟨0xC00124, 0x4000, 104, 0x4000, 1, 0x0, 0xFFFFFF, 0x0, 0x4000⟩,
  ⟨0xC00224, 0x4000, 104, 0x4000, 1, 0x0, 0x0, 0x0, 0x4000⟩,
  ⟨0xC00128, 0x4000, 104, 0x4000, 1, 0x0, 0x1F, 0x0, 0xA⟩,
  ⟨0xC00228, 0x4000, 104, 0x4000, 1, 0x0, 0x0, 0x0, 0xA⟩,
  ⟨0xC0012C, 0x4000, 104, 0x4000, 1, 0x0, 0xFFFFFF, 0x0, 0x0⟩,
  ⟨0xC0022C, 0x4000, 104, 0x4000, 1, 0x0, 0x0, 0x0, 0x0⟩,
  ⟨0xC00130, 0x4000, 104, 0x4000, 1, 0x0, 0xFFFFFFFF, 0x0, 0x0⟩,
  ⟨0xC00230, 0x4000, 104, 0x4000, 1, 0x0, 0x0, 0x0, 0x0⟩,
  ⟨0xC00134, 0x4000, 104, 0x4000, 1, 0x0, 0xFFFFFFFF, 0x0, 0x0⟩,
  ⟨0xC00234, 0x4000, 104, 0x4000, 1, 0x0, 0x0, 0x0, 0x0⟩,
  ⟨0xC00138, 0x4000, 104, 0x4000, 1, 0x0, 0xFFFFFF, 0x0, 0x0⟩,
  ⟨0xC00238, 0x4000, 104, 0x4000, 1, 0x0, 0x0, 0x0, 0x0⟩,
  ⟨0xC0013C, 0x4000, 104, 0x4000, 1, 0x0, 0xFFFFFF, 0x0, 0x0⟩,
  ⟨0xC0023C, 0x4000, 104, 0x4000, 1, 0x0, 0x0, 0x0, 0x0⟩,
  ⟨0xC00140, 0x4000, 104, 0x4000, 1, 0x0, 0xFFFFFF, 0x0, 0x0⟩,
  ⟨0xC00240, 0x4000, 104, 0x4000, 1, 0x0, 0x0, 0x0, 0x0⟩,
  ⟨0xC00144, 0x4000, 104, 0x4000, 1, 0x0, 0xFFFF, 0x0, 0x1000⟩,
  ⟨0xC00244, 0x4000, 104, 0x4000, 1, 0x0, 0x0, 0x0, 0x1000⟩,
  ⟨0xC00148, 0x4000, 104, 0x4000, 1, 0x0, 0xFFFF, 0x0, 0x0⟩,
  ⟨0xC00248, 0x4000, 104, 0x4000, 1, 0x0, 0x0, 0x0, 0x0⟩,
  ⟨0xC0014C, 0x4000, 104, 0x4000, 1, 0x0, 0xFFFF, 0x0, 0x0⟩,
  ⟨0xC0024C, 0x4000, 104, 0x4000, 1, 0x0, 0x0, 0x0, 0x0⟩]
/-- Register rows: pipeCtx. -/
def pipeCtxRows1 : List Row := [
  ⟨0xC00150, 0x4000, 104, 0x4000, 1, 0x0, 0xFFFF, 0x0, 0x0⟩,
  ⟨0xC00250, 0x4000, 104, 0x4000, 1, 0x0, 0x0, 0x0, 0x0⟩,
  ⟨0xC00154, 0x4000, 104, 0x4000, 1, 0x0, 0xFFFF, 0x0, 0x1000⟩,
  ⟨0xC00254, 0x4000, 104, 0x4000, 1, 0x0, 0x0, 0x0, 0x1000⟩,
  ⟨0xC00158, 0x4000, 104, 0x4000, 1, 0x0, 0xFFFF, 0x0, 0x0⟩,
  ⟨0xC00258, 0x4000, 104, 0x4000, 1, 0x0, 0x0, 0x0, 0x0⟩,
  ⟨0xC0015C, 0x4000, 104, 0x4000, 1, 0x0, 0xFFFF, 0x0, 0x0⟩,
  ⟨0xC0025C, 0x4000, 104, 0x4000, 1, 0x0, 0x0, 0x0, 0x0⟩,
  ⟨0xC00160, 0x4000, 104, 0x4000, 1, 0x0, 0xFFFF, 0x0, 0x0⟩,
  ⟨0xC00260, 0x4000, 104, 0x4000, 1, 0x0, 0x0, 0x0, 0x0⟩,
  ⟨0xC00164, 0x4000, 104, 0x4000, 1, 0x0, 0xFFFF, 0x0, 0x1000⟩,
  ⟨0xC00264, 0x4000, 104, 0x4000, 1, 0x0, 0x0, 0x0, 0x1000⟩,
  ⟨0xC00168, 0x4000, 104, 0x4000, 1, 0x0, 0xFFFFFF, 0x0, 0x0⟩,
  ⟨0xC00268, 0x4000, 104, 0x4000, 1, 0x0, 0x0, 0x0, 0x0⟩,
  ⟨0xC0016C, 0x4000, 104, 0x4000, 1, 0x0, 0xFFFFFF, 0x0, 0x0⟩,
  ⟨0xC0026C, 0x4000, 104, 0x4000, 1, 0x0, 0x0, 0x0, 0x0⟩,
  ⟨0xC00170, 0x4000, 104, 0x4000, 1, 0x0, 0xFFFFFF, 0x0, 0x0⟩,
  ⟨0xC00270, 0x4000, 104, 0x4000, 1, 0x0, 0x0, 0x0, 0x0⟩,
  ⟨0xC00174, 0x4000, 104, 0x4000, 1, 0x0, 0x1, 0x0, 0x0⟩,
  ⟨0xC00274, 0x4000, 104, 0x4000, 1, 0x0, 0x0, 0x0, 0x0⟩,
  ⟨0xC00178, 0x4000, 104, 0x4000, 1, 0x0, 0x3, 0x0, 0x1⟩,
  ⟨0xC00278, 0x4000, 104, 0x4000, 1, 0x0, 0x0, 0x0, 0x1⟩,
  ⟨0xC0017C, 0x4000, 104, 0x4000, 1, 0x0, 0x7FF, 0x0, 0x401⟩,
  ⟨0xC0027C, 0x4000, 104, 0x4000, 1, 0x0, 0x0, 0x0, 0x401⟩]
/-- Register rows: pipeCtx. -/
def pipeCtxRows : List Row := pipeCtxRows0 ++ pipeCtxRows1
/-- Register rows: pipeGlobal. -/
def pipeGlobalRows : List Row := [
  ⟨0xDF0000, 0x4, 1, 0x4, 1, 0x0, 0x0, 0x0, 0x0⟩,
  ⟨0xDF0004, 0x4, 1, 0x4, 1, 0x0, 0x0, 0x0, 0x0⟩,
  ⟨0xDF0008, 0x4, 1, 0x4, 1, 0x0, 0x0, 0x0, 0x0⟩,
  ⟨0xDF000C, 0x4, 1, 0x4, 1, 0x0, 0x0, 0x0, 0x0⟩]
/-- Register rows: assay. -/
def assayRows : List Row := [
  ⟨0xC02000, 0x4000, 104, 0x4000, 1, 0x0, 0x0, 0x0, 0x0⟩,
  ⟨0xC02004, 0x4000, 104, 0x4000, 1, 0x0, 0x0, 0xFF, 0x0⟩,
  ⟨0xC02008, 0x4000, 104, 0x4000, 1, 0xFF, 0x0, 0x0, 0x0⟩,
  ⟨0xC0200C, 0x4000, 104, 0x4000, 1, 0x0, 0x0, 0x0, 0x0⟩,
  ⟨0xC02010, 0x4000, 104, 0x4000, 1, 0xF1, 0x0, 0x0, 0x0⟩,
  ⟨0xC02014, 0x4000, 104, 0x4000, 1, 0x0, 0x0, 0x0, 0xFFFFFFFF⟩,
  ⟨0xC02018, 0x4000, 104, 0x4000, 1, 0x0, 0x0, 0x0, 0x0⟩,
  ⟨0xC0201C, 0x4000, 104, 0x4000, 1, 0x0, 0x0, 0x0, 0x0⟩,
  ⟨0xC02020, 0x4000, 104, 0x4000, 1, 0x0, 0x0, 0x0, 0x0⟩,
  ⟨0xC02024, 0x4000, 104, 0x4000, 1, 0x0, 0x0, 0x0, 0x0⟩,
  ⟨0xC02028, 0x4000, 104, 0x4000, 1, 0x0, 0x0, 0x0, 0x0⟩,
  ⟨0xC0202C, 0x4000, 104, 0x4000, 1, 0x0, 0x0, 0x0, 0x0⟩,
  ⟨0xC02030, 0x4000, 104, 0x4000, 1, 0x0, 0x0, 0x0, 0x0⟩,
  ⟨0xC02034, 0x4000, 104, 0x4000, 1, 0x0, 0x0, 0x0, 0x0⟩,
  ⟨0xC02038, 0x4000, 104, 0x4000, 1, 0x0, 0x0, 0x0, 0x0⟩,
  ⟨0xC0203C, 0x4000, 104, 0x4000, 1, 0x0, 0x0, 0x0, 0x0⟩,
  ⟨0xC02040, 0x4000, 104, 0x4000, 1, 0x0, 0x0, 0x0, 0x0⟩,
  ⟨0xC02044, 0x4000, 104, 0x4000, 1, 0x0, 0x0, 0x0, 0x0⟩,
  ⟨0xC02048, 0x4000, 104, 0x4000, 1, 0x0, 0x0, 0x0, 0x0⟩]
/-- Register rows: assayCtx. -/
def assayCtxRows : List Row := [
  ⟨0xC02100, 0x4000, 104, 0x4000, 1, 0x0, 0xF77F, 0x0, 0x0⟩,
  ⟨0xC02200, 0x4000, 104, 0x4000, 1, 0x0, 0x0, 0x0, 0x0⟩,
  ⟨0xC02104, 0x4000, 104, 0x4000, 1, 0x0, 0xFFFFFFFF, 0x0, 0x0⟩,
  ⟨0xC02204, 0x4000, 104, 0x4000, 1, 0x0, 0x0, 0x0, 0x0⟩,
  ⟨0xC02108, 0x4000, 104, 0x4000, 1, 0x0, 0xFFFFFFFF, 0x0, 0x0⟩,
  ⟨0xC02208, 0x4000, 104, 0x4000, 1, 0x0, 0x0, 0x0, 0x0⟩,
  ⟨0xC0210C, 0x4000, 104, 0x4000, 1, 0x0, 0xFFFFFFFF, 0x0, 0x0⟩,
  ⟨0xC0220C, 0x4000, 104, 0x4000, 1, 0x0, 0x0, 0x0, 0x0⟩,
  ⟨0xC02110, 0x4000, 104, 0x4000, 1, 0x0, 0xFFFFFFFF, 0x0, 0xFFFF0000⟩,
  ⟨0xC02210, 0x4000, 104, 0x4000, 1, 0x0, 0x0, 0x0, 0xFFFF0000⟩,
  ⟨0xC02114, 0x4000, 104, 0x4000, 1, 0x0, 0xFFFFFFFF, 0x0, 0x10200400⟩,
  ⟨0xC02214, 0x4000, 104, 0x4000, 1, 0x0, 0x0, 0x0, 0x10200400⟩,
  ⟨0xC02118, 0x4000, 104, 0x4000, 1, 0x0, 0xFF03, 0x0, 0x2001⟩,
  ⟨0xC02218, 0x4000, 104, 0x4000, 1, 0x0, 0x0, 0x0, 0x2001⟩,
  ⟨0xC0211C, 0x4000, 104, 0x4000, 1, 0x0, 0xFFFFFFFF, 0x0, 0x10001000⟩,
  ⟨0xC0221C, 0x4000, 104, 0x4000, 1, 0x0, 0x0, 0x0, 0x10001000⟩,
  ⟨0xC02120, 0x4000, 104, 0x4000, 1, 0x0, 0xFFFF, 0x0, 0x1000⟩,
  ⟨0xC02220, 0x4000, 104, 0x4000, 1, 0x0, 0x0, 0x0, 0x1000⟩,
  ⟨0xC02124, 0x4000, 104, 0x4000, 1, 0x0, 0xFFFFFFFF, 0x0, 0x6000300⟩,
  ⟨0xC02224, 0x4000, 104, 0x4000, 1, 0x0, 0x0, 0x0, 0x6000300⟩,
  ⟨0xC02128, 0x4000, 104, 0x4000, 1, 0x0, 0xFFFFFFFF, 0x0, 0x100009⟩,
  ⟨0xC02228, 0x4000, 104, 0x4000, 1, 0x0, 0x0, 0x0, 0x100009⟩,
  ⟨0xC0212C, 0x4000, 104, 0x4000, 1, 0x0, 0x3FF07FF, 0x0, 0x1000400⟩,
  ⟨0xC0222C, 0x4000, 104, 0x4000, 1, 0x0, 0x0, 0x0, 0x1000400⟩,
  ⟨0xC02130, 0x4000, 104, 0x4000, 1, 0x0, 0xFFFFF, 0x0, 0x80200⟩,
  ⟨0xC02230, 0x4000, 104, 0x4000, 1, 0x0, 0x0, 0x0, 0x80200⟩,
  ⟨0xC02134, 0x4000, 104, 0x4000, 1, 0x0, 0xFFFFFFFF, 0x0, 0x1000300⟩,
  ⟨0xC02234, 0x4000, 104, 0x4000, 1, 0x0, 0x0, 0x0, 0x1000300⟩]
/-- Register rows: assayGlobal. -/
def assayGlobalRows : List Row := [
  ⟨0xE00000, 0x4, 1, 0x4, 1, 0x0, 0x0, 0x0, 0x0⟩,
  ⟨0xE00004, 0x4, 1, 0x4, 1, 0x0, 0x0, 0x0, 0x0⟩,
  ⟨0xE00008, 0x4, 1, 0x4, 1, 0x0, 0x0, 0x0, 0x0⟩,
  ⟨0xE0000C, 0x4, 1, 0x4, 1, 0x0, 0xFFFFFFFF, 0x0, 0x0⟩,
  ⟨0xE00010, 0x4, 1, 0x4, 1, 0x0, 0xFFFFFFFF, 0x0, 0x0⟩,
  ⟨0xE00014, 0x4, 1, 0x4, 1, 0x0, 0x0, 0x0, 0x0⟩,
  ⟨0xE01000, 0x40, 16, 0x40, 1, 0x0, 0xFF, 0x0, 0x0⟩,
  ⟨0xE01004, 0x40, 16, 0x40, 1, 0x0, 0xFFFFFFFF, 0x0, 0x0⟩,
  ⟨0xE01008, 0x40, 16, 0x40, 1, 0x0, 0x0, 0x0, 0x0⟩,
  ⟨0xE0100C, 0x40, 16, 0x40, 1, 0x3F, 0x0, 0x0, 0x0⟩,
  ⟨0xE01010, 0x40, 16, 0x40, 1, 0x0, 0x0, 0x0, 0x0⟩,
  ⟨0xE01014, 0x40, 16, 0x40, 1, 0x0, 0x0, 0x0, 0xFFFFFFFF⟩,
  ⟨0xE01018, 0x40, 16, 0x40, 1, 0x0, 0x0, 0x0, 0x0⟩,
  ⟨0xE0101C, 0x40, 16, 0x40, 1, 0x0, 0x0, 0x0, 0x0⟩,
  ⟨0xE04000, 0x4, 4096, 0x4, 1, 0x0, 0x0, 0x0, 0x0⟩,
  ⟨0xF00000, 0x10000, 8, 0x4, 12288, 0x0, 0xFFFFFFFF, 0x0, 0x0⟩]
/-- Register rows: noz. -/
def nozRows : List Row := [
  ⟨0x1000000, 0x4, 1, 0x4, 1, 0x0, 0x0, 0x0, 0x0⟩,
  ⟨0x1000004, 0x4, 1, 0x4, 1, 0x0, 0x1, 0x0, 0x0⟩,
  ⟨0x1000008, 0x4, 1, 0x4, 1, 0x0, 0x0, 0x0, 0x0⟩,
  ⟨0x100000C, 0x4, 1, 0x4, 1, 0x0, 0x0, 0x7F, 0x0⟩,
  ⟨0x1000010, 0x4, 1, 0x4, 1, 0x7F, 0x0, 0x0, 0x0⟩,
  ⟨0x1000014, 0x4, 1, 0x4, 1, 0x0, 0x0, 0x0, 0x0⟩,
  ⟨0x1000018, 0x4, 1, 0x4, 1, 0x0, 0x0, 0x0, 0x0⟩,
  ⟨0x100001C, 0x4, 1, 0x4, 1, 0x0, 0x0, 0x0, 0x0⟩,
  ⟨0x1000020, 0x4, 1, 0x4, 1, 0x0, 0x0, 0x0, 0x0⟩,
  ⟨0x1000024, 0x4, 1, 0x4, 1, 0x0, 0x0, 0x0, 0x0⟩,
  ⟨0x1000028, 0x4, 1, 0x4, 1, 0x0, 0x0, 0x0, 0x0⟩,
  ⟨0x100002C, 0x4, 1, 0x4, 1, 0x0, 0x0, 0x0, 0x0⟩,
  ⟨0x1000030, 0x4, 1, 0x4, 1, 0x0, 0x0, 0x0, 0x0⟩,
  ⟨0x1000034, 0x4, 1, 0x4, 1, 0x0, 0x0, 0x0, 0x0⟩,
  ⟨0x1000038, 0x4, 1, 0x4, 1, 0x0, 0x0, 0x0, 0x0⟩,
  ⟨0x1000040, 0x4, 1, 0x4, 1, 0x0, 0xFFFFFFFF, 0x0, 0x0⟩,
  ⟨0x1000044, 0x4, 1, 0x4, 1, 0x0, 0xFFFFFFFF, 0x0, 0x0⟩,
  ⟨0x1000048, 0x4, 1, 0x4, 1, 0x0, 0x1FF, 0x0, 0x60⟩,
  ⟨0x1001000, 0x40, 8, 0x40, 1, 0x0, 0xFFF0FF7, 0x0, 0x100440⟩,
  ⟨0x1001004, 0x40, 8, 0x40, 1, 0x0, 0xFFFFFFFF, 0x0, 0x4000⟩,
  ⟨0x1001008, 0x40, 8, 0x40, 1, 0x0, 0xFFFFFFFF, 0x0, 0x400000⟩,
  ⟨0x100100C, 0x40, 8, 0x40, 1, 0x0, 0xFFFFFFFF, 0x0, 0x28000C00⟩,
  ⟨0x1001010, 0x40, 8, 0x40, 1, 0x0, 0xFFFFFFFF, 0x0, 0xC000600⟩,
  ⟨0x1001014, 0x40, 8, 0x40, 1, 0x0, 0xFFFF, 0x0, 0x6400⟩,
  ⟨0x1001018, 0x40, 8, 0x40, 1, 0x0, 0xFFFFF, 0x0, 0x0⟩,
  ⟨0x100101C, 0x40, 8, 0x40, 1, 0x0, 0xFFFFF, 0x0, 0x0⟩,
  ⟨0x1001020, 0x40, 8, 0x40, 1, 0x0, 0x0, 0x0, 0x0⟩,
  ⟨0x1001024, 0x40, 8, 0x40, 1, 0x0, 0x1FFFFFF, 0x0, 0x0⟩,
  ⟨0x1001028, 0x40, 8, 0x40, 1, 0x0, 0x0, 0x0, 0x0⟩,
  ⟨0x100102C, 0x40, 8, 0x40, 1, 0x0, 0x0, 0x0, 0x0⟩,
  ⟨0x1001030, 0x40, 8, 0x40, 1, 0x0, 0x0, 0x0, 0x0⟩,
  ⟨0x1001034, 0x40, 8, 0x40, 1, 0x0, 0x0, 0x0, 0x0⟩,
  ⟨0x1001038, 0x40, 8, 0x40, 1, 0x0, 0x0, 0x0, 0x0⟩,
  ⟨0x100103C, 0x40, 8, 0x40, 1, 0x0, 0x0, 0x0, 0x0⟩,
  ⟨0x1000800, 0x4, 32, 0x4, 1, 0x0, 0x0, 0x0, 0x0⟩,
  ⟨0x1100000, 0x4, 16384, 0x4, 1, 0x0, 0xFFFFFFFF, 0x0, 0x0⟩,
  ⟨0x1400000, 0x4, 3145728, 0x4, 1, 0x0, 0x0, 0x0, 0x0⟩]
/-- Register rows: cru. -/
def cruRows : List Row := [
  ⟨0xDC0000, 0x4, 1, 0x4, 1, 0x0, 0x0, 0x0, 0x0⟩,
  ⟨0xDC0004, 0x4, 1, 0x4, 1, 0x0, 0xFFFF, 0x0, 0x32⟩,
  ⟨0xDC0008, 0x4, 1, 0x4, 1, 0x0, 0x0, 0x0, 0x0⟩,
  ⟨0xDC1000, 0x40, 96, 0x40, 1, 0x0, 0x10FFF, 0x0, 0x100⟩,
  ⟨0xDC1004, 0x40, 96, 0x40, 1, 0x0, 0x0, 0x0, 0x0⟩,
  ⟨0xDC1008, 0x40, 96, 0x40, 1, 0x0, 0x0, 0x0, 0x0⟩,
  ⟨0xDC100C, 0x40, 96, 0x40, 1, 0x0, 0x0, 0x0, 0x0⟩,
  ⟨0xDC1010, 0x40, 96, 0x40, 1, 0x0, 0x0, 0x0, 0x0⟩,
  ⟨0xDC1014, 0x40, 96, 0x40, 1, 0x0, 0x0, 0x0, 0x0⟩,
  ⟨0xDC1018, 0x40, 96, 0x40, 1, 0x0, 0x0, 0x0, 0x0⟩,
  ⟨0xDC101C, 0x40, 96, 0x40, 1, 0x0, 0x0, 0x0, 0x0⟩,
  ⟨0xDC1020, 0x40, 96, 0x40, 1, 0x0, 0x0, 0x0, 0x0⟩,
  ⟨0xDC1024, 0x40, 96, 0x40, 1, 0x0, 0xFFFFFFFF, 0x0, 0x0⟩,
  ⟨0xDC1028, 0x40, 96, 0x40, 1, 0x0, 0xFFFFFFFF, 0x0, 0x0⟩,
  ⟨0xDC102C, 0x40, 96, 0x40, 1, 0x0, 0xFF, 0x0, 0x2⟩,
  ⟨0xDC1030, 0x40, 96, 0x40, 1, 0x0, 0x0, 0x0, 0x0⟩]
/-- Register rows: dlv. -/
def dlvRows : List Row := [
  ⟨0x30000, 0x40, 16, 0x40, 1, 0x0, 0x0, 0x0, 0x0⟩,
  ⟨0x30004, 0x40, 16, 0x40, 1, 0x0, 0x0, 0x0, 0x0⟩,
  ⟨0x30008, 0x40, 16, 0x40, 1, 0x0, 0x0, 0x0, 0x0⟩,
  ⟨0x3000C, 0x40, 16, 0x40, 1, 0x0, 0x0, 0x0, 0x0⟩,
  ⟨0x30010, 0x40, 16, 0x40, 1, 0x0, 0x0, 0x0, 0x0⟩,
  ⟨0x30014, 0x40, 16, 0x40, 1, 0x0, 0x0, 0x0, 0x0⟩,
  ⟨0x30018, 0x40, 16, 0x40, 1, 0x0, 0x0, 0x0, 0x0⟩,
  ⟨0x3001C, 0x40, 16, 0x40, 1, 0x0, 0x0, 0x0, 0x0⟩,
  ⟨0x30020, 0x40, 16, 0x40, 1, 0x0, 0x0, 0x0, 0x0⟩,
  ⟨0x30024, 0x40, 16, 0x40, 1, 0x0, 0x0, 0x0, 0x0⟩,
  ⟨0x30028, 0x40, 16, 0x40, 1, 0x0, 0x0, 0x0, 0x0⟩,
  ⟨0x3002C, 0x40, 16, 0x40, 1, 0x0, 0x0, 0x0, 0x0⟩,
  ⟨0x30030, 0x40, 16, 0x40, 1, 0x0, 0x0, 0x0, 0x0⟩,
  ⟨0x30034, 0x40, 16, 0x40, 1, 0x0, 0x0, 0x0, 0x0⟩,
  ⟨0x30400, 0x4, 1, 0x4, 1, 0x0, 0x0, 0x0, 0x10001⟩,
  ⟨0x30404, 0x4, 1, 0x4, 1, 0x0, 0x0, 0x0, 0x0⟩,
  ⟨0x30408, 0x4, 1, 0x4, 1, 0x0, 0x0, 0x0, 0x0⟩,
  ⟨0x3040C, 0x4, 1, 0x4, 1, 0x0, 0x0, 0x0, 0x10⟩,
  ⟨0x30410, 0x4, 1, 0x4, 1, 0x0, 0x0, 0x0, 0x0⟩,
  ⟨0x30414, 0x4, 1, 0x4, 1, 0x0, 0x0, 0x0, 0x0⟩]
/-- Register rows: mem. -/
def memRows : List Row := [
  ⟨0x2100000, 0x4, 1, 0x4, 1, 0x0, 0x0, 0x0, 0x0⟩,
  ⟨0x2100004, 0x4, 1, 0x4, 1, 0x0, 0x3, 0x0, 0x2⟩,
  ⟨0x2100008, 0x4, 1, 0x4, 1, 0x0, 0x0, 0x0, 0x0⟩,
  ⟨0x210000C, 0x4, 1, 0x4, 1, 0x0, 0x0, 0x7F, 0x0⟩,
  ⟨0x2100010, 0x4, 1, 0x4, 1, 0x7F, 0x0, 0x0, 0x0⟩,
  ⟨0x2100014, 0x4, 1, 0x4, 1, 0x0, 0x0, 0x0, 0x0⟩,
  ⟨0x2100018, 0x4, 1, 0x4, 1, 0x0, 0x3F3F, 0x0, 0x0⟩,
  ⟨0x210001C, 0x4, 1, 0x4, 1, 0x0, 0x0, 0x0, 0x0⟩,
  ⟨0x2100020, 0x4, 1, 0x4, 1, 0x0, 0xFFF03FF, 0x0, 0x0⟩,
  ⟨0x2100024, 0x4, 1, 0x4, 1, 0x0, 0x0, 0x0, 0x0⟩,
  ⟨0x2100028, 0x4, 1, 0x4, 1, 0x0, 0xFFFFFF, 0x0, 0x3E840⟩,
  ⟨0x210002C, 0x4, 1, 0x4, 1, 0x0, 0x0, 0x0, 0x0⟩,
  ⟨0x2100030, 0x4, 1, 0x4, 1, 0x0, 0xFFFF, 0x0, 0x258⟩,
  ⟨0x2100100, 0x4, 60, 0x4, 1, 0x0, 0x3F, 0x0, 0x0⟩,
  ⟨0x2100200, 0x4, 64, 0x4, 1, 0x0, 0x0, 0x0, 0x0⟩,
  ⟨0x2100300, 0x4, 64, 0x4, 1, 0x0, 0x0, 0x0, 0x0⟩,
  ⟨0x2100400, 0x10, 16, 0x10, 1, 0x0, 0x13F, 0x0, 0x0⟩,
  ⟨0x2100404, 0x10, 16, 0x10, 1, 0x0, 0x3F, 0x0, 0x0⟩,
  ⟨0x2100408, 0x10, 16, 0x10, 1, 0x0, 0x0, 0x0, 0x0⟩,
  ⟨0x2101000, 0x4, 768, 0x4, 1, 0x0, 0xFFF, 0x0, 0x0⟩]
/-- Register rows: dma. -/
def dmaRows0 : List Row := [
  ⟨0x2000000, 0x10000, 16, 0x10000, 1, 0x0, 0x0, 0x0, 0x0⟩,
  ⟨0x2000004, 0x10000, 16, 0x10000, 1, 0x0, 0x1, 0x0, 0x0⟩,
  ⟨0x2000008, 0x10000, 16, 0x10000, 1, 0x0, 0x0, 0x0, 0x0⟩,
  ⟨0x200000C, 0x10000, 16, 0x10000, 1, 0x0, 0x0, 0x0, 0x0⟩,
  ⟨0x2000010, 0x10000, 16, 0x10000, 1, 0x0, 0x0, 0x0, 0x0⟩,
  ⟨0x2000014, 0x10000, 16, 0x10000, 1, 0x0, 0x0, 0x0, 0x0⟩,
  ⟨0x2001000, 0x10000, 16, 0x400, 32, 0x0, 0xFFFF, 0x0, 0x0⟩,
  ⟨0x2001004, 0x10000, 16, 0x400, 32, 0x0, 0x3F, 0x0, 0x0⟩,
  ⟨0x2001008, 0x10000, 16, 0x400, 32, 0x0, 0x0, 0x0, 0x0⟩,
  ⟨0x200100C, 0x10000, 16, 0x400, 32, 0x0, 0x0, 0x0, 0x0⟩,
  ⟨0x2001010, 0x10000, 16, 0x400, 32, 0x0, 0x0, 0x3F, 0x0⟩,
  ⟨0x2001014, 0x10000, 16, 0x400, 32, 0x3F, 0x0, 0x0, 0x0⟩,
  ⟨0x2001018, 0x10000, 16, 0x400, 32, 0x0, 0x7FF, 0x0, 0x0⟩,
  ⟨0x200101C, 0x10000, 16, 0x400, 32, 0x0, 0xFFFFFF, 0x0, 0x186A0⟩,
  ⟨0x2001020, 0x10000, 16, 0x400, 32, 0x0, 0xFFFFFFFF, 0x0, 0x0⟩,
  ⟨0x2001024, 0x10000, 16, 0x400, 32, 0x0, 0xFFFFFFFF, 0x0, 0x0⟩,
  ⟨0x2001028, 0x10000, 16, 0x400, 32, 0x0, 0x0, 0x0, 0x0⟩,
  ⟨0x200102C, 0x10000, 16, 0x400, 32, 0x0, 0x0, 0x0, 0x0⟩,
  ⟨0x2001030, 0x10000, 16, 0x400, 32, 0x0, 0xFFFFFFFF, 0x0, 0x0⟩,
  ⟨0x2001034, 0x10000, 16, 0x400, 32, 0x0, 0xFFFFFFFF, 0x0, 0x0⟩,
  ⟨0x2001038, 0x10000, 16, 0x400, 32, 0x0, 0x0, 0x0, 0x0⟩,
  ⟨0x200103C, 0x10000, 16, 0x400, 32, 0x0, 0x0, 0x0, 0x0⟩,
  ⟨0x2001100, 0x10000, 16, 0x400, 32, 0x0, 0xFFFFFFFF, 0x0, 0x0⟩,
  ⟨0x2001200, 0x10000, 16, 0x400, 32, 0x0, 0x0, 0x0, 0x0⟩,
  ⟨0x2001104, 0x10000, 16, 0x400, 32, 0x0, 0xFFFFFFFF, 0x0, 0x0⟩,
  ⟨0x2001204, 0x10000, 16, 0x400, 32, 0x0, 0x0, 0x0, 0x0⟩,
  ⟨0x2001108, 0x10000, 16, 0x400, 32, 0x0, 0xFFFFFFFF, 0x0, 0x0⟩,
  ⟨0x2001208, 0x10000, 16, 0x400, 32, 0x0, 0x0, 0x0, 0x0⟩,
  ⟨0x200110C, 0x10000, 16, 0x400, 32, 0x0, 0xFFFFFFFF, 0x0, 0x0⟩,
  ⟨0x200120C, 0x10000, 16, 0x400, 32, 0x0, 0x0, 0x0, 0x0⟩,
  ⟨0x2001110, 0x10000, 16, 0x400, 32, 0x0, 0xFFFFFFFF, 0x0, 0x0⟩,
  ⟨0x2001210, 0x10000, 16, 0x400, 32, 0x0, 0x0, 0x0, 0x0⟩,
  ⟨0x2001114, 0x10000, 16, 0x400, 32, 0x0, 0xFFFFFFFF, 0x0, 0x0⟩,
  ⟨0x2001214, 0x10000, 16, 0x400, 32, 0x0, 0x0, 0x0, 0x0⟩,
  ⟨0x2001118, 0x10000, 16, 0x400, 32, 0x0, 0xFFFFFFFF, 0x0, 0x0⟩,
  ⟨0x2001218, 0x10000, 16, 0x400, 32, 0x0, 0x0, 0x0, 0x0⟩,
  ⟨0x200111C, 0x10000, 16, 0x400, 32, 0x0, 0xFFFFFFFF, 0x0, 0x0⟩,
  ⟨0x200121C, 0x10000, 16, 0x400, 32, 0x0, 0x0, 0x0, 0x0⟩,
  ⟨0x2001120, 0x10000, 16, 0x400, 32, 0x0, 0xFFFFFFFF, 0x0, 0x0⟩,
  ⟨0x2001220, 0x10000, 16, 0x400, 32, 0x0, 0x0, 0x0, 0x0⟩]
/-- Register rows: dma. -/
def dmaRows1 : List Row := [
  ⟨0x2001124, 0x10000, 16, 0x400, 32, 0x0, 0xFFFF, 0x0, 0x0⟩,
  ⟨0x2001224, 0x10000, 16, 0x400, 32, 0x0, 0x0, 0x0, 0x0⟩]
/-- Register rows: dma. -/
def dmaRows : List Row := dmaRows0 ++ dmaRows1
/-- Register rows: hostep. -/
def hostepRows : List Row := [
  ⟨0x2400000, 0x4, 1, 0x4, 1, 0x0, 0x0, 0x0, 0x0⟩,
  ⟨0x2400004, 0x4, 1, 0x4, 1, 0x0, 0x0, 0x0, 0x0⟩,
  ⟨0x2400008, 0x4, 1, 0x4, 1, 0x0, 0x0, 0x3FF, 0x0⟩,
  ⟨0x240000C, 0x4, 1, 0x4, 1, 0x3FF, 0x0, 0x0, 0x0⟩,
  ⟨0x2400010, 0x4, 1, 0x4, 1, 0x0, 0x3, 0x0, 0x3⟩,
  ⟨0x2400014, 0x4, 1, 0x4, 1, 0x0, 0x1FFFF, 0x0, 0x1411A⟩,
  ⟨0x2400018, 0x4, 1, 0x4, 1, 0x0, 0xFFFF, 0x0, 0x64⟩,
  ⟨0x240001C, 0x4, 1, 0x4, 1, 0x0, 0xFFFF, 0x0, 0x14⟩,
  ⟨0x2400020, 0x4, 1, 0x4, 1, 0x0, 0x0, 0x0, 0x0⟩,
  ⟨0x2400024, 0x4, 1, 0x4, 1, 0x0, 0x3, 0x0, 0x0⟩,
  ⟨0x2400028, 0x4, 1, 0x4, 1, 0x0, 0x0, 0x0, 0x0⟩,
  ⟨0x240002C, 0x4, 1, 0x4, 1, 0x0, 0x0, 0x0, 0x0⟩,
  ⟨0x2400030, 0x4, 1, 0x4, 1, 0x0, 0x0, 0x0, 0x0⟩,
  ⟨0x2400034, 0x4, 1, 0x4, 1, 0x0, 0x0, 0x0, 0x0⟩,
  ⟨0x2400038, 0x4, 1, 0x4, 1, 0x0, 0x0, 0x0, 0x0⟩,
  ⟨0x240003C, 0x4, 1, 0x4, 1, 0x0, 0x0, 0x0, 0x0⟩,
  ⟨0x2400040, 0x4, 1, 0x4, 1, 0x0, 0x0, 0x0, 0x0⟩,
  ⟨0x2400044, 0x4, 1, 0x4, 1, 0x0, 0x0, 0x0, 0x0⟩,
  ⟨0x2400048, 0x4, 1, 0x4, 1, 0x0, 0x0, 0x0, 0x0⟩,
  ⟨0x240004C, 0x4, 1, 0x4, 1, 0x0, 0x0, 0x0, 0x0⟩,
  ⟨0x2400100, 0x4, 16, 0x4, 1, 0x0, 0x0, 0x0, 0x0⟩]
/-- Register rows: irq. -/
def irqRows : List Row := [
  ⟨0x2C000, 0x4, 320, 0x4, 1, 0x0, 0x800007FF, 0x0, 0x0⟩,
  ⟨0x2C800, 0x4, 10, 0x4, 1, 0x0, 0x0, 0x0, 0x0⟩,
  ⟨0x20000, 0x10, 2048, 0x10, 1, 0xFFFFFFFC, 0x0, 0x0, 0x0⟩,
  ⟨0x20004, 0x10, 2048, 0x10, 1, 0xFFFFFFFF, 0x0, 0x0, 0x0⟩,
  ⟨0x20008, 0x10, 2048, 0x10, 1, 0xFFFFFFFF, 0x0, 0x0, 0x0⟩,
  ⟨0x2000C, 0x10, 2048, 0x10, 1, 0x1, 0x0, 0x0, 0x1⟩,
  ⟨0x28000, 0x4, 64, 0x4, 1, 0x0, 0x0, 0x0, 0x0⟩]
/-- Register rows: mbx. -/
def mbxRows : List Row := [
  ⟨0x18000, 0x4, 1, 0x4, 1, 0x0, 0x0, 0x0, 0x0⟩,
  ⟨0x18004, 0x4, 1, 0x4, 1, 0x0, 0x0, 0x0, 0x0⟩,
  ⟨0x18008, 0x4, 1, 0x4, 1, 0x0, 0x0, 0x0, 0x0⟩,
  ⟨0x1800C, 0x4, 1, 0x4, 1, 0x0, 0x0, 0x0, 0x0⟩,
  ⟨0x18010, 0x4, 1, 0x4, 1, 0x0, 0x0, 0x0, 0x0⟩,
  ⟨0x18014, 0x4, 1, 0x4, 1, 0x307FF, 0x0, 0x0, 0x0⟩,
  ⟨0x18018, 0x4, 1, 0x4, 1, 0x0, 0x0, 0x0, 0x0⟩,
  ⟨0x1801C, 0x4, 1, 0x4, 1, 0x0, 0x0, 0x0, 0x0⟩,
  ⟨0x18020, 0x4, 1, 0x4, 1, 0x0, 0x0, 0x0, 0x0⟩,
  ⟨0x18024, 0x4, 1, 0x4, 1, 0x0, 0x0, 0x0, 0x0⟩,
  ⟨0x18028, 0x4, 1, 0x4, 1, 0xFFFFFFF9, 0x0, 0x0, 0x0⟩,
  ⟨0x1802C, 0x4, 1, 0x4, 1, 0xFFFFFFFF, 0x0, 0x0, 0x0⟩,
  ⟨0x19000, 0x4, 512, 0x4, 1, 0x0, 0x0, 0x0, 0x0⟩,
  ⟨0x10000, 0x4, 4096, 0x4, 1, 0xFFFFFFFF, 0x0, 0x0, 0x0⟩,
  ⟨0x14000, 0x4, 4096, 0x4, 1, 0x0, 0x0, 0x0, 0x0⟩]
/-- Register rows: bench. -/
def benchRows : List Row := [
  ⟨0x2300000, 0x4, 1, 0x4, 1, 0x0, 0x0, 0x0, 0x0⟩,
  ⟨0x2300004, 0x4, 1, 0x4, 1, 0x0, 0x0, 0x0, 0xF⟩,
  ⟨0x2300008, 0x4, 1, 0x4, 1, 0x0, 0x0, 0x0, 0x0⟩,
  ⟨0x230000C, 0x4, 1, 0x4, 1, 0x0, 0x0, 0xF, 0x0⟩,
  ⟨0x2300010, 0x4, 1, 0x4, 1, 0xF, 0x0, 0x0, 0x0⟩,
  ⟨0x2300014, 0x4, 1, 0x4, 1, 0x0, 0x3FFF, 0x0, 0x0⟩,
  ⟨0x2300018, 0x4, 1, 0x4, 1, 0x0, 0x0, 0x0, 0x0⟩,
  ⟨0x230001C, 0x4, 1, 0x4, 1, 0x0, 0x0, 0x0, 0x0⟩,
  ⟨0x2300020, 0x4, 1, 0x4, 1, 0x0, 0x0, 0x0, 0x0⟩,
  ⟨0x2300040, 0x4, 5, 0x4, 1, 0x0, 0x0, 0x0, 0x0⟩]
/-- Register rows: twin. -/
def twinRows : List Row := [
  ⟨0x2200000, 0x4, 1, 0x4, 1, 0x0, 0x0, 0x0, 0x0⟩,
  ⟨0x2200004, 0x4, 1, 0x4, 1, 0x0, 0x7, 0x0, 0x2⟩,
  ⟨0x2200008, 0x4, 1, 0x4, 1, 0x0, 0x0, 0x0, 0x0⟩,
  ⟨0x220000C, 0x4, 1, 0x4, 1, 0x0, 0x0, 0x0, 0x10⟩,
  ⟨0x2200010, 0x4, 1, 0x4, 1, 0x0, 0x0, 0x7FF, 0x0⟩,
  ⟨0x2200014, 0x4, 1, 0x4, 1, 0x7FF, 0x0, 0x0, 0x0⟩,
  ⟨0x2200018, 0x4, 1, 0x4, 1, 0x0, 0x0, 0x0, 0x0⟩,
  ⟨0x220001C, 0x4, 1, 0x4, 1, 0x0, 0x0, 0x0, 0x0⟩,
  ⟨0x2200020, 0x4, 1, 0x4, 1, 0x0, 0x0, 0x0, 0x0⟩,
  ⟨0x2200024, 0x4, 1, 0x4, 1, 0x0, 0x0, 0x0, 0x0⟩,
  ⟨0x2200028, 0x4, 1, 0x4, 1, 0x0, 0x0, 0x0, 0x0⟩,
  ⟨0x220002C, 0x4, 1, 0x4, 1, 0x0, 0x0, 0x0, 0x0⟩,
  ⟨0x2200030, 0x4, 1, 0x4, 1, 0x0, 0x0, 0x0, 0x0⟩,
  ⟨0x2200034, 0x4, 1, 0x4, 1, 0x0, 0x0, 0x0, 0x0⟩,
  ⟨0x2200038, 0x4, 1, 0x4, 1, 0x0, 0xFFFF, 0x0, 0x30⟩,
  ⟨0x220003C, 0x4, 1, 0x4, 1, 0x0, 0xFFFFFFFF, 0x0, 0x100000⟩,
  ⟨0x2200040, 0x4, 1, 0x4, 1, 0x0, 0x0, 0x0, 0x0⟩,
  ⟨0x2200044, 0x4, 1, 0x4, 1, 0x0, 0x0, 0x0, 0x0⟩,
  ⟨0x2200048, 0x4, 1, 0x4, 1, 0x0, 0x0, 0x0, 0x0⟩,
  ⟨0x220004C, 0x4, 1, 0x4, 1, 0x0, 0x0, 0x0, 0x0⟩,
  ⟨0x2200050, 0x4, 1, 0x4, 1, 0x0, 0x0, 0x0, 0x0⟩,
  ⟨0x2200054, 0x4, 1, 0x4, 1, 0x0, 0x0, 0x0, 0x0⟩,
  ⟨0x2200058, 0x4, 1, 0x4, 1, 0x0, 0x0, 0x0, 0x0⟩,
  ⟨0x2200060, 0x4, 1, 0x4, 1, 0x0, 0x0, 0x0, 0x0⟩,
  ⟨0x2200064, 0x4, 1, 0x4, 1, 0x0, 0x0, 0x0, 0x0⟩,
  ⟨0x2200068, 0x4, 1, 0x4, 1, 0x0, 0x0, 0x0, 0x0⟩,
  ⟨0x220100C, 0x100, 8, 0x100, 1, 0x0, 0x0, 0x0, 0x0⟩,
  ⟨0x2201010, 0x100, 8, 0x100, 1, 0x0, 0x0, 0x3FF, 0x0⟩,
  ⟨0x2201028, 0x100, 8, 0x100, 1, 0x0, 0x0, 0x0, 0x0⟩,
  ⟨0x220102C, 0x100, 8, 0x100, 1, 0x0, 0x0, 0x0, 0x0⟩,
  ⟨0x2201030, 0x100, 8, 0x100, 1, 0x0, 0x0, 0x0, 0x0⟩,
  ⟨0x2201034, 0x100, 8, 0x100, 1, 0x0, 0x0, 0x0, 0x0⟩,
  ⟨0x220103C, 0x100, 8, 0x100, 1, 0x0, 0x0, 0x0, 0x0⟩,
  ⟨0x2201040, 0x100, 8, 0x100, 1, 0x0, 0x0, 0x0, 0x0⟩,
  ⟨0x2201044, 0x100, 8, 0x100, 1, 0x0, 0x0, 0x0, 0x0⟩,
  ⟨0x2201048, 0x100, 8, 0x100, 1, 0x0, 0x0, 0x0, 0x0⟩,
  ⟨0x220104C, 0x100, 8, 0x100, 1, 0x0, 0x0, 0x0, 0x0⟩,
  ⟨0x2201054, 0x100, 8, 0x100, 1, 0x0, 0x0, 0x0, 0x0⟩]
/-- Register rows: clk. -/
def clkRows : List Row := [
  ⟨0x200000, 0x4, 1, 0x4, 1, 0x0, 0x0, 0x0, 0x0⟩,
  ⟨0x200004, 0x4, 1, 0x4, 1, 0x0, 0x3, 0x0, 0x2⟩,
  ⟨0x200008, 0x4, 1, 0x4, 1, 0x0, 0x0, 0x0, 0x0⟩,
  ⟨0x20000C, 0x4, 1, 0x4, 1, 0x0, 0x0, 0x0, 0x0⟩,
  ⟨0x200010, 0x4, 1, 0x4, 1, 0x0, 0x0, 0x7F, 0x0⟩,
  ⟨0x200014, 0x4, 1, 0x4, 1, 0x7F, 0x0, 0x0, 0x0⟩,
  ⟨0x200018, 0x4, 1, 0x4, 1, 0x0, 0x0, 0x0, 0x0⟩,
  ⟨0x20001C, 0x4, 1, 0x4, 1, 0x0, 0x0, 0x0, 0x0⟩,
  ⟨0x200100, 0x4, 14, 0x4, 1, 0x0, 0xFFF, 0x0, 0x0⟩,
  ⟨0x200140, 0x4, 14, 0x4, 1, 0x0, 0x0, 0x0, 0x0⟩,
  ⟨0x200200, 0x4, 15, 0x4, 1, 0x0, 0x1, 0x0, 0x0⟩,
  ⟨0x200240, 0x4, 15, 0x4, 1, 0x0, 0x0, 0x0, 0x0⟩,
  ⟨0x200300, 0x4, 8, 0x4, 1, 0x0, 0xFFFFFFFF, 0x0, 0x0⟩,
  ⟨0x200400, 0x4, 8, 0x4, 1, 0x0, 0x7, 0x0, 0x0⟩,
  ⟨0x200420, 0x4, 8, 0x4, 1, 0x0, 0x0, 0x0, 0x0⟩,
  ⟨0x200440, 0x4, 6, 0x4, 1, 0x0, 0x0, 0x0, 0x0⟩]
/-- Register rows: pwr. -/
def pwrRows : List Row := [
  ⟨0x300000, 0x4, 1, 0x4, 1, 0x0, 0x0, 0x0, 0x0⟩,
  ⟨0x300004, 0x4, 1, 0x4, 1, 0x0, 0x0, 0x0, 0x1⟩,
  ⟨0x300008, 0x4, 1, 0x4, 1, 0x0, 0x0, 0xFF, 0x0⟩,
  ⟨0x30000C, 0x4, 1, 0x4, 1, 0xFF, 0x0, 0x0, 0x0⟩,
  ⟨0x300010, 0x4, 1, 0x4, 1, 0x0, 0xFFFFFF, 0x0, 0x5A6964⟩,
  ⟨0x300014, 0x4, 1, 0x4, 1, 0x0, 0x0, 0x0, 0x0⟩,
  ⟨0x300018, 0x4, 1, 0x4, 1, 0x0, 0x0, 0x0, 0x0⟩,
  ⟨0x30001C, 0x4, 1, 0x4, 1, 0x0, 0x0, 0x0, 0x0⟩,
  ⟨0x300100, 0x4, 24, 0x4, 1, 0x0, 0x1, 0x0, 0x0⟩,
  ⟨0x300200, 0x4, 24, 0x4, 1, 0x0, 0x0, 0x0, 0x0⟩]
/-- Register rows: touch. -/
def touchRows : List Row := [
  ⟨0x100000, 0x4, 1, 0x4, 1, 0x0, 0x0, 0x0, 0x0⟩,
  ⟨0x100004, 0x4, 1, 0x4, 1, 0x0, 0x0, 0x0, 0x0⟩,
  ⟨0x100008, 0x4, 1, 0x4, 1, 0x0, 0x0, 0x3F, 0x0⟩,
  ⟨0x10000C, 0x4, 1, 0x4, 1, 0x3F, 0x0, 0x0, 0x0⟩,
  ⟨0x100010, 0x4, 1, 0x4, 1, 0x0, 0x0, 0x0, 0x0⟩,
  ⟨0x100014, 0x4, 1, 0x4, 1, 0x0, 0x0, 0x0, 0x0⟩,
  ⟨0x100018, 0x4, 1, 0x4, 1, 0xFFFFFFFF, 0x0, 0x0, 0x0⟩,
  ⟨0x10001C, 0x4, 1, 0x4, 1, 0x0, 0x0, 0x0, 0x0⟩,
  ⟨0x100020, 0x4, 1, 0x4, 1, 0x0, 0x0, 0x0, 0x0⟩,
  ⟨0x100024, 0x4, 1, 0x4, 1, 0x0, 0xFFFFFF0F, 0x0, 0x0⟩,
  ⟨0x100028, 0x4, 1, 0x4, 1, 0x0, 0x0, 0x0, 0x0⟩,
  ⟨0x10002C, 0x4, 1, 0x4, 1, 0x0, 0x0, 0x0, 0x0⟩,
  ⟨0x100100, 0x10, 16, 0x10, 1, 0x0, 0x7FFFFFF, 0x0, 0x40186A0⟩,
  ⟨0x100104, 0x10, 16, 0x10, 1, 0x0, 0x0, 0x0, 0x0⟩,
  ⟨0x100108, 0x10, 16, 0x10, 1, 0x0, 0x0, 0x0, 0x0⟩,
  ⟨0x10010C, 0x10, 16, 0x10, 1, 0x0, 0x0, 0x0, 0x0⟩,
  ⟨0x100200, 0x20, 4, 0x20, 1, 0x0, 0x0, 0x0, 0x0⟩,
  ⟨0x100204, 0x20, 4, 0x20, 1, 0x0, 0x0, 0x0, 0x0⟩,
  ⟨0x100208, 0x20, 4, 0x20, 1, 0x0, 0x0, 0x0, 0x0⟩,
  ⟨0x10020C, 0x20, 4, 0x20, 1, 0x0, 0x0, 0x0, 0x0⟩,
  ⟨0x100210, 0x20, 4, 0x20, 1, 0x0, 0x0, 0x0, 0x0⟩,
  ⟨0x100214, 0x20, 4, 0x20, 1, 0x0, 0x0, 0x1, 0x0⟩,
  ⟨0x101000, 0x4, 4096, 0x4, 1, 0x0, 0x0, 0x0, 0x0⟩]
/-- Register rows: glb. -/
def glbRows : List Row := [
  ⟨0x0, 0x4, 1, 0x4, 1, 0x0, 0x0, 0x0, 0x0⟩,
  ⟨0x4, 0x4, 1, 0x4, 1, 0x0, 0x0, 0x0, 0x5F07B9C4⟩,
  ⟨0x8, 0x4, 1, 0x4, 1, 0x0, 0x0, 0x0, 0x0⟩,
  ⟨0xC, 0x4, 1, 0x4, 1, 0x0, 0x0, 0x0, 0x0⟩,
  ⟨0x10, 0x4, 1, 0x4, 1, 0x0, 0x0, 0x0, 0x0⟩,
  ⟨0x14, 0x4, 1, 0x4, 1, 0x0, 0x3, 0x0, 0x2⟩,
  ⟨0x18, 0x4, 1, 0x4, 1, 0x0, 0x0, 0x0, 0x0⟩,
  ⟨0x1C, 0x4, 1, 0x4, 1, 0x0, 0x0, 0x0, 0x0⟩,
  ⟨0x20, 0x4, 1, 0x4, 1, 0x0, 0x0, 0x0, 0x0⟩,
  ⟨0x24, 0x4, 1, 0x4, 1, 0x0, 0x0, 0x0, 0x0⟩,
  ⟨0x28, 0x4, 1, 0x4, 1, 0x0, 0x0, 0x0, 0x0⟩,
  ⟨0x2C, 0x4, 1, 0x4, 1, 0x1FFFFFF, 0x0, 0x0, 0x0⟩,
  ⟨0x30, 0x4, 1, 0x4, 1, 0x0, 0x0, 0x0, 0x0⟩]

/-- The rows that can hold address a (an offset within one function's BAR0), by the regions of Table 19.1. -/
def rowsAt (a : Nat) : List Row :=
  if a < 0x10000 then glbRows
  else if a < 0x20000 then mbxRows
  else if a < 0x30000 then irqRows
  else if a < 0x100000 then dlvRows
  else if a < 0x200000 then touchRows
  else if a < 0x300000 then clkRows
  else if a < 0x400000 then pwrRows
  else if a < 0x500000 then posRows
  else if a < 0x510000 then trgGlobalRows
  else if a < 0x520000 then trgGenRows
  else if a < 0x530000 then trgListRows
  else if a < 0x600000 then trgPinRows
  else if a < 0x800000 then evrRows
  else if a < 0x880000 then laneRows
  else if a < 0xA00000 then laneGlobalRows
  else if a < 0xC00000 then linkRows
  else if a < 0xDA0000 then
    (if a % 0x4000 < 0x100 then pipeRows else if a % 0x4000 < 0x2000 then pipeCtxRows
     else if a % 0x4000 < 0x2100 then assayRows else assayCtxRows)
  else if a < 0xDF0000 then cruRows
  else if a < 0xE00000 then pipeGlobalRows
  else if a < 0x1000000 then assayGlobalRows
  else if a < 0x2000000 then nozRows
  else if a < 0x2100000 then dmaRows
  else if a < 0x2200000 then memRows
  else if a < 0x2300000 then twinRows
  else if a < 0x2400000 then benchRows
  else if a < 0x2410000 then hostepRows
  else []

/-- The row of the register at offset a of a function's BAR0, if Table 19.1 assigns it. -/
def rowAt (a : Nat) : Option Row := (rowsAt a).find? (fun r => r.hit a)

end Sys2Proof.Reg
end

