-- ==== Sys2Proof/Machine/Resets.lean ====
section
/-!
DEFINITION. What every register address reads as after device reset: the Reset column of the register tables, with
the registers whose reset value depends on the copy or is per part spelt out.
-/
namespace Sys2Proof.Machine
open Sys2Proof

/-- Nominal frequency of PLL n in MHz (Table 15.1). GPLL0 to GPLL7 have a range there; they reset to point TP0
(log entry 5). -/
def pllNominal (n : Nat) : Nat :=
  if n = 0 then 1600 else if n = 1 then 1200 else if n = 2 then 1600 else if n = 3 then 1000
  else if n = 4 then 1600 else if n = 5 then 300 else 400

/-- PGCLK in MHz at temper point p (Table 15.4); 6 and 7 act as 5. -/
def temperMHz (p : Nat) : Nat :=
  if p = 0 then 400 else if p = 1 then 700 else if p = 2 then 1000 else if p = 3 then 1250
  else if p = 4 then 1550 else 1600

/-- Group voltage in mV at temper point p (Table 15.4). -/
def temperMv (p : Nat) : Nat :=
  if p = 0 then 600 else if p = 1 then 630 else if p = 2 then 670 else if p = 3 then 710
  else if p = 4 then 770 else 800

/-- GLB_ID (Table 17.10): PART 0x9624, the other fields per part. -/
def glbId : Word :=
  w32 (Config.partRev.toNat + 0x9624 * 256 + b2n Config.partTemp * 2 ^ 24)

/-- Reset word of address a, where a row's single value does not say it; g counts device resets (R314). -/
def resetSpecial (g a : Nat) : Option Word :=
  if a = Reg.GLB_ID then some glbId
  else if a < 0x200100 then none
  else if a < 0x200140 then some (w32 (pllNominal ((a - 0x200100) / 4)))
  else if a < 0x200440 then none
  else if a < 0x200458 then some (w32 (temperMHz ((a - 0x200440) / 4) + temperMv ((a - 0x200440) / 4) * 2 ^ 16))
  else if a < 0x300100 then none
  else if a < 0x300160 then
    some (if a = 0x300100 ∨ a = 0x300104 ∨ a = 0x30010C then 1#32 else 0#32)
  else if a < 0x2100100 then none
  else if a < 0x21001F0 then
    (let l := (a - 0x2100100) / 4; some (w32 (if l < 30 then l else l + 2)))
  else if a < 0x2101000 then none
  else if a < 0x2101C00 then some (((Config.salt g ((a - 0x2101000) / 4)).toNat : Nat) |> w32)
  else if a = Reg.BENCH_SVNMIN then some Config.svnMin
  else if a = Reg.BENCH_KEYS then some (w32 Config.keySlots.toNat)
  else none

/-- Reset word of offset a of one function's BAR0. -/
def resetAt (g a : Nat) : Word :=
  match resetSpecial g a with
  | some w => w
  | none =>
    match Reg.rowAt a with
    | some r => w32 r.reset
    | none => 0#32

/-- A word of a pipeline's tables after the domain turns on: identity (R193; log entry 6). -/
def tableReset (o : Nat) : Word :=
  if o / 0x10000 % 4 = 0 then 0x4000#32
  else if o / 0x10000 % 4 = 2 ∧ o % 0x10000 < 3084 then w32 (o % 0x10000 / 4 % 257 * 0x1000)
  else 0#32

/-- What an unlisted register key below 2^36 reads as: functions 1 to 15 have the rows of PF0 at their own base; keys
of 2^32 and above are memories behind windows, zero after reset (log entry 6). -/
def resetKey (g k : Nat) : Word :=
  if k < 0x10000000 then resetAt g k
  else if k < 0x100000000 then
    (if k % 0x10000000 < 0x100000 then resetAt g (k % 0x10000000) else 0#32)
  else if k < 0x200000000 then 0#32
  else if k < 0x400000000 then tableReset (k - 0x200000000)
  else 0#32

/-- What an unlisted key reads as; the image of a bank word starts as the word does (R226). -/
def resetOf (g k : Nat) : Word := resetKey g (if k < 0x1000000000 then k else k - 0x1000000000)

end Sys2Proof.Machine
end

