-- ==== Sys2Proof/Machine/State.lean ====
section
/-!
DEFINITION. The state of the BQ-9624 as plain data. Registers live in one sparse store of 32-bit words keyed by
their address in PF0 BAR0 (RegMap.lean); what the spec gives the machine beside its registers lives in one record
per unit copy, kept in sparse stores keyed by the copy's number. An entry is listed only where it differs from its
reset value, so equal states are equal data.
-/
namespace Sys2Proof.Machine
open Sys2Proof

/-- Why a step stops with a fault. -/
inductive Fault where
  /-- Raised by no meaning of this model: the spec gives the block no stop, its faults are touchstone records (R477).
  Safe: no run ends in it. -/
  | noSuchFault
  deriving DecidableEq, Repr

/-- Why a step gives no meaning. -/
inductive Refusal where
  /-- Raised by the dispatch arm of a command that has no meaning yet. Safe: the run stops. -/
  | notModelled (mnemonic : String)
  deriving DecidableEq, Repr

/-! ## Fault reports (chapter 16) -/

/-- A fault report on its way to the touchstone (R477): signature code, source index, base level, detection time,
and the access it names (Table 16.7). -/
structure Report where
  sig : Nat
  src : Nat
  level : Nat
  t : Nat
  addr : Nat := 0
  master : Nat := 0
  access : Nat := 0
  forced : Bool := false
  deriving DecidableEq, Repr

/-! ## The present clock (R8) -/

/-- What happened in the clock of one device time, for the rules that speak of one clock: flags that hardware set (register
and bit), W1S bits that a write set while their action was pending (R8), gate signals with the level they had as the tick
began (R104), and EVR entries with the word they held before this tick's writes (R106). Entries of another device time say
nothing. -/
structure Tick where
  t : Nat := 0
  flags : List (Nat × Nat) := []
  again : List (Nat × Nat) := []
  gates : List (Nat × Bool) := []
  routes : List (Nat × Word) := []
  deriving DecidableEq, Repr

/-! ## Position unit (chapter 2) -/

/-- What one encoder axis holds beside its registers. -/
structure Axis where
  /-- Pin levels of ENC_A, ENC_B and ENC_Z. -/
  pinA : Bool := false
  pinB : Bool := false
  pinZ : Bool := false
  /-- Levels the decoder has adopted (R44, R46). -/
  decA : Bool := false
  decB : Bool := false
  decZ : Bool := false
  /-- Device time of the last accepted A or B edge and index edge (R44). -/
  lastAB : Option Nat := none
  lastZ : Option Nat := none
  /-- Times of the last 15 rejected A or B changes, newest first (R45). -/
  rejects : List Nat := []
  /-- Time of the last qualifying rejection while the GLITCH cause is present (R45). -/
  glitch : Option Nat := none
  /-- The measurement M and its acquisition instant tM (R54). -/
  m : Posn := 0
  tM : Nat := 0
  /-- Device time of the last change of M, for standstill (R57). -/
  tChange : Nat := 0
  /-- Offset added to a raw sin/cos measurement so that P_pub continues (R66, R70). -/
  ofs : Posn := 0
  /-- Fraction carried by absolute-word steps, 1/256 PT (R52). -/
  frac : Nat := 0
  /-- Furthest position of M in the current direction (R56). -/
  far : Posn := 0
  /-- Velocity estimate V, signed 8.24 PT per tick (R55). -/
  v : Int := 0
  /-- Quadrature: time of the last counted edge of the estimate, the intervals in use, newest first, and their sign. -/
  vEdge : Option Nat := none
  vIvals : List Nat := []
  vUp : Bool := true
  /-- Sin/cos: the last 8 measurements, newest first (R55). -/
  vSamples : List Posn := []
  /-- Sin/cos: the previous phase and the period counter k (R47). -/
  phi : Option Nat := none
  k : Int := 0
  /-- Consecutive samples outside the amplitude window (R48), and whether a sample came since CLRCNT. -/
  ampBad : Nat := 0
  ampSeen : Bool := false
  /-- Absolute word: the reference word, its acquisition instant and the run counts of R51 and R52. -/
  word : Option Nat := none
  tWord : Nat := 0
  chkRun : Nat := 0
  jmpRun : Nat := 0
  /-- Absolute word: acquisition instant of the frame in flight with the format and clock it was given (R68), start of the
  gap in progress, request waiting (R49), and the instant from which the period counts (R50). -/
  frame : Option Nat := none
  frameFmt : Word := 0
  frameClk : Word := 0
  gap : Option Nat := none
  waiting : Bool := false
  tReq : Nat := 0
  /-- The next valid word loads P_pub (R70). -/
  absLoad : Bool := false
  /-- A drift baseline exists, and the direction has changed since the last latch (R61). -/
  base : Bool := false
  turned : Bool := false
  /-- Reference position R of the missing-index test (R62). -/
  refR : Posn := 0
  /-- Speed window: M at its start, its start time and its length in ticks (R63). -/
  spdM : Posn := 0
  spdT : Nat := 0
  spdLen : Nat := 0
  /-- A RESYNC waits for the next publication tick, and the device time of the last apply of the shadow (R69). -/
  resync : Bool := false
  tApply : Option Nat := none
  /-- Consecutive heartbeats with twin positions apart (R67). -/
  twinRun : Nat := 0
  /-- Device time of the latest publication (R53). -/
  tPub : Nat := 0
  deriving DecidableEq, Repr

/-! ## Trigger unit (chapter 3) -/

/-- What one pitch generator holds beside its registers: the active copies of the shadowed registers (R84), the
run's own phase and line count (R91), the last issue instant (R81), a limited trigger waiting for TSMINPER, and whether the
pending ARM was given while the generator ran. -/
structure Gen where
  pitchI : Nat := 0
  pitchF : Nat := 0
  xdly : Nat := 0x280
  pw : Nat := 0
  phase : Posn := 0
  lines : Nat := 0
  lastT : Option Nat := none
  lastI : Option Nat := none
  wait : Option Nat := none
  /-- Number of the run in progress or last ended, and a run that STOP ended whose crossing is still scheduled
  (R83). -/
  run : Nat := 0
  stopping : Bool := false
  armRun : Bool := false
  deriving DecidableEq, Repr

/-- An open exposure window (R92): its slot, start and stop positions, the pin it holds and the generator whose camera
it opened; whether its start has been crossed, whether its stop has been, and whether its close message has gone. -/
structure Win where
  slot : Nat
  start : Posn
  stop : Posn
  pin : Option Nat
  gen : Option Nat
  opened : Bool := false
  closed : Bool := false
  sent : Bool := false
  deriving DecidableEq, Repr

/-- What one compare list holds beside its registers: open windows, whether its head has been loaded and tested against the
axis (R77), and the first tick at which its next entry can be head: it consumes one a tick (R89). -/
structure CList where
  wins : List Win := []
  loaded : Bool := false
  next : Nat := 0
  deriving DecidableEq, Repr

/-- What happens at a scheduled crossing (R75). -/
inductive CrossKind where
  | gen (g run i : Nat) (t : Posn)
  | head (l : Nat)
  | winOpen (l slot : Nat)
  | winClose (l slot : Nat)
  | winCloseMsg (l slot : Nat)
  deriving DecidableEq, Repr

/-- A predicted crossing: its device time and what happens then. -/
structure Cross where
  tc : Nat
  kind : CrossKind
  deriving DecidableEq, Repr

/-- What one output pin holds beside its registers (R95, R96): the SET level and the tick of the last CLEAR, the end of
the latest pulse, the number of open windows on it, the shaped request, the start of its latest active interval, the tick at
which that ended as requested and, once no request can follow on it, as stretched, and the output level. -/
structure Pin where
  setLvl : Bool := false
  clearT : Option Nat := none
  pulseEnd : Nat := 0
  wins : Nat := 0
  shaped : Bool := false
  start : Nat := 0
  endT : Option Nat := none
  fallT : Option Nat := none
  level : Bool := false
  deriving DecidableEq, Repr

/-- What one pin pair holds (R97): when pin 2k and pin 2k + 1 turn active, and the hold after a tenant reset. -/
structure Pair where
  turn0 : Option Nat := none
  turn1 : Option Nat := none
  held : Bool := false
  deriving DecidableEq, Repr

/-- What one trigger input holds: pin level, filtered level and the last accepted edge (R98). -/
structure TrigIn where
  pin : Bool := false
  level : Bool := false
  last : Option Nat := none
  deriving DecidableEq, Repr

/-! ## Touchstone (chapter 16) -/

/-- A written record that can explain others (Table 16.5): its signature, source, base level and SEQ, the end of its
cause or its last joined report, and whether it is of state type. -/
structure Expl where
  sig : Nat
  src : Nat
  level : Nat
  seq : Nat
  tEnd : Nat
  stateType : Bool
  deriving DecidableEq, Repr

/-- A record whose 2 µs window is open (R479): its SEQ, signature, and the time of its first report. -/
structure OpenRec where
  seq : Nat
  sig : Nat
  t : Nat
  deriving DecidableEq, Repr

/-- A tenant reset in progress (R483): tenant, start, cause of its notice (0 command, 1 touchstone, 2 FLR), and the
commands that wait for it (function, slot). -/
structure TReset where
  t : Nat
  t0 : Nat
  cause : Nat
  cmds : List (Nat × Nat) := []
  deriving DecidableEq, Repr

/-- What the touchstone holds beside its registers: open records, the close of each class's last window (R488), the end
of the last cause of each class, sources of SECONDARY records whose cause is present (signature, source, level, SEQ of
the explaining record) (R490), forced state-type causes and their end (R493), and tenant resets in progress. -/
structure TouchX where
  opens : List OpenRec := []
  lastClose : List (Nat × Nat) := []
  lastCause : List (Nat × Nat) := []
  second : List (Nat × Nat × Nat × Nat) := []
  forced : List (Nat × Nat × Nat) := []
  resets : List TReset := []
  deriving DecidableEq, Repr

/-! ## Camera lanes (chapter 5); lanes 104 to 111 are the twin lanes TW0 to TW7 (R421) -/

/-- A trigger message on its way to a camera (R79, R81, R92): its generator, line trigger, exposure open or exposure close,
with the target position, the index, the exposure device time, the OVS flag and the role it states (Table 6.3). -/
structure TrigMsg where
  gen : Nat
  cam : Nat
  kind : Nat
  tpos : Posn
  idx : Nat
  expt : Nat
  ovs : Bool
  follow : Bool
  deriving DecidableEq, Repr

/-- What a transmitter sends between any two blocks of a packet: a trigger message, or a SWITCH request (R139, R157). -/
inductive Urgent where
  | trig (m : TrigMsg)
  | switch (p : BitVec 64)
  deriving DecidableEq, Repr

/-- A packet that waits on a lane (R156, R157): its class (1 HEART with CLAIM, 2 HEART, TSYNC and TRESULT, 3 the rest), its
header with HCRC and its data blocks; `sync`: a TSYNC of this camera (96: the twin) with this SEQ, whose data blocks are formed
as its header leaves (R166). -/
structure TxPkt where
  cls : Nat
  hdr : BitVec 64
  data : List (BitVec 64)
  sync : Option (Nat × Nat) := none
  deriving DecidableEq, Repr

/-- A packet that waits on the twin link: its class (0 HEART, 1 TIME, 2 CTRL, 3 DIG, 4 BULK), header and data blocks (R425). -/
structure TwinPkt where
  cls : Nat
  hdr : BitVec 64
  data : List (BitVec 64)
  deriving DecidableEq, Repr

/-- An EQREQ that awaits its answer (R130): SEQ, TAP, CMD, repeats so far and when it was last sent. -/
structure EqReq where
  seq : Nat
  tap : Nat
  cmd : Nat
  preset : Nat
  repeats : Nat
  t : Nat
  /-- The margin at the taps it leaves is to be judged: a step of the search, not of the return to the best taps (R132). -/
  judge : Bool := false
  deriving DecidableEq, Repr

/-- What one lane holds beside its registers. -/
structure LaneX where
  /-- Consecutive failed attempts (R129), and the device time at which the current state began. -/
  tries : Nat := 0
  since : Nat := 0
  /-- NODETECT already set in this stay in DETECT. -/
  noDet : Bool := false
  /-- TRAIN: consecutive valid blocks, own ACK, blocks since own ACK, partner ACK seen, LAST sent and received,
  blocks sent (R126). -/
  trRun : Nat := 0
  trAck : Bool := false
  trAcked : Nat := 0
  trPeer : Bool := false
  trLastTx : Bool := false
  trLastRx : Bool := false
  trSeq : Nat := 0
  /-- Commas: one seen since the lane began to look for them, and whether it announced long spacing; mismatches in a row
  (R134), RXOK 0 in a row (R137); CNT and arrival of the last four, newest first (R135). -/
  comma : Bool := false
  long : Bool := false
  mism : Nat := 0
  rxok0 : Nat := 0
  commas : List (Nat × Nat) := []
  /-- The bond may not form on this lane (R134), and this lane has aligned in CAPS (R135). -/
  badMap : Bool := false
  /-- Equalisation: the outstanding request, next SEQ, requests in this attempt, best margin and its taps, requests
  without improvement, the search step, DONE acknowledged, DONE received, last answer given (R130, R132). -/
  eqReq : Option EqReq := none
  eqSeq : Nat := 0
  eqCount : Nat := 0
  eqBest : Nat := 0
  eqBestTap : Nat := 0
  eqNoImp : Nat := 0
  eqPhase : Nat := 0
  eqDone : Bool := false
  eqPeerDone : Bool := false
  eqAnswer : Option (Nat × BitVec 64) := none
  /-- Bond position carried by an inlaid spare (R139). -/
  carry : Option Nat := none
  /-- A command that waits for an inlay to end: 1 RESTART, 2 APPLY (R144). -/
  deferred : Nat := 0
  /-- Alaol-1: commas at one alignment, that alignment, the receiver's running disparity, error count, valid run, was in
  A1ACTIVE (R150). -/
  a1Commas : Nat := 0
  a1Al : Nat := 0
  a1Rx : Option Bool := none
  a1Err : Nat := 0
  a1Run : Nat := 0
  a1Was : Bool := false
  /-- A spare that failed in STANDBY or its self-test (R144), and a data lane that failed the start-up test (R35, R143). -/
  spareFail : Bool := false
  testFail : Bool := false
  /-- The pattern checker: its last bits, newest first, and whether it is synchronised (R148). -/
  prbs : List Bool := []
  prbsSync : Bool := false
  /-- Header errors of the current BER interval that came with received blocks (R137). -/
  ber : Nat := 0
  /-- Since its last self-test, the spare has lost block lock, seen a header error or received RXOK 0; and the start of a test
  in the near-end parallel loop (R145). -/
  selfBad : Bool := false
  selfT : Option Nat := none
  /-- The transmitter (R156, R157): trigger messages and SWITCH requests, EQREQ and EQRSP, and packets that wait; data blocks
  left of the packet in progress; the data block of a TRIG whose header has left. -/
  urgent : List Urgent := []
  ctls : List (BitVec 64) := []
  pkts : List TxPkt := []
  cur : List (BitVec 64) := []
  trigD : Option (BitVec 64) := none
  /-- The scrambler after the last listed block and the slot of that block (R120); blocks in a row other than IDLE and COMMA
  (R123); slot and CNT of the next own comma (R122). -/
  scr : Option (Nat × BitVec 58) := none
  busy : Nat := 0
  cmaNext : Nat := 0
  cmaCnt : Nat := 0
  /-- The pattern being sent: the bits before it, newest first, and how many it has sent (R148). -/
  pat : Option (List Bool × Nat) := none
  /-- The Alaol-1 transmitter (R180, R181): trigger messages with the symbol slot in which each begins, packets that wait, the
  first slot after what has been placed, and the running disparity at a slot. -/
  a1Trigs : List (Nat × TrigMsg) := []
  a1Pkts : List (List Byte) := []
  a1Next : Nat := 0
  a1Tx : Option (Nat × Bool) := none
  deriving DecidableEq, Repr

/-- A SWITCH in progress on a bond (R139, R142): position, failed lane, SEQ, and whether it was sent again. -/
structure Switch where
  pos : Nat
  lane : Nat
  spare : Nat
  seq : Nat
  again : Bool
  t : Nat
  deriving DecidableEq, Repr

/-- A span of lost lines on a bond (R141): its onset, its outcome's instant, and whether the outcome is an inlay that
completed, whether the cause was TXFAIL, and whether a force bit raised it. -/
structure Loss where
  t0 : Nat
  t1 : Option Nat := none
  inlay : Bool := false
  tx : Bool := false
  forced : Bool := false
  deriving DecidableEq, Repr

/-- What a camera's bond holds (key 96 is the twin bond). -/
structure Bond where
  /-- The bond is ACTIVE (R136), or muted (R138). -/
  active : Bool := false
  muted : Bool := false
  /-- The state its lane-state event last published (R136). -/
  shown : Bool := false
  /-- The inlay in progress, the last SEQ used, and data lanes that failed during it (R142, R144). -/
  sw : Option Switch := none
  swSeq : Nat := 0
  late : List Nat := []
  /-- Spans of lane faults, oldest first (R141). -/
  losses : List Loss := []
  /-- Device time at which the capability exchange in progress began (R173). -/
  capsT : Option Nat := none
  /-- The end of the last inlay: only lines that begin after it are captured (R140). -/
  resume : Nat := 0
  /-- The twin bond re-forms on its remaining lanes (R422). -/
  reform : Bool := false
  deriving DecidableEq, Repr

/-! ## Link protocol (chapter 6) -/

/-- A line record of the trigger unit (R80, R160): index, target position, exposure device time, OVS, message kind
(0 LINE, 1 OPEN, 2 CLOSE), TIDX, and the run it belongs to. -/
structure LineRec where
  i : Nat
  t : Posn
  expt : Nat
  ovs : Bool
  kind : Nat
  tidx : Nat
  run : Nat
  deriving DecidableEq, Repr

/-- A camera register request in flight (R172): its TAG, whether it writes, its word count, and the mailbox command
(function, slot) it answers, and when it was sent. -/
structure RegReq where
  tag : Nat
  write : Bool
  count : Nat
  f : Nat
  slot : Nat
  t : Nat := 0
  deriving DecidableEq, Repr

/-- A line or frame row under assembly (R159, R195). -/
structure Assembly where
  tidx : Nat
  seg : Nat
  row : Nat
  freerun : Bool
  bytes : List Byte
  /-- Arrival of its first code block (R140). -/
  t0 : Nat := 0
  deriving DecidableEq, Repr

/-- What the link engine holds for one camera beside its registers. -/
structure Cam where
  /-- Axis the camera is bound to (R18), and whether CAM_BIND has bound it. -/
  axis : Nat := 0
  bound : Bool := false
  /-- Line records not yet paired or closed, oldest first, at most 64 (R160). -/
  recs : List LineRec := []
  /-- The line or row under assembly. -/
  asm : Option Assembly := none
  /-- Area frame in progress: its record, the next row, and whether its later rows are dropped (R196). -/
  frame : Option LineRec := none
  frameDrop : Bool := false
  /-- Register requests outstanding (R172). -/
  reqs : List RegReq := []
  /-- Time round in flight: SEQ and T1; rounds so far; the CAPS round has been made (R166, R167). -/
  round : Option (Nat × Nat) := none
  roundSeq : Nat := 0
  capsRound : Bool := false
  /-- Device times of the last time round and of the last device HEART for this camera (R166, R169). -/
  tsSent : Option Nat := none
  hbSent : Option Nat := none
  /-- Device time of the last camera HEART or bond start, whether HBLOST was raised since (R170), and the highest
  EPOCH it reported. -/
  lastHb : Nat := 0
  hbLost : Bool := false
  epoch : Nat := 0
  /-- Capability exchange in progress; tables received, by FMTID; last FMTID; record received; order kept (R173). -/
  tables : List (Nat × List Byte) := []
  lastFmt : Option Nat := none
  gotRec : Bool := false
  badFmt : Bool := false
  nGot : Nat := 0
  /-- Time rounds before READY of R99: DLY measured. -/
  dly : Nat := 0
  deriving DecidableEq, Repr
/-! ## Blobs and fragments of the assay stage (chapter 8) -/

/-- A blob (R253, R254): its first line (run, index, grid position, exposure time, block number and block start),
page, the place of its first line among the camera's lines, lines covered, pixel sums (area, ew, peak, Lab differences,
reference point), extent in camera columns, the marked columns of its last row and of the row in progress, its flags, and its rows of contact with the first and the
last core column (R256). -/
structure Blob where
  run : Nat
  i0 : Nat
  x0 : Nat
  t0 : Nat
  seq : Nat
  blk : Nat
  page : Nat
  y0 : Nat
  rows : Nat := 1
  area : Nat := 0
  sumE : Nat := 0
  peak : Nat := 0
  dl : Int := 0
  da : Int := 0
  db : Int := 0
  rx : Nat := 0
  ry : Nat := 0
  c0 : Nat
  c1 : Nat
  last : List Nat := []
  cur : List Nat := []
  cont : Bool := false
  split : Bool := false
  trunc : Bool := false
  edge : Bool := false
  ovfl : Bool := false
  left : List (Nat × Nat) := []
  right : List (Nat × Nat) := []
  deriving DecidableEq, Repr

/-- A fragment (R256): the stripe it comes from, its view and tenant byte, and its blob. -/
structure Frag where
  n : Nat
  stripe : Nat
  viewten : Nat
  thi : Nat
  amaj : Nat
  blob : Blob
  deriving DecidableEq, Repr

/-! ## Capture pipelines (chapter 7) -/

/-- One bank of a pipeline as a line or a block uses it (R219, R221): the 32 context words of Table 7.11 and the
listed words of its tables, by table * 0x10000 + byte offset; and the same for the assay stage behind it (R230). -/
structure Bank where
  ctx : List Word := []
  tbl : List (Nat × Word) := []
  asy : List Word := []
  atbl : List (Nat × Word) := []
  deriving DecidableEq, Repr

/-- An item of a pipeline's input: a line or row in an assembly slot, or a gap mark (R187, R195). A slot's record is
absent while its segments still arrive. `part` marks a gap from a line dropped at ingress (R196). -/
structure InItem where
  gap : Bool
  bank : Bank := {}
  fmt : List Byte := []
  lrec : Option LineRec := none
  bytes : List Byte := []
  row : Nat := 0
  lastRow : Bool := false
  part : Bool := false
  deriving DecidableEq, Repr

/-- A line after stage 4 (R201): its grid index, target position, exposure device time, OVS flag and planes of
processed columns. -/
structure RawLine where
  i : Nat
  t : Posn
  expt : Nat
  ovs : Bool
  planes : List (List Nat)
  deriving DecidableEq, Repr

/-- An input line of the draw plate (R207): index, position in 2^-32 PT, exposure device time and planes. -/
structure PlateLine where
  i : Nat
  p : Nat
  expt : Nat
  planes : List (List Nat)
  /-- Row of an area camera's frame (R212). -/
  row : Nat := 0
  deriving DecidableEq, Repr

/-- One run of the camera's generator as the pipeline follows it (R205, R210). -/
structure PRun where
  /-- Which run it is (one number per START), its phase and the first index the pipeline takes part in (R224). -/
  id : Nat
  phase : Posn
  first : Nat
  /-- Next output index, highest index issued so far, and whether the run has ended (R210). -/
  nextOut : Nat
  issued : Option Nat := none
  ended : Bool := false
  /-- Raw indices below `seen` have arrived or are closed; aligned indices below `aligned` are decided (R203). -/
  seen : Nat := 0
  aligned : Nat := 0
  raw : List RawLine := []
  lines : List PlateLine := []
  /-- Anchors: index and position in 2^-32 PT, oldest first (R205). -/
  anchors : List (Nat × Nat) := []
  /-- Indices for which the stripe received a line (R290 LINES). -/
  got : List Nat := []
  deriving DecidableEq, Repr

/-- An output line (R209): index, grid position, exposure device time, status code and planes. -/
structure OutLine where
  i : Nat
  x : Nat
  expt : Nat
  code : Nat
  planes : List (List Nat)
  /-- Place of the line among those of its run: i on a line camera, i × HEIGHT + row on an area camera (R212, R243). -/
  y : Nat := 0
  deriving DecidableEq, Repr

/-- A block of a pipeline (R288): its run, first index, number, frame number and bank, its output lines so far, and
what its statistics record and tag need. -/
structure PBlk where
  run : Nat
  i0 : Nat
  seq : Nat
  frame : Nat
  bank : Bank
  /-- A frame of an area camera (R212). -/
  area : Bool := false
  outs : List OutLine := []
  /-- Status codes of the output lines that a pipeline which a sprue has replaced passed before (R226, R495). -/
  pre : List Nat := []
  linesIn : Nat := 0
  dpc : Nat := 0
  partLoss : Bool := false
  /-- Exposure device times of the block's missing records, for R141. -/
  missT : List Nat := []
  inlaid : Bool := false
  ovs : Bool := false
  forced : Bool := false
  late : Bool := false
  /-- Output lines that passed stage 10, and the block's length when it was cut short (R210). -/
  passed : Nat := 0
  cut : Option Nat := none
  /-- The page of the block's first placed line, and whether one of its lines is NOREF (R237). -/
  page : Nat := 0xFFFFFFFF
  noref : Bool := false
  /-- Opened while a sprue loads: it takes its bank when the load is done (Table 16.6). -/
  fresh : Bool := false
  statDone : Bool := false
  assayDone : Bool := false
  posted : Bool := false
  deriving DecidableEq, Repr

/-- What a stripe hands to the crucible (R293, R297): end items with X_i0 and the lines received, defect records, seam fragments and nozzle summaries. -/
inductive Item where
  | endItem (run i0 x0 : Nat) (blk : PBlk) (got : Nat)
  | defect (r : List Byte)
  | fragment (f : Frag)
  | summary (r : List Byte)
  deriving DecidableEq, Repr

/-- What one pipeline holds beside its registers. -/
structure Pipe where
  /-- Assembly slots and gap marks in order (R195), at most two slots; `drop`: the line that now arrives found both
  taken (R196). -/
  inq : List InItem := []
  drop : Bool := false
  dropFrame : Bool := false
  /-- Area frame in progress: its record and the rows after static replacement (R200, R204). -/
  frame : Option LineRec := none
  frows : List (Nat × List Int) := []
  frameBank : Bank := {}
  frameFmt : List Byte := []
  runs : List PRun := []
  blks : List PBlk := []
  /-- The output line stage 10 holds (R218). -/
  hold : Option OutLine := none
  holdRun : Nat := 0
  /-- Shadow writes that wait for the shadow copy to end (R222). -/
  waiting : List (Nat × Word) := []
  /-- Blocks counted since the camera was bound (R288). -/
  nblk : Nat := 0
  /-- Items ready for the crucible's intake, oldest first (R297). -/
  intake : List Item := []
  /-- A sprue pipeline: the pipeline it replaces, whether it still loads the banks (Table 16.6 steps 3 and 4), and
  whether a boundary passed meanwhile with the swap pending (R31). -/
  rep : Option Nat := none
  loading : Bool := false
  lateSwap : Bool := false
  deriving DecidableEq, Repr

/-! ## Assay stages and views (chapter 8) -/

/-- A line in the assay stage (R229): its run, block start and block number, the line trimmed to core and halo, and
whether it ends its block. -/
structure AsyLine where
  run : Nat
  i0 : Nat
  seq : Nat
  o : OutLine
  last : Bool
  deriving DecidableEq, Repr

/-- A line of the cell row in progress (R243): whether it is placed and its block compares (R237), its page row. -/
structure AsyRow where
  line : AsyLine
  placed : Bool
  noref : Bool
  r : Nat
  deriving DecidableEq, Repr

/-- A cell's displacement in 1/16 pixel and its status (Table 8.4). -/
structure Cell where
  dx : Int
  dy : Int
  status : Nat
  misreg : Bool := false
  deriving DecidableEq, Repr

/-- The page a stage is on (R236): its placement number in the view, descriptor, PSTART, one past its last page row so
far, the view offset in use and whether a newer one waits, the cell row in progress with its predictions and slopes, the
two cell rows before it, and the marks measured. -/
structure AsyPage where
  q : Nat
  page : Nat
  desc : List Byte
  pstart : Posn
  rows : Nat := 0
  /-- Page row `base` is line y0 of run `run`; page row 0 is the placement's first placed line (R243). -/
  run : Nat := 0
  y0 : Nat := 0
  base : Nat := 0
  /-- The block of the latest cell row's first line; cell rows below `meas` are not measured, after an inlay (R263). -/
  blk : Nat × Nat := (0, 0)
  meas : Nat := 0
  gx : Int := 0
  gy : Int := 0
  newG : Option (Int × Int) := none
  v : Nat := 0
  pred : List (Int × Int) := []
  slope : List (Int × Int) := []
  prev : List Cell := []
  prev2 : List Cell := []
  marks : List Nat := []
  deriving DecidableEq, Repr

/-- A cell that waits for Tier B (R246): its column and row, prediction, block means, and the grid position of its first
row. -/
structure TbCell where
  u : Nat
  v : Nat
  px : Int
  py : Int
  means : List Nat
  x0 : Nat
  deriving DecidableEq, Repr

/-- One pixel after ΔE (R251, R252): ew, masked, Lab differences and reference point. -/
structure Px where
  ew : Nat
  masked : Bool
  dl : Int
  da : Int
  db : Int
  rx : Nat
  ry : Nat
  deriving DecidableEq, Repr

/-- Sums of one core column of a block (R259): compared differences per channel and their count, captured values and
their count, and the reference points of the compared pixels. -/
structure ColSum where
  d : List Int := [0, 0, 0]
  n : Nat := 0
  c : List Nat := [0, 0, 0]
  m : Nat := 0
  rx : Nat := 0
  ry : Nat := 0
  deriving DecidableEq, Repr

/-- Sums of one 64-column band of a block (R261): pixels, luminance and its square, in the form of the difference and
of the capture. -/
structure BandSum where
  n : Nat := 0
  y : Int := 0
  yy : Int := 0
  m : Nat := 0
  cy : Int := 0
  cyy : Int := 0
  deriving DecidableEq, Repr

/-- What the stage has gathered for a block: its run and start, first line, the page of its first placed line, the
READY samples taken (R237), lines labelled, and sums. -/
structure AsyBlk where
  run : Nat
  i0 : Nat
  seq : Nat
  first : OutLine
  page : Nat := 0xFFFFFFFF
  refs : List (Nat × Bool) := []
  compared : Bool := false
  lines : Nat := 0
  cols : List ColSum := []
  bands : List BandSum := []
  deriving DecidableEq, Repr

/-- What the crucible keeps of a stripe's registration (R263): the page, where its rows lie, its last completed cell row
and that row's d values. -/
structure CellMem where
  q : Nat
  run : Nat
  y0 : Nat
  base : Nat
  v : Nat
  d : List (Int × Int)
  deriving DecidableEq, Repr

/-- What one assay stage holds beside its registers. -/
structure Asy where
  /-- Lines accepted from stage 10, oldest first. -/
  queue : List AsyLine := []
  page : Option AsyPage := none
  /-- Rows of the cell row in progress, and a page's rows kept for marks (R249). -/
  rows : List AsyRow := []
  hist : List AsyRow := []
  tb : List TbCell := []
  /-- The latest placement each line entered under: grid position of the last line taken (R236). -/
  lastX : Option Nat := none
  /-- ΔE rows that wait for the next row (FILT), the last labelled row's pixels, and the open blobs. -/
  pend : List (AsyRow × List Px) := []
  prevPx : List Px := []
  blobs : List Blob := []
  blks : List AsyBlk := []
  /-- Column runs of the previous block's STREAK records (R260). -/
  streaks : List (Nat × Nat) := []
  /-- Rows labelled so far: run and place of the last (R256). -/
  doneI : Option (Nat × Nat) := none
  /-- The reference band (R229, R239): the bytes fetched, by device address, and the page rows they belong to, oldest
  first, with whether each could be read (R266, R327). -/
  band : List Host.Cell := []
  bandRows : List (Nat × Bool) := []
  /-- Records emitted for each block, by run and i0 (R258). -/
  recs : List (Nat × Nat × Nat) := []
  /-- A sprue that has not begun a page yet: what the crucible kept of the stripe it took over (R263). -/
  seed : Option CellMem := none
  deriving DecidableEq, Repr

/-- A placement in a view's queue (R236): its queue place, page identifier, position, the stripes that have passed its
page, and its number in the view. -/
structure Place where
  slot : Nat
  page : Nat
  pstart : Posn
  num : Nat
  passed : List Nat := []
  /-- The activation position from which it reaches lines, on a paired twin (R434). -/
  act : Option Posn := none
  deriving DecidableEq, Repr

/-- The offsets of one page of a view (R249): its placement number, its g, its accepted marks, and the FINE
displacements of its cell row 0. -/
structure ViewPage where
  num : Nat
  g : Int × Int
  marks : List (Int × Int) := []
  row0 : List (Int × Int) := []
  deriving DecidableEq, Repr

/-- What one view holds beside its registers: placements not retired, oldest first; placements so far; and the offsets of
the pages begun, oldest first (R249). -/
structure View where
  places : List Place := []
  count : Nat := 0
  pgs : List ViewPage := []
  deriving DecidableEq, Repr


/-! ## Nozzle accountant (chapter 9) -/

/-- A column summary in the summary queue (R274, Table 8.10), by its bytes: 32 of header, then 8 for each entry. -/
structure Summary where
  bytes : List Byte
  deriving DecidableEq, Repr

/-- A row inlay in progress on a bank (R283, R284): the logical row, the spare, whether it is a preventive copy, and
rows that wait their turn. -/
structure RowInlay where
  row : Nat
  spare : Nat
  copy : Bool
  deriving DecidableEq, Repr

/-- What one bank of the track memory holds: its inlay in progress, rows that wait for one (row, and whether the inlay is
a preventive copy), rows served by spares (row, spare), isolated rows, and corrected errors of each row since device
reset. -/
structure NozBank where
  inlay : Option RowInlay := none
  waiting : List (Nat × Bool) := []
  served : List (Nat × Nat) := []
  lost : List Nat := []
  ce : List (Nat × Nat) := []
  deriving DecidableEq, Repr

/-- What the accountant holds beside its registers and tracks: the summary queue, the entry and plane it is at in the
summary at the head (R274), the place of the next summary in device memory, commits that wait (R273), segments skipped for the summary in flight (R286), the report
queue (R279), the bitmap of MASK bits (R269), and the words that a read of a track latched (R287). -/
structure NozX where
  queue : List Summary := []
  entry : Nat := 0
  plane : Nat := 0
  place : Nat := 0
  commits : List Nat := []
  skip : List Nat := []
  reports : List (List Byte) := []
  masked : List (Nat × Nat) := []
  latch : List (Nat × Word) := []
  deriving DecidableEq, Repr

/-! ## Crucible and delivery (chapter 10) -/

/-- A stripe's finished share of a block (R293): pipeline, its block record, grid position of i0, and the indices it
received lines for. -/
structure EndRec where
  n : Nat
  blk : PBlk
  x0 : Nat
  lines : Nat
  deriving DecidableEq, Repr

/-- A block of a camera in the crucible (R288, R298). -/
structure CBlk where
  run : Nat
  i0 : Nat
  seq : Nat
  pipes : List Nat
  /-- TSTART: exposure device time of the record of index i0 (Table 10.1). -/
  t0 : Option Nat := none
  /-- Capture-ring slot taken at the boundary, and whether capture-keep latched the block (R299, R108). -/
  slot : Option Nat := none
  keep : Bool := false
  /-- A stripe of the camera is out of service without a sprue (R33). -/
  part : Bool := false
  ends : List EndRec := []
  /-- The completed tag while it waits for the partner's digest, and since when (R300); its digest; compared. -/
  tag : Option (List Byte) := none
  tagT : Nat := 0
  digest : Nat := 0
  map : List Byte := []
  stats : List (List Byte) := []
  deriving DecidableEq, Repr

/-- A capture-ring slot in use (R299): its number, block number, and whether capture-keep keeps it. -/
structure CSlot where
  idx : Nat
  seq : Nat
  kept : Bool
  busy : Bool
  /-- Lines, sample form and format of the block, for a later fetch. -/
  lines : Nat := 0
  rf : Nat := 0
  fmt : List Byte := []
  deriving DecidableEq, Repr

/-- What the crucible holds for one camera beside its registers. -/
structure Cru where
  blocks : List CBlk := []
  /-- Fragments that wait for their neighbours (R256). -/
  frags : List Frag := []
  slots : List CSlot := []
  /-- Records lost and defect records written since the previous tag (Table 10.1 LOST, NDEF). -/
  lost : Nat := 0
  ndef : Nat := 0
  /-- Defect records since the previous tag, and column summaries not tagged yet: (BLKSEQ, stripe, bytes), for the
  digest (R436). -/
  defs : List (List Byte) := []
  sums : List (Nat × Nat × List Byte) := []
  /-- The registration of each stripe (R263). -/
  cells : List (Nat × CellMem) := []
  deriving DecidableEq, Repr

/-- An entry staged for a ring (R304): its bytes, and for an image the run that goes before it, the capture-ring slot it
comes from, and the stripes whose output it is (R347). -/
structure Staged where
  bytes : List Byte
  run : List Byte := []
  slot : Option (Nat × Nat) := none
  stripes : List Nat := []
  deriving DecidableEq, Repr

/-- What one delivery ring holds beside its registers: entries staged, entries and time since the last signal
(R305), the device time of the first unsignalled entry, and the image runs in the data area: (entry number, offset,
length) (R303). -/
structure Ring where
  /-- The DMA channel that serves it (R301). -/
  ch : Nat := 0
  staged : List Staged := []
  unsig : Nat := 0
  sigT : Option Nat := none
  runs : List (Nat × Nat × Nat) := []
  ofs : Nat := 0
  deriving DecidableEq, Repr


/-! ## Device memory (chapter 11) -/

/-- The salts that a page had when a logical channel died: the old one, and the new one for the sets below `ptr` of a page
that was being re-salted (R317, R323). -/
structure DeadPage where
  page : Nat
  old : Nat
  ptr : Nat := 0
  new : Nat := 0
  deriving DecidableEq, Repr

/-- What the memory controller holds beside its registers. A sector is 32 bytes. -/
structure MemX where
  /-- Sectors by number: 1 poisoned, 2 written since its logical channel went to a poisoned sprue (R318, R323). -/
  sect : List (Nat × Nat) := []
  /-- Logical channels that went to a poisoned sprue: the channel, the channel offset below which a copy had saved the
  data (R324), and the salts its pages had then, where they have changed since (R323, R317). -/
  dead : List (Nat × Nat × List DeadPage) := []
  /-- Corrected errors of each pseudo-channel: the device times of its last 64 (R321). -/
  ceT : List (Nat × List Nat) := []
  /-- Uncorrectable errors of each pseudo-channel since device reset (R321). -/
  ueN : List (Nat × Nat) := []
  /-- Pseudo-channels that wait for an inlay, oldest first (R321, R324). -/
  queue : List Nat := []
  /-- The copying inlay in progress: source and sprue (R322). -/
  copy : Option (Nat × Nat) := none
  /-- Device time at which it began. -/
  copyT : Nat := 0
  /-- The re-salt in progress: page and new salt (R317). -/
  resalt : Option (Nat × Nat) := none
  /-- Device time at which it began. -/
  resaltT : Nat := 0
  /-- Device time at which the window of the channel monitor began (R316). -/
  monT : Nat := 0
  deriving DecidableEq, Repr

/-- A descriptor as an engine runs it (Tables 11.5, 11.6): its 64 bytes, or a register set laid out alike. -/
structure Desc where
  src : Nat := 0
  dst : Nat := 0
  len : Nat := 0
  ctl : Word := 0
  next : Nat := 0
  idx : Nat := 0
  idxCnt : Nat := 0
  esize : Nat := 0
  deriving DecidableEq, Repr

/-- What a channel holds beside its registers (R331 to R348): the descriptor loaded and where it lies, the element it
is at, index entries and host bytes at hand, the bytes written, whether the half vector went out, the status so far,
whether its last write has left, what it waits for (1 a host read, 2 a translation) and since when, the instant since
which a ready descriptor has had no credit, a stop that waits for the descriptor. -/
structure Chan where
  desc : Option Desc := none
  addr : Nat := 0
  k : Nat := 0
  table : List Nat := []
  buf : List Byte := []
  bufPoison : Bool := false
  bytes : Nat := 0
  half : Bool := false
  stat : Nat := 0
  done : Bool := false
  want : Nat := 0
  wantT : Nat := 0
  wait : Option Nat := none
  stopping : Bool := false
  deriving DecidableEq, Repr

/-- What an engine holds: the channel it serves (R331), and the channel it last served. -/
structure Engine where
  ch : Option Nat := none
  last : Nat := 31
  deriving DecidableEq, Repr

/-! ## Host endpoint (chapter 12) -/

/-- What the host endpoint holds beside its registers: NumVFs and VF Enable (R364), FLRs in progress with their start
(R377), the translation cache (function, page, translated page),
oldest first (R371), invalidations to complete (R372), the completion timeout selection (R373), the first uncorrectable
error that each function logged (function, error, address, access), the errors it reported as a bit set by signature (R374), what configuration space enables in PF0 ([0] ASPM L1, [1] L1 substates, [2] L0p, [3] PME), and
the maker's mark (R384). -/
structure HostX where
  numVfs : Nat := 0
  vfEn : Bool := false
  flr : List (Nat × Nat) := []
  atc : List (Nat × Nat × Nat) := []
  inv : List (Nat × Nat) := []
  cto : Nat := 0
  aerFirst : List (Nat × Nat × Nat × Nat) := []
  aer : List (Nat × Nat) := []
  ctl : Nat := 0
  mark : List Byte := []
  /-- D3hot of PF0 that waits for READY (Table 17.8); whether firmware has powered off the
  capture domains for it (R512). -/
  d3wait : Bool := false
  d3off : Bool := false
  /-- Register words of the capture domains that firmware restores after D0 (R512): address and word. -/
  d3save : List (Nat × Word) := []
  /-- Subsystem Vendor ID and Subsystem ID, set from the board block (R507). -/
  subsys : Nat := 0
  deriving DecidableEq, Repr


/-! ## Mailbox and bench (chapter 13) -/

/-- A command that firmware has started (R396): function and slot, header fields of Table 13.4, payload, whether a
header byte that must be 0 is not or LEN is too large (R398), start time, and whether an INTERIM has answered it. -/
structure Cmd where
  f : Nat
  slot : Nat
  op : Nat
  flags : Nat
  seq : Nat
  tenant : Nat
  len : Nat
  payload : List Byte
  bad : Bool
  t : Nat
  interim : Bool := false
  deriving DecidableEq, Repr

/-- A response that firmware holds (R397): header and payload (Table 13.5), the slot it frees, whether its command set
FLAGS.IRQ, and whether it is a notice. -/
structure Resp where
  bytes : List Byte
  slot : Option Nat
  irq : Bool
  notice : Bool
  deriving DecidableEq, Repr

/-- What bench firmware holds for one function: responses held, the FAULT mask of NOTIFY_SET (R408), and the queue of
FAULT_READ, oldest first (R497). -/
structure Mbox where
  held : List Resp := []
  mask : Nat := 0x7FFF
  faults : List (List Byte) := []
  deriving DecidableEq, Repr

/-- A transfer in a tenant's queue (R307): its command, and the device time at which it reached the head. -/
structure Xfer where
  cmd : Cmd
  headT : Option Nat := none
  deriving DecidableEq, Repr

/-- A firmware image by what firmware reports of it (Tables 12.12, 13.20). -/
structure FwInfo where
  version : Nat := 0
  build : Nat := 0
  date : Nat := 0
  imageId : List Byte := []
  keyIdx : Nat := 0
  svn : Nat := 0
  deriving DecidableEq, Repr

/-- What the bench holds beside its registers. -/
structure BenchX where
  /-- Doorbells in order of arrival: function and slot; commands started; the function served last (R396). -/
  bells : List (Nat × Nat) := []
  running : List Cmd := []
  last : Nat := 15
  /-- A core inlay in progress: core and since (R389); a restart in progress: cause (0 command, 1 fault, 2 update) and
  since (R391). -/
  inlay : Option (Nat × Nat) := none
  restart : Option (Nat × Nat) := none
  /-- Duties left without a core: cores that have failed. -/
  failed : List Nat := []
  /-- Firmware running, its VERSION before the last update, the image staged (R415) and whether it is verified; the
  activation in progress: its command, RAISESVN, since; the image that ran before; the minimum SVN raised so far. -/
  fw : FwInfo := {}
  prevVer : Nat := 0
  staged : Option (List Byte) := none
  verified : Bool := false
  activate : Option (Cmd × Bool × Nat) := none
  svnUp : Nat := 0
  /-- Serial flash: images written to slots A and B (empty: as delivered), active slot and sequence of the boot record
  (sequence 0: as delivered) (Table 17.3). -/
  slotA : List Byte := []
  slotB : List Byte := []
  boot : Nat := 0
  bootSeq : Nat := 0
  /-- Fill in progress of the maker's mark (R384): the GEN it started with. -/
  markGen : Nat := 0
  /-- Map segments that NOZ_MAP_WRITE holds for a plane's new run: plane, first segment, segments held (R273). -/
  runs : List (Nat × Nat × Nat) := []
  /-- Camera-wide tables (R188) as firmware keeps them: (camera, table, plane, entry, value). -/
  tables : List (Nat × Nat × Nat × Nat × Nat) := []
  /-- Compare entries allocated to lists (R88): list, first entry, entries. -/
  clRings : List (Nat × Nat × Nat) := []
  /-- Routes of the graph of R111 are read from the registers; cameras bound with nozzle accounting (R38). -/
  nozCams : List Nat := []
  /-- Cameras whose delivery command has given SLACK (R289). -/
  slackCams : List Nat := []
  /-- Groups with TEMPER_SET AUTO (R466). -/
  auto : List Nat := []
  /-- Lane tests that run (0x0209): lane, end, and the command (function, slot) that waits. -/
  tests : List (Nat × Nat × Nat × Nat) := []
  deriving DecidableEq, Repr

/-! ## Clocks and power (chapter 15) -/

/-- A temper move in progress (R465): group, whether the regulator ramps (else GPLL slews), the point it heads for,
since when this step and the whole move run, and the mailbox command that waits (function, slot). -/
structure Temper where
  k : Nat
  volt : Bool
  next : Nat
  t : Nat
  t0 : Nat
  cmds : List (Nat × Nat) := []
  deriving DecidableEq, Repr

/-- What the clock unit holds beside its registers. -/
structure ClkX where
  /-- When REF_IN, the twin-recovered clock and PCIE_REFCLK last showed a loss (R450). -/
  lostT : List (Nat × Nat) := []
  /-- A timebase switch in progress: target, since, whether a fallback; the CLK_SOURCE command that waits (R452, R455). -/
  sw : Option (Nat × Nat × Bool) := none
  swCmd : Option (Nat × Nat) := none
  /-- Start of the hold-off count (R454). -/
  holdT : Option Nat := none
  /-- Switches BUSY: domain clock, selection, since (R456); PLLs that slew: PLL, target in MHz and since (R463). -/
  mux : List (Nat × Nat × Nat) := []
  slew : List (Nat × Nat × Nat) := []
  temper : List Temper := []
  /-- Groups isolated under R459 or R467 (R488). -/
  iso : List Nat := []
  deriving DecidableEq, Repr

/-- What the power unit holds beside its registers: the domain that ramps and since when, requests that wait (domain,
on), the domain that drains and since when, the PWR_DOMAIN command that waits (domain, on, function, slot), the state of
THERMHOT and the last reading (R473), and the start of a forced power-down's wait (R348). -/
structure PwrX where
  ramp : Option (Nat × Nat) := none
  wait : List (Nat × Bool) := []
  drain : Option (Nat × Nat) := none
  cmds : List (Nat × Bool × Nat × Nat) := []
  hot : Bool := false
  hotT : Nat := 0
  tempT : Option Nat := none
  warn : Bool := false
  coolT : Option Nat := none
  stopWait : List (Nat × Nat) := []
  /-- Groups that THERMHOT lowered, and the target each had (R473). -/
  lowered : List (Nat × Nat) := []
  deriving DecidableEq, Repr

/-! ## Start-up, reset and quench (chapter 17) -/

/-- What the device as a whole is doing: 0 running or starting up, 1 held in reset, 2 the hold of an internal reset,
3 quenched, 4 main power off, 5 no always-on power; since when; PCIE_PERST_N low; the TAP's instruction, READADDR and
the word captured by READDATA (R516, R517); the part of the start-up that passed before device time counted. -/
structure BootX where
  mode : Nat := 0
  t : Nat := 0
  perst : Bool := false
  ir : Nat := 2
  addr : BitVec 40 := 0
  data : BitVec 72 := 0
  tR : Nat := 0
  /-- Wake sources that PD_AON watches while main power is off, and the one that woke the device (R379). -/
  wake : Nat := 0
  woke : Nat := 0
  deriving DecidableEq, Repr

/-! ## Twin operation (chapter 14) -/

/-- A page or placement that waits until both twins hold it (R434): kind 0 page load, 1 page free, 2 placement; its
words (tenant and slot, or view and queue place; page; PSTART), when the own command and the partner's came, and the
activation position once named. -/
structure TwinItem where
  kind : Nat
  a : Nat
  page : Nat
  pstart : Posn
  place : Nat := 0
  own : Option Nat := none
  peer : Option Nat := none
  act : Option Posn := none
  /-- CFGDIFF has been raised for it. -/
  told : Bool := false
  deriving DecidableEq, Repr

/-- What the twin unit holds beside its registers. -/
structure TwinX where
  /-- TWIN_ALIVE_O and the time of its last toggle; the last witness edge and the last valid heartbeat, its SEQ, the
  time since which the heartbeat has been present, and the own SEQ (R420, R424). -/
  alive : Bool := false
  tAlive : Nat := 0
  witT : Option Nat := none
  hbT : Option Nat := none
  hbSeq : Option Nat := none
  hbSince : Option Nat := none
  seq : Nat := 0
  tSeq : Nat := 0
  /-- When the last time round began here, and when the own configuration digest last left (R427, Table 14.5). -/
  roundT : Option Nat := none
  cfgT : Nat := 0
  /-- An absence has been acted on: heartbeat, witness (Table 14.6). -/
  lostHb : Bool := false
  lostWit : Bool := false
  /-- Partner's last epoch, state and role (R426). -/
  peerEpoch : Nat := 0
  peerState : Nat := 0
  peerRole : Nat := 2
  peerArmed : Bool := false
  /-- Pairing: step of Table 14.4 reached, since when, state and role before, whether it is a rejoin (R432, R433), Ts, and
  cameras that have joined. -/
  step : Nat := 0
  stepT : Nat := 0
  prevState : Nat := 0
  prevRole : Nat := 2
  rejoin : Bool := false
  ts : Option Nat := none
  joined : List Nat := []
  tracksT : Option Nat := none
  /-- Time rounds: consecutive good ones, SEQ and T1 of the one in flight (R427). -/
  good : Nat := 0
  round : Option (Nat × Nat) := none
  roundSeq : Nat := 0
  /-- Handover: Th, when it was commanded, whether this device leads until then, whether the FOLLOW has confirmed, and
  the mailbox command (function, slot) that waits for it (R441). -/
  th : Option Nat := none
  hoT : Nat := 0
  hoLead : Bool := false
  hoOk : Bool := false
  hoCmd : Option (Nat × Nat) := none
  /-- A request to fence the partner: when, and the mailbox command that waits (R442). -/
  fenceT : Option Nat := none
  fenceCmd : Option (Nat × Nat) := none
  /-- Block digests: the partner's that wait for the own tag, and own ones of tags that left (camera, BLKSEQ, digest). -/
  peerDig : List (Nat × Nat × Nat) := []
  ownDig : List (Nat × Nat × Nat) := []
  /-- Track state changes not matched yet: (track, state, time), own and partner's (R437). -/
  nozOwn : List (Nat × Nat × Nat) := []
  nozPeer : List (Nat × Nat × Nat) := []
  /-- Pages and placements that wait (R434), and configuration digests apart in a row. -/
  items : List TwinItem := []
  /-- The LEAD's next BLKSEQ of each camera at Ts (Table 14.4 step 6), and the own g of views on a FOLLOW (R435). -/
  seqs : List (Nat × Nat) := []
  ownG : List (Nat × Word) := []
  /-- Pages that count as READY from an activation position on: tenant, page and position (R434). -/
  pageFrom : List (Nat × Nat × Posn) := []
  cfgRun : Nat := 0
  /-- Packets that wait on the twin link, oldest first, and the slot from which the striped lanes are free again (R425). -/
  txq : List TwinPkt := []
  txFree : Nat := 0
  deriving DecidableEq, Repr


/-! ## What leaves the block -/

/-- What the block sends to the outside, oldest last. -/
inductive Out where
  /-- MSI-X message of vector vec of function f (R366). -/
  | msix (f vec : Nat)
  /-- Output pin p drives a level, or goes to high impedance (R87, R95, R96, R511). -/
  | pin (p : Nat) (level : Bool) (t : Nat)
  | float (p : Nat) (t : Nat)
  /-- ENC_SCLK of axis n leaves its high level with a falling edge at t and issues a number of clock cycles of p/3 ticks
  each, low first; it stays high after the last (R49, R50). -/
  | sclk (n : Nat) (t : Nat) (p cycles : Nat)
  /-- A code block other than an unprompted IDLE leaves on lane n: sync header, payload, and the 66 wire bits (R119, R120). -/
  | block (n : Nat) (hdr : Nat) (payload : BitVec 64) (wire : BitVec 66)
  /-- TRAIN blocks leave on lane n back to back: the first one's payload and their number; SEQ rises by 1 from each to the next
  (Table 5.5). -/
  | train (n : Nat) (payload : BitVec 64) (count : Nat)
  /-- An Alaol-1 packet leaves on lane n: its code groups, K27.7 first, which leaves at t (R180, R181). -/
  | a1 (n : Nat) (groups : List (BitVec 10)) (t : Nat)
  /-- Lane n sends a number of bits of a test pattern, from bit `first` on of the sequence that follows the bits `before`,
  newest first (R148). -/
  | pattern (n pat : Nat) (before : List Bool) (first count : Nat)
  /-- Lane n sends received bits again in the far-end loop (R147). -/
  | bits (n : Nat) (bits : List Bool)
  /-- A packet's blocks, its header first, leave striped over lanes of the twin bond (R155, R421, R423). -/
  | twin (lanes : List Nat) (hdr : BitVec 64) (data : List (BitVec 64))
  /-- TWIN_ALIVE_O drives a level (R420). -/
  | alive (level : Bool) (t : Nat)
  /-- A read of n bits at an offset of function f's BAR0 or BAR2 delivers a value (R5, R359). -/
  | value (f off v : Nat)
  /-- The test port shifts out a data register of n bits (R516). -/
  | tap (n v : Nat)
  /-- A read of device memory through BAR2 of function f completes with bytes, and with EP set where they are poisoned
  (R359, R375). -/
  | bar2 (f off : Nat) (data : List Byte) (poison : Bool)
  /-- An Invalidate Completion of function f for an Invalidate Tag (R372). -/
  | invCpl (f tag : Nat)
  /-- A PME message; PCIE_WAKE_N driven low (R379). -/
  | pme
  | wake
  /-- A host access of function f at an offset is refused: Completer Abort, else Unsupported Request (R362, R363). -/
  | refused (f off : Nat) (ca : Bool)
  /-- A bench access at an offset receives a bus error (R363). -/
  | busError (off : Nat)
  deriving DecidableEq, Repr

/-! ## The state -/

/-- The slew of device time on the FOLLOW (R427): sixteenths of a tick still to drop (negative: to add), and ticks since the
last one dropped or added. -/
structure Slew where
  left : Int := 0
  acc : Nat := 0
  deriving DecidableEq, Repr

/-- The whole state of the block. -/
structure State where
  /-- Commands that wait, first in first out. -/
  pending : List Instr := []
  /-- Device time in TBCLK ticks (R12). -/
  devTime : Nat := 0
  /-- Device resets so far: the index of values drawn at reset (R314). -/
  bootGen : Nat := 0
  /-- Free values drawn so far (the model's own counter, log entry 2). -/
  freeIdx : Nat := 0
  /-- Every register and window word, by address (RegMap.lean). -/
  regs : List (Nat × Word) := []
  /-- The high word latched by the last read of a low register (R5), by the low register's key. -/
  hiLatch : List (Nat × Word) := []
  /-- What happened in the present clock (R8, R104). -/
  tick : Tick := {}
  /-- Device time since which the host link has been idle (R380). -/
  idleT : Nat := 0
  /-- The slew of device time in progress (R427). -/
  slew : Slew := {}
  /-- Fault reports on their way to the touchstone, oldest first (R478). -/
  reports : List Report := []
  /-- Asserted cause lines: signature code and source (R477). -/
  causes : List (Nat × Nat) := []
  /-- Written records that can explain others (R489), oldest first. -/
  expls : List Expl := []
  /-- Events published and not yet delivered: channel and device time, oldest first (R102, R103). -/
  events : List (Nat × Nat) := []
  /-- Encoder axes (chapter 2). -/
  axes : List (Nat × Axis) := []
  /-- Pitch generators, compare lists, pins, pairs and inputs (chapter 3). -/
  gens : List (Nat × Gen) := []
  lists : List (Nat × CList) := []
  pins : List (Nat × Pin) := []
  pairs : List (Nat × Pair) := []
  trigIns : List (Nat × TrigIn) := []
  /-- Predicted crossings in order of instant (R75). -/
  sched : List Cross := []
  /-- Lanes 0 to 103 and twin lanes 104 to 111, bonds by camera (96: the twin), cameras (chapters 5, 6, 14). -/
  lanes : List (Nat × LaneX) := []
  bonds : List (Nat × Bond) := []
  cams : List (Nat × Cam) := []
  /-- Capture pipelines (chapter 7). -/
  pipes : List (Nat × Pipe) := []
  /-- Assay stages, views, and the tenant of each loaded page descriptor slot (chapter 8). -/
  asys : List (Nat × Asy) := []
  views : List (Nat × View) := []
  pages : List (Nat × Nat) := []
  /-- Crucible records by camera, rings by 16 f + r, transfer queues by tenant (chapter 10). -/
  crus : List (Nat × Cru) := []
  rings : List (Nat × Ring) := []
  xfers : List (Nat × List Xfer) := []
  /-- The host endpoint (chapter 12). -/
  host : HostX := {}
  /-- Nozzle accountant and its banks (chapter 9); the twin unit (chapter 14). -/
  noz : NozX := {}
  nbanks : List (Nat × NozBank) := []
  twin : TwinX := {}
  /-- The memory controller, DMA channels by 32 e + j, and engines (chapter 11). -/
  memx : MemX := {}
  chans : List (Nat × Chan) := []
  engines : List (Nat × Engine) := []
  /-- Mailboxes by function, the bench (chapter 13); clocks, power (chapter 15); the touchstone's work in progress
  (chapter 16); start-up, reset, quench and the test port (chapter 17). -/
  mboxes : List (Nat × Mbox) := []
  bench : BenchX := {}
  clk : ClkX := {}
  pwr : PwrX := {}
  touch : TouchX := {}
  boot : BootX := {}
  /-- Device memory and host memory as bytes written so far; an unlisted byte reads 0 (log entry 13). -/
  devMem : List Host.Cell := []
  hostMem : List Host.Cell := []
  /-- Partition record of each tenant 1 to 15, 176 bytes (Table 13.8); empty: no such tenant. -/
  parts : List (Nat × List Byte) := []
  /-- What the block has sent, newest first. -/
  out : List Out := []
  deriving DecidableEq, Repr

/-- The machine right after device reset from power-on (R502): every register at its Reset value, every unit record
at its default, no command waiting. -/
def State.reset : State := {}

end Sys2Proof.Machine
end

