-- ==== Sys2Proof/Machine/Store.lean ====
section
/-!
DEFINITION. Sparse stores: a list of (key, value) pairs with strictly rising keys and no entry equal to what an
unlisted key reads as (the default). Registers, memories and the records of replicated units are all kept so.
-/
namespace Sys2Proof.Machine

/-- The value at key k; an unlisted key reads as its default. -/
def sget {α : Type} (d : Nat → α) : List (Nat × α) → Nat → α
  | [], k => d k
  | (k', v) :: r, k => if k' = k then v else sget d r k

/-- Insert or replace at key k, keeping the keys rising. -/
def sins {α : Type} (k : Nat) (v : α) : List (Nat × α) → List (Nat × α)
  | [] => [(k, v)]
  | (k', v') :: r =>
    if k < k' then (k, v) :: (k', v') :: r
    else if k = k' then (k, v) :: r
    else (k', v') :: sins k v r

/-- Remove key k. -/
def sdel {α : Type} (k : Nat) : List (Nat × α) → List (Nat × α)
  | [] => []
  | (k', v') :: r => if k' = k then sdel k r else (k', v') :: sdel k r

/-- Store v at key k in canonical form: a value equal to the default removes the entry. -/
def sset {α : Type} [DecidableEq α] (d : Nat → α) (l : List (Nat × α)) (k : Nat) (v : α) : List (Nat × α) :=
  if v = d k then sdel k l else sins k v l

/-- The keys rise strictly and all lie above b. -/
def risesAbove {α : Type} : Nat → List (Nat × α) → Bool
  | _, [] => true
  | b, (k, _) :: r => decide (b < k) && risesAbove k r

/-- The keys rise strictly. -/
def rises {α : Type} : List (Nat × α) → Bool
  | [] => true
  | (k, _) :: r => risesAbove k r

/-- No entry equals the default of its key. -/
def noDefault {α : Type} [DecidableEq α] (d : Nat → α) (l : List (Nat × α)) : Bool :=
  l.all (fun e => decide (e.2 ≠ d e.1))

/-- The canonical form of a store. -/
def swf {α : Type} [DecidableEq α] (d : Nat → α) (l : List (Nat × α)) : Bool := rises l && noDefault d l

/-- Keep only the entries whose key meets a test. -/
def skeep {α : Type} (p : Nat → Bool) (l : List (Nat × α)) : List (Nat × α) := l.filter (fun e => p e.1)

end Sys2Proof.Machine
end

