-- ==== Sys2Proof/Machine/Ops.lean ====
section
/-!
DEFINITION. The named operations over registers, unit records, tenants and byte memories that every meaning is written
with: reading and writing a register word, its fields and 64-bit pairs, device time, outputs, free values and clocks.
-/
namespace Sys2Proof.Machine
open Sys2Proof

/-- What a meaning answers. -/
abbrev Res := Host.Outcome State Fault Refusal

/-! ## Registers -/

/-- The current value of the register at key k. -/
def State.rd (s : State) (k : Nat) : Word := sget (resetOf s.bootGen) s.regs k

/-- Set the register at key k. -/
def State.wr (s : State) (k : Nat) (v : Word) : State :=
  { s with regs := sset (resetOf s.bootGen) s.regs k v }

/-- Bits [lo + n - 1 : lo] of a register. -/
def State.fld (s : State) (k lo n : Nat) : Nat := fldOf (s.rd k) lo n

/-- Bit i of a register. -/
def State.bit (s : State) (k i : Nat) : Bool := bitOf (s.rd k) i

/-- A register as a number. -/
def State.rdN (s : State) (k : Nat) : Nat := (s.rd k).toNat

/-- Set a field of a register. -/
def State.setFld (s : State) (k lo n v : Nat) : State := s.wr k (putFld (s.rd k) lo n v)

/-- Set or clear one bit of a register. -/
def State.setBit (s : State) (k i : Nat) (b : Bool) : State := s.setFld k i 1 (b2n b)

/-- Add to a field that saturates. -/
def State.addSat (s : State) (k lo n d : Nat) : State := s.setFld k lo n (satAdd n (s.fld k lo n) d)

/-- Add to a field that wraps. -/
def State.addWrap (s : State) (k lo n d : Nat) : State := s.setFld k lo n (s.fld k lo n + d)

/-- A 64-bit quantity in two registers, low one first (R5). -/
def State.rd64 (s : State) (k : Nat) : Nat := s.rdN k + s.rdN (k + 4) * 2 ^ 32

/-- Set a 64-bit quantity in two registers. -/
def State.wr64 (s : State) (k v : Nat) : State := (s.wr k (w32 v)).wr (k + 4) (w32 (v / 2 ^ 32))

/-- A 48-bit position held in two registers. -/
def State.rdPos (s : State) (k : Nat) : Posn := posn (s.rd64 k)

/-- Set a 48-bit position held in two registers. -/
def State.wrPos (s : State) (k : Nat) (p : Posn) : State := s.wr64 k p.toNat

/-- Set registers k, k + 4, … to the words of a list. -/
def State.wrList (s : State) (k : Nat) : List Word → State
  | [] => s
  | w :: r => State.wrList (s.wr k w) (k + 4) r

/-- n words from key k on. -/
def State.rdList (s : State) (k n : Nat) : List Word := (List.range n).map (fun i => s.rd (k + 4 * i))

/-- n bytes from key k on, little-endian (R4). -/
def State.rdBytes (s : State) (k n : Nat) : List Byte :=
  (List.range n).map (fun i => BitVec.ofNat 8 ((s.rdN ((k + i) / 4 * 4)) / 2 ^ (8 * ((k + i) % 4))))

/-- Set the byte at key k. -/
def State.wrByte (s : State) (k : Nat) (b : Byte) : State :=
  s.setFld (k / 4 * 4) (8 * (k % 4)) 8 b.toNat

/-- Set bytes from key k on. -/
def State.wrBytes (s : State) (k : Nat) : List Byte → State
  | [] => s
  | b :: r => State.wrBytes (s.wrByte k b) (k + 1) r

/-! ## Unit records -/

/-- Axis n. -/
def State.axis (s : State) (n : Nat) : Axis := sget (fun _ => {}) s.axes n
/-- Set axis n. -/
def State.setAxis (s : State) (n : Nat) (x : Axis) : State := { s with axes := sset (fun _ => {}) s.axes n x }
/-- Generator g. -/
def State.gen (s : State) (g : Nat) : Gen := sget (fun _ => {}) s.gens g
/-- Set generator g. -/
def State.setGen (s : State) (g : Nat) (x : Gen) : State := { s with gens := sset (fun _ => {}) s.gens g x }
/-- Compare list l. -/
def State.clist (s : State) (l : Nat) : CList := sget (fun _ => {}) s.lists l
/-- Set compare list l. -/
def State.setClist (s : State) (l : Nat) (x : CList) : State := { s with lists := sset (fun _ => {}) s.lists l x }
/-- Output pin p. -/
def State.pin (s : State) (p : Nat) : Pin := sget (fun _ => {}) s.pins p
/-- Set output pin p. -/
def State.setPin (s : State) (p : Nat) (x : Pin) : State := { s with pins := sset (fun _ => {}) s.pins p x }
/-- Pin pair k. -/
def State.pair (s : State) (k : Nat) : Pair := sget (fun _ => {}) s.pairs k
/-- Set pin pair k. -/
def State.setPair (s : State) (k : Nat) (x : Pair) : State := { s with pairs := sset (fun _ => {}) s.pairs k x }
/-- Trigger input n. -/
def State.trigIn (s : State) (n : Nat) : TrigIn := sget (fun _ => {}) s.trigIns n
/-- Set trigger input n. -/
def State.setTrigIn (s : State) (n : Nat) (x : TrigIn) : State :=
  { s with trigIns := sset (fun _ => {}) s.trigIns n x }

/-- Lane n (104 to 111: twin lanes). -/
def State.lane (s : State) (n : Nat) : LaneX := sget (fun _ => {}) s.lanes n
/-- Set lane n. -/
def State.setLane (s : State) (n : Nat) (x : LaneX) : State := { s with lanes := sset (fun _ => {}) s.lanes n x }
/-- Bond of camera c (96: the twin bond). -/
def State.bond (s : State) (c : Nat) : Bond := sget (fun _ => {}) s.bonds c
/-- Set the bond of camera c. -/
def State.setBond (s : State) (c : Nat) (x : Bond) : State := { s with bonds := sset (fun _ => {}) s.bonds c x }
/-- Camera c. -/
def State.cam (s : State) (c : Nat) : Cam := sget (fun _ => {}) s.cams c
/-- Set camera c. -/
def State.setCam (s : State) (c : Nat) (x : Cam) : State := { s with cams := sset (fun _ => {}) s.cams c x }

/-- Pipeline n. -/
def State.pipe (s : State) (n : Nat) : Pipe := sget (fun _ => {}) s.pipes n
/-- Set pipeline n. -/
def State.setPipe (s : State) (n : Nat) (x : Pipe) : State := { s with pipes := sset (fun _ => {}) s.pipes n x }

/-- Assay stage of pipeline n. -/
def State.asy (s : State) (n : Nat) : Asy := sget (fun _ => {}) s.asys n
/-- Set the assay stage of pipeline n. -/
def State.setAsy (s : State) (n : Nat) (x : Asy) : State := { s with asys := sset (fun _ => {}) s.asys n x }
/-- View v. -/
def State.view (s : State) (v : Nat) : View := sget (fun _ => {}) s.views v
/-- Set view v. -/
def State.setView (s : State) (v : Nat) (x : View) : State := { s with views := sset (fun _ => {}) s.views v x }
/-- The tenant of page descriptor slot k, plus 1; 0 while the slot is FREE (R234). -/
def State.pageSlot (s : State) (k : Nat) : Nat := sget (fun _ => 0) s.pages k
/-- Set the tenant of page descriptor slot k, plus 1. -/
def State.setPageSlot (s : State) (k t : Nat) : State := { s with pages := sset (fun _ => 0) s.pages k t }

/-- Crucible record of camera c. -/
def State.cru (s : State) (c : Nat) : Cru := sget (fun _ => {}) s.crus c
/-- Set the crucible record of camera c. -/
def State.setCru (s : State) (c : Nat) (x : Cru) : State := { s with crus := sset (fun _ => {}) s.crus c x }
/-- Delivery ring r of function f. -/
def State.ring (s : State) (f r : Nat) : Ring := sget (fun _ => {}) s.rings (16 * f + r)
/-- Set delivery ring r of function f. -/
def State.setRing (s : State) (f r : Nat) (x : Ring) : State :=
  { s with rings := sset (fun _ => {}) s.rings (16 * f + r) x }
/-- The mailbox of function f. -/
def State.mbox (s : State) (f : Nat) : Mbox := sget (fun _ => {}) s.mboxes f
/-- Set the mailbox of function f. -/
def State.setMbox (s : State) (f : Nat) (x : Mbox) : State := { s with mboxes := sset (fun _ => {}) s.mboxes f x }
/-- Set the bench's record. -/
def State.setBench (s : State) (x : BenchX) : State := { s with bench := x }
/-- Set the clock unit's record. -/
def State.setClk (s : State) (x : ClkX) : State := { s with clk := x }
/-- Set the power unit's record. -/
def State.setPwr (s : State) (x : PwrX) : State := { s with pwr := x }
/-- Set the touchstone's record. -/
def State.setTouch (s : State) (x : TouchX) : State := { s with touch := x }
/-- Set the record of start-up, reset and quench. -/
def State.setBoot (s : State) (x : BootX) : State := { s with boot := x }
/-- Set the host endpoint's record. -/
def State.setHost (s : State) (x : HostX) : State := { s with host := x }
/-- Set the twin unit's record. -/
def State.setTwin (s : State) (x : TwinX) : State := { s with twin := x }

/-- The transfer queue of tenant f. -/
def State.xferQ (s : State) (f : Nat) : List Xfer := sget (fun _ => []) s.xfers f
/-- Set the transfer queue of tenant f. -/
def State.setXferQ (s : State) (f : Nat) (l : List Xfer) : State :=
  { s with xfers := sset (fun _ => []) s.xfers f l }

/-! ## Tenants (R23, R403) -/

/-- Maps of objects in a partition record (Table 13.8), by their first byte. -/
abbrev Part.plane : Nat := 1
abbrev Part.axOwn : Nat := 2
abbrev Part.axUse : Nat := 3
abbrev Part.view : Nat := 4
abbrev Part.rset : Nat := 11
abbrev Part.pinOut : Nat := 16
abbrev Part.pinIn : Nat := 20
abbrev Part.list : Nat := 28
abbrev Part.tsgen : Nat := 36
abbrev Part.cam : Nat := 48
abbrev Part.pipe : Nat := 64
abbrev Part.evch : Nat := 80
abbrev Part.dmach : Nat := 112

/-- Bit i of the map that starts at byte o of a partition record. -/
def partHas (p : List Byte) (o i : Nat) : Bool := (nth p (o + i / 8) 0#8).getLsbD (i % 8)
/-- The partition record of tenant t. -/
def State.part (s : State) (t : Nat) : List Byte := sget (fun _ => []) s.parts t
/-- Set the partition record of tenant t. -/
def State.setPart (s : State) (t : Nat) (p : List Byte) : State := { s with parts := sset (fun _ => []) s.parts t p }
/-- Tenant t exists; tenant 0 always does (R403). -/
def State.tenantIs (s : State) (t : Nat) : Bool := t == 0 || s.part t != []
/-- The tenant that owns object i of a map: the VF tenant that lists it, else tenant 0 (R23). -/
def State.owner (s : State) (o i : Nat) : Nat :=
  ((List.range 15).map (· + 1)).find? (fun t => partHas (s.part t) o i) |>.getD 0

/-! ## Byte memories -/

/-- Byte a of a byte memory. -/
def memGet (m : List Host.Cell) (a : Nat) : Byte := sget (fun _ => 0#8) m a
/-- n bytes from address a on. -/
def memRead (m : List Host.Cell) (a n : Nat) : List Byte := (List.range n).map (fun i => memGet m (a + i))
/-- Write bytes from address a on. -/
def memWrite (m : List Host.Cell) (a : Nat) : List Byte → List Host.Cell
  | [] => m
  | b :: r => memWrite (sset (fun _ => 0#8) m a b) (a + 1) r
/-- A byte memory is in canonical form. -/
def Memory.wf (m : List Host.Cell) : Bool := swf (fun _ => 0#8) m

/-- Write bytes to host memory. -/
def State.hostWrite (s : State) (a : Nat) (bs : List Byte) : State := { s with hostMem := memWrite s.hostMem a bs }

/-- Apply an update to every element of a list, in order. -/
def State.each {α : Type} (s : State) (l : List α) (f : State → α → State) : State := l.foldl f s

/-! ## Time, outputs, free values -/

/-- Ticks that a slewing device drops (negative: adds) while dt ticks pass: at most one in every 1,024 (R427). -/
def Slew.drop (x : Slew) (dt : Nat) : Int :=
  let n : Int := ((x.acc + dt) / 1024 : Nat)
  max (-n) (min n (x.left.tdiv 16))
/-- Device time when dt ticks have passed (R12, R427). -/
def State.after (s : State) (dt : Nat) : Nat := ((s.devTime : Int) + dt - s.slew.drop dt).toNat
/-- Send something to the outside. -/
def State.emit (s : State) (o : Out) : State := { s with out := o :: s.out }

/-- A fresh value that the spec leaves open, and the state that has used it (log entry 2). -/
def State.free (s : State) : BitVec 64 × State :=
  (Config.freeValue s.freeIdx, { s with freeIdx := s.freeIdx + 1 })

/-! ## One clock (R8). The model takes a clock to be a tick of device time (log entry 119). -/

/-- What has happened so far in the clock of the present device time. -/
def State.now (s : State) : Tick := if s.tick.t = s.devTime then s.tick else { t := s.devTime }
/-- Note that hardware sets flag i of the register at key k in this clock. -/
def State.noteFlag (s : State) (k i : Nat) : State := { s with tick := { s.now with flags := (k, i) :: s.now.flags } }
/-- Note that a write sets W1S bit i of the register at key k again while its action is pending. -/
def State.noteAgain (s : State) (k i : Nat) : State := { s with tick := { s.now with again := (k, i) :: s.now.again } }
/-- A write sets W1S bit i of the register at key k; where its action is pending it is noted (R8). -/
def State.w1sSet (s : State) (k i : Nat) (pending : Bool) : State := if pending then s.noteAgain k i else s
/-- The W1C flags of the register at key k that hardware has set in this clock, as a mask. -/
def State.flagMask (s : State) (k : Nat) : Word :=
  s.now.flags.foldl (fun m e => if e.1 = k then m ||| w32 (2 ^ e.2) else m) 0#32
/-- The action that W1S bit i of the register at key k started has completed: where a write set the bit again in this clock,
it starts once more (R8). -/
def State.w1sDone (s : State) (k i : Nat) (start : State → State) : State :=
  if s.now.again.contains (k, i) then
    start { s with tick := { s.now with again := s.now.again.filter (fun e => e != (k, i)) } }
  else s

/-! ## Clock enables -/

/-- The clock of an instance runs: its bit b of Table 15.3 (R461; powering its domain off clears it). -/
def State.clkOn (s : State) (b : Nat) : Bool := s.bit (Reg.CLK_GATE (b / 32)) (b % 32)

end Sys2Proof.Machine
end

