-- ==== Sys2Proof/Machine/Wire.lean ====
section
/-!
DEFINITION. What travels on a lane, bit by bit: sync headers and the scrambler (R119, R120), the kinds of received block
(Table 5.2, R121, R122), the bond stream (R155), packets and their framing (R154, R157, R158), 8b/10b coding (R149) and the
test patterns (R148).
-/
namespace Sys2Proof.Machine
open Sys2Proof

/-! ## Sync headers and the scrambler (R119, R120) -/

/-- The sync header of 66 wire bits. -/
def blkHdr (b : BitVec 66) : Nat := b.toNat % 4
/-- The payload of 66 wire bits, as it travels. -/
def blkPay (b : BitVec 66) : BitVec 64 := (b >>> 2).setWidth 64
/-- The payload of a block in the parts of Table 5.3: TYPE [7:0], the fields [23:8], PATTERN [63:24]. -/
def commaPay (typ : BitVec 8) (mid : BitVec 16) (pat : BitVec 40) : BitVec 64 := pat ++ mid ++ typ
/-- The wire bits of a header and a payload as it travels. -/
def wireOf (hdr : Nat) (w : BitVec 64) : BitVec 66 := BitVec.ofNat 66 (hdr % 4 + w.toNat * 4)

/-- The payload that 64 scrambled bits carry after the 58 scrambled bits `prior`, oldest in bit 0: bit n of it is bit n of
the stream, plus the bits 39 and 58 places earlier. -/
def descramble (prior : BitVec 58) (w : BitVec 64) : BitVec 64 :=
  let f : BitVec 122 := w ++ prior
  ((f >>> 58) ^^^ (f >>> 19) ^^^ f).setWidth 64

/-- The 64 scrambled bits of a payload after the 58 scrambled bits `prior`: the first 39 depend on `prior` alone. -/
def scramble (prior : BitVec 58) (d : BitVec 64) : BitVec 64 :=
  let lo : BitVec 39 := d.setWidth 39 ^^^ (prior >>> 19).setWidth 39 ^^^ prior.setWidth 39
  let f : BitVec 97 := lo ++ prior
  let hi : BitVec 25 := (d >>> 39).setWidth 25 ^^^ (f >>> 58).setWidth 25 ^^^ (f >>> 39).setWidth 25
  hi ++ lo

/-- The last 58 scrambled bits once 64 more have passed. -/
def scrNext (prior : BitVec 58) (w : BitVec 64) : BitVec 58 :=
  let f : BitVec 122 := w ++ prior
  (f >>> 64).setWidth 58

/-! ## Kinds of block (Table 5.2) -/

/-- Bits of a control block payload. -/
def blkBits (b : BitVec 64) (lo n : Nat) : Nat := b.toNat / 2 ^ lo % 2 ^ n

/-- A block as the receiver takes it: a data block, a control block, a comma (its payload unscrambled), or one whose sync
header is in error. -/
inductive RxBlk where
  | data (p : BitVec 64)
  | ctl (p : BitVec 64)
  | comma (p : BitVec 64)
  | bad
  deriving DecidableEq, Repr

/-- The payload of a comma: TYPE and PATTERN as sent (R122). -/
def isComma (hdr : Nat) (w : BitVec 64) : Bool :=
  decide (hdr = 2) && decide (blkBits w 0 8 = 0x78) && decide (blkBits w 24 40 = 0x963C5A0FE1)

/-- One received block, after the 58 scrambled bits before it. -/
def rxBlk (prior : BitVec 58) (b : BitVec 66) : RxBlk :=
  if isComma (blkHdr b) (blkPay b) then .comma (blkPay b)
  else if blkHdr b = 1 then .data (descramble prior (blkPay b))
  else if blkHdr b = 2 then .ctl (descramble prior (blkPay b))
  else .bad

/-- The scrambled bits before the next block: a comma does not enter them (R120). -/
def rxPrior (prior : BitVec 58) (b : BitVec 66) : BitVec 58 :=
  if isComma (blkHdr b) (blkPay b) then prior else scrNext prior (blkPay b)

/-- Received blocks in order. -/
def rxBlks (prior : BitVec 58) : List (BitVec 66) → List RxBlk
  | [] => []
  | b :: r => rxBlk prior b :: rxBlks (rxPrior prior b) r

/-- The blocks of one lane. -/
def laneBlks (x : LaneRx) : List RxBlk := rxBlks x.prior x.blocks
/-- One block that a command brings. -/
def blkOf (x : WireBlk) : RxBlk := rxBlk x.prior x.bits
/-- Its payload, if it is a control block of a type. -/
def ctlOf (x : WireBlk) (type : Nat) : Option (BitVec 64) :=
  match blkOf x with
  | .ctl p => if blkBits p 0 8 = type then some p else none
  | _ => none
/-- Its sync header is in error. -/
def RxBlk.isBad (b : RxBlk) : Bool :=
  match b with
  | .bad => true
  | _ => false

/-- A control block of a reserved type: below 0x80 and not in Table 5.2. A comma type without its pattern is none of the
names that a receiver recognises (R121, R122, log entry 129). -/
def RxBlk.isReserved (b : RxBlk) : Bool :=
  match b with
  | .ctl p => decide (blkBits p 0 8 < 0x80) && !([0x1E, 0x2D, 0x33, 0x4B, 0x66].contains (blkBits p 0 8))
  | _ => false
/-- A control block of the link protocol: a packet header (Table 5.2). -/
def RxBlk.isHeader (b : RxBlk) : Bool :=
  match b with
  | .ctl p => decide (0x80 ≤ blkBits p 0 8)
  | _ => false
/-- A SWITCH block's payload. -/
def RxBlk.switch (b : RxBlk) : Option (BitVec 64) :=
  match b with
  | .ctl p => if blkBits p 0 8 = 0x4B then some p else none
  | _ => none

/-! ## The bond stream (R155) -/

/-- The stream that n slots of several positions carry: slot after slot, position 0 first in each; a lane's commas are not
part of it. -/
def mergeSlots : Nat → List (List RxBlk) → List RxBlk
  | 0, _ => []
  | n + 1, ls =>
    (ls.filterMap List.head?).filter (fun b => match b with
      | .comma _ => false
      | _ => true) ++ mergeSlots n (ls.map List.tail)

/-- The slots that a reception spans. -/
def bondSlots (x : BondRx) : Nat := maxList (x.lanes.map (fun l => l.blocks.length))
/-- Its bond stream, from the first block of the packet on. -/
def bondStream (x : BondRx) : List RxBlk := (mergeSlots (bondSlots x) (x.lanes.map laneBlks)).drop x.first

/-! ## Packets (R154, R157, R158) -/

/-- A packet as received: its header control block (bits [63:56] HCRC), the bytes of its data blocks, and whether it was cut
short. -/
structure Packet where
  hdr : BitVec 64
  data : List Byte
  cut : Bool
  deriving DecidableEq, Repr

/-- The data of a packet of n blocks: IDLE, SWITCH and reserved blocks are skipped; a new header or the end of the
reception cuts it short (R157, R158). A block with a bad sync header brings no data (log entry 129). -/
def pktData : Nat → List RxBlk → List Byte × Bool
  | 0, _ => ([], false)
  | _, [] => ([], true)
  | n + 1, .data p :: r => ((leBytes 8 p.toNat) ++ (pktData n r).1, (pktData n r).2)
  | n + 1, b :: r => if b.isHeader then ([], true) else pktData (n + 1) r

/-- The header of a stream, with what follows it: everything before the first header is skipped. -/
def pktHeader : List RxBlk → Option (BitVec 64 × List RxBlk)
  | [] => none
  | .ctl p :: r => if 0x80 ≤ blkBits p 0 8 then some (p, r) else pktHeader r
  | _ :: r => pktHeader r

/-- HCRC of header bytes 0 to 6 (R154). -/
def hcrc (bs : List Byte) : Nat := crcBytes 8 0x07 0 (bs.take 7)
/-- The IEEE 802.3 CRC-32 (R154). -/
def crc32 (bs : List Byte) : Nat := Nat.xor (crcRef 0xEDB88320 0xFFFFFFFF bs) 0xFFFFFFFF
/-- CHK16 of Table 6.3, also the CRC-16 of Alaol-1 (R180). -/
def crc16 (bs : List Byte) : Nat := crcBytes 16 0x1021 0xFFFF bs

/-- A header control block from its bits [55:0]: HCRC fills byte 7 (R154). -/
def pktHdr (h : Nat) : BitVec 64 := BitVec.ofNat 64 (h % 2 ^ 56 + hcrc (leBytes 7 h) * 2 ^ 56)

/-- The 64-bit words of bytes. -/
def words64 : Nat → List Byte → List (BitVec 64)
  | 0, _ => []
  | n + 1, bs => BitVec.ofNat 64 (leAt bs 0 8) :: words64 n (bs.drop 8)

/-- The n data blocks of a packet: content, zeros, and the check word over header bytes 0 to 6 and all before it (R154). -/
def pktBlocks (h n : Nat) (content : List Byte) : List (BitVec 64) :=
  if n = 0 then []
  else
    let body := (content ++ List.replicate (8 * n - 4 - content.length) 0#8).take (8 * n - 4)
    words64 n (body ++ leBytes 4 (crc32 (leBytes 7 h ++ body)))

/-- Data blocks that a content and its check word need. -/
def pktLen (content : List Byte) : Nat := if content = [] then 0 else (content.length + 11) / 8

/-! ## 8b/10b coding (R149; the code itself is the one in common use, log entry 130) -/

/-- 5b/6b codes at negative running disparity, for x of D.x.y, first bit on the wire in bit 0. -/
def code6 : List Nat := [57, 46, 45, 35, 43, 37, 38, 7, 39, 41, 42, 11, 44, 13, 14, 58, 54, 49, 50, 19, 52, 21, 22, 23, 51,
  25, 26, 27, 28, 29, 30, 53]
/-- 3b/4b codes at negative running disparity, for y of D.x.y. -/
def code4 : List Nat := [13, 9, 10, 3, 11, 5, 6, 7]
/-- Control groups at negative running disparity: K28.0 to K28.7, K23.7, K27.7, K29.7, K30.7. -/
def codeK : List (Nat × Nat) := [(0x1C, 188), (0x3C, 636), (0x5C, 700), (0x7C, 828), (0x9C, 316), (0xBC, 380), (0xDC, 444),
  (0xFC, 124), (0xF7, 87), (0xFB, 91), (0xFD, 93), (0xFE, 94)]

/-- Ones among the low n bits of a number. -/
def ones : Nat → Nat → Nat
  | 0, _ => 0
  | n + 1, v => v % 2 + ones n (v / 2)

/-- Running disparity after a group (true: positive). -/
def rdAfter (rd : Bool) (g : BitVec 10) : Bool :=
  if ones 10 g.toNat = 5 then rd else decide (5 < ones 10 g.toNat)

/-- The group of data byte b at a running disparity. -/
def encD (rd : Bool) (b : Nat) : BitVec 10 :=
  let x := b % 32
  let y := b / 32 % 8
  let c6 := nth code6 x 0
  let g6 := if rd && (ones 6 c6 != 3 || x == 7) then 63 - c6 else c6
  let mid := rd != (ones 6 c6 != 3)
  let alt := y == 7 && (if mid then [11, 13, 14].contains x else [17, 18, 20].contains x)
  let c4 := if alt then 14 else nth code4 y 0
  let g4 := if mid && (ones 4 c4 != 2 || y == 3) then 15 - c4 else c4
  BitVec.ofNat 10 (g6 + 64 * g4)

/-- The group of control code k at a running disparity. -/
def encK (rd : Bool) (k : Nat) : BitVec 10 :=
  match codeK.find? (fun e => e.1 == k) with
  | some e => BitVec.ofNat 10 (if rd then 1023 - e.2 else e.2)
  | none => 0#10

/-- A symbol: a control code (K) or a data byte, with its number. -/
abbrev Sym := Bool × Nat

/-- The groups of symbols in order, from a running disparity on. -/
def encSyms (rd : Bool) : List Sym → List (BitVec 10)
  | [] => []
  | (k, b) :: r =>
    let g := if k then encK rd b else encD rd b
    g :: encSyms (rdAfter rd g) r

/-- The symbol of a group at a running disparity; none: not in the code table, or a running-disparity error (R150). -/
def decSym (rd : Bool) (g : BitVec 10) : Option Sym :=
  match codeK.find? (fun e => encK rd e.1 == g) with
  | some e => some (true, e.1)
  | none => ((List.range 256).find? (fun b => encD rd b == g)).map (fun b => (false, b))

/-- The symbol of a group when the receiver knows no running disparity yet (log entry 130). -/
def decSym? (rd : Option Bool) (g : BitVec 10) : Option Sym :=
  match rd with
  | some r => decSym r g
  | none => match decSym false g with
    | some x => some x
    | none => decSym true g

/-- An Alaol-1 packet in symbols: K27.7, its bytes, K29.7 (R180). -/
def a1Syms (bs : List Byte) : List Sym := (true, 0xFB) :: bs.map (fun b => (false, b.toNat)) ++ [(true, 0xFD)]

/-! ## Test patterns (R148) -/

/-- The two taps of a pattern of LANE_TEST.PAT. -/
def prbsTaps (pat : Nat) : Nat × Nat := if pat = 0 then (7, 6) else if pat = 1 then (15, 14) else (31, 28)

/-- The next bit of a pattern after bits `h`, newest first. -/
def prbsBit (pat : Nat) (h : List Bool) : Bool := nth h ((prbsTaps pat).1 - 1) false != nth h ((prbsTaps pat).2 - 1) false

/-- n bits of a pattern after bits `h`. -/
def prbsGen (pat : Nat) : Nat → List Bool → List Bool
  | 0, _ => []
  | n + 1, h => prbsBit pat h :: prbsGen pat n ((prbsBit pat h :: h).take (prbsTaps pat).1)

/-- The checker at work: its last bits, newest first, whether it is synchronised, and the errors it has counted. It
synchronises on as many bits as the pattern has stages, not all zero, and then runs on its own (log entry 131). -/
structure Prbs where
  h : List Bool := []
  sync : Bool := false
  errs : Nat := 0
  deriving DecidableEq, Repr

/-- One received bit. -/
def Prbs.bit (pat : Nat) (x : Prbs) (b : Bool) : Prbs :=
  let n := (prbsTaps pat).1
  if x.sync then
    let p := prbsBit pat x.h
    { x with h := (p :: x.h).take n, errs := x.errs + b2n (p != b) }
  else
    let h := (b :: x.h).take n
    { x with h := h, sync := decide (h.length = n) && h.any id }

end Sys2Proof.Machine
end

