-- ==== Sys2Proof/Machine/Tx.lean ====
section
/-!
DEFINITION. What passes with time: device time (R12, R427) and what the lanes send meanwhile, code-block slot after slot: their
own commas (R122), TRAIN blocks (R126), trigger messages between the blocks of packets in the order of their classes (R157), IDLE
blocks between (R123), Alaol-1 packets on their symbol boundaries (R181), test patterns (R148), and the packets of the twin link
by class (R425). Unprompted IDLE blocks are not listed among what leaves.
-/
namespace Sys2Proof.Machine
open Sys2Proof

/-! ## A lane's registers -/

/-- Register of lane n at an offset of Table 5.14; twin lanes (104 to 111) keep theirs in the TWIN unit (R447). -/
def laneReg (off n : Nat) : Nat := if n < 104 then 0x800000 + 0x1000 * n + off else Reg.TWIN_LN off (n - 104)
/-- LANE_STAT of lane n. -/
def laneStat (n : Nat) : Nat := laneReg 0xC n
/-- LANE_STAT.STATE (Table 5.4). -/
def State.laneSt (s : State) (n : Nat) : Nat := s.fld (laneStat n) 0 4
/-- A bit of the active control of lane n (Table 5.15). -/
def State.laneCtlBit (s : State) (n i : Nat) : Bool := n < 104 && s.bit (Reg.LANE_CTLA n) i
/-- The lane speaks Alaol-1 (R149). -/
def State.laneA1 (s : State) (n : Nat) : Bool := s.laneCtlBit n 1
/-- The requested rates of lane n: camera-to-device and device-to-camera; 25.0 Gb/s on a twin lane (R421). -/
def State.laneRx (s : State) (n : Nat) : Nat := if n < 104 then s.fld (Reg.LANE_CTLA n) 2 3 else 4
def State.laneTx (s : State) (n : Nat) : Nat := if n < 104 then s.fld (Reg.LANE_CTLA n) 5 3 else 4
/-- Lane n is the sprue lane of its group (R14). -/
def isSprue (n : Nat) : Bool := n < 104 && n % 13 == 12

/-- The bond position lane n holds: the one it carries as an inlaid spare, else LANE_BOND.POS (0xF: a spare). -/
def State.lanePos (s : State) (n : Nat) : Nat :=
  match (s.lane n).carry with
  | some p => p
  | none => s.fld (Reg.LANE_BOND n) 8 4

/-- Code block time in 1/1000 tick of a rate code (Table 5.1). -/
def blockMilli (r : Nat) : Nat :=
  if r = 0 then 33792 else if r = 1 then 16896 else if r = 2 then 10240 else if r = 3 then 8448 else 4224
/-- Code block time of lane n's transmitter and receiver at the agreed rates. -/
def State.txMilli (s : State) (n : Nat) : Nat := blockMilli (s.fld (laneStat n) 12 3)
def State.rxMilli (s : State) (n : Nat) : Nat := blockMilli (s.fld (laneStat n) 9 3)
/-- Alaol-1 symbol time of lane n in 1/25 tick: 8 ns, 3.2 ns or 1.6 ns (R149). -/
def State.symTime (s : State) (n : Nat) : Nat :=
  let r := s.laneTx n
  if r = 0 then 320 else if r = 1 then 128 else 64

/-! ## The device's own blocks -/

/-- Twin lanes in the twin bond. -/
def State.twinLanes (s : State) : List Nat :=
  ((List.range 8).filter (fun k => s.bit Reg.TWIN_LANES k)).map (· + 104)

/-- POS and SIZE of lane n's own commas (Table 5.3): 0xF and 0 before bonding; a twin lane counts its place among the lanes of
the bond (R421). -/
def State.commaPos (s : State) (n : Nat) : Nat × Nat :=
  if n < 104 then (if s.bit (Reg.LANE_BOND n) 0 then (s.lanePos n, s.fld (Reg.LANE_BOND n) 12 4) else (15, 0))
  else if s.twinLanes.contains n then ((s.twinLanes.filter (fun m => decide (m < n))).length, s.twinLanes.length) else (15, 0)

/-- The payload of an own comma of lane n (Table 5.3). -/
def State.commaPay (s : State) (n : Nat) (long : Bool) (cnt : Nat) : BitVec 64 :=
  let p := s.commaPos n
  BitVec.ofNat 64 (0x78 + p.1 % 16 * 2 ^ 8 + p.2 % 16 * 2 ^ 12 + b2n long * 2 ^ 16 + b2n (s.bit (laneStat n) 6) * 2 ^ 17
    + cnt % 64 * 2 ^ 18 + 0x963C5A0FE1 * 2 ^ 24)

/-- The header of a TRIG packet (Table 6.3). -/
def TrigMsg.hdr (m : TrigMsg) : BitVec 64 :=
  pktHdr (0x90 + m.kind % 4 * 2 ^ 8 + b2n m.follow * 2 ^ 10 + b2n m.ovs * 2 ^ 11 + m.idx % 65536 * 2 ^ 16
    + m.expt % 2 ^ 24 * 2 ^ 32)
/-- Its data block: TPOS and CHK16 (Table 6.3). -/
def TrigMsg.data (m : TrigMsg) : BitVec 64 :=
  BitVec.ofNat 64 (m.tpos.toNat + crc16 (leBytes 7 m.hdr.toNat ++ leBytes 6 m.tpos.toNat) * 2 ^ 48)
/-- The bytes of an Alaol-1 TRIG packet from its type on (Table 6.12). -/
def TrigMsg.a1Bytes (m : TrigMsg) : List Byte :=
  let b := leBytes 1 2 ++ leBytes 2 (m.idx % 65536)
  b ++ leBytes 2 (crc16 b)

/-- The data blocks of a packet whose header leaves at t: those of a TSYNC hold SEQ and T1 (R166). -/
def TxPkt.blocks (p : TxPkt) (t : Nat) : List (BitVec 64) :=
  match p.sync with
  | some (_, seq) => pktBlocks p.hdr.toNat 2 (leBytes 4 seq ++ leBytes 8 t)
  | none => p.data

/-- The next block of lane n that is not IDLE or a comma, as it leaves at t: header, payload, and the lane's record after it
(R157); none: nothing waits. After 1,023 of them in a row an IDLE goes between (R123). -/
def LaneX.next (x : LaneX) (t : Nat) : Option (Nat × BitVec 64 × LaneX × Option (Nat × Nat)) :=
  let y := { x with busy := x.busy + 1 }
  match x.trigD, x.urgent, x.ctls, x.cur, x.pkts with
  | none, [], [], [], [] => none
  | d, u, c, k, p =>
    if 1023 ≤ x.busy then some (2, 0x1E#64, { x with busy := 0 }, none)
    else match d, u, c, k, p with
      | some d, _, _, _, _ => some (1, d, { y with trigD := none }, none)
      | none, .trig m :: u, _, _, _ => some (2, m.hdr, { y with urgent := u, trigD := some m.data }, none)
      | none, .switch b :: u, _, _, _ => some (2, b, { y with urgent := u }, none)
      | none, [], b :: c, _, _ => some (2, b, { y with ctls := c }, none)
      | none, [], [], d :: k, _ => some (1, d, { y with cur := k }, none)
      | none, [], [], [], q :: p => some (2, q.hdr, { y with cur := q.blocks t, pkts := p }, q.sync)
      | none, [], [], [], [] => none

/-- Blocks that wait on a lane. -/
def LaneX.waiting (x : LaneX) : Nat :=
  2 * x.urgent.length + x.ctls.length + x.cur.length + x.pkts.foldl (fun k p => k + 3 + p.data.length) 0 + 1

/-! ## What leaves while time passes -/

/-- What the transmitters change: lane records, what has left, rounds in flight, the twin's queue, free values. -/
structure TxAcc where
  lanes : List (Nat × LaneX)
  out : List Out
  cams : List (Nat × Cam)
  twin : TwinX
  freeIdx : Nat

/-- Lane n's record. -/
def TxAcc.lane (a : TxAcc) (n : Nat) : LaneX := sget (fun _ => {}) a.lanes n
/-- Lane n's record and one thing that leaves. -/
def TxAcc.put (a : TxAcc) (n : Nat) (x : LaneX) (o : List Out) : TxAcc :=
  { a with lanes := sset (fun _ => {}) a.lanes n x, out := o ++ a.out }

/-- The round of a camera, or of the twin, is in flight from T1 on (R166). -/
def TxAcc.synced (a : TxAcc) (sync : Option (Nat × Nat)) (t : Nat) : TxAcc :=
  match sync with
  | some (c, seq) =>
    if c < 96 then { a with cams := sset (fun _ => {}) a.cams c { sget (fun _ => ({} : Cam)) a.cams c with round := some (seq, t) } }
    else { a with twin := { a.twin with round := some (seq, t) } }
  | none => a

/-- A block of lane n leaves in slot k. The scrambler goes on from the block before; where blocks that are not listed came
between, it stands at a value that no one can name (log entry 129). -/
def TxAcc.block (a : TxAcc) (n k hdr : Nat) (p : BitVec 64) (x : LaneX) : TxAcc :=
  let go := fun (a : TxAcc) (h : BitVec 58) =>
    let w := scramble h p
    a.put n { x with scr := some (k, scrNext h w) } [.block n hdr p (wireOf hdr w)]
  match x.scr with
  | some (k', h) => if k' + 1 = k then go a h else go { a with freeIdx := a.freeIdx + 1 } ((Config.freeValue a.freeIdx).setWidth 58)
  | none => go { a with freeIdx := a.freeIdx + 1 } ((Config.freeValue a.freeIdx).setWidth 58)

/-- A comma of lane n leaves in slot k, unscrambled and outside the scrambler's state (R120, R122). -/
def State.txComma (s : State) (n k : Nat) (a : TxAcc) : TxAcc :=
  let x := a.lane n
  let st := s.laneSt n
  let long := decide (6 ≤ st)
  let p := s.commaPay n long x.cmaCnt
  a.put n { x with
    busy := 0, cmaNext := k + (if long then 8192 else 64), cmaCnt := (x.cmaCnt + 1) % 64
    scr := x.scr.map (fun e => if e.1 + 1 = k then (k, e.2) else e) } [.block n 2 p (wireOf 2 p)]

/-- Slots k to last of lane n. -/
def State.txSlots (s : State) (n last : Nat) : Nat → Nat → TxAcc → TxAcc
  | 0, _, a => a
  | f + 1, k, a =>
    let x := a.lane n
    if last < k then a
    else if x.cmaNext = k then s.txSlots n last f (k + 1) (s.txComma n k a)
    else
      let t := (k * s.txMilli n + 999) / 1000
      match x.next t with
      | some (hdr, p, y, sync) => s.txSlots n last f (k + 1) ((a.block n k hdr p y).synced sync t)
      | none => if k < x.cmaNext then s.txSlots n last f x.cmaNext (a.put n { x with busy := 0 } []) else a

/-- Lane n sends code blocks from t0 to t1: commas every 64 slots on the lanes' common count, every 8,192 in ACTIVE, STANDBY and
RELOCK (R122, R138). -/
def State.txBlocks (s : State) (n t0 t1 : Nat) (a : TxAcc) : TxAcc :=
  let first := t0 * 1000 / s.txMilli n + 1
  let last := t1 * 1000 / s.txMilli n
  let x := a.lane n
  let k := (first + 63) / 64 * 64
  let b := if x.cmaNext < first then a.put n { x with cmaNext := k, cmaCnt := k / 64 % 64 } [] else a
  if last < first then a
  else s.txSlots n last (x.waiting + x.waiting / 1023 + 2 * ((last + 1 - first) / 64) + 4) first b

/-- Lane n sends TRAIN blocks back to back at 3.125 Gb/s (R126): after 16 with ACK set and one received with it, the one with
LAST. -/
def State.txTrain (s : State) (n t0 t1 : Nat) (a : TxAcc) : TxAcc :=
  let x := a.lane n
  let m := t1 * 1000 / blockMilli 0 - t0 * 1000 / blockMilli 0
  if x.trLastTx ∨ m = 0 then a
  else
    let pay := fun (seq : Nat) (last : Bool) => BitVec.ofNat 64 (0x2D + b2n x.trAck * 2 ^ 8 + 0x1F * 2 ^ 9 + 0x1F * 2 ^ 14 +
      (if x.trAck then s.fld (laneStat n) 9 3 * 2 ^ 19 + s.fld (laneStat n) 12 3 * 2 ^ 22 else 0) + b2n last * 2 ^ 26 +
      seq % 65536 * 2 ^ 32)
    let need := 16 - x.trAcked
    let ends := x.trAck && x.trPeer && decide (need < m)
    let j := if ends then need else m
    let run : List Out := if j = 0 then [] else [.train n (pay x.trSeq false) j]
    let lst : List Out := if ends then [.train n (pay (x.trSeq + j) true) 1] else []
    a.put n { x with
      trSeq := (x.trSeq + j + b2n ends) % 65536, trAcked := x.trAcked + (if x.trAck then j else 0), trLastTx := ends } (lst ++ run)

/-- The running disparity at symbol slot k: each K28.5 between packets inverts it. -/
def rdAt (e : Nat × Bool) (k : Nat) : Bool := e.2 != ((k - e.1) % 2 == 1)

/-- An Alaol-1 packet of lane n leaves from symbol slot k on. The disparity that its transmitter begins with is not stated (log
entry 130). -/
def State.txA1 (s : State) (n k : Nat) (bs : List Byte) (x : LaneX) (a : TxAcc) : TxAcc :=
  let go := fun (a : TxAcc) (rd : Bool) =>
    let gs := encSyms rd (a1Syms bs)
    let e := k + gs.length
    a.put n { x with a1Tx := some (e, gs.foldl rdAfter rd), a1Next := max x.a1Next e } [.a1 n gs ((k * s.symTime n + 24) / 25)]
  match x.a1Tx with
  | some e => go a (rdAt e k)
  | none => go { a with freeIdx := a.freeIdx + 1 } ((Config.freeValue a.freeIdx).getLsbD 0)

/-- The Alaol-1 symbol slots k to last of lane n: a trigger message in its slot, another packet where it ends before the next
one begins (R99, R181). -/
def State.txSyms (s : State) (n last : Nat) : Nat → Nat → TxAcc → TxAcc
  | 0, _, a => a
  | f + 1, k, a =>
    let x := a.lane n
    if last < k then a
    else match x.a1Trigs, x.a1Pkts with
      | (j, m) :: r, ps =>
        if j ≤ k then s.txSyms n last f (k + 7) (s.txA1 n k m.a1Bytes { x with a1Trigs := r } a)
        else match ps with
          | b :: q =>
            if k + b.length + 2 ≤ j then s.txSyms n last f (k + b.length + 2) (s.txA1 n k b { x with a1Pkts := q } a)
            else s.txSyms n last f j a
          | [] => s.txSyms n last f j a
      | [], b :: q => s.txSyms n last f (k + b.length + 2) (s.txA1 n k b { x with a1Pkts := q } a)
      | [], [] => a

/-- Lane n sends Alaol-1 symbols from t0 to t1. -/
def State.txSym (s : State) (n t0 t1 : Nat) (a : TxAcc) : TxAcc :=
  let x := a.lane n
  let free := match x.a1Tx with
    | some e => e.1
    | none => 0
  s.txSyms n (t1 * 25 / s.symTime n) (2 * x.a1Trigs.length + x.a1Pkts.length + 1) (max (t0 * 25 / s.symTime n + 1) free) a

/-- Lane n sends a test pattern from t0 to t1 (R148). No rule states the bits that it begins after. -/
def State.txPattern (s : State) (n t0 t1 : Nat) (a : TxAcc) : TxAcc :=
  let x := a.lane n
  let pat := s.fld (laneReg 0x20 n) 2 2
  let m := t1 * 66000 / blockMilli (s.laneTx n) - t0 * 66000 / blockMilli (s.laneTx n)
  if m = 0 then a
  else match x.pat with
    | some (h, k) => a.put n { x with pat := some (h, k + m) } [.pattern n pat h k m]
    | none =>
      let v := Config.freeValue a.freeIdx
      let h := (List.range (prbsTaps pat).1).map (fun i => v.getLsbD i)
      { a with freeIdx := a.freeIdx + 1 }.put n { x with pat := some (h, m) } [.pattern n pat h 0 m]

/-- Lane n sends a test pattern: GEN is honoured in OFF, DETECT, FAILED and LOOP (R147); a near-end loop leaves the pins idle
(Table 5.11). -/
def State.laneGen (s : State) (n : Nat) : Bool :=
  n < 104 && [0, 1, 9, 10].contains (s.laneSt n) && s.bit (Reg.LANE_TEST n) 4 && (s.fld (Reg.LANE_TEST n) 0 2) % 3 == 0

/-- What lane n sends from t0 to t1, by its state (Table 5.4). -/
def State.txLane (s : State) (t0 t1 : Nat) (a : TxAcc) (n : Nat) : TxAcc :=
  let st := s.laneSt n
  if st = 2 then s.txTrain n t0 t1 a
  else if 3 ≤ st ∧ st ≤ 8 then s.txBlocks n t0 t1 a
  else if st = 11 ∨ st = 12 then s.txSym n t0 t1 a
  else if s.laneGen n then s.txPattern n t0 t1 a
  else a

/-! ## The twin link (R421 to R425) -/

/-- CTRL, DIG and BULK packets have their lanes: the bond is up and not re-forming, and no lane of it has a packet of its own
(R422, log entry 132). -/
def State.twinStripes (s : State) (a : TxAcc) : Bool :=
  (s.bond 96).active && !(s.bond 96).reform && s.twinLanes.all (fun n => (a.lane n).pkts.isEmpty && (a.lane n).cur.isEmpty)

/-- The lanes that a class of the twin link uses now: HEART every ACTIVE lane, TIME the lowest lane of the bond, the rest all
lanes of the bond (Table 14.1). -/
def State.twinPath (s : State) (a : TxAcc) (cls : Nat) : List Nat :=
  if cls = 0 then ((List.range 8).map (· + 104)).filter (fun n => s.laneSt n == 6)
  else if cls = 1 then s.twinLanes.take 1
  else if s.twinStripes a then s.twinLanes else []

/-- The packet that the twin link sends next: the first of the highest class that has one waiting, a path and a credit. What
credits there are is not stated: bit `class` of a free value says whether there is one (R425, log entry 132). -/
def State.twinNext (s : State) (a : TxAcc) (credit : BitVec 64) : Option TwinPkt :=
  (List.range 5).findSome? (fun c => if credit.getLsbD c && s.twinPath a c != [] then a.twin.txq.find? (fun p => p.cls == c) else none)

/-- HEART and TIME packets go to the lanes that carry them, ahead of what waits there; the rest leave striped over the bond, once
its slots are free (R155, R424). -/
def State.txTwin (s : State) (t0 t1 : Nat) : Nat → TxAcc → TxAcc
  | 0, a => a
  | f + 1, a =>
    if a.twin.txq = [] then a
    else
      let b : TxAcc := { a with freeIdx := a.freeIdx + 1 }
      match s.twinNext a (Config.freeValue a.freeIdx) with
      | none => b
      | some p =>
        let rest : TwinX := { b.twin with txq := b.twin.txq.erase p }
        let path := s.twinPath a p.cls
        if p.cls < 2 then
          s.txTwin t0 t1 f (path.foldl (fun u n => u.put n { u.lane n with
            pkts := (u.lane n).pkts ++ [{ cls := 1 + p.cls, hdr := p.hdr, data := p.data }] } []) { b with twin := rest })
        else
          let k := max (t0 * 1000 / 4224 + 1) b.twin.txFree
          if t1 * 1000 / 4224 < k then b
          else s.txTwin t0 t1 f { b with
            out := .twin path p.hdr p.data :: b.out
            twin := { rest with txFree := k + (p.data.length + path.length) / path.length } }

/-- A packet waits on the twin link: its class, type, the rest of the header's bits from bit 8 up, its number of data blocks and
its content. While the twin bond is down there is no link, and it goes nowhere (log entry 132). -/
def State.twinSend (s : State) (cls type hdr n : Nat) (content : List Byte) : State :=
  let h := type + hdr * 256
  if (s.bond 96).active then
    s.setTwin { s.twin with txq := s.twin.txq ++ [{ cls := cls, hdr := pktHdr h, data := pktBlocks h n content }] }
  else s

/-- The parts of a content that packets of at most n bytes carry. -/
def chunks (n : Nat) : Nat → List Byte → List (List Byte)
  | 0, _ => []
  | f + 1, bs => if bs.length ≤ n then [bs] else bs.take n :: chunks n f (bs.drop n)

/-- CTRL packets of 1 to 64 blocks, or BULK packets of 1 to 4,096, that carry a content; their headers state LENM1 where LINE
headers do (Table 14.1, log entry 132). -/
def State.twinCtrl (s : State) (content : List Byte) : State :=
  (chunks 508 content.length content).foldl (fun t b => t.twinSend 2 0xD3 ((pktLen b - 1) * 2 ^ 36) (pktLen b) b) s
def State.twinBulk (s : State) (content : List Byte) : State :=
  (chunks 32764 content.length content).foldl (fun t b => t.twinSend 4 0xD6 ((pktLen b - 1) * 2 ^ 36) (pktLen b) b) s

/-! ## Time -/

/-- What leaves the block from t0 to t1. -/
def State.txAll (s : State) (t0 t1 : Nat) : TxAcc :=
  (List.range 112).foldl (fun a n => s.txLane t0 t1 a n)
    (s.txTwin t0 t1 s.twin.txq.length
      { lanes := s.lanes, out := s.out, cams := s.cams, twin := s.twin, freeIdx := s.freeIdx })

/-- Nothing keeps the host link awake (R380): no channel has work, no ring entry is staged, no vector is pending. -/
def State.linkIdle (s : State) : Bool :=
  s.regs.all (fun e =>
    let a := e.1 % 0x10000000
    let work := decide (0x2001000 ≤ a) && decide (a < 0x2100000) && decide (0x1000 ≤ a % 0x10000) && a % 0x400 == 0xC &&
      decide (1 ≤ e.2.toNat % 8) && decide (e.2.toNat % 8 ≤ 4)
    let pend := decide (0x28000 ≤ a) && decide (a < 0x28100) && e.2 != 0#32
    !work && !pend) &&
  s.rings.all (fun e => e.2.staged == [])

/-- dt ticks pass (R12): device time goes on, the transmitters send, and a link that was not idle was so until now. -/
def State.pass (s : State) (dt : Nat) : State :=
  let a := s.txAll s.devTime (s.after dt)
  { s with
    devTime := s.after dt
    idleT := if s.linkIdle then s.idleT else s.after dt
    slew := { left := s.slew.left - 16 * s.slew.drop dt, acc := (s.slew.acc + dt) % 1024 }
    lanes := a.lanes
    out := a.out
    cams := a.cams
    twin := a.twin
    freeIdx := a.freeIdx }

end Sys2Proof.Machine
end

