-- ==== Sys2Proof/Machine/Flags.lean ====
section
/-!
DEFINITION. The flags of the block and what follows from setting one: interrupt registers and vectors (R366, R367), events
(R102), fault reports and cause lines (R477).
-/
namespace Sys2Proof.Machine
open Sys2Proof

/-! ## Interrupts (R366, R367) -/

/-- Send vector v of function f, or set its pending bit while it or its function is masked; nothing while MSI-X is
not enabled (R366). The enable and the function mask are HOSTEP_FNSTAT(f)[4] and [5]. -/
def State.sendVec (s : State) (f v : Nat) : State :=
  if s.bit (Reg.HOSTEP_FNSTAT f) 4 then
    if s.bit (Reg.HOSTEP_FNSTAT f) 5 || s.bit (Reg.MSIX f v 3) 0 then
      s.setBit (Reg.PBA f (v / 32)) (v % 32) true
    else s.emit (.msix f v)
  else s

/-- The interrupt and enable registers of source n (Table 12.5). A pipeline's source has two. -/
def srcRegs (n : Nat) : List (Nat × Nat) :=
  if n < 8 then [(Reg.POS_AXIRQ n, Reg.POS_AXIEN n)]
  else if n < 112 then [(Reg.LANE_IRQ (n - 8), Reg.LANE_IEN (n - 8))]
  else if n < 208 then [(Reg.LINK_CAMIRQ (n - 112), Reg.LINK_CAMIEN (n - 112))]
  else if n < 312 then
    [(Reg.PIPE_IRQ (n - 208), Reg.PIPE_IEN (n - 208)), (Reg.ASY_IRQ (n - 208), Reg.ASY_IEN (n - 208))]
  else if n = 312 then [(Reg.NOZ_IRQ, Reg.NOZ_IEN)]
  else if n = 313 then [(Reg.MEM_IRQ, Reg.MEM_IEN)]
  else if n = 314 then [(Reg.TOUCH_IRQ, Reg.TOUCH_IEN)]
  else if n = 315 then [(Reg.TWIN_IRQ, Reg.TWIN_IEN)]
  else if n = 316 then [(Reg.CLK_IRQ, Reg.CLK_IEN)]
  else if n = 317 then [(Reg.PWR_IRQ, Reg.PWR_IEN)]
  else if n = 318 then [(Reg.HOSTEP_IRQ, Reg.HOSTEP_IEN)]
  else if n = 319 then [(Reg.BENCH_IRQ, Reg.BENCH_IEN)]
  else []

/-- Source n asserts: some bit of its interrupt register is set together with its enable (R367). -/
def State.srcOn (s : State) (n : Nat) : Bool :=
  (srcRegs n).any (fun r => decide ((s.rd r.1 &&& s.rd r.2) ≠ 0#32))

/-- Bring IRQ_ASSERT for source n up to date and send its vector: when it goes to asserted, or, after a write to the
unit's W1C register, when it stays asserted (R367). -/
def State.irqUpdate (s : State) (n : Nat) (w1c : Bool) : State :=
  let was := s.bit (Reg.IRQ_ASSERT (n / 32)) (n % 32)
  let now := s.srcOn n
  let s1 := s.setBit (Reg.IRQ_ASSERT (n / 32)) (n % 32) now
  if now && (!was || w1c) && s1.bit (Reg.IRQ_ROUTE n) 31 then s1.sendVec 0 (s1.fld (Reg.IRQ_ROUTE n) 0 11) else s1

/-- Hardware sets bit i of the interrupt register at key k, which belongs to source n; the flag outlasts a write that clears
it in the same clock (R8). -/
def State.irq (s : State) (k n i : Nat) : State := ((s.setBit k i true).irqUpdate n false).noteFlag k i

/-- Wake source k happens: 0 a change of TWIN_ALIVE_I, 1 the temperature (R379). In D3hot of PF0 it sends a PME message,
with main power off it drives PCIE_WAKE_N. -/
def State.wakeUp (s : State) (k : Nat) : State :=
  if s.boot.mode = 4 then
    (if s.boot.wake / 2 ^ k % 2 = 1 then (s.setBoot { s.boot with woke := 2 ^ k }).emit .wake else s)
  else if s.fld (Reg.HOSTEP_FNSTAT 0) 0 2 = 3 ∧ s.bit Reg.HOSTEP_WAKECFG k ∧ s.host.ctl / 8 % 2 = 1 then
    (s.wr Reg.HOSTEP_WAKESTAT (w32 (2 ^ k))).emit .pme
  else s

/-! ## Events (R102) -/

/-- Publish on channel ch now; events of one channel in one tick merge (R102). -/
def State.publish (s : State) (ch : Nat) : State :=
  if s.events.any (fun e => decide (e.1 = ch) && decide (e.2 = s.devTime)) then s
  else { s with events := s.events ++ [(ch, s.devTime)] }

/-- An EVR entry as it acts in this tick: a write takes effect in the next one (R106). -/
def State.evrEntry (s : State) (k : Nat) : Word := (s.now.routes.find? (fun e => e.1 == k)).elim (s.rd k) (·.2)

/-- Write an EVR entry; it acts from the next tick on (R106). -/
def State.setEvrEntry (s : State) (k : Nat) (v : Word) : State :=
  ({ s with tick := { s.now with routes := s.now.routes ++ [(k, s.evrEntry k)] } } : State).wr k v

/-- The clock of producer p's unit runs (Tables 4.1, 15.3, R106). -/
def State.producerOn (s : State) (p : Nat) : Bool :=
  if p < 64 then s.clkOn 231
  else if p < 256 then s.clkOn 235
  else if p < 352 then s.clkOn 236
  else if p < 864 then s.clkOn (208 + (p - 352) / 32)
  else if p = 864 then s.clkOn 234
  else s.clkOn 246

/-- Producer p of Table 4.1 publishes on its channel if EVR_PUB(p) enables it (R102, R107) and its clock and the router's
run (R106). -/
def State.produce (s : State) (p : Nat) : State :=
  let e := s.evrEntry (Reg.EVR_PUB p)
  if s.clkOn 233 && s.producerOn p && bitOf e 8 then s.publish (fldOf e 0 8) else s

/-- Gate signal g of Table 4.3. -/
def State.gate (s : State) (g : Nat) : Bool :=
  if g < 8 then s.bit (Reg.POS_AXSTAT g) 0
  else if g < 16 then !s.bit (Reg.POS_AXSTAT (g - 8)) 1
  else if g < 24 then !s.bit (Reg.POS_AXSTAT (g - 16)) 2
  else if g < 40 then (s.trigIn (g - 24)).level
  else if g = 40 then decide (s.fld Reg.TWIN_STAT 3 2 ≠ 1)
  else if g = 41 then decide (s.fld Reg.TWIN_STAT 0 3 ≠ 3)
  else false

/-- Gate signal g as this tick began (R104). -/
def State.gateStart (s : State) (g : Nat) : Bool := (s.now.gates.find? (fun e => e.1 == g)).elim (s.gate g) (·.2)

/-- Gate signal g is about to change: keep the level it had as this tick began. -/
def State.noteGate (s : State) (g : Nat) : State :=
  { s with tick := { s.now with gates := s.now.gates ++ [(g, s.gateStart g)] } }

/-- Set VALID, DIR or STILL of axis n (bits 0 to 2 of POS_AXSTAT), each the source of a gate signal. -/
def State.setAxBit (s : State) (n i : Nat) (b : Bool) : State := (s.noteGate (8 * i + n)).setBit (Reg.POS_AXSTAT n) i b

/-! ## Fault reports (R477) -/

/-- Report a fault. -/
def State.report (s : State) (r : Report) : State := { s with reports := s.reports ++ [r] }

/-- Report signature i (from 1) of class c from a source, at a base level, now. -/
def State.fault (s : State) (c i src level : Nat) : State :=
  s.report { sig := c * 256 + i, src := src, level := level, t := s.devTime }

/-- A cause line is asserted. -/
def State.hasCause (s : State) (c i src : Nat) : Bool := s.causes.any (fun x => decide (x = (c * 256 + i, src)))

/-- Assert the cause line of a state-type signature (R477); TOUCH_CLSSTAT.CAUSE shows it. -/
def State.causeOn (s : State) (c i src : Nat) : State :=
  if s.hasCause c i src then s
  else { s.setBit (Reg.TOUCH_CLSSTAT c) 5 true with causes := s.causes ++ [(c * 256 + i, src)] }

/-- Release the cause line of a state-type signature: a record that explains others by it ends now (R489), and the class
has seen a cause end (R488). -/
def State.causeOff (s : State) (c i src : Nat) : State :=
  if s.hasCause c i src then
    let left := s.causes.filter (fun x => decide (x ≠ (c * 256 + i, src)))
    { s.setBit (Reg.TOUCH_CLSSTAT c) 5 (left.any (fun x => x.1 / 256 == c)) with
      causes := left
      expls := s.expls.map (fun e => if e.sig = c * 256 + i ∧ e.src = src then { e with tEnd := s.devTime } else e)
      touch := { s.touch with lastCause := sset (fun _ => 0) s.touch.lastCause c s.devTime } }
  else s

/-- Report a state-type fault once, as its cause begins (R477). -/
def State.faultState (s : State) (c i src level : Nat) : State :=
  if s.hasCause c i src then s else (s.causeOn c i src).fault c i src level

end Sys2Proof.Machine
end

