-- ==== Sys2Proof/Machine/Operands.lean ====
section
/-!
DEFINITION. Where an access lands and what it may do there: the unit and the lock at an offset (Tables 16.12, 19.4),
whether a function answers and a unit can be reached (R363, R461), the errors of an access (Table 12.7), and the write of a
word by its field types (Table 0.3, R9, R71).
-/
namespace Sys2Proof.Machine
open Sys2Proof

/-! ## What an access can reach (R363, R461) -/

/-- The unit number of an offset of PF0 BAR0 (Table 16.12, R547). -/
def busUnit (a : Nat) : Nat :=
  if a < 0x10000 then 0 else if a < 0x20000 then 1 else if a < 0x30000 then 2 else if a < 0x100000 then 11
  else if a < 0x200000 then 3 else if a < 0x300000 then 4 else if a < 0x400000 then 5 else if a < 0x500000 then 6
  else if a < 0x600000 then 7 else if a < 0x800000 then 8 else if a < 0xA00000 then 9 else if a < 0xC00000 then 10
  else if a < 0xE00000 then 11 else if a < 0x1000000 then 12 else if a < 0x2000000 then 13 else if a < 0x2100000 then 14
  else if a < 0x2200000 then 15 else if a < 0x2300000 then 16 else if a < 0x2400000 then 17 else 18

/-- The lock that guards the RWL fields at an offset (Table 19.4). -/
def busLock (a : Nat) : Option LockId :=
  match busUnit a with
  | 0 => some .glb
  | 2 => some .hostep
  | 3 => some .touch
  | 4 => some .clk
  | 5 => some .pwr
  | 6 => some .pos
  | 7 => some .trg
  | 8 => some .evr
  | 9 => some .lane
  | 10 => some .link
  | 11 => if a < 0x100000 then none else some .pipe
  | 12 => some .assay
  | 13 => some .noz
  | 14 => some (.dma (Fin.ofNat 16 ((a - 0x2000000) / 0x10000)))
  | 15 => some .mem
  | 16 => some .twin
  | 17 => some .bench
  | 18 => some .hostep
  | _ => none

/-- The instance at offset a of a function's BAR0 is clocked and powered (R363, R461, Table 15.3). -/
def State.unitUp (s : State) (a : Nat) : Bool :=
  match busUnit a with
  | 1 => s.bit Reg.PWR_ON 3
  | 6 => s.clkOn 231
  | 7 => s.clkOn 232
  | 8 => s.clkOn 233
  | 9 => if a < 0x868000 then s.clkOn ((a - 0x800000) / 0x1000) else s.bit Reg.PWR_ON 2
  | 10 => s.clkOn 236
  | 11 =>
    if a < 0x100000 then s.clkOn 235
    else if a < 0xDA0000 then s.clkOn (104 + (a - 0xC00000) / 0x4000)
    else if a < 0xDF0000 then s.clkOn 235 else s.bit Reg.PWR_ON 2
  | 12 => s.clkOn 237
  | 13 => s.clkOn 234
  | 14 => s.clkOn (208 + (a - 0x2000000) / 0x10000)
  | 15 => s.bit Reg.PWR_ON 4 && s.clkOn 229 || s.bit Reg.PWR_ON 5 && s.clkOn 230
  | 16 => if a < 0x2201000 ∨ 0x2201800 ≤ a then s.clkOn 246 else s.clkOn (238 + (a - 0x2201000) / 0x100)
  | 17 => s.bit Reg.PWR_ON 3
  | _ => true

/-- The touchstone notes an access of function f to a unit that cannot be reached (GATED, R363). -/
def State.noteGated (s : State) (f off unit : Nat) (write : Bool) : State :=
  s.report { sig := 0xE09, src := unit, level := 0, t := s.devTime, addr := off, master := f, access := b2n write }

/-- Set bit i of HOSTEP_IRQ (source 318). -/
def State.epIrq (s : State) (i : Nat) : State := s.irq Reg.HOSTEP_IRQ 318 i

/-! ## Errors (R374, Table 12.7) -/

/-- A host-endpoint fault of function f with the access it names. -/
def State.epFault (s : State) (i f level addr access : Nat) : State :=
  s.report { sig := 9 * 256 + i, src := f, level := level, t := s.devTime, addr := addr, master := f, access := access }

/-- Function f reports error i through AER (R374). -/
def State.aerSet (s : State) (i f : Nat) : State :=
  s.setHost { s.host with aer := sset (fun _ => 0) s.host.aer f (Nat.lor (sget (fun _ => 0) s.host.aer f) (2 ^ i)) }
/-- A correctable error is logged and noted; signature i. An advisory non-fatal error counts as correctable (log entry
15). -/
def State.epCor (s : State) (i f addr access : Nat) : State :=
  (((s.aerSet i f).addSat Reg.HOSTEP_ERRCNT 0 16 1).epIrq 6).epFault i f 0 addr access

/-- An uncorrectable error is logged, the first of its function with what its header names, and reported at a level. -/
def State.epUnc (s : State) (i f level addr access : Nat) : State :=
  let s1 := if s.host.aerFirst.any (fun e => e.1 == f) then s
    else s.setHost { s.host with aerFirst := s.host.aerFirst ++ [(f, i, addr, access)] }
  (((s1.aerSet i f).addSat Reg.HOSTEP_ERRCNT 16 16 1).epIrq 7).epFault i f level addr access

/-- A read completes with Completer Abort (CASENT), or with Unsupported Request (URSENT). -/
def State.sendCa (s : State) (f off : Nat) : State :=
  ((s.addSat Reg.HOSTEP_CACNT 0 16 1).emit (.refused f off true)).epUnc 5 f 0 off 0
def State.sendUr (s : State) (f off : Nat) : State :=
  ((s.addSat Reg.HOSTEP_CACNT 16 16 1).emit (.refused f off false)).epUnc 6 f 0 off 0

/-- An access of function f to a unit whose clock is gated or whose domain is off (R363): GATED, and a read completes
with Completer Abort. -/
def State.gatedHost (s : State) (f off unit : Nat) (write : Bool) : State :=
  let s1 := s.noteGated f off unit write
  if write then s1 else s1.sendCa f off

/-- Function f is there to receive: PF0, or a VF of the present NumVFs (R364). -/
def State.fnPresent (s : State) (f : Nat) : Bool := f == 0 || (s.host.vfEn && decide (f ≤ s.host.numVfs))
/-- FNSTAT D-state of function f is D3hot; every VF behaves so while PF0 is (Table 12.9). -/
def State.fnD3 (s : State) (f : Nat) : Bool :=
  s.fld (Reg.HOSTEP_FNSTAT f) 0 2 == 3 || s.fld (Reg.HOSTEP_FNSTAT 0) 0 2 == 3
/-- An FLR of function f is in progress. -/
def State.fnFlr (s : State) (f : Nat) : Bool := s.host.flr.any (fun e => e.1 == f)
/-- Function f answers accesses (R363). -/
def State.fnOk (s : State) (f : Nat) : Bool := s.fnPresent f && !s.fnD3 f && !s.fnFlr f

/-- A write by function f to the register at offset a of its BAR0: performed where the function answers and the unit can
be reached; a gated unit is noted (R363). -/
def State.reach (s : State) (f a : Nat) (k : State → Res) : Res :=
  if !s.fnOk f then .next s
  else if s.unitUp a then k s
  else .next (s.noteGated f a (busUnit a) true)

/-- What happens while the device runs: in a reset, in a quench, and without main power nothing does (R503, R515, R524). -/
def State.alive (s : State) (k : State → Res) : Res := if s.boot.mode = 0 then k s else .next s

/-! ## Locks and writes by field type (Table 0.3, R9, R71) -/

/-- The lock register of a lock. -/
def lockReg : LockId → Nat
  | .pos => Reg.POS_LOCK
  | .trg => Reg.TRG_LOCK
  | .evr => Reg.EVR_LOCK
  | .lane => Reg.LANE_LOCK
  | .link => Reg.LINK_LOCK
  | .pipe => Reg.PIPE_LOCK
  | .assay => Reg.ASY_LOCK
  | .noz => Reg.NOZ_LOCK
  | .dma e => Reg.DMA_LOCK e.val
  | .mem => Reg.MEM_LOCK
  | .twin => Reg.TWIN_LOCK
  | .clk => Reg.CLK_LOCK
  | .pwr => Reg.PWR_LOCK
  | .hostep => Reg.HOSTEP_LOCK
  | .bench => Reg.BENCH_LOCK
  | .touch => Reg.TOUCH_LOCK
  | .glb => Reg.GLB_LOCK

/-- The unit number of a lock for LOCKED and GATED (Table 16.12). -/
def lockUnit : LockId → Nat
  | .glb => 0
  | .touch => 3
  | .clk => 4
  | .pwr => 5
  | .pos => 6
  | .trg => 7
  | .evr => 8
  | .lane => 9
  | .link => 10
  | .pipe => 11
  | .assay => 12
  | .noz => 13
  | .dma _ => 14
  | .mem => 15
  | .twin => 16
  | .bench => 17
  | .hostep => 18

/-- A unit's lock is open: bit 0 of its lock register reads 1. -/
def State.unlocked (s : State) (u : LockId) : Bool := s.bit (lockReg u) 0

/-- The touchstone notes LOCKED for a unit (R9, R547). -/
def State.noteLocked (s : State) (u : LockId) : State := s.fault 14 1 (lockUnit u) 0

/-- The value a write of v leaves in a register that holds old, by field type: RW bits always, RWL bits while the
lock is open, W1C bits cleared by 1 (Table 0.3, R6). -/
def writeVal (r : Reg.Row) (open' : Bool) (old v : Word) : Word :=
  let m := w32 (r.rw + (if open' then r.rwl else 0))
  ((old &&& ~~~ m) ||| (v &&& m)) &&& ~~~ (v &&& w32 r.w1c)

/-- Write v to the register at key k by its field types, with its unit's lock open (Table 0.3). -/
def State.putReg (s : State) (k : Nat) (v : Word) : State :=
  match Reg.rowAt (k % 0x10000000) with
  | some r => s.wr k (writeVal r true (s.rd k) v)
  | none => s

/-- A write to an RWL register of unit u: its new value by an update, or LOCKED noted and the register unchanged. -/
def State.rwl (s : State) (u : LockId) (upd : State → State) : State :=
  if s.unlocked u then upd s else s.noteLocked u

end Sys2Proof.Machine
end

