-- ==== Sys2Proof/Machine/ExplOps.lean ====
section
/-!
DEFINITION. Secondary attribution (R489, Table 16.5): which written records explain a new report now, and the
bindings of sources to axes that the rule needs.
-/
namespace Sys2Proof.Machine
open Sys2Proof

/-- The state-type signatures of R477, as codes. -/
def stateTypeSig (sig : Nat) : Bool :=
  [0x001, 0x002, 0x003, 0x501, 0x502, 0x503, 0x505, 0x506, 0xC01, 0xC02, 0xC03, 0xC04, 0xD01, 0xD05, 0xD06,
    0xD07].contains sig

/-- The camera a pipeline is bound to (PIPE_BIND). -/
def State.pipeCam (s : State) (n : Nat) : Option Nat :=
  if s.bit (Reg.PIPE_BIND n) 0 then some (s.fld (Reg.PIPE_BIND n) 1 7) else none

/-- The axis a camera is bound to (R18). -/
def State.camAxis (s : State) (c : Nat) : Option Nat :=
  if (s.cam c).bound then some (s.cam c).axis else none

/-- The axis a source of class 1, 2, 3 or 6 is bound to (Table 16.5, last row). -/
def State.srcAxis (s : State) (cls src : Nat) : Option Nat :=
  if cls = 1 then s.camAxis src
  else if cls = 2 ∨ cls = 3 then (s.pipeCam src).bind s.camAxis
  else if cls = 6 then
    if src < 96 then some (s.fld (Reg.TRG_TSCTLA src) 0 3) else some (s.fld (Reg.TRG_CLCTL (src - 96)) 1 3)
  else none

/-- An explaining record names a report of this class and source (Table 16.5). -/
def State.explNames (s : State) (e : Expl) (cls src : Nat) : Bool :=
  if e.sig = 0xC01 ∨ e.sig = 0xC02 then
    (e.level == 1 || e.level == 4) && [0, 1, 2, 3, 11].contains cls
  else if e.sig = 0xC04 ∨ e.sig = 0xC05 then
    let first := if e.sig = 0xC04 then 6 else 2
    if first ≤ e.src ∧ e.src < first + 8 then (cls == 2 || cls == 3) && src / 13 == e.src - first
    else cls != 12
  else if e.sig = 0xC03 then cls == 9
  else if e.sig / 256 = 5 then [1, 2, 3, 6].contains cls && s.srcAxis cls src == some e.src
  else false

/-- At t, the cause of an explaining record is present or ended less than 100 µs ago (R489). -/
def State.explLive (s : State) (t : Nat) (e : Expl) : Bool :=
  (e.stateType && s.causes.any (fun x => decide (x = (e.sig, e.src)))) || decide (t < e.tEnd + usTicks 100)

/-- The oldest explaining record of a report of this class and source made at t, if any (R489). -/
def State.explainedBy (s : State) (t cls src : Nat) : Option Expl :=
  s.expls.find? (fun e => s.explNames e cls src && s.explLive t e)

/-- A report of this class and source would be SECONDARY now (R489). -/
def State.explained (s : State) (cls src : Nat) : Bool := (s.explainedBy s.devTime cls src).isSome

end Sys2Proof.Machine
end

