-- ==== Sys2Proof/Machine/ClkRef.lean ====
section
/-!
DEFINITION. The references of the timebase and its automatic fallback (R450 to R454): they stand before the lanes, because the
twin-recovered clock comes and goes with the lowest lane of the twin bond.
-/
namespace Sys2Proof.Machine
open Sys2Proof

/-- Set bit i of CLK_IRQ (source 316). -/
def State.clkIrq (s : State) (i : Nat) : State := s.irq Reg.CLK_IRQ 316 i

/-- Reference r is good: 0 REF_IN, 1 twin-recovered, 2 PCIE_REFCLK (R450). -/
def State.refOk (s : State) (r : Nat) : Bool := s.bit Reg.CLK_MON r
/-- CLK_TBSTAT.SRC and CLK_TBSEL.PREF. -/
def State.tbSrc (s : State) : Nat := s.fld Reg.CLK_TBSTAT 0 1
def State.tbPref (s : State) : Nat := s.fld Reg.CLK_TBSEL 0 1
/-- The twin-recovered clock exists (R450). -/
def State.twinClk (s : State) : Bool := s.bit Reg.TWIN_CTL 0 && (s.bond 96).active

/-- A timebase switch toward source r begins (R452, R454, R455). -/
def State.tbBegin (s : State) (r : Nat) (fallback : Bool) : State :=
  let s1 := (s.setBit Reg.CLK_TBSTAT 1 true).setClk { s.clk with sw := some (r, s.devTime, fallback), holdT := none }
  let s2 := s1.setBit Reg.CLK_TBSTAT 3 false
  if fallback then (s2.setBit Reg.CLK_TBSTAT 2 true).addSat Reg.CLK_SWCNT 0 8 1 else s2

/-- The hold-off count begins if PREF is good and not in use (R454). -/
def State.tbHold (s : State) : State :=
  if s.refOk s.tbPref && s.tbSrc != s.tbPref && s.bit Reg.CLK_TBSEL 1 && s.clk.sw.isNone then
    (s.setBit Reg.CLK_TBSTAT 3 true).setClk { s.clk with holdT := some s.devTime }
  else (s.setBit Reg.CLK_TBSTAT 3 false).setClk { s.clk with holdT := none }

/-- The loss of reference r is recorded at a level; its cause stays while it is lost (R477). -/
def State.refFault (s : State) (r level : Nat) : State := (s.causeOn 12 (1 + r) r).fault 12 (1 + r) r level

/-- The active source is lost (R452, R453): a fallback where the other source is good, else holdover. `told` says that a
fault is to be recorded. -/
def State.tbLost (s : State) (told : Bool) : State :=
  let a := s.tbSrc
  if s.refOk (1 - a) then
    let s1 := if told then s.refFault a 1 else s
    s1.tbBegin (1 - a) true
  else
    let s1 := s.setBit Reg.CLK_TBSTAT 2 true
    if told then s1.refFault a 4 else s1

/-- Reference r shows a loss: the 4 µs that it must go without one begin again (R450). -/
def State.refBad (s : State) (r : Nat) : State :=
  (s.setBit Reg.CLK_MON r false).setClk { s.clk with
    lostT := s.clk.lostT.filter (fun e => e.1 != r) ++ [(r, s.devTime)] }

/-- A reference that was good is lost (R450, R452, R453); `told` is false where the twin-recovered clock no longer exists. -/
def State.refLost (s : State) (r : Nat) : State :=
  let s1 := s.refBad r
  if s.refOk r = false then s1
  else if r = 2 then (s1.clkIrq 3).refFault 2 0
  else
    let told := r == 0 || s.twinClk
    let s2 := if told then s1.clkIrq (1 + r) else s1
    match s2.clk.sw with
    | some (tgt, _, _) =>
      if tgt = r then s2 else if told && s2.tbSrc == r then s2.refFault r 1 else s2
    | none =>
      if s2.tbSrc = r then s2.tbLost told
      else
        let s3 := if told then s2.refFault r 0 else s2
        if s3.tbPref = r then s3.tbHold else s3

/-- TW lane n loses CDR lock: with the lowest lane of the twin bond the recovered clock is lost (R450). -/
def State.twinCdr (s : State) (n : Nat) : State :=
  if n = 104 + ((List.range 8).find? (fun k => s.bit Reg.TWIN_LANES k)).getD 8 && s.twinClk && s.refOk 1 then s.refLost 1 else s

end Sys2Proof.Machine
end

