-- ==== Sys2Proof/Machine/LaneOps.lean ====
section
/-!
DEFINITION. The shared operations of the camera lanes (chapter 5), which the twin lanes use too (R421): registers of
a lane, states of Table 5.4, failed attempts (R129), taps (R131), the bond with its deskew (R135), lane faults (R138),
sparing (R139 to R144), mute and isolation. Lanes 104 to 111 are TW0 to TW7.
-/
namespace Sys2Proof.Machine
open Sys2Proof

/-- Set bit i of LANE_IRQ; a camera lane is source 8 + n of Table 12.5. -/
def State.laneIrq (s : State) (n i : Nat) : State :=
  if n < 104 then s.irq (Reg.LANE_IRQ n) (8 + n) i else s.setBit (laneReg 0x10 n) i true

/-- Lane or pipeline n lies in the group of camera c's lanes, which is that of the lowest lane whose LANE_BOND names c: a lane
group connects only to its pipeline group (R13, log entry 127). -/
def State.inGroup (s : State) (c n : Nat) : Bool :=
  ((List.range 104).find? (fun m => s.bit (Reg.LANE_BOND m) 0 && s.fld (Reg.LANE_BOND m) 1 7 == c)).elim true
    (fun m => m / 13 == n / 13)

/-- The bond a lane belongs to: its camera, or 96 for the twin bond; none while LANE_BOND.VALID is 0, in LOOP (R147), and in
another group than the camera's. -/
def State.laneBond (s : State) (n : Nat) : Option Nat :=
  if n < 104 then
    (if s.bit (Reg.LANE_BOND n) 0 ∧ s.fld (Reg.LANE_BOND n) 1 7 < 96 ∧ s.laneSt n ≠ 9 ∧
        s.inGroup (s.fld (Reg.LANE_BOND n) 1 7) n = true then
      some (s.fld (Reg.LANE_BOND n) 1 7) else none)
  else some 96

/-- The lanes of a bond, spare included. -/
def State.bondLanes (s : State) (c : Nat) : List Nat :=
  if c < 96 then (List.range 104).filter (fun n => s.laneBond n == some c) else (List.range 8).map (· + 104)

/-- The lane that carries position p of camera c's bond: the spare once inlaid, else the data lane (R155). -/
def State.posLane (s : State) (c p : Nat) : Option Nat :=
  match (s.bondLanes c).find? (fun n => (s.lane n).carry == some p) with
  | some n => some n
  | none => (s.bondLanes c).find? (fun n => s.fld (Reg.LANE_BOND n) 8 4 == p)

/-- The bond's spare in STANDBY that may be inlaid, if any (R139, R144). -/
def State.bondSpare (s : State) (c : Nat) : Option Nat :=
  (s.bondLanes c).find? (fun n => isSprue n && s.fld (Reg.LANE_BOND n) 8 4 == 15 && (s.lane n).carry.isNone
    && s.laneSt n == 7 && !(s.lane n).spareFail)

/-- Block lock and bit lock of lane n. -/
def State.laneLock (s : State) (n : Nat) (b : Bool) : State :=
  (s.setBit (laneStat n) 5 b).setBit (laneStat n) 6 b

/-- LANE_SPRUE.HOT follows STANDBY of the group's sprue lane. -/
def State.laneHot (s : State) (n : Nat) : State :=
  if isSprue n then s.setBit Reg.LANE_SPRUE (8 + n / 13) (s.laneSt n == 7) else s

/-- The record of a lane as a state of Table 5.4 begins: training starts afresh, and in LOCK and RELOCK the search for commas. A
lane that sends no more, or sends at another rate, holds nothing to send. -/
def LaneX.enter (x : LaneX) (st t : Nat) : LaneX :=
  let y := { x with
    since := t, noDet := false, trRun := 0, trAck := false, trAcked := 0, trPeer := false, trLastTx := false,
    trLastRx := false, a1Commas := 0, a1Err := 0, a1Run := 0, a1Rx := none }
  let z := if st ≤ 3 ∨ st = 8 then { y with comma := false, long := false, rxok0 := 0, commas := [] } else y
  if st ≤ 3 ∨ 8 < st then
    { z with
      urgent := [], ctls := [], pkts := [], cur := [], trigD := none, scr := none, busy := 0, cmaNext := 0, cmaCnt := 0, pat := none
      a1Trigs := if st = 11 ∨ st = 12 then x.a1Trigs else [], a1Pkts := if st = 11 ∨ st = 12 then x.a1Pkts else []
      a1Next := if st = 11 ∨ st = 12 then x.a1Next else 0, a1Tx := if st = 11 ∨ st = 12 then x.a1Tx else none }
  else z

/-- The trigger messages that wait on a lane. -/
def LaneX.trigs (x : LaneX) : List TrigMsg :=
  x.urgent.filterMap (fun u => match u with
    | .trig m => some m
    | .switch _ => none) ++ x.a1Trigs.map (·.2)

/-- Trigger messages that wait on lane n are dropped and counted (R86). -/
def State.laneTrigDrop (s : State) (n : Nat) : State :=
  let x := s.lane n
  let ms := x.trigs
  if ms = [] then s
  else
    (s.setLane n { x with
      urgent := x.urgent.filter (fun u => match u with
        | .trig _ => false
        | .switch _ => true)
      a1Trigs := [] }).each ms (fun t m => (t.addSat (Reg.TRG_TSDROP m.gen) 0 32 1).fault 6 4 m.gen 0)

/-- Lane n can send code blocks (Table 5.4). -/
def State.laneSends (s : State) (n : Nat) : Bool := decide (3 ≤ s.laneSt n ∧ s.laneSt n ≤ 8)

/-- A control block waits to leave on lane n. -/
def State.sendCtl (s : State) (n : Nat) (b : BitVec 64) : State :=
  s.setLane n { s.lane n with ctls := (s.lane n).ctls ++ [b] }

/-- Presets of Table 5.7, as a tap word (C-1 in [5:0], C0 in [13:8], C+1 in [21:16]). -/
def presetTaps (p : Nat) : Nat × Nat :=
  if p = 0 then (0, 0) else if p = 1 then (0, 6) else if p = 2 then (0, 12) else if p = 3 then (0, 18)
  else if p = 4 then (4, 0) else if p = 5 then (4, 8) else if p = 6 then (6, 12) else (8, 20)

/-- A tap word from its pre- and post-cursor: C0 takes the remainder of 63. -/
def tapWord (c : Nat × Nat) : Word := w32 (c.1 + (63 - c.1 - c.2) * 2 ^ 8 + c.2 * 2 ^ 16)

/-- The fixed transmitter taps of an Alaol-1 lane: preset INITP (R149). -/
def State.a1Taps (s : State) (n : Nat) : State :=
  s.wr (laneReg 0x28 n) (tapWord (presetTaps (s.fld (Reg.LANE_TXFFE n) 0 3)))

/-- Lane n enters a state: LANE_STAT.STATE, LANE_IRQ.STATE, ACTIVE and FAILED (Table 5.17), the failed-attempt count
(R129) and LANE_SPRUE.HOT. A lane that is isolated or starts over no longer contributes a cause (R477). -/
def State.laneGo (s : State) (n st : Nat) : State :=
  if s.laneSt n = st then s
  else
    let s0 := if [6, 7, 8, 11, 12].contains st then s else s.laneTrigDrop n
    let s1 := (s0.setFld (laneStat n) 0 4 st).setLane n ((s0.lane n).enter st s0.devTime)
    let s2 := (s1.laneHot n).laneIrq n 0
    let s3 := if st = 6 ∨ st = 12 then s2.laneIrq n 1 else s2
    let s4 := if st = 6 ∨ st = 7 then s3.setLane n { s3.lane n with tries := 0 } else s3
    let s5 := if st = 10 then s4.laneIrq n 4 else if st = 11 then s4.a1Taps n else s4
    if st = 6 ∨ st = 7 ∨ st = 8 ∨ st = 11 then s5 else ((s5.causeOff 0 1 n).causeOff 0 2 n).causeOff 0 3 n

/-- Lane n starts over in DETECT (Table 5.4): no lock, no deskew, no agreed bond carriage. A lane that failed the start-up
test is FAILED instead (R35, R143, log entry 128). -/
def State.laneDetect (s : State) (n : Nat) : State :=
  let s1 := ((s.laneLock n false).setBit (laneStat n) 7 false).setBit (laneStat n) 8 false
  let s2 := (s1.setLane n { s1.lane n with
    badMap := false, mism := 0, eqReq := none, eqCount := 0, eqBest := 0, eqBestTap := 0,
    eqNoImp := 0, eqPhase := 0, eqDone := false, eqPeerDone := false, eqAnswer := none, prbsSync := false })
  (s2.wr (laneReg 0x4C n) 0#32).laneGo n (if (s.lane n).testFail then 10 else 1)

/-- Lane n starts over: in A1SYNC for Alaol-1, else in DETECT (Table 5.4, R149). -/
def State.laneBegin (s : State) (n : Nat) : State :=
  if s.laneA1 n then (s.laneLock n false).laneGo n (if (s.lane n).testFail then 10 else 11) else s.laneDetect n

/-- The last loss span of a bond gets its outcome (R141). -/
def closeLoss (inlay : Bool) (t : Nat) (l : List Loss) : List Loss :=
  l.map (fun x => match x.t1 with
    | none => { x with t1 := some t, inlay := inlay }
    | some _ => x)

/-- A lane fault begins a span of lost lines on its bond (R141); a span already open goes on. -/
def State.openLoss (s : State) (c : Nat) (tx : Bool) : State :=
  let b := s.bond c
  if b.losses.any (fun l => l.t1.isNone) then s
  else s.setBond c { b with losses := b.losses ++ [{ t0 := s.devTime, tx := tx }] }

/-- Publish the lane-state event of camera c when its bond enters or leaves ACTIVE. A data lane in RELOCK has left
ACTIVE without inlay, and the bond with it (R136, R138, log entry 37). -/
def State.bondShow (s : State) (c : Nat) : State :=
  let b := s.bond c
  let now := b.active && !(s.bondLanes c).any (fun n => s.laneSt n == 8 && s.lanePos n != 15)
  if now = b.shown then s else (s.setBond c { b with shown := now }).produce (256 + c)

/-- The bond of camera c leaves ACTIVE, and its lane-state event is published (R136). Lines are lost until it is
ACTIVE again. With the twin bond the recovered clock ends, and with it its loss (R450), and the packets that wait for it. -/
def State.bondDown (s : State) (c : Nat) : State :=
  if (s.bond c).active then
    let s1 := (s.setBond c { s.bond c with active := false }).openLoss c false
    if c < 96 then s1.bondShow c
    else
      let s2 := (s1.setTwin { s1.twin with txq := [], txFree := 0 }).causeOff 12 2 1
      if s2.refOk 1 then s2.refLost 1 else s2
  else s

/-- The bond of camera c enters ACTIVE (R136). -/
def State.bondUp (s : State) (c : Nat) : State :=
  if (s.bond c).active then s
  else
    let b := s.bond c
    let s1 := s.setBond c { b with
      active := true, muted := false, capsT := none, losses := closeLoss false s.devTime b.losses }
    let s2 := s1.each (s1.bondLanes c) (fun t n => t.setBit (laneStat n) 16 false)
    if c < 96 then s2.bondShow c else s2

/-- A failed attempt of lane n (R129): counted; after MAXTRY in a row the lane is FAILED and TRNFAIL is raised; twin
lanes try without limit (log entry 10). -/
def State.laneFailed (s : State) (n : Nat) : State :=
  let s1 := s.addSat (laneReg 0x44 n) 0 16 1
  let tries := (s1.lane n).tries + 1
  let s2 := s1.setLane n { s1.lane n with tries := tries }
  let max := if n < 104 then s2.fld (Reg.LANE_CTLA n) 9 3 else 0
  if max ≠ 0 ∧ max ≤ tries then ((s2.laneDetect n).laneGo n 10).fault 0 4 n 0
  else s2.laneDetect n

/-- A rate the camera lacks (R127): the attempt counts as failed, TRNFAIL is noted and the lane is FAILED
(Table 5.12, log entry 11). -/
def State.laneRefused (s : State) (n : Nat) : State :=
  (((s.addSat (laneReg 0x44 n) 0 16 1).laneDetect n).laneGo n 10).fault 0 4 n 0

/-! ## Transmitter taps (R131) -/

/-- The pre- and post-cursor of a tap word. -/
def tapsOf (w : Word) : Nat × Nat := (fldOf w 0 6, fldOf w 16 6)

/-- The taps an EQREQ leaves and its RESULT (R131): 0 APPLIED, 1 AT_LIMIT, 2 BAD_REQUEST, 3 DONE_ACK. -/
def eqApply (c : Nat × Nat) (tap cmd preset : Nat) : (Nat × Nat) × Nat :=
  if 1 < tap ∨ 4 < cmd then (c, 2)
  else if cmd = 0 then (c, 0)
  else if cmd = 3 then (presetTaps preset, 0)
  else if cmd = 4 then (c, 3)
  else if tap = 0 then
    if cmd = 1 then (if c.1 < 15 then ((c.1 + 1, c.2), 0) else (c, 1))
    else (if 0 < c.1 then ((c.1 - 1, c.2), 0) else (c, 1))
  else
    if cmd = 1 then (if c.2 < 24 then ((c.1, c.2 + 1), 0) else (c, 1))
    else (if 0 < c.2 then ((c.1, c.2 - 1), 0) else (c, 1))

/-- Send an EQREQ on lane n (Table 5.6). -/
def State.sendEq (s : State) (n : Nat) (r : EqReq) : State :=
  s.sendCtl n (BitVec.ofNat 64 (0x33 + r.seq * 2 ^ 8 + r.tap * 2 ^ 16 + r.cmd * 2 ^ 18 + r.preset * 2 ^ 21))

/-- A new request of lane n: the next SEQ, counted in LANE_EQCNT[7:0]; `judge`: the margin it leads to counts (R132). -/
def State.newEq (s : State) (n tap cmd : Nat) (judge : Bool) : State :=
  let x := s.lane n
  let r : EqReq := {
    seq := x.eqSeq % 256, tap := tap, cmd := cmd, preset := 0, repeats := 0, t := s.devTime, judge := judge }
  let s1 := s.setLane n { x with
    eqReq := some r, eqSeq := (x.eqSeq + 1) % 256, eqCount := x.eqCount + 1,
    since := x.since }
  (s1.addSat (laneReg 0x48 n) 0 8 1).sendEq n r

/-- Lane n enters EQ: its transmitter starts at preset INITP (R131) and its receiver asks for the camera's taps. -/
def State.laneEq (s : State) (n : Nat) : State :=
  let p := if n < 104 then s.fld (Reg.LANE_TXFFE n) 0 3 else 1
  let s1 := (s.laneGo n 4).wr (laneReg 0x28 n) (tapWord (presetTaps p))
  s1.newEq n 1 0 true

/-! ## Bond position carriage, mute and isolation -/

/-- Lane n enters ISOLATED (R138, R139). -/
def State.laneIsolate (s : State) (n : Nat) : State :=
  let s1 := (s.laneLock n false).setBit (laneStat n) 7 false
  s1.laneGo n 13

/-- The bond of camera c is muted: MUTED and LANE_IRQ.MUTE on its lanes; it leaves ACTIVE; the open loss counts
toward PARTIAL (R32, R138, R141). -/
def State.bondMute (s : State) (c : Nat) : State :=
  let s1 := s.each (s.bondLanes c) (fun t n => ((t.setBit (laneStat n) 16 true).laneIrq n 6).laneTrigDrop n)
  let s2 := s1.setBond c { s1.bond c with muted := true, losses := closeLoss false s1.devTime (s1.bond c).losses }
  s2.bondDown c

/-- Lane n is isolated and its bond muted (R138 step 3). -/
def State.laneLose (s : State) (n : Nat) : State :=
  let s1 := s.laneIsolate n
  match s1.laneBond n with
  | some c => s1.bondMute c
  | none => s1

/-- A SWITCH request goes out four times on every lane of the bond that sends; an ISOLATED lane is none of them (R139). -/
def State.sendSwitch (s : State) (c pos seq : Nat) : State :=
  s.each ((s.bondLanes c).filter s.laneSends) (fun t n =>
    let b := BitVec.ofNat 64 (0x4B + pos * 2 ^ 8 + (seq % 256) * 2 ^ 16)
    t.setLane n { t.lane n with urgent := (t.lane n).urgent ++ List.replicate 4 (.switch b) })

/-- Start moving position pos of camera c from a lane to the spare (R139, R140). -/
def State.startSwitch (s : State) (c pos lane spare : Nat) (again : Bool) : State :=
  let b := s.bond c
  let seq := (b.swSeq + 1) % 256
  let s1 := (s.laneTrigDrop lane).setBond c { b with
    swSeq := seq,
    sw := some { pos := pos, lane := lane, spare := spare, seq := seq, again := again, t := s.devTime } }
  s1.sendSwitch c pos seq

/-- Lane n returns to DETECT on a restart, or to A1SYNC in Alaol-1; a lane that is off or in a loop stays (R124). -/
def State.laneRestartNow (s : State) (n : Nat) : State :=
  if s.laneSt n = 0 ∨ s.laneSt n = 9 then s
  else
    let s1 := s.setLane n { s.lane n with tries := 0, deferred := 0, a1Was := false }
    let s2 := s1.setBit (laneStat n) 16 false
    s2.laneBegin n

/-- The bond of a data lane that leaves ACTIVE without inlay leaves ACTIVE (R136). -/
def State.laneLeaves (s : State) (n : Nat) : State :=
  match s.laneBond n with
  | some c => if c < 96 ∧ s.lanePos n ≠ 15 then s.bondDown c else s
  | none => s

/-- LANE_CMD.RESTART of lane n outside an inlay; ISOLATED ends only by device reset or a restart of the bond. -/
def State.laneRestart1 (s : State) (n : Nat) : State :=
  if s.laneSt n = 13 then s else (s.laneLeaves n).laneRestartNow n

/-- A spare gives back the position it carries, which its lane takes again (Table 5.4, log entry 38). -/
def State.laneUncarry (s : State) (n : Nat) : State :=
  if (s.lane n).carry.isSome then
    ((s.setLane n { s.lane n with carry := none }).setBit (laneStat n) 15 false).setBit Reg.LANE_SPRUE (16 + n / 13) false
  else s

/-- Restart of a camera's bond: every lane of it, ISOLATED ones too, starts over (Table 5.4). -/
def State.bondRestart (s : State) (c : Nat) : State :=
  let s1 := s.bondDown c
  let s2 := s1.setBond c { s1.bond c with
    muted := false, sw := none, late := [], capsT := none,
    losses := closeLoss false s1.devTime (s1.bond c).losses }
  s2.each (s2.bondLanes c) (fun t n => (t.laneUncarry n).laneRestartNow n)

/-- Lane n leaves OFF when it is enabled and its clock runs (Table 5.4). -/
def State.laneWake (s : State) (n : Nat) : State :=
  if s.laneSt n = 0 ∧ s.laneCtlBit n 0 ∧ s.clkOn n then s.laneBegin n else s

/-- Lane n enters OFF. -/
def State.laneOff (s : State) (n : Nat) : State :=
  (((s.laneLeaves n).laneLock n false).setBit (laneStat n) 7 false).laneGo n 0

/-- Rates and protocol of a LANE_CTL value are allowed (R117, R149). -/
def laneCtlOk (v : Word) : Bool :=
  if bitOf v 1 then decide (fldOf v 2 3 ≤ 2) && decide (fldOf v 2 3 = fldOf v 5 3)
  else decide (fldOf v 2 3 ≤ 4) && decide (fldOf v 5 3 ≤ 4)

/-- Apply the shadow of LANE_CTL to lane n (R146). -/
def State.laneApplyNow (s : State) (n : Nat) : State :=
  let old := s.rd (Reg.LANE_CTLA n)
  let new := s.rd (Reg.LANE_CTL n)
  let s1 := ((s.wr (Reg.LANE_CTLA n) new).setBit (laneStat n) 18 false).laneIrq n 8
  if bitOf new 0 = false then (if [0, 9, 13].contains (s1.laneSt n) then s1 else s1.laneOff n)
  else if s1.laneSt n = 0 then s1.laneWake n
  else if fldOf old 1 7 ≠ fldOf new 1 7 ∧ s1.laneSt n ≠ 9 ∧ s1.laneSt n ≠ 13 then
    let s2 := s1.laneLeaves n
    if bitOf new 1 then s2.laneBegin n
    else if s2.laneSt n ≤ 2 ∨ s2.laneSt n = 10 then s2
    else (s2.laneDetect n).laneGo n 2
  else s1

/-- A command of lane n waits for the inlay to end: 1 RESTART, 2 shadow apply, 4 restart of the bond (R144). -/
def State.laneDefer (s : State) (n k : Nat) : State :=
  let s1 := s.w1sSet (Reg.LANE_CMD n) (k - 1) (k != 4 && (s.lane n).deferred / k % 2 == 1)
  s1.setLane n { s1.lane n with deferred := (s1.lane n).deferred ||| k }

/-- The shadows of a camera's lanes are applied at its block boundary (R146). -/
def State.bondApply (s : State) (c : Nat) : State :=
  if (s.bond c).sw.isSome then
    s.each ((s.bondLanes c).filter (fun n => s.bit (laneStat n) 18)) (fun t n =>
      t.laneDefer n 2)
  else s.each ((s.bondLanes c).filter (fun n => s.bit (laneStat n) 18)) (fun t n => t.laneApplyNow n)

/-- Commands that waited for an inlay to end (R144). -/
def State.bondDeferred (s : State) (c : Nat) : State :=
  let ls := s.bondLanes c
  let s1 := s.each ls (fun t n =>
    let d := (t.lane n).deferred
    let t1 := t.setLane n { t.lane n with deferred := 0 }
    let t2 := if d % 2 = 1 then (t1.laneRestart1 n).w1sDone (Reg.LANE_CMD n) 0 (fun u => u.laneRestart1 n) else t1
    if d / 2 % 2 = 1 then (t2.laneApplyNow n).w1sDone (Reg.LANE_CMD n) 1 (fun u => u.laneApplyNow n) else t2)
  if ls.any (fun n => 4 ≤ (s.lane n).deferred) then s1.bondRestart c else s1

/-- Data lanes that failed during an inlay are isolated at its end, and the bond is muted (R144). -/
def State.bondLate (s : State) (c : Nat) : State :=
  let l := (s.bond c).late
  if l = [] then s
  else
    let s1 := s.setBond c { s.bond c with late := [] }
    (s1.each l (fun t n => t.laneIsolate n)).bondMute c

/-! ## Lane faults (R137, R138, R144) -/

/-- A spare fails in STANDBY or its self-test: SPAREFAIL, and it is unavailable (R144). -/
def State.spareFailed (s : State) (n : Nat) : State :=
  let s1 := s.setLane n { s.lane n with spareFail := true }
  (s1.setBit Reg.LANE_SPRUE (n / 13) false).fault 0 8 n 0

/-- Lane n re-acquires lock at unchanged rates, and the relock is counted (R138 step 2, Table 5.14). Its bond delivers no line
meanwhile, whether it is a data lane or the spare (R138). -/
def State.laneRelock (s : State) (n : Nat) : State :=
  let s1 := (((s.addSat (laneReg 0x44 n) 16 16 1).laneLock n false).setBit (laneStat n) 7 false).laneGo n 8
  match s1.laneBond n with
  | some c => if c < 96 then (s1.openLoss c false).bondShow c else s1
  | none => s1

/-- A data lane of a bond whose inlay is in progress fails with signature `kind`: with a lower index, and a report of the same
signature that joins that of the lane under inlay before its reaction starts, it takes the spare; otherwise it waits for the
end of the inlay (R144, R33, R480). -/
def State.laneFailedInInlay (s : State) (c n : Nat) (w : Switch) (kind : Nat) : State :=
  if n = w.lane then s
  else if n < w.lane ∧ s.reports.any (fun r => r.sig == kind && r.src == w.lane && r.t == s.devTime) = true then
    let s1 := s.setBond c { s.bond c with late := (s.bond c).late ++ [w.lane] }
    s1.startSwitch c (s1.lanePos n) n w.spare w.again
  else s.setBond c { s.bond c with late := (s.bond c).late ++ [n] }

/-- The base level of a lane fault (Table 5.12): kind 1 LOS, 2 LOL, 3 TXFAIL. -/
def State.laneLevel (s : State) (n kind : Nat) : Nat :=
  let spare := match s.laneBond n with
    | some c => (s.bondSpare c).isSome
    | none => false
  if kind = 2 ∧ s.laneCtlBit n 12 ∧ spare = false then 1 else 2

/-- A data lane suffers LOS (1), LOL (2) or TXFAIL (3): R138 for a lane of an ACTIVE bond; in any other bond it is
isolated. -/
def State.dataLaneFault (s : State) (n kind : Nat) : State :=
  let sec := s.explained 0 n && (kind == 1 || kind == 2)
  let s1 := s.faultState 0 kind n (s.laneLevel n kind)
  match s1.laneBond n with
  | none => s1.laneIsolate n
  | some c =>
    let s2 := s1.openLoss c (kind == 3)
    if !(s2.bond c).active then s2.laneLose n
    else if sec then s2.laneRelock n
    else match (s2.bond c).sw with
      | some w => s2.laneFailedInInlay c n w kind
      | none =>
        match s2.bondSpare c with
        | some sp => s2.startSwitch c (s2.lanePos n) n sp false
        | none => if kind = 2 ∧ s2.laneCtlBit n 12 then s2.laneRelock n else s2.laneLose n

/-- Lane n in ACTIVE or STANDBY suffers a fault. -/
def State.laneFault (s : State) (n kind : Nat) : State :=
  if s.laneSt n = 7 ∧ (s.lane n).carry = none then
    (if s.explained 0 n && (kind == 1 || kind == 2) then (s.faultState 0 kind n (s.laneLevel n kind)).laneRelock n
     else s.spareFailed n)
  else s.dataLaneFault n kind

/-- A TW lane leaves the twin bond and restarts at DETECT; TLANE is recorded (R422). -/
def State.twinLaneOut (s : State) (n : Nat) : State :=
  let s1 := s.setBit Reg.TWIN_LANES (n - 104) false
  let s2 := (s1.irq Reg.TWIN_IRQ 315 7).fault 11 5 (n - 104) 1
  let s3 := s2.laneDetect n
  if s3.fld Reg.TWIN_LANES 0 8 = 0 then s3.bondDown 96 else s3.setBond 96 { s3.bond 96 with reform := true }

/-! ## Alignment (R135) -/

/-- Arrival of lane n's comma with a CNT, among its last four. -/
def State.cntAt (s : State) (n cnt : Nat) : Option Nat := ((s.lane n).commas.find? (fun e => e.1 == cnt)).map (·.2)

/-- The newest CNT of which every lane of a set holds a comma (R135). -/
def State.bondCnt (s : State) (ls : List Nat) : Option Nat :=
  match ls with
  | [] => none
  | n :: _ => ((s.lane n).commas.find? (fun e => ls.all (fun m => (s.cntAt m e.1).isSome))).map (·.1)

/-- Lanes of a set hold commas of equal CNT. -/
def State.sameCnt (s : State) (ls : List Nat) : Bool := (s.bondCnt ls).isSome

/-- Lead of lane n over the latest lane of a set, in code blocks, by commas of equal CNT (R135). -/
def State.laneLead (s : State) (ls : List Nat) (n : Nat) : Nat :=
  match s.bondCnt ls with
  | some k => (maxList (ls.map (fun m => (s.cntAt m k).getD 0)) - (s.cntAt n k).getD 0) * 1000 / s.rxMilli n
  | none => 0

/-- A lane of a set whose skew exceeds 96 code blocks (R135): by equal CNT, or because none of the last four commas of the lanes
has an equal CNT, in which case the first lane is named (log entry 133). -/
def State.skewed (s : State) (ls : List Nat) : Option Nat :=
  if s.sameCnt ls then ls.find? (fun n => decide (96 < s.laneLead ls n))
  else if ls.all (fun n => (s.lane n).commas.length == 4) then ls.head? else none

/-- Record the skew of a set of lanes and mark them aligned. -/
def State.alignLanes (s : State) (ls : List Nat) : State :=
  s.each ls (fun t n => (t.wr (laneReg 0x4C n) (w32 (s.laneLead ls n % 256 + 256))).setBit (laneStat n) 7 true)

end Sys2Proof.Machine
end

