-- ==== Sys2Proof/Machine/LinkOps.lean ====
section
/-!
DEFINITION. The shared operations of the link engine (chapter 6): check codes (R154), downstream packets, the format
table in use and its validity (R174 to R176), the capability exchange (R173), time rounds (R166), heartbeats (R169)
and whether a camera can carry trigger messages (R86).
-/
namespace Sys2Proof.Machine
open Sys2Proof

/-- A packet joins those that wait on a lane, behind every one of its class and of the classes before (R157). -/
def pktInsert (p : TxPkt) (l : List TxPkt) : List TxPkt :=
  l.takeWhile (fun q => decide (q.cls ≤ p.cls)) ++ p :: l.dropWhile (fun q => decide (q.cls ≤ p.cls))

/-- A packet for camera c waits on the lane that carries bond position 0; without one that sends packets it goes nowhere
(R156, log entry 129). -/
def State.queuePkt (s : State) (c : Nat) (p : TxPkt) : State :=
  match s.posLane c 0 with
  | some n =>
    if 5 ≤ s.laneSt n ∧ s.laneSt n ≤ 8 then s.setLane n { s.lane n with pkts := pktInsert p (s.lane n).pkts } else s
  | none => s

/-- Send a downstream packet to camera c: its type, the rest of the header's bits from bit 8 up, and its content (R154). -/
def State.sendPkt (s : State) (c type hdr : Nat) (data : List Byte) : State :=
  let h := type + hdr * 256
  s.queuePkt c {
    cls := if type = 0xA0 ∨ type = 0x92 ∨ type = 0x94 then 2 else 3
    hdr := pktHdr h, data := pktBlocks h (pktLen data) data }

/-- Set bit i of LINK_CAMIRQ (source 112 + c). -/
def State.camIrq (s : State) (c i : Nat) : State := s.irq (Reg.LINK_CAMIRQ c) (112 + c) i

/-- The camera's lane 0 speaks Alaol-1 (R151). -/
def State.camA1 (s : State) (c : Nat) : Bool :=
  match s.posLane c 0 with
  | some n => s.laneA1 n
  | none => false

/-! ## Formats -/

/-- The bytes of the format table that a LINK_CAMCFG value selects (R176); none when it names no received table. -/
def State.fmtOf (s : State) (c : Nat) (cfg : Word) : Option (List Byte) :=
  if bitOf cfg 1 || s.camA1 c then some (s.rdBytes (Reg.LINK_FMTMEM c (fldOf cfg 2 4) 0) 256)
  else ((s.cam c).tables.find? (fun e => e.1 == fldOf cfg 2 4)).map (·.2)

/-- Fields of a format table (Table 6.10). -/
def fmtKind (b : List Byte) : Nat := leAt b 1 1
def fmtPack (b : List Byte) : Nat := leAt b 2 1
def fmtTaps (b : List Byte) : Nat := leAt b 3 1
def fmtWidth (b : List Byte) : Nat := leAt b 4 2
def fmtHeight (b : List Byte) : Nat := leAt b 6 2
def fmtHdrb (b : List Byte) : Nat := leAt b 8 2
def fmtOrder (b : List Byte) : Nat := leAt b 10 1
def fmtTrgMode (b : List Byte) : Nat := leAt b 11 1
def fmtSepRG (b : List Byte) : Int := sgn 8 (leAt b 12 1)
def fmtSepGB (b : List Byte) : Int := sgn 8 (leAt b 13 1)
def fmtIgrp (b : List Byte) : Nat := leAt b 14 2
def fmtMaxLr (b : List Byte) : Nat := leAt b 16 4
def fmtLineb (b : List Byte) : Nat := leAt b 20 4
/-- Planes a line brings (R175): 3 for KIND 1 and 2. -/
def fmtPlanesIn (b : List Byte) : Nat := if fmtKind b = 1 ∨ fmtKind b = 2 then 3 else 1
/-- Planes after stage 5 (Table 7.1). -/
def fmtPlanesOut (b : List Byte) : Nat := if fmtKind b = 0 ∨ fmtKind b = 3 then 1 else 3
/-- An area format (KIND 3 or 4). -/
def fmtArea (b : List Byte) : Bool := fmtKind b == 3 || fmtKind b == 4

/-- Tap t of a table: start column, pixel count, column step (Table 6.11). -/
def fmtTap (b : List Byte) (t : Nat) : Nat × Nat × Int :=
  (leAt b (64 + 8 * t) 2, leAt b (66 + 8 * t) 2, sgn 16 (leAt b (68 + 8 * t) 2))

/-- The columns of one tap in order (R174). -/
def tapCols (t : Nat × Nat × Int) : List Int := (List.range t.2.1).map (fun (k : Nat) => (t.1 : Int) + k * t.2.2)

/-- Pixels in the order a plane arrives: rounds of IGRP pixels from each tap in turn; an exhausted tap drops out
(R174). -/
def tapRounds : Nat → Nat → List (List Int) → List Int
  | 0, _, _ => []
  | f + 1, g, ts => ts.flatMap (fun t => t.take g) ++ tapRounds f g ((ts.map (fun t => t.drop g)).filter (· ≠ []))

/-- The columns of the pixels of one plane, in the order they arrive (R174). -/
def fmtCols (b : List Byte) : List Int :=
  let ts := (List.range (fmtTaps b)).map (fun t => tapCols (fmtTap b t))
  if fmtIgrp b = 0 then ts.flatMap id else tapRounds (fmtWidth b) (fmtIgrp b) ts

/-- A format table is valid (R175). -/
def fmtOk (b : List Byte) : Bool :=
  let cols := (List.range (fmtTaps b)).flatMap (fun t => tapCols (fmtTap b t))
  let order := fmtOrder b
  decide (leAt b 0 1 ≤ 15) && decide (fmtKind b ≤ 4) && [8, 10, 12, 14, 16].contains (fmtPack b) &&
  decide (1 ≤ fmtTaps b ∧ fmtTaps b ≤ 16) && decide (fmtHeight b ≤ 16384 ∧ 1 ≤ fmtHeight b) &&
  decide (order ≤ (if fmtKind b = 1 then 1 else if fmtKind b = 4 then 3 else 0)) && decide (fmtTrgMode b ≤ 1) &&
  ((b.drop 24).take 40).all (· == 0#8) &&
  (List.range (fmtTaps b)).all (fun t => leAt b (70 + 8 * t) 2 == 0) &&
  decide (cols.length = fmtWidth b) && (List.range (fmtWidth b)).all (fun k => cols.contains (k : Int)) &&
  decide (fmtLineb b = fmtHdrb b + (fmtWidth b * fmtPlanesIn b * fmtPack b + 7) / 8) &&
  (decide (fmtHeight b = 1) == decide (fmtKind b ≤ 2))

/-- The selected table exists and is valid (R176). -/
def State.fmtGood (s : State) (c : Nat) (cfg : Word) : Bool :=
  match s.fmtOf c cfg with
  | some b => fmtOk b
  | none => false

/-- The active format table of camera c; all zero when none is selected. -/
def State.camFmt (s : State) (c : Nat) : List Byte := (s.fmtOf c (s.rd (Reg.LINK_CAMCFGA c))).getD []

/-- Trilinear offsets o_R, o_G, o_B (R203); 0 for other kinds. -/
def fmtOffsets (b : List Byte) : List Int :=
  if fmtKind b = 1 then [0, fmtSepRG b, fmtSepRG b + fmtSepGB b] else [0]

/-- The offsets of a format span at most 8 lines (R203). -/
def fmtSpanOk (b : List Byte) : Bool :=
  decide ((fmtOffsets b).foldl max 0 - (fmtOffsets b).foldl min 0 ≤ 8)

/-! ## The capability exchange (R173) -/

/-- The bond of camera c has a lane in CAPS, or still in ACTIVE, at every position, and no lane of it, the spare included, is
refused by R134 (R135). -/
def State.bondFull (s : State) (c : Nat) : Bool :=
  (s.bondLanes c).all (fun n => !(s.lane n).badMap) &&
  match s.posLane c 0 with
  | some n0 =>
    (List.range (s.fld (Reg.LANE_BOND n0) 12 4)).all (fun p =>
      match s.posLane c p with
      | some n => s.laneSt n == 5 || s.laneSt n == 6
      | none => false)
  | none => false

/-- Step 1 of the exchange: CAPQ, and the 5 ms limit begins. -/
def State.capsStart (s : State) (c : Nat) : State :=
  let s1 := s.setBond c { s.bond c with capsT := some s.devTime }
  let s2 := s1.setCam c { s1.cam c with
    tables := [], lastFmt := none, gotRec := false, badFmt := false, nGot := 0, capsRound := false, round := none }
  ((s2.setFld (Reg.LINK_CAMSTAT c) 0 2 1).setFld (Reg.LINK_CAMSTAT c) 8 5 0).sendPkt c 0xC0 0x20 []

/-- The bond of camera c is ready in CAPS: the exchange starts, or first a failed data lane is moved to the spare
(R135, R143). An exchange in progress goes on. The link engine runs it only for an enabled camera (log entry 12). -/
def State.capsReady (s : State) (c : Nat) : State :=
  if c < 96 ∧ s.bit (Reg.LINK_CAMCFGA c) 0 ∧ (s.bond c).capsT = none ∧ (s.bond c).sw = none ∧ (s.bond c).active = false
      ∧ s.bondFull c then s.capsStart c
  else s

/-- All lanes of camera c's bond fail their attempt (R135, R173). -/
def State.bondAttemptFails (s : State) (c : Nat) : State :=
  let s1 := s.setBond c { s.bond c with capsT := none }
  s1.each ((s1.bondLanes c).filter (fun n => s1.laneSt n == 5)) (fun t n => t.laneFailed n)

/-- The exchange of camera c fails (R173): CAPACK with ACCEPT clear, CAPFAIL, and the attempt fails. -/
def State.capsFail (s : State) (c : Nat) : State :=
  let s1 := s.sendPkt c 0xC4 (s.fld (Reg.LINK_CAMCFGA c) 2 4) []
  let s2 := ((s1.setFld (Reg.LINK_CAMSTAT c) 0 2 3).camIrq c 1).fault 1 7 c 0
  s2.bondAttemptFails c

/-- The exchange of camera c is accepted: CAPACK with ACCEPT; the data lanes enter ACTIVE and the spare STANDBY
(R136, R173). -/
def State.capsAccept (s : State) (c : Nat) : State :=
  let s1 := s.sendPkt c 0xC4 (s.fld (Reg.LINK_CAMCFGA c) 2 4 + 2 ^ 8) []
  let s2 := (s1.setFld (Reg.LINK_CAMSTAT c) 0 2 2).camIrq c 0
  let s3 := s2.each ((s2.bondLanes c).filter (fun n => s2.laneSt n == 5)) (fun t n =>
    if t.lanePos n = 15 then t.laneGo n 7 else t.laneGo n 6)
  (s3.setCam c { s3.cam c with lastHb := s3.devTime, hbLost := false }).bondUp c

/-- The received record and tables pass R173 and R175. -/
def State.capsGood (s : State) (c nfmt : Nat) : Bool :=
  let x := s.cam c
  let ver := s.fld (Reg.LINK_CAPREC c 0) 0 8
  let host := s.bit (Reg.LINK_CAMCFGA c) 1
  x.gotRec && decide (0x20 ≤ ver ∧ ver ≤ 0x2F) && !x.badFmt && decide (x.nGot = nfmt) &&
  decide (s.fld (Reg.LINK_CAPREC c 0) 24 8 = nfmt) &&
  (host || (x.tables.all (fun e => fmtOk e.2) && x.tables.any (fun e => e.1 == s.fld (Reg.LINK_CAMCFGA c) 2 4)))

/-! ## Time rounds and heartbeats -/

/-- Start a time round with camera c: TSYNC with SEQ, and T1 once its header leaves (R166). -/
def State.startRound (s : State) (c : Nat) : State :=
  let x := s.cam c
  let s1 := s.setCam c { x with round := none, roundSeq := (x.roundSeq + 1) % 2 ^ 32, tsSent := some s.devTime }
  s1.queuePkt c { cls := 2, hdr := pktHdr 0x92, data := [0#64, 0#64], sync := some (c, x.roundSeq) }

/-- LINK_HBPER in µs, 10 to 10,000. -/
def State.hbPer (s : State) : Nat := clampN 10 10000 (s.fld Reg.LINK_HBPER 0 16)

/-- Header bits of a device HEART from bit 8 up (R169). -/
def State.heartBits (s : State) (claim : Bool) : Nat :=
  b2n (s.bit Reg.LINK_ROLE 16) + 2 * b2n claim + s.fld Reg.LINK_ROLE 0 16 * 2 ^ 8 + s.hbPer * 2 ^ 24

/-- Cameras that take heartbeats: those with an ACTIVE bond (R169); Alaol-1 has none (R181). -/
def State.heartCams (s : State) : List Nat := (List.range 96).filter (fun c => (s.bond c).active && !s.camA1 c)

/-- Four HEART copies with CLAIM to every ACTIVE camera, ahead of the other packets of their class, when role or epoch changes
(R169). -/
def State.sendClaim (s : State) : State :=
  s.each s.heartCams (fun t c =>
    let p : TxPkt := { cls := 1, hdr := pktHdr (0xA0 + t.heartBits true * 256), data := [] }
    (((t.queuePkt c p).queuePkt c p).queuePkt c p).queuePkt c p)

/-- Camera c can carry a trigger message now (R86). -/
def State.camCarries (s : State) (c : Nat) : Bool :=
  match s.posLane c 0 with
  | none => false
  | some n =>
    s.bit (Reg.LINK_CAMCFGA c) 0 && (s.laneA1 n || s.fld (Reg.LINK_CAMSTAT c) 0 2 == 2) &&
    (s.bond c).active && !(s.bond c).muted && s.laneSt n != 8 && s.laneSt n != 13 &&
    (match (s.bond c).sw with
     | some w => w.lane != n
     | none => true)

/-- The shadow of LINK_CAMCFG is due at a block boundary and its table passes R175 (R176). -/
def State.cfgPending (s : State) (c : Nat) : Bool := s.bit (Reg.LINK_CAMSTAT c) 6
def State.cfgRefused (s : State) (c : Nat) : Bool := s.cfgPending c && !s.fmtGood c (s.rd (Reg.LINK_CAMCFG c))

/-- Refuse the format apply of camera c: BADCFG and FMTREF (R176). -/
def State.cfgRefuse (s : State) (c : Nat) : State :=
  ((s.setBit (Reg.LINK_CAMSTAT c) 6 false).setBit (Reg.LINK_CAMSTAT c) 7 true).fault 14 7 c 0

/-- Apply the shadow of LINK_CAMCFG (R176). -/
def State.cfgApply (s : State) (c : Nat) : State :=
  let s1 := s.wr (Reg.LINK_CAMCFGA c) (s.rd (Reg.LINK_CAMCFG c))
  ((s1.setBit (Reg.LINK_CAMSTAT c) 6 false).setBit (Reg.LINK_CAMSTAT c) 7 false).camIrq c 8

end Sys2Proof.Machine
end

