-- ==== Sys2Proof/Machine/PipeMath.lean ====
section
/-!
DEFINITION. What the stages of a capture pipeline compute (chapter 7), as functions of a bank, a format table and
samples: unpack (R194, R174), black level (R198), defects (R199, R200), shading (R201), demosaic (R204), the kernels
of the draw plate (R208), colour and tone (R213, R214) and the statistics record (R215).
-/
namespace Sys2Proof.Machine
open Sys2Proof

/-- Saturation to S24 and to G24 (R192). -/
def satS24 (v : Int) : Int := satI 24 v
def satG24 (v : Int) : Int := clampI 0 0xFFFFFF v

/-- Context word at an offset of Table 7.11. -/
def Bank.w (b : Bank) (off : Nat) : Word := nth b.ctx (off / 4) 0#32
/-- A field of a context word. -/
def Bank.f (b : Bank) (off lo n : Nat) : Nat := fldOf (b.w off) lo n
/-- Word at byte offset o of table t (0 shading, 1 defect map, 2 tone). -/
def Bank.tab (b : Bank) (t o : Nat) : Word := sget tableReset b.tbl (t * 0x10000 + o)

/-- First processed column and number of processed columns of a stripe (R186): CFIRST and CWIDTH widened by 64
columns on each side that borders another stripe. -/
def stripeCols (cols bind : Word) : Nat × Nat :=
  let l := if fldOf bind 8 3 = 0 then 0 else 64
  let r := if fldOf bind 8 3 < fldOf bind 12 3 then 64 else 0
  (fldOf cols 0 16 - l, fldOf cols 16 16 + l + r)

/-- Index of a column in the arrival order of a plane. -/
def colIndex (cols : List Int) (c : Nat) : Nat := cols.findIdx (fun x => x == (c : Int))

/-- Place of plane p (0 R, 1 G, 2 B) in the stream of KIND 1 (ORDER of Table 6.10). -/
def planePlace (fmt : List Byte) (p : Nat) : Nat := if fmtOrder fmt = 1 then 2 - p else p

/-- Stage 1 (R194, R195): the planes of a line over the processed columns, in G24, from the bytes after the HDRB ones, which the
link engine drops (R161). -/
def unpack (fmt : List Byte) (first w : Nat) (bytes : List Byte) : List (List Int) :=
  let big := leNat bytes
  let pack := fmtPack fmt
  let cols := fmtCols fmt
  let smp : Nat → Int := fun k => ((big >>> (k * pack)) % 2 ^ pack * 2 ^ (20 - pack) : Nat)
  (List.range (fmtPlanesIn fmt)).map (fun p =>
    (List.range w).map (fun x =>
      let m := colIndex cols (first + x)
      smp (if fmtKind fmt = 1 then planePlace fmt p * fmtWidth fmt + m
           else if fmtKind fmt = 2 then 3 * m + p else m)))

/-- Stage 2 (R198). -/
def stage2 (b : Bank) (planes : List (List Int)) : List (List Int) :=
  planes.zipIdx.map (fun e => e.1.map (fun v => satS24 (v - (b.f (0x08 + 4 * e.2) 0 24 : Nat))))

/-- Column step of stage 3 (R199, R200): two columns in a Bayer mosaic. -/
def bayerStep (fmt : List Byte) : Nat := if fmtKind fmt = 4 then 2 else 1

/-- Number of static map entries in use and entry e (Table 7.3). -/
def dpcCount (b : Bank) : Nat := if b.f 0x14 0 1 = 1 then min (b.f 0x14 16 11) 1024 else 0
def dpcEntry (b : Bank) (e : Nat) : Word := b.tab 1 (4 * e)

/-- Processed columns that the static map lists for a plane of a row (R199). -/
def dpcListed (b : Bank) (first w row p : Nat) : List Nat :=
  ((List.range (dpcCount b)).filter (fun e =>
    let x := dpcEntry b e
    let pl := fldOf x 30 2
    fldOf x 16 14 == row && (pl == 3 || pl == p) && decide (first ≤ fldOf x 0 16) && decide (fldOf x 0 16 < first + w))
  ).map (fun e => fldOf (dpcEntry b e) 0 16 - first)

/-- The nearest unlisted neighbour of column x on one side within 4 steps (R199). -/
def dpcSide (bad : List Nat) (px : List Int) (x step : Nat) (left : Bool) : Option Int :=
  ((List.range 4).filterMap (fun k =>
    let d := (k + 1) * step
    if left then (if d ≤ x then (if bad.contains (x - d) then none else px[x - d]?) else none)
    else (if bad.contains (x + d) then none else px[x + d]?))).head?

/-- Static replacement of one plane of one row (R199). -/
def dpcStatic (bad : List Nat) (step : Nat) (line : List Int) : List Int :=
  line.zipIdx.map (fun e =>
    if bad.contains e.2 then
      match dpcSide bad line e.2 step true, dpcSide bad line e.2 step false with
      | some a, some c => roundShift (a + c) 1
      | some a, none => a
      | none, some c => c
      | none, none => e.1
    else e.1)

/-- The middle of two or four neighbours: their mean, or the mean of the middle two (R200). -/
def dpcMid (ns : List Int) : Int :=
  let s := ns.mergeSort (· ≤ ·)
  if s.length = 2 then roundShift (nth s 0 0 + nth s 1 0) 1 else roundShift (nth s 1 0 + nth s 2 0) 1

/-- Dynamic replacement of one sample, given its neighbours (R200): the result, and whether it was replaced. -/
def dpcTest (b : Bank) (v : Int) (ns : List Int) : Int × Bool :=
  let hi := ns.foldl max (nth ns 0 0) + (b.f 0x18 0 24 : Nat)
  let lo := ns.foldl min (nth ns 0 0) - (b.f 0x1C 0 24 : Nat)
  if hi < v ∨ v < lo then (dpcMid ns, true) else (v, false)

/-- Dynamic detection over one plane of a row; `up` and `down` are the rows it compares with on an area camera
(R200). Answers the row and the number of replacements. -/
def dpcDynamic (b : Bank) (step : Nat) (area : Bool) (bad : List Nat) (px : List Int) (up down : Option (List Int)) :
    List Int × Nat :=
  if b.f 0x14 1 1 = 0 then (px, 0)
  else
    let r := px.zipIdx.map (fun e =>
      if bad.contains e.2 ∨ e.2 < step then (e.1, false)
      else match px[e.2 - step]?, px[e.2 + step]? with
        | some a, some c =>
          if area then
            match up.bind (·[e.2]?), down.bind (·[e.2]?) with
            | some u, some d => dpcTest b e.1 [a, c, u, d]
            | _, _ => (e.1, false)
          else dpcTest b e.1 [a, c]
        | _, _ => (e.1, false))
    (r.map (·.1), (r.filter (·.2)).length)

/-- Stage 4 (R201): shading of plane p. -/
def stage4 (b : Bank) (p : Nat) (px : List Int) : List Nat :=
  px.zipIdx.map (fun e =>
    if b.f 0x20 0 1 = 1 then
      let t := b.tab 0 ((p * 4096 + e.2) * 4)
      let v := satS24 (e.1 - sgn 16 (fldOf t 16 16) * 16)
      (satG24 ((v * (fldOf t 0 16 : Nat) + 0x2000) / 0x4000)).toNat
    else (satG24 e.1).toNat)

/-! ## Stage 5: demosaic (R204) -/

/-- Colour of Bayer site (x, y) for ORDER (0 RGGB, 1 GRBG, 2 GBRG, 3 BGGR): 0 R, 1 G, 2 B. -/
def bayerColour (order x y : Nat) : Nat :=
  let i := x % 2 + 2 * (y % 2)
  if order = 0 then nth [0, 1, 1, 2] i 0 else if order = 1 then nth [1, 0, 2, 1] i 0
  else if order = 2 then nth [1, 2, 0, 1] i 0 else nth [2, 1, 1, 0] i 0

/-- A coordinate mirrored into 0 to n - 1. -/
def mirror (v : Int) (n : Nat) : Nat :=
  (if v < 0 then -v else if (n : Int) ≤ v then 2 * ((n : Int) - 1) - v else v).toNat

/-- Sample at (x, y) of a frame of rows, mirrored at its edges. -/
def frameAt (rows : List (List Nat)) (x y : Int) : Int :=
  let r := nth rows (mirror y rows.length) []
  (nth r (mirror x r.length) 0 : Nat)

/-- Mean of the four G neighbours of a non-G site. -/
def g4 (rows : List (List Nat)) (x y : Int) : Int :=
  roundShift (frameAt rows (x - 1) y + frameAt rows (x + 1) y + frameAt rows x (y - 1) + frameAt rows x (y + 1)) 2

/-- Green at an R or B site (R204). -/
def greenAt (edgeth : Int) (rows : List (List Nat)) (x y : Int) : Int :=
  let f := frameAt rows
  let c2 := 2 * f x y
  let eh := c2 - f (x - 2) y - f (x + 2) y
  let ev := c2 - f x (y - 2) - f x (y + 2)
  let dh : Int := (f (x - 1) y - f (x + 1) y).natAbs + eh.natAbs
  let dv : Int := (f x (y - 1) - f x (y + 1)).natAbs + ev.natAbs
  let gh := satS24 (roundShift (f (x - 1) y + f (x + 1) y) 1 + roundShift eh 2)
  let gv := satS24 (roundShift (f x (y - 1) + f x (y + 1)) 1 + roundShift ev 2)
  if dh + edgeth < dv then gh else if dv + edgeth < dh then gv else roundShift (gh + gv) 1

/-- Mean difference of a colour from green over sites at the given offsets. -/
def meanDiff (rows : List (List Nat)) (x y : Int) (ds : List (Int × Int)) (sh : Nat) : Int :=
  roundShift (sumI (ds.map (fun d => frameAt rows (x + d.1) (y + d.2) - g4 rows (x + d.1) (y + d.2)))) sh

/-- R, G and B at site (x, y); first is the camera column of column 0 of the rows. -/
def demosaicAt (edgeth : Int) (order first : Nat) (rows : List (List Nat)) (x y : Nat) : Nat × Nat × Nat :=
  let xi : Int := x
  let yi : Int := y
  let own := frameAt rows xi yi
  let g24 : Int → Nat := fun v => (satG24 v).toNat
  let lr : List (Int × Int) := [(-1, 0), (1, 0)]
  let ud : List (Int × Int) := [(0, -1), (0, 1)]
  let diag : List (Int × Int) := [(-1, -1), (1, -1), (-1, 1), (1, 1)]
  match bayerColour order (first + x) y with
  | 1 =>
    let h := own + meanDiff rows xi yi lr 1
    let v := own + meanDiff rows xi yi ud 1
    if bayerColour order (first + x + 1) y = 0 then (g24 h, g24 own, g24 v) else (g24 v, g24 own, g24 h)
  | c =>
    let g := greenAt edgeth rows xi yi
    let o := satS24 (g + meanDiff rows xi yi diag 2)
    if c = 0 then (g24 own, g24 g, g24 o) else (g24 o, g24 g, g24 own)

/-- The planes of row y of a Bayer frame. -/
def demosaicRow (b : Bank) (fmt : List Byte) (first : Nat) (rows : List (List Nat)) (y : Nat) : List (List Nat) :=
  let px := (List.range (nth rows y []).length).map (fun x =>
    demosaicAt (b.f 0x24 0 24 : Nat) (fmtOrder fmt) first rows x y)
  [px.map (·.1), px.map (·.2.1), px.map (·.2.2)]

/-! ## Stage 6: grid arithmetic and kernels -/

/-- Difference of two positions of 48 integer and 32 fraction bits (R59, R205). -/
def xDiff (a b : Nat) : Int := sgn 80 (a + 2 ^ 80 - b % 2 ^ 80)
/-- A position moved by a difference. -/
def xAdd (a : Nat) (d : Int) : Nat := low 80 ((a : Int) + d)
/-- A whole position with fraction 0. -/
def xOfPos (p : Posn) : Nat := p.toNat * 2 ^ 32
/-- The pitch of a bank in 2^-32 PT (R205). -/
def Bank.pitch (b : Bank) : Nat := b.f 0x2C 0 24 * 2 ^ 32 + (b.w 0x30).toNat

/-- Weights on lines a - 1, a, b, b + 1 in 1/4096 for phase k of 256 (R208). -/
def kernel (ksel k : Nat) : List Int :=
  let k' : Int := k
  if ksel = 0 then (if k < 128 then [0, 4096, 0, 0] else [0, 0, 4096, 0])
  else if ksel = 1 then [0, 4096 - 16 * k', 16 * k', 0]
  else
    let w0 := roundDiv (-k' ^ 3 + 512 * k' ^ 2 - 65536 * k') 8192
    let w2 := roundDiv (-3 * k' ^ 3 + 1024 * k' ^ 2 + 65536 * k') 8192
    let w3 := roundDiv (k' ^ 3 - 256 * k' ^ 2) 8192
    [w0, 4096 - w0 - w2 - w3, w2, w3]

/-- One plane of an output line from its four kernel lines (R208). -/
def resample (w : List Int) (ls : List (List Nat)) : List Nat :=
  (List.range (nth ls 1 []).length).map (fun x =>
    (satG24 (roundShift (sumI ((w.zip ls).map (fun e => e.1 * (nth e.2 x 0 : Nat)))) 12)).toNat)

/-! ## Stage 7 -/

/-- Colour matrix (R213): one output channel r of a pixel. -/
def colourMix (b : Bank) (r : Nat) (px : List Int) : Int :=
  let n := px.length
  let row := if n = 1 then [0x44] else [0x44 + 12 * r, 0x48 + 12 * r, 0x4C + 12 * r]
  let acc := sumI ((row.zip px).map (fun e => sgn 16 (b.f e.1 0 16) * e.2))
  satG24 (roundShift acc 12 + sgn 24 (b.f (0x68 + 4 * r) 0 24))

/-- Tone table of channel r (R214). -/
def toneMap (b : Bank) (r : Nat) (v : Nat) : Nat :=
  if b.f 0x74 0 1 = 0 then v
  else
    let t : Nat → Int := fun n => (fldOf (b.tab 2 ((r * 257 + n) * 4)) 0 24 : Nat)
    if 0x100000 ≤ v then (t 256).toNat
    else (satG24 (t (v / 4096) + roundShift ((t (v / 4096 + 1) - t (v / 4096)) * (v % 4096 : Nat)) 12)).toNat

/-- Stage 7 over the planes of a line. -/
def stage7 (b : Bank) (planes : List (List Nat)) : List (List Nat) :=
  (List.range planes.length).map (fun r =>
    (List.range (nth planes 0 []).length).map (fun x =>
      toneMap b r (colourMix b r (planes.map (fun p => (nth p x 0 : Nat)))).toNat))

/-! ## Stage 8: the statistics record (R215) -/

/-- Histogram bin of a sample: its integer part, 255.0 and above in bin 255. -/
def histBin (v : Nat) : Nat := min (v / 4096) 255

/-- The 32-bit words of one plane's histogram. -/
def histBytes (vs : List Nat) : List Byte :=
  (List.range 256).flatMap (fun b => leBytes 4 ((vs.filter (fun v => histBin v == b)).length))

/-- Mean of the samples of 16-column group g of a plane over lines (G24, rounded half up); fv where no line counts. -/
def profMean (lines : List (List Nat)) (g fv : Nat) : Nat :=
  let vs := lines.flatMap (fun l => (l.drop (16 * g)).take 16)
  if vs = [] then fv else (roundDiv (vs.foldl (· + ·) 0 : Nat) (vs.length : Nat)).toNat

/-- The statistics record of a block (Table 7.4). `core` holds the core columns of every CAPTURED and RESAMPLED line,
one list of planes per line; fv stands for the
least, greatest and mean sample of a block that counts no line, which the spec does not state (log entry 2). -/
def statRecord (n : Nat) (bind : Word) (b : PBlk) (core : List (List (List Nat))) (np : Nat)
    (fv : Nat → Nat) : List Byte :=
  let cfg := b.bank.w 0x78
  let cols := b.bank.w 0
  let hist := bitOf cfg 0
  let prof := bitOf cfg 1
  let groups := (fldOf cols 16 16 + 15) / 16
  let len := 128 + (if hist then 1024 * np else 0) + (if prof then 4 * groups * np else 0)
  let reclen := (len + 63) / 64
  let pl : Nat → List (List Nat) := fun p => core.map (fun l => nth l p [])
  let per : (Nat → List Nat → Nat) → Nat → List Byte := fun f w =>
    (List.range 3).flatMap (fun p => leBytes w (if p < np then f p ((pl p).flatMap id) else 0))
  let count : Nat → Nat := fun c => (b.outs.filter (fun o => o.code == c)).length
  let fl := b2n hist + 2 * b2n prof + 4 * b2n b.inlaid + 8 * b2n b.late
  let body :=
    leBytes 4 b.frame ++ leBytes 4 b.seq ++ leBytes 1 (fldOf bind 1 7) ++
    leBytes 1 (fldOf bind 8 3 + 8 * fldOf bind 12 3) ++ leBytes 1 n ++ leBytes 1 np ++ leBytes 2 core.length ++
    leBytes 2 b.linesIn ++ leBytes 2 (fldOf cols 0 16) ++ leBytes 2 (fldOf cols 16 16) ++ leBytes 2 reclen ++
    leBytes 2 fl ++ per (fun p v => if v = [] then fv p else v.foldl min 0xFFFFFF) 4 ++
    per (fun p v => if v = [] then fv (3 + p) else maxList v) 4 ++ per (fun _ v => v.foldl (· + ·) 0) 8 ++
    per (fun _ v => v.foldl (fun a x => a + (x / 4096) ^ 2) 0) 8 ++
    per (fun _ v => (v.filter (fun x => decide (0xFF000 ≤ x))).length) 4 ++ leBytes 4 b.dpc ++
    leBytes 2 (count 1) ++ leBytes 2 (count 2) ++ List.replicate 12 0#8 ++
    (if hist then (List.range np).flatMap (fun p => histBytes ((pl p).flatMap id)) else []) ++
    (if prof then (List.range groups).flatMap (fun g => (List.range np).flatMap (fun p => leBytes 4 (profMean (pl p) g (fv (6 + 3 * g + p)))))
     else [])
  body ++ List.replicate (reclen * 64 - body.length) 0#8

/-! ## Stage 10: ring samples (R217) -/

/-- Bytes of one sample in the capture ring. -/
def ringBytes (rfmt : Nat) : Nat := if rfmt = 0 then 1 else if rfmt = 1 then 2 else 4
/-- One sample in the capture ring's encoding. -/
def ringSample (rfmt g : Nat) : List Byte :=
  if rfmt = 0 then leBytes 1 (min 255 ((g + 0x800) / 4096))
  else if rfmt = 1 then leBytes 2 (min 65535 ((g + 8) / 16)) else leBytes 4 g
/-- The bytes of a line's core, pixel-interleaved (R299). -/
def ringLine (rfmt : Nat) (planes : List (List Nat)) : List Byte :=
  (List.range (nth planes 0 []).length).flatMap (fun x => planes.flatMap (fun p => ringSample rfmt (nth p x 0)))

end Sys2Proof.Machine
end

