-- ==== Sys2Proof/Machine/PipeOps.lean ====
section
/-!
DEFINITION. The shared operations of the capture pipelines (chapter 7) on state: banks and swaps (R219 to R224), the
assembly slots (R195, R196), the flow of a line through stages 1 to 5 to the draw plate (R203 to R206), runs and
blocks (R205, R210, R288), and the emission of output lines (R207 to R211).
-/
namespace Sys2Proof.Machine
open Sys2Proof

/-- PIPE_CTL.EN, and the bits of PIPE_STAT (Table 7.9). -/
def State.pipeEn (s : State) (n : Nat) : Bool := s.bit (Reg.PIPE_CTL n) 0
def State.pipeBit (s : State) (n i : Nat) : Bool := s.bit (Reg.PIPE_STAT n) i
def State.pipeSet (s : State) (n i : Nat) (b : Bool) : State := s.setBit (Reg.PIPE_STAT n) i b
/-- The clock of pipeline n and its assay stage runs (R229). -/
def State.pipeClk (s : State) (n : Nat) : Bool := s.clkOn (104 + n)
/-- Pipeline n accepts lines (PIPE_STAT.RUN). -/
def State.pipeRun (s : State) (n : Nat) : Bool := s.pipeBit n 0
/-- Set bit i of PIPE_IRQ (source 208 + n). -/
def State.pipeIrq (s : State) (n i : Nat) : State := s.irq (Reg.PIPE_IRQ n) (208 + n) i
/-- The active bank number (PIPE_STAT.BANK). -/
def State.pipeBank (s : State) (n : Nat) : Nat := b2n (s.pipeBit n 1)

/-- The pipelines of camera c in service, in stripe order of their numbers (R185): those bound to it in its group (R13). -/
def State.camPipes (s : State) (c : Nat) : List Nat :=
  (List.range 104).filter (fun n => s.pipeCam n == some c && !s.pipeBit n 6 && s.inGroup c n)

/-- Listed words of a range of keys, relative to its base. -/
def State.span (s : State) (base len : Nat) : List (Nat × Word) :=
  s.regs.filterMap (fun e => if base ≤ e.1 ∧ e.1 < base + len then some (e.1 - base, e.2) else none)

/-- Copy a range of words onto another. -/
def State.copySpan (s : State) (src dst len : Nat) : State :=
  let s1 := s.each (s.span dst len) (fun t e => t.wr (dst + e.1) (t.rd (src + e.1)))
  s1.each (s1.span src len) (fun t e => t.wr (dst + e.1) e.2)

/-- Bank b of pipeline n as a line or block uses it; its context registers are read at `ctx` and `asy` (R219, R230). -/
def State.bankAt (s : State) (n b ctx asy : Nat) : Bank :=
  {
    ctx := s.rdList ctx 32, tbl := s.span (Reg.PTAB n b 0 0) 0x40000,
    asy := s.rdList asy 14, atbl := s.span (Reg.ATAB n b 0) 0x10000 }

/-- The active bank of pipeline n. -/
def State.activeBank (s : State) (n : Nat) : Bank :=
  s.bankAt n (s.pipeBank n) (Reg.act (Reg.PIPE_COLS n)) (Reg.act (Reg.ASY_CFG n))
/-- The shadow bank of pipeline n. -/
def State.shadowBank (s : State) (n : Nat) : Bank :=
  s.bankAt n (1 - s.pipeBank n) (Reg.PIPE_COLS n) (Reg.ASY_CFG n)

/-- Draw plate window lines K of a bank for a format (Table 7.1). -/
def plateLines (b : Bank) (fmt : List Byte) : Nat :=
  if fmtArea fmt then 1 else if b.f 0x28 0 2 = 0 then 1 else if b.f 0x28 0 2 = 1 then 2 else 4

/-- Stage-5 history in plane-lines (Table 7.1). -/
def history5 (fmt : List Byte) : Nat :=
  if fmtKind fmt = 1 then
    let o := fmtOffsets fmt
    (3 * o.foldl max 0 - sumI o).toNat
  else if fmtArea fmt then 4 else 0

/-- The line cache need of a bank in bytes (R190). -/
def cacheNeed (b : Bank) (bind : Word) (fmt : List Byte) : Nat :=
  (stripeCols (b.w 0) bind).2 *
    (4 * fmtPlanesIn fmt + 3 * (history5 fmt + fmtPlanesOut fmt * (plateLines b fmt + 2)))

/-- The entries of the static map are in order and their columns below WIDTH (R199). -/
def dpcOrdered (b : Bank) (width : Nat) : Bool :=
  let es := (List.range (min (b.f 0x14 16 11) 1024)).map (dpcEntry b)
  let key : Word → Nat := fun e => fldOf e 16 14 * 65536 + fldOf e 0 16
  es.all (fun e => decide (fldOf e 0 16 < width)) && (es.zip (es.drop 1)).all (fun p => decide (key p.1 ≤ key p.2))

/-- The checks of R223 on a shadow bank (those of R230 stand in AsyOps.lean). -/
def swapChecks (b : Bank) (bind : Word) (fmt : List Byte) : Bool :=
  let blk := b.f 0x04 0 11
  decide (cacheNeed b bind fmt ≤ 327680) && decide ((stripeCols (b.w 0) bind).2 ≤ 4096) &&
  decide (16 ≤ blk ∧ blk ≤ 1024 ∧ blk % 16 = 0) && decide (b.f 0x28 0 2 ≠ 3) && decide (b.f 0x7C 2 2 ≠ 3) &&
  decide (b.f 0x14 16 11 ≤ 1024) && dpcOrdered b (fmtWidth fmt)

/-- A swap that PIPE_CMD.ARM asked for has been taken or refused; a write in the same clock asks for another (R8). -/
def State.armDone (s : State) (n : Nat) : State :=
  (s.pipeSet n 2 false).w1sDone (Reg.PIPE_CMD n) 0 (fun t => t.pipeSet n 2 true)

/-- A refused swap (R223). -/
def State.swapRefuse (s : State) (n : Nat) : State :=
  ((((s.armDone n).pipeSet n 4 true).pipeIrq n 2).fault 14 6 n 0)

/-- Exchange n words from key a on with those from key b on. -/
def State.exch (s : State) (a b n : Nat) : State := (s.wrList a (s.rdList b n)).wrList b (s.rdList a n)

/-- The context registers of both banks of pipeline n change places; so do their images, as firmware keeps the image
of both banks (R226). -/
def State.swapCtx (s : State) (n : Nat) (k : Nat → Nat) : State :=
  (s.exch (k (Reg.act (Reg.PIPE_COLS n))) (k (Reg.PIPE_COLS n)) 32).exch (k (Reg.act (Reg.ASY_CFG n))) (k (Reg.ASY_CFG n)) 14

/-- Write a word of a pipeline's shadow, or keep it until the copy in progress ends (R222). -/
def State.shadowWrite (s : State) (n k : Nat) (v : Word) : State :=
  if s.pipeBit n 3 then s.setPipe n { s.pipe n with waiting := (s.pipe n).waiting ++ [(k, v)] } else s.wr k v

/-- Pipeline n's active bank b is copied over its shadow, at the keys that k gives. -/
def State.copyBank (s : State) (n b : Nat) (k : Nat → Nat) : State :=
  let s1 := s.wrList (k (Reg.PIPE_COLS n)) (s.rdList (k (Reg.act (Reg.PIPE_COLS n))) 32)
  let s2 := s1.wrList (k (Reg.ASY_CFG n)) (s1.rdList (k (Reg.act (Reg.ASY_CFG n))) 14)
  let s3 := s2.copySpan (k (Reg.PTAB n b 0 0)) (k (Reg.PTAB n (1 - b) 0 0)) 0x40000
  s3.copySpan (k (Reg.ATAB n b 0)) (k (Reg.ATAB n (1 - b) 0)) 0x10000

/-- Firmware's image of pipeline n becomes that of pipeline m (R226). -/
def State.moveImage (s : State) (n m : Nat) : State :=
  let s1 := s.wrList (Reg.IMG (Reg.PIPE_COLS m)) (s.rdList (Reg.IMG (Reg.PIPE_COLS n)) 32)
  let s2 := s1.wrList (Reg.IMG (Reg.act (Reg.PIPE_COLS m))) (s1.rdList (Reg.IMG (Reg.act (Reg.PIPE_COLS n))) 32)
  let s3 := s2.wrList (Reg.IMG (Reg.ASY_CFG m)) (s2.rdList (Reg.IMG (Reg.ASY_CFG n)) 14)
  let s4 := s3.wrList (Reg.IMG (Reg.act (Reg.ASY_CFG m))) (s3.rdList (Reg.IMG (Reg.act (Reg.ASY_CFG n))) 14)
  s4.each [0, 1] (fun t b =>
    (t.copySpan (Reg.IMG (Reg.PTAB n b 0 0)) (Reg.IMG (Reg.PTAB m b 0 0)) 0x40000).copySpan
      (Reg.IMG (Reg.ATAB n b 0)) (Reg.IMG (Reg.ATAB m b 0)) 0x10000)

/-- Pipeline m loads both its banks from its image (R226, R263). -/
def State.loadImage (s : State) (m : Nat) : State :=
  let s1 := s.wrList (Reg.PIPE_COLS m) (s.rdList (Reg.IMG (Reg.PIPE_COLS m)) 32)
  let s2 := s1.wrList (Reg.act (Reg.PIPE_COLS m)) (s1.rdList (Reg.IMG (Reg.act (Reg.PIPE_COLS m))) 32)
  let s3 := s2.wrList (Reg.ASY_CFG m) (s2.rdList (Reg.IMG (Reg.ASY_CFG m)) 14)
  let s4 := s3.wrList (Reg.act (Reg.ASY_CFG m)) (s3.rdList (Reg.IMG (Reg.act (Reg.ASY_CFG m))) 14)
  s4.each [0, 1] (fun t b =>
    (t.copySpan (Reg.IMG (Reg.PTAB m b 0 0)) (Reg.PTAB m b 0 0) 0x40000).copySpan
      (Reg.IMG (Reg.ATAB m b 0)) (Reg.ATAB m b 0) 0x10000)

/-- A swap taken (R220, R222): the context registers and the bank number change places, and the copy begins. Firmware keeps
the image of both banks up to date: there the new active bank stands in both from now on, so that what it writes while the
copy runs is not lost (R226). -/
def State.swapTake (s : State) (n : Nat) : State :=
  let s2 := (s.swapCtx n id).swapCtx n Reg.IMG
  let s3 := (((s2.pipeSet n 1 (!s2.pipeBit n 1)).armDone n).pipeSet n 3 true).pipeSet n 4 false
  (s3.copyBank n (s3.pipeBank n) Reg.IMG).pipeIrq n 1

/-- The copy of the active bank into the shadow ends; waiting writes land (R222). -/
def State.copyDone (s : State) (n : Nat) : State :=
  let b := s.pipeBank n
  let s4 := (s.copyBank n b id).pipeSet n 3 false
  let w := (s4.pipe n).waiting
  (s4.setPipe n { s4.pipe n with waiting := [] }).each w (fun t e => t.wr e.1 e.2)

/-! ## Runs and blocks -/

/-- Update the runs and blocks of a pipeline. -/
def Pipe.mapRun (x : Pipe) (id : Nat) (f : PRun → PRun) : Pipe :=
  { x with runs := x.runs.map (fun r => if r.id = id then f r else r) }
def Pipe.mapBlk (x : Pipe) (p : PBlk → Bool) (f : PBlk → PBlk) : Pipe :=
  { x with blks := x.blks.map (fun b => if p b then f b else b) }

/-- The pipeline's own record of a block. -/
def State.pblk (s : State) (n run i0 : Nat) : Option PBlk :=
  (s.pipe n).blks.find? (fun b => b.run == run && b.i0 == i0)

/-- Output lines of a block when it is not cut short: PIPE_BLK of its bank. -/
def PBlk.len (b : PBlk) : Nat := b.bank.f 0x04 0 11
/-- One past the last grid index of the block: a frame is one trigger (R212). -/
def PBlk.iEnd (b : PBlk) : Nat := b.i0 + (if b.area then 1 else b.len)
/-- Index i of run id lies in the block. -/
def PBlk.has (b : PBlk) (id i : Nat) : Bool := b.run == id && decide (b.i0 ≤ i) && decide (i < b.iEnd)
/-- The block of an index. -/
def Pipe.blkOf (x : Pipe) (id i : Nat) : Option PBlk := x.blks.find? (fun b => b.has id i)

/-- Indices of a block for which the stripe received a line (Table 10.1 LINES). -/
def State.gotLines (s : State) (n : Nat) (b : PBlk) : Nat :=
  match (s.pipe n).runs.find? (fun r => r.id == b.run) with
  | some r => if b.area then b.linesIn else (r.got.filter (fun i => b.has r.id i)).length
  | none => 0

/-- Grid position of index i of a run from its anchors (R205): its own, else from the nearest below, else above. A sprue
that has no anchor yet counts from the run's phase (log entry 39). -/
def PRun.xAt (r : PRun) (pitch i : Nat) : Nat :=
  let below := r.anchors.filter (fun a => a.1 ≤ i)
  let near := below.foldl (fun (b : Option (Nat × Nat)) a =>
    match b with
    | none => some a
    | some c => if c.1 ≤ a.1 then some a else b) none
  match near with
  | some a => xAdd a.2 (((i : Int) - (a.1 : Int)) * (pitch : Int))
  | none =>
    match r.anchors.head? with
    | some a => xAdd a.2 (((i : Int) - (a.1 : Int)) * (pitch : Int))
    | none => xAdd (xOfPos r.phase) ((i * pitch : Nat) : Int)

/-- X_i0 of a block as pipeline n has it (R205). -/
def State.blkX (s : State) (n run i0 : Nat) : Nat :=
  match (s.pipe n).runs.find? (fun r => r.id == run), s.pblk n run i0 with
  | some r, some b => r.xAt b.bank.pitch i0
  | _, _ => 0

/-- Pipeline n posts the end item of a block (R293). -/
def State.postEnd (s : State) (n : Nat) (b : PBlk) : State :=
  let x := (s.pipe n).mapBlk (fun k => k.run == b.run && k.i0 == b.i0) (fun k => { k with posted := true })
  s.setPipe n { x with
    intake := x.intake ++ [.endItem b.run b.i0 (s.blkX n b.run b.i0) { b with posted := true } (s.gotLines n b)] }

/-- A START of the camera's generator (R205): earlier runs end, and a new one begins with its phase as anchor 0. -/
def State.pipeStart (s : State) (n id : Nat) (phase : Posn) : State :=
  if s.pipeRun n || (s.pipe n).loading then
    let x := s.pipe n
    s.setPipe n { x with
      runs := x.runs.map (fun r => { r with ended := true }) ++
        [{ id := id, phase := phase, first := 0, nextOut := 0, anchors := [(0, xOfPos phase)] }] }
  else s

/-- Block boundary i0 of run id reaches pipeline n after any swap: a pipeline that waits begins (R224), and the block
opens (R288). A block that opens while a sprue loads has lost lines to the inlay (R495). -/
def State.pipeBoundary (s : State) (n id i0 seq : Nat) (phase : Posn) (area : Bool) : State :=
  if s.pipeEn n && (s.pipeBit n 0 || s.pipeBit n 7 || (s.pipe n).loading) then
    let s1 := if s.pipeBit n 7 then
        let x := s.pipe n
        ((s.pipeSet n 7 false).pipeSet n 0 (!x.loading)).setPipe n { x with
          runs := x.runs.map (fun r => { r with ended := true }) ++
            [{
              id := id, phase := phase, first := i0, nextOut := i0, seen := i0, aligned := i0,
              anchors := [(0, xOfPos phase)] }] }
      else s
    let x := s1.pipe n
    let b : PBlk := {
      run := id, i0 := i0, seq := seq, frame := i0, bank := s1.activeBank n, area := area, fresh := x.loading
      inlaid := x.loading }
    (s1.setPipe n { x with blks := x.blks ++ [b], nblk := x.nblk + 1 }).wr (Reg.PIPE_FRAME n) (w32 i0)
  else s

/-- A trigger with index i was issued in run id; indices passed over lie below it (R80, R81). -/
def State.pipeIssued (s : State) (n id i : Nat) (skipped : List Nat) : State :=
  let x := s.pipe n
  let x1 := x.mapRun id (fun r => { r with issued := some i })
  s.setPipe n (x1.mapBlk (fun b => b.run == id && skipped.any (fun k => b.has id k)) (fun b => { b with ovs := true }))

/-- Run id ends at its last issued index; a block the end cuts short carries PARTIAL (R210). -/
def State.pipeStop (s : State) (n id : Nat) : State :=
  let x := s.pipe n
  match x.runs.find? (fun r => r.id == id) with
  | none => s
  | some r =>
    let x1 := x.mapRun id (fun r => { r with ended := true })
    match r.issued with
    | none => s.setPipe n x1
    | some i => s.setPipe n (x1.mapBlk (fun b => b.has id i && decide (i + 1 < b.iEnd))
        (fun b => { b with cut := some (i + 1 - b.i0), partLoss := true }))

/-! ## Lines to the draw plate -/

/-- A new plate line of run id: a further anchor when its record lacks OVS (R205), tested against the prediction
(R206). The first line that a sprue receives is an anchor in any case (R226). -/
def State.plateLine (s : State) (n id : Nat) (l : PlateLine) (ovs : Bool) : State :=
  let x := s.pipe n
  match x.runs.find? (fun r => r.id == id) with
  | none => s
  | some r =>
    let pitch := match x.blkOf id l.i with
      | some b => b.bank.pitch
      | none => (s.activeBank n).pitch
    let off := (xDiff l.p (r.xAt pitch l.i)).natAbs
    let r1 := { r with
      lines := r.lines ++ [l]
      anchors := if ovs && r.anchors != [] then r.anchors else r.anchors.filter (fun a => a.1 != l.i) ++ [(l.i, l.p)] }
    let s1 := s.setPipe n (x.mapRun id (fun _ => r1))
    if !ovs && r.anchors != [] && decide (2 * 2 ^ 32 < off) then
      ((s1.addSat (Reg.PIPE_GRIDERR n) 0 32 1).pipeIrq n 5).fault 2 2 n 0
    else s1

/-- Stage 5 for KIND 1 (R203): the aligned line j from its three sources, when all are present. -/
def alignLine (o : List Int) (raw : List RawLine) (j : Nat) : Option (RawLine × List (List Nat)) :=
  let src := o.zipIdx.map (fun e => (raw.find? (fun r => (r.i : Int) == (j : Int) + e.1)).map (fun r => (r, nth r.planes e.2 [])))
  if src.all (·.isSome) then
    match (src.filterMap id).head? with
    | some e => some (e.1, (src.filterMap id).map (·.2))
    | none => none
  else none

/-- Aligned lines that are now complete pass to the draw plate, in order (R203). -/
def State.alignFrom (s : State) (n id : Nat) (fmt : List Byte) : State :=
  match ((s.pipe n).runs.find? (fun r => r.id == id)) with
  | none => s
  | some r =>
    let o := fmtOffsets fmt
    let m := (o.foldl max 0).toNat
    let top := r.seen - m
    let s1 := s.each ((List.range (top - r.aligned)).map (· + r.aligned)) (fun t j =>
      if o.length = 1 then
        match r.raw.find? (fun q => q.i == j) with
        | some q => t.plateLine n id { i := j, p := xOfPos q.t, expt := q.expt, planes := q.planes } q.ovs
        | none => t
      else match alignLine o r.raw j with
        | some (q, pl) => t.plateLine n id { i := j, p := xOfPos q.t, expt := q.expt, planes := pl } q.ovs
        | none => t)
    let low := (o.foldl min 0).natAbs
    s1.setPipe n ((s1.pipe n).mapRun id (fun q => { q with
      aligned := max q.aligned top, raw := q.raw.filter (fun w => decide (max q.aligned top ≤ w.i + low)) }))

/-- Index i of a run has arrived, with a line or without (R211): stage 5 goes on. -/
def State.rawArrive (s : State) (n id i : Nat) (fmt : List Byte) (line : Option RawLine) : State :=
  let x := s.pipe n
  let x1 := x.mapRun id (fun r =>
    if i < r.first then r
    else { r with
      seen := max r.seen (i + 1)
      raw := match line with
        | some l => r.raw ++ [l]
        | none => r.raw
      got := if line.isSome then r.got ++ [i] else r.got })
  let x2 := if line.isSome then x1.mapBlk (fun b => b.has id i) (fun b => { b with linesIn := b.linesIn + 1 }) else x1
  (s.setPipe n x2).alignFrom n id fmt

/-- Stages 2 to 4 of a line of a line camera (R198 to R201): planes in G24, and dynamic replacements. -/
def lineStages (b : Bank) (bind : Word) (fmt : List Byte) (bytes : List Byte) : List (List Nat) × Nat :=
  let cw := stripeCols (b.w 0) bind
  let ps := (stage2 b (unpack fmt cw.1 cw.2 bytes)).zipIdx.map (fun e =>
    let bad := dpcListed b cw.1 cw.2 0 e.2
    dpcDynamic b 1 false bad (dpcStatic bad 1 e.1) none none)
  ((ps.map (·.1)).zipIdx.map (fun e => stage4 b e.2 e.1), (ps.map (·.2)).foldl (· + ·) 0)

/-- The rows of an area frame after dynamic detection and shading (R200, R201). -/
def frameStages (b : Bank) (bind : Word) (fmt : List Byte) (rows : List (Nat × List Int)) : List (List Nat) × Nat :=
  let cw := stripeCols (b.w 0) bind
  let st := bayerStep fmt
  let rs := rows.map (fun e =>
    let bad := dpcListed b cw.1 cw.2 e.1 0
    let at' : Nat → Option (List Int) := fun y => (rows.find? (fun q => q.1 == y)).map (·.2)
    dpcDynamic b st true bad e.2 (if st ≤ e.1 then at' (e.1 - st) else none) (at' (e.1 + st)))
  ((rs.map (·.1)).map (stage4 b 0), (rs.map (·.2)).foldl (· + ·) 0)

/-- The rows of a frame by their camera row number, for the neighbourhoods of R204: a row that the camera's lines left out has
samples that the spec does not state (log entry 135). -/
def fullRows (height w free : Nat) (rows : List (Nat × List Nat)) : List (List Nat) :=
  (List.range height).map (fun y =>
    match rows.find? (fun e => e.1 == y) with
    | some e => e.2
    | none => (List.range w).map (fun k => (Config.freePart free (16384 * y + k)).toNat % 2 ^ 24))

/-- A whole frame passes stage 5 and reaches the draw plate row by row (R204, R212). -/
def State.frameDone (s : State) (n : Nat) : State :=
  let x := s.pipe n
  match x.frame with
  | none => s
  | some r =>
    let b := x.frameBank
    let fmt := x.frameFmt
    let bind := s.rd (Reg.PIPE_BIND n)
    let fs := frameStages b bind fmt x.frows
    let cw := stripeCols (b.w 0) bind
    let rows := (x.frows.map (·.1)).zip fs.1
    let full := fullRows (fmtHeight fmt) cw.2 s.freeIdx rows
    let pls := rows.map (fun e =>
      ({
        i := r.i, p := xAdd (xOfPos r.t) ((e.1 * (b.w 0x34).toNat * 2 ^ 24 : Nat) : Int), expt := r.expt, row := e.1
        planes := if fmtKind fmt = 4 then demosaicRow b fmt cw.1 full e.1 else [e.2] } : PlateLine))
    let x1 := ({ x with frame := none, frows := [] }).mapRun r.run (fun q => { q with
      lines := q.lines ++ pls, seen := max q.seen (r.i + 1), got := q.got ++ [r.i] })
    let short := fs.1.length < fmtHeight fmt
    (s.setPipe n (x1.mapBlk (fun k => k.run == r.run && k.i0 == r.i) (fun k => { k with
      linesIn := k.linesIn + fs.1.length, dpc := k.dpc + fs.2, partLoss := k.partLoss || short
      cut := if short then some fs.1.length else k.cut }))
      ).free.2.addSat (Reg.PIPE_DPCCNT n) 0 32 fs.2

/-- A gap mark of record r takes effect (R160, R196): the index has no line, and its block may owe it a flag. For an
area camera the frame ends with the rows it has (R196, R212). -/
def State.gapTake (s : State) (n : Nat) (r : LineRec) (part : Bool) (fmt : List Byte) : State :=
  if fmtArea fmt then
    if (s.pipe n).frame = some r then s.frameDone n
    else
      let x := (s.pipe n).mapBlk (fun b => b.has r.run r.i && b.linesIn == 0) (fun b => { b with
        partLoss := true, cut := some 0 })
      (s.setPipe n x).rawArrive n r.run r.i fmt none
  else
    let x := (s.pipe n).mapBlk (fun b => b.has r.run r.i) (fun b => { b with
      partLoss := b.partLoss || part, missT := if part then b.missT else b.missT ++ [r.expt] })
    (s.setPipe n x).rawArrive n r.run r.i fmt none

/-- Gap marks at the head of the input take effect in order. -/
def State.drainGaps (s : State) (n : Nat) : List InItem → State
  | [] => s.setPipe n { s.pipe n with inq := [] }
  | g :: rest =>
    if g.gap then
      match g.lrec with
      | some r => State.drainGaps ((s.setPipe n { s.pipe n with inq := rest }).gapTake n r g.part g.fmt) n rest
      | none => State.drainGaps s n rest
    else s.setPipe n { s.pipe n with inq := g :: rest }

/-- A gap mark goes before the line whose segments still arrive. -/
def gapIns (g : InItem) : List InItem → List InItem
  | [] => [g]
  | h :: rest => if !h.gap && h.lrec.isNone then g :: h :: rest else h :: gapIns g rest

/-- A gap mark for record r reaches pipeline n (R160). -/
def State.pipeGap (s : State) (n : Nat) (r : LineRec) (part : Bool) (fmt : List Byte) : State :=
  if s.pipeRun n then
    let q := gapIns { gap := true, lrec := some r, part := part, fmt := fmt } (s.pipe n).inq
    (s.setPipe n { s.pipe n with inq := q }).drainGaps n q
  else s

/-- Assembly slots taken (R195). -/
def Pipe.slots (x : Pipe) : Nat := (x.inq.filter (fun i => !i.gap)).length

/-- The first segment of a line or row reaches pipeline n: it takes a slot, or it is dropped whole, and with it every
later row of the same frame (R195, R196). -/
def State.pipeFirst (s : State) (n : Nat) (fmt : List Byte) (row : Nat) : State :=
  if s.pipeRun n then
    let x := s.pipe n
    if x.slots < 2 ∧ (x.dropFrame = false ∨ row = 0) then
      s.setPipe n { x with
        inq := x.inq ++ [{ gap := false, bank := s.activeBank n, fmt := fmt }], drop := false, dropFrame := false }
    else
      (((s.setPipe n { x with drop := true, dropFrame := fmtArea fmt }).addSat (Reg.PIPE_OVF n) 0 32 1).pipeIrq n 3
        ).fault 2 1 n 0
  else s

/-- Fill the slot whose segments were arriving. -/
def fillSlot (r : LineRec) (bytes : List Byte) (row : Nat) (last : Bool) : List InItem → List InItem
  | [] => []
  | g :: rest =>
    if !g.gap && g.lrec.isNone then { g with lrec := some r, bytes := bytes, row := row, lastRow := last } :: rest
    else g :: fillSlot r bytes row last rest

/-- A complete, paired line or row is handed to pipeline n (R187, R195). -/
def State.pipeLine (s : State) (n : Nat) (r : LineRec) (bytes : List Byte) (row : Nat) (last : Bool) (fmt : List Byte) :
    State :=
  if s.pipeRun n then
    let s0 := s.addWrap (Reg.PIPE_LINESIN n) 0 32 1
    let x := s0.pipe n
    if x.drop then (s0.setPipe n { x with drop := false }).pipeGap n r true fmt
    else s0.setPipe n { x with inq := fillSlot r bytes row last x.inq }
  else s

/-- The link engine discards the line whose segments were arriving: its slot is freed (R195). -/
def State.pipeDiscard (s : State) (n : Nat) : State :=
  let x := s.pipe n
  s.setPipe n { x with inq := x.inq.filter (fun g => g.gap || g.lrec.isSome), drop := false }

/-- Stage 2 reads the line or row at the head of the input: its slot is freed and it passes stages 2 to 5 (R195 to R204). -/
def State.stage2Read (s : State) (n : Nat) : State :=
  match (s.pipe n).inq with
  | g :: rest =>
    match g.lrec with
    | none => s
    | some r =>
      let s0 := s.setPipe n { s.pipe n with inq := rest }
      let s1 := if fmtArea g.fmt && g.row == 0 && (s0.pipe n).frame.isSome then s0.frameDone n else s0
      let bind := s1.rd (Reg.PIPE_BIND n)
      let s2 :=
        if fmtArea g.fmt then
          let cw := stripeCols (g.bank.w 0) bind
          let ps := stage2 g.bank (unpack g.fmt cw.1 cw.2 g.bytes)
          let row := dpcStatic (dpcListed g.bank cw.1 cw.2 g.row 0) (bayerStep g.fmt) (nth ps 0 [])
          let x := s1.pipe n
          let keep := g.row != 0 && x.frame == some r
          let s3 := s1.setPipe n { x with
            frame := some r
            frows := (if keep then x.frows else []) ++ [(g.row, row)]
            frameBank := if keep then x.frameBank else g.bank
            frameFmt := if keep then x.frameFmt else g.fmt }
          if g.lastRow then s3.frameDone n else s3
        else
          let st := lineStages g.bank bind g.fmt g.bytes
          let s3 := (s1.setPipe n ((s1.pipe n).mapBlk (fun b => b.has r.run r.i) (fun b => { b with dpc := b.dpc + st.2 }))
            ).addSat (Reg.PIPE_DPCCNT n) 0 32 st.2
          s3.rawArrive n r.run r.i g.fmt (some { i := r.i, t := r.t, expt := r.expt, ovs := r.ovs, planes := st.1 })
      s2.drainGaps n rest
  | [] => s

/-! ## Emission (R207 to R211) -/

/-- Lines at or behind a position, and lines beyond it (R207). -/
def PRun.around (r : PRun) (x : Nat) : List PlateLine × List PlateLine :=
  (r.lines.filter (fun l => decide (xDiff l.p x ≤ 0)), r.lines.filter (fun l => decide (0 < xDiff l.p x)))

/-- The phase k of position x between the last line at or behind it and the first beyond (R207); 0 where either lacks or
the line is on x. -/
def PRun.phaseAt (r : PRun) (x : Nat) : Nat :=
  match (r.around x).1.getLast?, (r.around x).2.head? with
  | some a, some b => if a.p = x then 0 else (roundDiv (256 * xDiff x a.p) (xDiff b.p a.p)).toNat
  | _, _ => 0

/-- The lines up to line a, and those from line b on: at k = 256, b is taken as a (R207). -/
def PRun.split (r : PRun) (x : Nat) : List PlateLine × List PlateLine :=
  let ab := r.around x
  if r.phaseAt x = 256 then (ab.1 ++ ab.2.take 1, ab.2.drop 1) else ab

/-- Every index of an ended run has arrived or is closed. -/
def PRun.over (r : PRun) : Bool :=
  r.ended && (match r.issued with
    | some i => decide (i < r.seen)
    | none => true)

/-- The output line of index i of a run in a bank (R207 to R209): status code, exposure time and planes before
stage 7. np is the number of planes of a FILLED line, w its columns. -/
def plateOut (b : Bank) (r : PRun) (i np w : Nat) : OutLine :=
  let pitch := b.pitch
  let x := r.xAt pitch i
  let ab := r.split x
  let a := ab.1.getLast?
  let bl := ab.2.head?
  let expt := match a, bl with
    | some l, _ => l.expt
    | none, some l => l.expt
    | none, none => 0
  let filled : OutLine := {
    i := i, x := x, expt := expt, code := 2,
    planes := (List.range np).map (fun p => List.replicate w (b.f (0x38 + 4 * p) 0 24)) }
  match a, bl with
  | some l, none => if l.p = x then { i := i, x := x, expt := l.expt, code := 0, planes := l.planes } else filled
  | none, _ => filled
  | some l, some l2 =>
    if l.p = x then { i := i, x := x, expt := l.expt, code := 0, planes := l.planes }
    else
      let d := xDiff l2.p l.p
      if ((b.f 0x28 2 3 + 1) * pitch + 2 ^ 32 : Nat) < d then filled
      else
        let k := r.phaseAt x % 256
        if k = 0 then { i := i, x := x, expt := l.expt, code := 0, planes := l.planes }
        else
          let lm := (ab.1.dropLast.getLast?).getD l
          let lp := ((ab.2.drop 1).head?).getD l2
          let wts := kernel (b.f 0x28 0 2) k
          {
            i := i, x := x, expt := l.expt, code := 1,
            planes := (List.range l.planes.length).map (fun p =>
              resample wts [nth lm.planes p [], nth l.planes p [], nth l2.planes p [], nth lp.planes p []]) }

/-- Output index i of a run may be emitted (R211): line b, or line b + 1 for the cubic kernel, is present, or the run is
over. -/
def plateReady (b : Bank) (r : PRun) (i : Nat) : Bool :=
  match r.issued with
  | none => false
  | some last =>
    decide (i ≤ last) &&
    (r.over || decide ((if b.f 0x28 0 2 = 2 then 2 else 1) ≤ (r.split (r.xAt b.pitch i)).2.length))

/-- Trim the planes of a line to the core columns, or to the core and AHALO columns at each internal seam (R216). -/
def trimLine (b : Bank) (bind : Word) (halo : Nat) (planes : List (List Nat)) : List (List Nat) :=
  let cw := stripeCols (b.w 0) bind
  let l := b.f 0 0 16 - cw.1
  let skip := l - min halo l
  let extra := min halo l + (if fldOf bind 8 3 < fldOf bind 12 3 then min halo 64 else 0)
  planes.map (fun p => (p.drop skip).take (b.f 0 16 16 + extra))

/-- Output lines of a block: its length, or where it was cut; and those emitted so far. -/
def PBlk.total (b : PBlk) : Nat := b.cut.getD b.len
def PBlk.emitted (b : PBlk) : Nat := b.pre.length + b.outs.length

/-- The statistics record of a pipeline's block (R215). -/
def State.statBytes (s : State) (n : Nat) (b : PBlk) (np : Nat) : List Byte :=
  let bind := s.rd (Reg.PIPE_BIND n)
  let core := (b.outs.filter (fun o => o.code != 2)).map (fun o => trimLine b.bank bind 0 o.planes)
  statRecord n bind b core np (fun k => (Config.freePart s.freeIdx k).toNat)

/-- One output line passes stages 7 and 8 and reaches stage 10 (R213 to R217): it is counted, joins its block, and is
held until the assay stage or ring path takes it. -/
def State.emitLine (s : State) (n id : Nat) (blk : PBlk) (o : OutLine) : State :=
  let o7 := { o with planes := stage7 blk.bank o.planes }
  let x := s.pipe n
  let x1 := x.mapBlk (fun k => k.run == id && k.i0 == blk.i0) (fun k => { k with outs := k.outs ++ [o7] })
  let last := decide (blk.emitted + 1 = blk.total)
  let x2 := x1.mapRun id (fun r => { r with nextOut := if blk.area && !last then o.i else o.i + 1 })
  let s1 := s.setPipe n { x2 with hold := some o7, holdRun := id }
  let s2 := if o.code = 1 then s1.addSat (Reg.PIPE_GAPCNT n) 0 16 1
    else if o.code = 2 then (s1.addSat (Reg.PIPE_GAPCNT n) 16 16 1).pipeIrq n 4 else s1
  if last then
    s2.setPipe n ((s2.pipe n).mapBlk (fun k => k.run == id && k.i0 == blk.i0) (fun k => { k with statDone := true }))
  else s2

/-- Plate lines that no later output needs leave the window: the last two at or behind the position stay (R207). -/
def PRun.prune (r : PRun) (x : Nat) : PRun :=
  let ab := r.around x
  { r with lines := ab.1.drop (ab.1.length - 2) ++ ab.2 }

end Sys2Proof.Machine
end

