-- ==== Sys2Proof/Machine/AsyMath.lean ====
section
/-!
DEFINITION. What the assay stage computes (chapter 8), as functions of a bank, a page descriptor, device memory and
captured samples: mapping (R238), reference sampling (R239), rendering (R240, R241), Lab and ΔE (R250, R251), Tier A,
Tier B and marks (R245, R246, R249), displacement (R244, R248), summaries (R259 to R261) and records (R257).
-/
namespace Sys2Proof.Machine
open Sys2Proof

/-- Assay context word at an offset of Table 8.15, and a field of it. -/
def Bank.aw (b : Bank) (off : Nat) : Word := nth b.asy (off / 4) 0#32
def Bank.af (b : Bank) (off lo n : Nat) : Nat := fldOf (b.aw off) lo n
/-- Byte, 16-bit and 32-bit entries of the assay table bank (Table 8.3). -/
def Bank.at8 (b : Bank) (o : Nat) : Nat := fldOf (sget (fun _ => 0#32) b.atbl (o / 4 * 4)) (8 * (o % 4)) 8
def Bank.at16 (b : Bank) (o : Nat) : Nat := b.at8 o + 256 * b.at8 (o + 1)
def Bank.at24 (b : Bank) (o : Nat) : Nat := b.at16 o + 65536 * b.at8 (o + 2)

/-! ## Page descriptors (Table 8.2) -/

def pgId (d : List Byte) : Nat := leAt d 0 4
def pgWidth (d : List Byte) : Nat := leAt d 4 4
def pgHeight (d : List Byte) : Nat := leAt d 8 4
def pgFmt (d : List Byte) : Nat := leAt d 13 1
def pgInk (d : List Byte) : Nat := leAt d 14 1
def pgZones (d : List Byte) : Bool := leAt d 15 1 % 2 == 1
def pgReady (d : List Byte) : Bool := leAt d 15 1 / 2 % 2 == 1
def pgBase (d : List Byte) : Nat := leAt d 16 8
def pgStride (d : List Byte) : Nat := leAt d 24 4
def pgZBase (d : List Byte) : Nat := leAt d 32 8
def pgZStride (d : List Byte) : Nat := leAt d 40 4
def pgMarks (d : List Byte) : Nat := leAt d 44 1
/-- Mark k: column and row. -/
def pgMark (d : List Byte) (k : Nat) : Nat × Nat := (leAt d (48 + 8 * k) 4, leAt d (52 + 8 * k) 4)
/-- Bytes per pixel of a format (Table 8.1). -/
def pxBytes (fmt : Nat) : Nat := if fmt = 0 then 2 else if fmt = 3 then 8 else 4

/-! ## From camera to reference (R238, R239) -/

/-- The reference point of camera column c displaced by (dx, dy), in 1/2048 pixel, on a line at grid position x:
reference column and row in 1/256. -/
def refPoint (b : Bank) (pstart : Posn) (c : Int) (dx dy : Int) (x : Nat) : Int × Int :=
  let xofs : Int := (b.aw 0x04).toInt
  let xr := xofs * 2 ^ 20 + (2048 * c + dx) * ((b.aw 0x08).toNat : Int) / 2 ^ 9
  let pos := xDiff x (xOfPos pstart) + dy * (b.pitch : Int) / 2048
  let yr := pos * ((b.aw 0x0C).toNat : Int) / 2 ^ 40
  (roundShift xr 24, roundShift yr 24)

/-- The point lies on the page. -/
def onPage (d : List Byte) (p : Int × Int) : Bool :=
  decide (0 ≤ p.1) && decide (p.1 ≤ 256 * ((pgWidth d : Int) - 1)) && decide (0 ≤ p.2) &&
  decide (p.2 ≤ 256 * ((pgHeight d : Int) - 1))

/-- Normalised ink codes of reference pixel (j, r) (R232). -/
def refInks (m : List Host.Cell) (d : List Byte) (j r : Nat) : List Nat :=
  let k := pxBytes (pgFmt d)
  let w := leNat (memRead m (pgBase d + r * pgStride d + j * k) k)
  (List.range (pgInk d)).map (fun i =>
    if pgFmt d % 2 = 0 then w / 16 ^ i % 16 * 273 else let v := w / 256 ^ i % 256; v * 16 + v / 16)

/-- Bilinear ink codes at a point (R239); a point off the page takes the nearest point on it. -/
def refSample (m : List Host.Cell) (d : List Byte) (p : Int × Int) : List Nat :=
  let px := (clampI 0 (256 * ((pgWidth d : Int) - 1)) p.1).toNat
  let py := (clampI 0 (256 * ((pgHeight d : Int) - 1)) p.2).toNat
  let j := px / 256
  let r := py / 256
  let fx := px % 256
  let fy := py % 256
  let a := refInks m d j r
  let bb := if fx = 0 then a else refInks m d (j + 1) r
  let c := if fy = 0 then a else refInks m d j (r + 1)
  let e := if fy = 0 then bb else if fx = 0 then c else refInks m d (j + 1) (r + 1)
  (List.range a.length).map (fun i =>
    ((256 - fx) * (256 - fy) * nth a i 0 + fx * (256 - fy) * nth bb i 0 + (256 - fx) * fy * nth c i 0 +
      fx * fy * nth e i 0 + 32768) / 65536)

/-! ## Rendering (R240, R241) -/

/-- Entry of the 4-D render table. -/
def lutAt (b : Bank) (n : List Nat) (ch : Nat) : Nat :=
  b.at16 (6 * (nth n 0 0 + 9 * nth n 1 0 + 81 * nth n 2 0 + 729 * nth n 3 0) + 2 * ch)

/-- Insert an axis by falling fraction; a tie keeps the lower ink first. -/
def axisIns (x : Nat × Nat) : List (Nat × Nat) → List (Nat × Nat)
  | [] => [x]
  | y :: r => if y.1 < x.1 then x :: y :: r else y :: axisIns x r

/-- The simplex interpolation of R240 for one channel. -/
def render4 (b : Bank) (v : List Nat) (ch : Nat) : Nat :=
  let vs := (List.range 4).map (fun k => nth v k 0)
  let n := vs.map (· / 512)
  let order := (vs.zipIdx.map (fun e => (e.1 % 512, e.2))).foldl (fun l x => axisIns x l) []
  let f := order.map (·.1)
  let w := [512 - nth f 0 0, nth f 0 0 - nth f 1 0, nth f 1 0 - nth f 2 0, nth f 2 0 - nth f 3 0, nth f 3 0]
  let step : List Nat → Nat → List Nat := fun p k => setNth p k (nth p k 0 + 1)
  let vt := (order.map (·.2)).foldl (fun (a : List (List Nat) × List Nat) k => (a.1 ++ [step a.2 k], step a.2 k)) ([n], n)
  (((w.zip vt.1).map (fun e => e.1 * lutAt b e.2 ch)).foldl (· + ·) 0 + 256) / 512

/-- The extension tables of inks 4 and up (R241). -/
def extend (b : Bank) (v : List Nat) (ch rgb : Nat) : Nat :=
  (v.zipIdx.drop 4).foldl (fun a e =>
    let t : Nat → Int := fun n => b.at16 (0x9A00 + (e.2 - 4) * 102 + ch * 34 + 2 * n)
    let x := t (e.1 / 256) + roundShift ((t (e.1 / 256 + 1) - t (e.1 / 256)) * (e.1 % 256 : Nat)) 8
    min 65535 ((a * x.toNat + 0x4000) / 32768)) rgb

/-- The expected colour of ink codes, G24 per channel. -/
def expected (b : Bank) (v : List Nat) : List Nat :=
  (List.range 3).map (fun ch => extend b v ch (render4 b v ch) * 16)

/-- Luminance in unsigned 8.4 (R244). -/
def lum (rgb : List Nat) : Nat := min 4095 ((nth rgb 0 0 + 2 * nth rgb 1 0 + nth rgb 2 0 + 512) / 1024)
/-- The channels of a pixel; a mono pixel is grey (R250). -/
def rgbOf (planes : List (List Nat)) (k : Nat) : List Nat :=
  if planes.length = 1 then List.replicate 3 (nth (nth planes 0 []) k 0) else planes.map (fun p => nth p k 0)

/-! ## Colour difference (R250, R251) -/

/-- The cube root of v, rounded to the nearest integer, of n bits at most. -/
def cbrtNear (v : Nat) : Nat → Nat → Nat
  | 0, x => x
  | n + 1, x => cbrtNear v n (if (2 * (x + 2 ^ n) - 1) ^ 3 ≤ 8 * v then x + 2 ^ n else x)

/-- Entry n of the f table as bench firmware fills it: f(n / 1,024) in 1.23, rounded to the nearest (R250, log entry 137). -/
def fEntry (n : Nat) : Nat :=
  if 216 * 1024 < 24389 * n then cbrtNear (n * 2 ^ 59) 24 0
  else (roundDiv (((841 * 29 * n + 4 * 108 * 1024) * 2 ^ 23 : Nat) : Int) (1024 * 108 * 29)).toNat

/-- CIELAB of a pixel, signed 9.7 each. -/
def labOf (b : Bank) (rgb : List Nat) : Int × Int × Int :=
  let lin : Nat → Int := fun c =>
    let v := nth rgb c 0
    let t : Nat → Int := fun n => b.at24 (0x9C00 + 4 * (c * 257 + n))
    if 0x100000 ≤ v then t 256 else t (v / 4096) + roundShift ((t (v / 4096 + 1) - t (v / 4096)) * (v % 4096 : Nat)) 12
  let m : Nat → Int := fun r =>
    let e : Nat → Int := fun c => sgn 16 (b.at16 (0xBAC0 + 4 * (3 * r + c)))
    clampI 0 (2 ^ 22) (roundShift (e 0 * lin 0 + e 1 * lin 1 + e 2 * lin 2) 14)
  let f : Int → Int := fun x =>
    let v := x.toNat
    let t : Nat → Int := fun n => b.at24 (0xA900 + 4 * n)
    if v / 4096 = 1024 then t 1024
    else t (v / 4096) + roundShift ((t (v / 4096 + 1) - t (v / 4096)) * (v % 4096 : Nat)) 12
  let fx := f (m 0)
  let fy := f (m 1)
  let fz := f (m 2)
  (satI 16 (roundShift (116 * fy - 16 * 2 ^ 23) 16), satI 16 (roundShift (500 * (fx - fy)) 16),
    satI 16 (roundShift (200 * (fy - fz)) 16))

/-- Square root rounded to the nearest integer (R251). -/
def sqrtNear (n : Nat) : Nat := let r := isqrt n; if r * r + r < n then r + 1 else r

/-- Zone of a reference point (R233). -/
def zoneAt (m : List Host.Cell) (d : List Byte) (p : Int × Int) : Nat :=
  if pgZones d then
    let x := p.1.toNat / 256 / 8
    let y := p.2.toNat / 256 / 8
    (memGet m (pgZBase d + y * pgZStride d + x / 2)).toNat / 16 ^ (x % 2) % 16
  else 0
/-- Weight of a zone. -/
def zoneWeight (b : Bank) (z : Nat) : Nat := b.at16 (0xBA80 + 2 * z)

/-- Weighted ΔE in 8.8 of a captured and an expected Lab (R251); each result is held in its format (R192). -/
def deltaE (b : Bank) (cap exp : Int × Int × Int) (zw : Nat) : Nat :=
  let t : Nat → Int → Int := fun w d => satI 16 (roundShift ((w : Int) * satI 16 d) 12)
  let tl := t (b.af 0x1C 0 16) (cap.1 - exp.1)
  let ta := t (b.af 0x1C 16 16) (cap.2.1 - exp.2.1)
  let tb := t (b.af 0x20 0 16) (cap.2.2 - exp.2.2)
  let e := sqrtNear (tl * tl + ta * ta + tb * tb).toNat
  let j := min 63 ((max 0 exp.1).toNat / 200)
  let p := min 65535 ((e * b.at16 (0xBA00 + 2 * j) + 0x800) / 4096)
  min 65535 ((p * zw + 0x400) / 2048)

/-! ## Displacement (R244, R248) -/

/-- The value a row of predictions or slopes gives at camera column c, in 1/2048 pixel: linear between cell centres,
held at the ends. -/
def acrossWeb (core0 : Nat) (ps : List Int) (c : Nat) : Int :=
  let k : Int := 2 * ((c : Int) - core0) - 63
  if ps.length = 0 then 0
  else if k ≤ 0 then 128 * nth ps 0 0
  else
    let u := (k / 128).toNat
    let a := nth ps (min u (ps.length - 1)) 0
    let e := nth ps (min (u + 1) (ps.length - 1)) 0
    128 * a + (k % 128) * (e - a)

/-- D at column c and page row y of the page's cell row, in 1/2048 pixel (R248). -/
def dispAt (core0 : Nat) (pg : AsyPage) (c : Nat) (y : Int) : Int × Int :=
  let k := 2 * (y - 64 * (pg.v : Int)) - 63
  let px := acrossWeb core0 (pg.pred.map (·.1)) c
  let py := acrossWeb core0 (pg.pred.map (·.2)) c
  let sx := acrossWeb core0 (pg.slope.map (·.1)) c
  let sy := acrossWeb core0 (pg.slope.map (·.2)) c
  (px + k * sx / 128, py + k * sy / 128)

/-- Predictions and slopes of cell row v from the two rows before it (R244). -/
def predict (g : Int × Int) (v cells : Nat) (prev prev2 : List Cell) : List (Int × Int) × List (Int × Int) :=
  let zero : Cell := { dx := g.1, dy := g.2, status := 2 }
  let us := List.range cells
  let slope := us.map (fun u =>
    let a := nth prev u zero
    let e := nth prev2 u zero
    if 2 ≤ v ∧ a.status = 0 ∧ e.status = 0 ∧ u < prev2.length then (a.dx - e.dx, a.dy - e.dy) else (0, 0))
  let pred := us.map (fun u =>
    if v = 0 then g
    else let a := nth prev u zero; let s := nth slope u (0, 0); (a.dx + s.1, a.dy + s.2))
  (pred, slope)

/-! ## Tier A, Tier B (R245, R246) -/

/-- The 25 shifts, or those of a wider square, in the tie order of R245. -/
def shifts (k : Nat) : List (Int × Int) :=
  let r := (List.range (2 * k + 1)).map (fun (i : Nat) => (i : Int) - k)
  let all := r.flatMap (fun y => r.map (fun x => (x, y)))
  (List.range (2 * k + 1)).flatMap (fun m => all.filter (fun e => e.1.natAbs + e.2.natAbs == m)) ++
  (all.filter (fun e => decide (2 * k + 1 ≤ e.1.natAbs + e.2.natAbs)))

/-- The first element of a list with the least value of f. -/
def argmin {α : Type} (f : α → Nat) : List α → Option (α × Nat)
  | [] => none
  | x :: r => match argmin f r with
    | none => some (x, f x)
    | some (y, v) => if f x ≤ v then some (x, f x) else some (y, v)

/-- The fit of one axis: offset in 1/16 and whether den is above 0 (R245). -/
def axisFit (sm s0 sp : Nat) : Int × Bool :=
  let den : Int := (sm : Int) - 2 * s0 + sp
  if den ≤ 0 then (0, false) else (clampI (-8) 8 ((16 * ((sm : Int) - sp) + den) / (2 * den)), true)

/-- The fine fit over the shifts -2 to 2: s*, the fit in 1/16 and success (R245). cap gives the pixels that take part
with their captured luminance, ref the expected luminance. -/
def fineFit (cap : List (Int × Int × Nat)) (ref : Int → Int → Nat) : (Int × Int) × (Int × Int) × Bool :=
  let ssd : Int × Int → Nat := fun s => cap.foldl (fun a p =>
    a + (((p.2.2 : Int) - (ref (p.1 + s.1) (p.2.1 + s.2) : Nat)) ^ 2).toNat) 0
  match argmin ssd (shifts 2) with
  | none => ((0, 0), (0, 0), false)
  | some (s, v) =>
    if s.1.natAbs ≤ 1 ∧ s.2.natAbs ≤ 1 then
      let fx := axisFit (ssd (s.1 - 1, s.2)) v (ssd (s.1 + 1, s.2))
      let fy := axisFit (ssd (s.1, s.2 - 1)) v (ssd (s.1, s.2 + 1))
      (s, (fx.1, fy.1), fx.2 && fy.2)
    else (s, (0, 0), false)

/-- The mark of a block of a cell that holds no pixel: a cell row of a page's end has fewer rows (R243). -/
def noMean : Nat := 65536
/-- Mean of the luminances of a block, halves up. -/
def blockMean (ys : List Nat) : Nat :=
  if ys = [] then noMean else (roundDiv (ys.foldl (· + ·) 0 : Nat) (ys.length : Nat)).toNat

/-- The coarse search over block shifts of ±k blocks: c*, whether it is unique by the ratio, and whether it lies at the
edge of the search (R246, R249). -/
def coarseFit (k ratio : Nat) (means : List Nat) (ref : Int → Int → Nat) : (Int × Int) × Bool × Bool :=
  let sad : Int × Int → Nat := fun c => (means.zipIdx.filter (fun e => e.1 != noMean)).foldl (fun a e =>
    a + ((e.1 : Int) - (ref ((e.2 % 16 : Nat) + c.1) ((e.2 / 16 : Nat) + c.2) : Nat)).natAbs) 0
  match argmin sad (shifts k) with
  | none => ((0, 0), false, false)
  | some (c, v) =>
    let far := (shifts k).filter (fun e => decide (1 < (e.1 - c.1).natAbs) || decide (1 < (e.2 - c.2).natAbs))
    (c, far.all (fun e => decide (v * (256 + ratio) ≤ 256 * sad e)),
      decide (c.1.natAbs = k) || decide (c.2.natAbs = k))

/-- Variance test: n Σy² - (Σy)² reaches the contrast times n² (Table 8.4). -/
def contrastOk (cmin : Nat) (ys : List Nat) : Bool :=
  let n := ys.length
  let a := ys.foldl (· + ·) 0
  let q := ys.foldl (fun t y => t + y * y) 0
  decide (cmin * n * n + a * a ≤ n * q)

/-! ## Records (R257) -/

/-- Bytes 0 to 31 and 56 to 63 of a record (Table 8.5). -/
def recHead (type flags cam stripes viewten height page seq i0 col0 width x0 : Nat) : List Byte :=
  leBytes 1 type ++ leBytes 1 flags ++ leBytes 1 cam ++ leBytes 1 stripes ++ leBytes 1 viewten ++ leBytes 1 0 ++
  leBytes 2 height ++ leBytes 4 page ++ leBytes 4 seq ++ leBytes 4 i0 ++ leBytes 2 col0 ++ leBytes 2 width ++
  leBytes 6 (x0 / 2 ^ 32) ++ leBytes 2 0
/-- A 64-byte record from its head, its own 24 bytes and T0. -/
def recOf (head own : List Byte) (t0 : Nat) : List Byte :=
  head ++ (own ++ List.replicate (24 - own.length) 0#8).take 24 ++ leBytes 8 t0
/-- A signed value in n bytes. -/
def leI (n : Nat) (v : Int) : List Byte := leBytes n (low (8 * n) v)
/-- A mean, halves up. -/
def meanI (s : Int) (n : Nat) : Int := roundDiv s n

/-- Flags byte of a blob. -/
def Blob.flags (k : Blob) (major seam : Bool) : Nat :=
  b2n major + 2 * b2n k.cont + 4 * b2n k.split + 8 * b2n k.trunc + 16 * b2n seam + 32 * b2n k.edge + 64 * b2n k.ovfl
/-- The COLOUR record of a blob (Table 8.6). -/
def blobRecord (cam s0 s1 viewten thi amaj : Nat) (seam : Bool) (k : Blob) : List Byte :=
  let major := decide (thi ≤ k.peak) && decide (amaj ≤ k.area)
  recOf (recHead 0 (k.flags major seam) cam (s0 + 8 * s1) viewten k.rows k.page k.seq k.i0 k.c0 (k.c1 + 1 - k.c0) k.x0)
    (leBytes 4 k.area ++ leBytes 2 k.peak ++ leBytes 2 (meanI k.sumE k.area).toNat ++ leI 2 (meanI k.dl k.area) ++
      leI 2 (meanI k.da k.area) ++ leI 2 (meanI k.db k.area) ++ leBytes 2 0 ++ leBytes 4 (meanI k.rx k.area).toNat ++
      leBytes 4 (meanI k.ry k.area).toNat)
    k.t0

/-! ## Summaries (R259 to R261) -/

/-- Columns c - 8 to c - 2 and c + 2 to c + 8 that lie within w columns. -/
def profCols (c w : Nat) : List Nat :=
  (List.range w).filter (fun k => (decide (k + 2 ≤ c) && decide (c ≤ k + 8)) || (decide (c + 2 ≤ k) && decide (k ≤ c + 8)))

/-- The profile at column c of column values, halves up: the columns that have pixels count (R259); none where no column
does, for which the spec states no profile. -/
def profile (vs : List (Option Int)) (c : Nat) : Option Int :=
  let ks := (profCols c vs.length).filterMap (fun k => nth vs k none)
  if ks = [] then none else some (roundDiv (sumI ks) (ks.length : Nat))

/-- Pixels of a column in the form a block is measured in. -/
def ColSum.cnt (c : ColSum) (ref : Bool) : Nat := if ref then c.n else c.m

/-- m_c per channel in signed 8.8 of every processed column (R259). A column without pixels, or without a profile, has a
value that the spec leaves open: fv. -/
def colMeans (ref : Bool) (cs : List ColSum) (fv : Nat → Nat) : List (List Int) :=
  let free : Nat → Int := fun k => sgn 16 (fv k % 65536)
  let mean : Nat → List (Option Int) := fun ch => cs.map (fun c =>
    if c.cnt ref = 0 then none
    else some (if ref then roundDiv (nth c.d ch 0) (c.n : Nat) else roundDiv (nth c.c ch 0 : Nat) (c.m : Nat)))
  let ms := (List.range 3).map mean
  (List.range cs.length).map (fun k => ms.zipIdx.map (fun e =>
    let p := if ref then some 0 else profile e.1 k
    match nth e.1 k none, p with
    | some v, some q => satI 16 (roundShift (v - q) 4)
    | _, _ => free (3 * k + e.2)))

/-- Mean of channel ch over 64-column band u of w core columns in signed 8.8, in the form of R261. -/
def bandMean (ref : Bool) (cs : List ColSum) (w ch u : Nat) : Int :=
  let sel := (cs.drop (64 * u)).take (min 64 (w - 64 * u))
  let n := (sel.map (·.cnt ref)).foldl (· + ·) 0
  roundDiv (if ref then sumI (sel.map (fun c => nth c.d ch 0)) else sumI (sel.map (fun c => (nth c.c ch 0 : Nat))))
    (16 * n : Nat)

/-- Luminance form of a per-channel value. -/
def lumI (v : List Int) : Int := roundDiv (nth v 0 0 + 2 * nth v 1 0 + nth v 2 0) 4

/-- Runs of consecutive numbers of a rising list. -/
def runsOf : List Nat → List (Nat × Nat)
  | [] => []
  | k :: r => match runsOf r with
    | (a, e) :: t => if a = k + 1 then (k, e) :: t else (k, k) :: (a, e) :: t
    | [] => [(k, k)]

/-- A run cut into pieces of at most m columns. -/
def cutRun : Nat → Nat → Nat × Nat → List (Nat × Nat)
  | 0, _, _ => []
  | f + 1, m, (a, e) => if e < a + m then [(a, e)] else (a, a + m - 1) :: cutRun f m (a + m, e)

end Sys2Proof.Machine
end

