-- ==== Sys2Proof/Machine/MemOps.lean ====
section
/-!
DEFINITION. Device memory as its users reach it (chapter 11): the hash that spreads addresses over logical channels
(R312 to R314), poisoned sectors (R318, R319, R323), reads and writes with their poison mark, and the ranges of
tenants (R325 to R327).
-/
namespace Sys2Proof.Machine
open Sys2Proof

/-- Set the memory controller's record. -/
def State.setMemx (s : State) (x : MemX) : State := { s with memx := x }

/-- Hash page of a device address, and the size of a page (R312). -/
def pageSize : Nat := 0x3C00000
def hashPage (a : Nat) : Nat := a / pageSize
/-- Set of a device address within its page. -/
def hashSet (a : Nat) : Nat := a % pageSize / 256 / 60
/-- Logical channel of a device address under a salt (R313). -/
def hashLc (salt a : Nat) : Nat :=
  let g := a % pageSize / 256
  let x := Nat.xor (g / 60) salt
  (g % 60 + (Nat.xor (x % 64) (x / 64)) % 60) % 60
/-- Byte offset of a device address within its logical channel (R313). -/
def hashOff (a : Nat) : Nat := (hashPage a * 4096 + hashSet a) * 256 + a % 256

/-- Ticks in which a re-salt migrates one set: 2 × 256 bytes of each channel at 3.2 GB/s, 1/8 of its bandwidth (R317,
Table 11.8, log entry 140). -/
def setTicks : Nat := 256
/-- Sets that the re-salt in progress has migrated (MEM_RESALTPROG). -/
def State.resaltSets (s : State) : Nat :=
  if s.memx.resalt.isSome then min 4096 ((s.devTime - s.memx.resaltT) / setTicks) else 0
/-- Ticks in which a copying inlay moves 1 MiB at 12.8 GB/s (Table 11.2 step 3), and the MiB it has copied
(MEM_INLAYPROG). -/
def mibTicks : Nat := 131072
def State.inlayMib (s : State) : Nat := min 768 ((s.devTime - s.memx.copyT) / mibTicks)
/-- The salt in force for device address a: during a re-salt, the sets below the pointer have the new one (R317). -/
def State.saltAt (s : State) (a : Nat) : Nat :=
  match s.memx.resalt with
  | some (z, new) =>
    if z = hashPage a ∧ hashSet a < s.resaltSets then new else s.fld (Reg.MEM_SALT (hashPage a)) 0 12
  | none => s.fld (Reg.MEM_SALT (hashPage a)) 0 12
/-- Logical channel and physical pseudo-channel of a device address (R311, R313). -/
def State.lcOf (s : State) (a : Nat) : Nat := hashLc (s.saltAt a) a
def State.pcOf (s : State) (a : Nat) : Nat := s.fld (Reg.MEM_PCMAP (s.lcOf a)) 0 6

/-- Firmware serves commands: READY, and no bench restart runs (R391, R506). -/
def State.fwServes (s : State) : Bool := s.bit (Reg.MBX_STAT 0) 0 && s.bench.restart.isNone
/-- Core c's duties are served: firmware serves, and no inlay of that core runs (R389, R390). -/
def State.fwDuty (s : State) (c : Nat) : Bool := s.fwServes && decide (s.bench.inlay.map (·.1) ≠ some c)

/-! ## Poison -/

/-- Sector k was in a logical channel when that channel went to a poisoned sprue, beyond what a copy had saved (R323,
R324): a page's salt then is the one kept, or the present one. -/
def State.secDead (s : State) (k : Nat) : Bool :=
  s.memx.dead.any (fun d =>
    let a := 32 * k
    let salt := match d.2.2.find? (fun e => e.page == hashPage a) with
      | some e => if hashSet a < e.ptr then e.new else e.old
      | none => s.fld (Reg.MEM_SALT (hashPage a)) 0 12
    hashLc salt a == d.1 && decide (d.2.1 ≤ hashOff a))

/-- Sector k is poisoned (R318, R323). -/
def State.secPoison (s : State) (k : Nat) : Bool :=
  let v := sget (fun _ => 0) s.memx.sect k
  v == 1 || (v == 0 && s.secDead k)

/-- Set sector k's mark. -/
def State.setSect (s : State) (k v : Nat) : State :=
  s.setMemx { s.memx with sect := sset (fun _ => 0) s.memx.sect k v }
/-- Sector k becomes poisoned. -/
def State.poison (s : State) (k : Nat) : State := s.setSect k 1
/-- A write covers all of sector k: its poison ends (R319). -/
def State.unpoison (s : State) (k : Nat) : State := s.setSect k (if s.secDead k then 2 else 0)

/-- The sectors that n bytes from a touch, and those they cover whole. -/
def sectors (a n : Nat) : List Nat := if n = 0 then [] else (List.range ((a + n - 1) / 32 + 1 - a / 32)).map (· + a / 32)
def wholeSectors (a n : Nat) : List Nat := (sectors a n).filter (fun k => decide (a ≤ 32 * k) && decide (32 * k + 32 ≤ a + n))

/-- Read device memory: the bytes, and whether a poisoned sector lies among them (R319). -/
def State.devRead (s : State) (a n : Nat) : List Byte × Bool := (memRead s.devMem a n, (sectors a n).any s.secPoison)
/-- Write device memory (R319). -/
def State.devWrite (s : State) (a : Nat) (bs : List Byte) : State :=
  ({ s with devMem := memWrite s.devMem a bs } : State).each (wholeSectors a bs.length) (fun t k =>
    if t.secPoison k then t.unpoison k else t)
/-- Write device memory with a poison mark: the sectors concerned are poisoned (R344 status POISON, R375). -/
def State.devWritePoison (s : State) (a : Nat) (bs : List Byte) : State :=
  ({ s with devMem := memWrite s.devMem a bs } : State).each (sectors a bs.length) (fun t k => t.poison k)

/-! ## Ranges of tenants (R325 to R327) -/

/-- Size of a tenant's range in bytes; PF0's is the whole tenant region (R325, R326). -/
def State.rangeSize (s : State) (t : Nat) : Nat :=
  if t = 0 then 0xB00000000
  else if s.bit (Reg.MEM_PARTBASE t) 8 then s.fld (Reg.MEM_PARTSIZE t) 0 6 * 2 ^ 30 else 0
/-- First device address of a tenant's range. -/
def State.rangeBase (s : State) (t : Nat) : Nat := if t = 0 then 0 else s.fld (Reg.MEM_PARTBASE t) 0 6 * 2 ^ 30
/-- The device address of n bytes at a tenant-relative address, when all of them lie in the tenant's range. -/
def State.devAddr (s : State) (t x n : Nat) : Option Nat :=
  if x + n ≤ s.rangeSize t then some (s.rangeBase t + x) else none
/-- The fabric counts a refused access of tenant t (R327). -/
def State.partViol (s : State) (t : Nat) : State := s.addSat (Reg.MEM_PARTVIOL t) 0 32 1

end Sys2Proof.Machine
end

