-- ==== Sys2Proof/Machine/AsyOps.lean ====
section
/-!
DEFINITION. The shared operations of the assay stages on state (chapter 8): placements (R236), the cell row in progress
(R243 to R249), ΔE and labelling of its rows (R250 to R256), the end of a block (R258 to R262), and the swap checks
(R230).
-/
namespace Sys2Proof.Machine
open Sys2Proof

/-- Set bit i of ASY_IRQ of stage n; it belongs to the pipeline's source (Table 12.5). -/
def State.asyIrq (s : State) (n i : Nat) : State := s.irq (Reg.ASY_IRQ n) (208 + n) i

/-- The stage of a bank is idle (R230): PIPE_OUT.ASSAY or all six enables clear. -/
def asyIdle (b : Bank) : Bool := !bitOf (b.w 0x7C) 0 || decide (b.aw 0 &&& 0x7B#32 = 0#32)

/-- The swap checks of R230 on a shadow bank of pipeline n. -/
def State.asyOk (s : State) (n : Nat) (b : Bank) (fmt : List Byte) : Bool :=
  let cfg := b.aw 0
  let ref := bitOf cfg 0 || bitOf cfg 1
  let rs := fldOf cfg 8 3
  let v := fldOf cfg 12 4
  let ax := (s.pipeCam n).bind s.camAxis
  let hi := min (b.af 0x10 16 16) (fmtWidth fmt - 1)
  asyIdle b ||
  ((!ref ||
      (s.bit Reg.ASY_RSSTAT (8 + rs) && !s.bit Reg.ASY_RSSTAT rs && !s.bit (Reg.ASY_STAT n) 1 && b.aw 0x08 != 0#32 &&
        b.aw 0x0C != 0#32 && s.bit (Reg.ASY_VCTL v) 0 && ax == some (s.fld (Reg.ASY_VCTL v) 1 3))) &&
    (!bitOf cfg 1 || b.af 0x18 0 2 != 3) &&
    decide (b.af 0x10 0 16 < fmtWidth fmt) && decide (b.af 0x10 0 16 ≤ hi))

/-! ## Pages and placements (R233 to R237) -/

/-- The descriptor bytes of slot k (R233). -/
def State.pageDesc (s : State) (k : Nat) : List Byte := memRead s.devMem (s.rd64 Reg.ASY_PGTAB_LO + 128 * k) 128

/-- The READY descriptor of a tenant's page, with its slot (R234). -/
def State.findPage (s : State) (tenant page : Nat) : Option (Nat × List Byte) :=
  ((s.pages.filter (fun e => e.2 == tenant + 1)).map (fun e => (e.1, s.pageDesc e.1))).find? (fun e =>
    pgId e.2 == page && pgReady e.2)

/-- The owner of view v. -/
def State.viewOwner (s : State) (v : Nat) : Nat := s.fld (Reg.ASY_VCTL v) 4 4
/-- The descriptor of a page of view v, if it is READY. -/
def State.viewPage (s : State) (v page : Nat) : List Byte := ((s.findPage (s.viewOwner v) page).map (·.2)).getD []

/-- Stage n's active view, and the pipelines whose stages are in a view (R235). -/
def State.asyView (s : State) (n : Nat) : Nat := s.fld (Reg.act (Reg.ASY_CFG n)) 12 4
def State.viewPipes (s : State) (v : Nat) : List Nat :=
  (List.range 104).filter (fun n =>
    s.pipeRun n && s.bit (Reg.act (Reg.PIPE_COLS n) + 0x7C) 0 && s.asyView n == v && (s.pipeCam n).isSome)

/-- One placement joins view v from queue place k (R236); it is late when a line of its span has already entered a
stage of the view. -/
def State.placeAddAt (s : State) (v k : Nat) (act : Option Posn) : State :=
  let x := s.view v
  let p : Place := {
    slot := k, page := s.rdN (Reg.ASY_PLQ v k 0),
    pstart := posn (s.rdN (Reg.ASY_PLQ v k 1) + s.fld (Reg.ASY_PLQ v k 2) 0 16 * 2 ^ 32), num := x.count, act := act }
  let late := (s.viewPipes v).any (fun n => match (s.asy n).lastX with
    | some q => decide (0 ≤ xDiff q (xOfPos p.pstart))
    | none => false)
  let s1 := s.setView v { x with places := x.places ++ [p], count := x.count + 1 }
  if late then s1.addSat (Reg.ASY_VLATEPL v) 0 32 1 else s1

/-- A placement joins a view's queue and reaches lines at once. -/
def State.placeAdd (s : State) (v k : Nat) : State := s.placeAddAt v k none

/-- ASY_VQWR of view v moves to w: the entries up to it join the view (R236). -/
def State.viewWr (s : State) (v w : Nat) : State :=
  let old := s.fld (Reg.ASY_VQWR v) 0 6
  let n := (w + 64 - old) % 64
  (s.each ((List.range n).map (fun i => (old + i) % 64)) (fun t k => t.placeAdd v k)).wr (Reg.ASY_VQWR v) (w32 (w % 64))

/-- Placements at the head that every stripe of view v has passed retire (R236); so do the offsets of their pages. -/
def State.placeRetire (s : State) (v : Nat) : State :=
  let x := s.view v
  let ps := s.viewPipes v
  let rest := x.places.dropWhile (fun p => ps.all (fun n => p.passed.contains n))
  let s1 := s.setView v { x with
    places := rest, pgs := x.pgs.filter (fun e => rest.any (·.num == e.num) || x.pgs.getLast? == some e) }
  s1.setFld (Reg.ASY_VQRD v) 0 6 (match rest.head? with
    | some p => p.slot
    | none => s1.fld (Reg.ASY_VQWR v) 0 6)

/-- Nominal reference row of grid position x under PSTART, with 72 fraction bits (R236). -/
def nominalRow (b : Bank) (pstart : Posn) (x : Nat) : Int := xDiff x (xOfPos pstart) * ((b.aw 0x0C).toNat : Int)

/-- Stage n has passed the pages of view v that end before grid position x (R236). -/
def State.placePass (s : State) (n v : Nat) (b : Bank) (x : Nat) : State :=
  let w := s.view v
  let places := w.places.map (fun p =>
    let d := s.viewPage v p.page
    if d ≠ [] ∧ (pgHeight d : Int) * 2 ^ 72 ≤ nominalRow b p.pstart x ∧ !p.passed.contains n then
      { p with passed := p.passed ++ [n] } else p)
  (s.setView v { w with places := places }).placeRetire v

/-- The placement of a line at grid position x (R236): the greatest PSTART not beyond it. -/
def State.placeOf (s : State) (v x : Nat) : Option Place :=
  ((s.view v).places.filter (fun p => decide (0 ≤ xDiff x (xOfPos p.pstart)) &&
    p.act.all (fun a => decide (0 ≤ xDiff x (xOfPos a))))).foldl (fun (a : Option Place) p =>
    match a with
    | none => some p
    | some q => if 0 ≤ posDiff p.pstart q.pstart then some p else some q) none

/-! ## The stripe as the stage sees it -/

/-- The bank of a block of pipeline n (R230). -/
def State.blkBank (s : State) (n run i0 : Nat) : Bank :=
  match s.pblk n run i0 with
  | some b => b.bank
  | none => s.activeBank n

/-- First column and count of the trimmed line (R216), and of the core. -/
def State.asyCols (s : State) (n : Nat) (b : Bank) : Nat × Nat :=
  let bind := s.rd (Reg.PIPE_BIND n)
  let l := b.f 0 0 16 - (stripeCols (b.w 0) bind).1
  let h := b.f 0x7C 4 7
  (b.f 0 0 16 - min h l, b.f 0 16 16 + min h l + (if fldOf bind 8 3 < fldOf bind 12 3 then min h 64 else 0))
def asyCore (b : Bank) : Nat × Nat := (b.f 0 0 16, b.f 0 16 16)
/-- First camera column of the stripe's first registration cell: cells lie at multiples of 64 camera columns (R243). -/
def cellBase (b : Bank) : Nat := b.f 0 0 16 / 64 * 64
/-- Registration cells of the stripe: those that hold a column of its core (R243). -/
def asyCells (b : Bank) : Nat := (b.f 0 0 16 + b.f 0 16 16 + 63) / 64 - b.f 0 0 16 / 64
/-- A camera column lies in the core. -/
def inCore (b : Bank) (c : Nat) : Bool := decide (b.f 0 0 16 ≤ c) && decide (c < b.f 0 0 16 + b.f 0 16 16)
/-- Width of the camera of pipeline n. -/
def State.asyWidth (s : State) (n : Nat) : Nat :=
  match s.pipeCam n with
  | some c => fmtWidth (s.camFmt c)
  | none => 0

/-- A camera column lies in ASY_INSP (R230, R252). -/
def State.inspected (s : State) (n : Nat) (b : Bank) (c : Nat) : Bool :=
  decide (b.af 0x10 0 16 ≤ c) && decide (c ≤ min (b.af 0x10 16 16) (s.asyWidth n - 1))

/-- Expected luminance at camera column c of a line at grid position x displaced by (dx, dy) in 1/2048 (R244). -/
def expLum (m : List Host.Cell) (b : Bank) (pg : AsyPage) (c : Int) (dx dy : Int) (x : Nat) : Nat :=
  lum (expected b (refSample m pg.desc (refPoint b pg.pstart c dx dy x)))

/-- Grid position of page row y, from a row of the page at hand: its own, else along the pitch. -/
def rowX (b : Bank) (rows : List AsyRow) (y : Int) : Nat :=
  match rows.find? (fun r => (r.r : Int) == y) with
  | some r => r.line.o.x
  | none =>
    match rows.head? with
    | some r => xAdd r.line.o.x ((y - (r.r : Int)) * (b.pitch : Int))
    | none => 0

/-- Captured luminance of camera column c of a row. -/
def capLum (first : Nat) (r : AsyRow) (c : Nat) : Nat := lum (rgbOf r.line.o.planes (c - first))

/-! ## Registration (R243 to R247) -/

/-- Reference points of the columns of a line at page row y and grid position x, two columns further on either side (R245). -/
def linePoints (b : Bank) (pg : AsyPage) (cols : Nat × Nat) (y : Int) (x : Nat) : List (Int × Int) :=
  (List.range (cols.2 + 4)).map (fun (j : Nat) =>
    let c : Int := (cols.1 : Int) + (j : Nat) - 2
    let d := dispAt (cellBase b) pg c.toNat y
    refPoint b pg.pstart c d.1 d.2 x)

/-- Reference columns, first and last, that a set of points needs on a page (R239). -/
def pointCols (d : List Byte) (ps : List (Int × Int)) : Nat × Nat :=
  let js := ps.map (fun p => (clampI 0 ((pgWidth d : Int) - 1) (p.1 / 256)).toNat)
  (js.foldl min (pgWidth d - 1), min (pgWidth d - 1) (maxList js + 1))
/-- Reference rows that a set of points needs on a page (R239), rising. -/
def pointRows (d : List Byte) (ps : List (Int × Int)) : List Nat :=
  let rs := ps.map (fun p => (clampI 0 ((pgHeight d : Int) - 1) (p.2 / 256)).toNat)
  let lo := rs.foldl min (pgHeight d - 1)
  (List.range (min (pgHeight d - 1) (maxList rs + 1) + 1 - lo)).map (· + lo)

/-- n bytes from device address a lie in tenant t's range (R327). -/
def State.inRange (s : State) (t a n : Nat) : Bool :=
  decide (s.rangeBase t ≤ a) && decide (a + n ≤ s.rangeBase t + s.rangeSize t)

/-- Stage n fetches reference row r of a page into its band, columns j.1 to j.2 (R239). A fetch outside the owner's range is not
performed and is counted (R327). -/
def State.bandFetch (s : State) (n v : Nat) (d : List Byte) (j : Nat × Nat) (r : Nat) : State :=
  let k := pxBytes (pgFmt d)
  let a := pgBase d + r * pgStride d + j.1 * k
  let len := (j.2 + 1 - j.1) * k
  let x := s.asy n
  if s.inRange (s.viewOwner v) a len then
    let q := s.devRead a len
    s.setAsy n { x with band := memWrite x.band a q.1, bandRows := x.bandRows ++ [(r, !q.2)] }
  else (s.setAsy n { x with bandRows := x.bandRows ++ [(r, false)] }).partViol (s.viewOwner v)

/-- The render of page row y of the page stage n is on, at grid position x, has the reference rows it needs in the band, two
capture rows further on either side: each row is fetched once as the render moves forward (R239, R245). -/
def State.bandFill (s : State) (n : Nat) (b : Bank) (pg : AsyPage) (y x : Nat) : State :=
  let cols := s.asyCols n b
  let ps := (List.range 5).flatMap (fun (k : Nat) =>
    linePoints b pg cols ((y : Int) + k - 2) (xAdd x (((k : Int) - 2) * (b.pitch : Int))))
  let rows := (pointRows pg.desc ps).filter (fun r => !(s.asy n).bandRows.any (fun e => e.1 == r))
  s.each rows (fun t r => t.bandFetch n (b.af 0 12 4) pg.desc (pointCols pg.desc ps) r)

/-- Between cell rows the band keeps the latest rows that fit in its 64 KiB (R229, R239). -/
def State.bandTrim (s : State) (n : Nat) (b : Bank) (d : List Byte) : State :=
  let x := s.asy n
  let span := (((s.asyCols n b).2 * (b.aw 0x08).toNat + 2 ^ 30 - 1) / 2 ^ 30 + 2) * pxBytes (pgFmt d)
  let gone := x.bandRows.take (x.bandRows.length - 65536 / max 1 span)
  let in' : Host.Cell → Bool := fun e =>
    gone.any (fun r => decide (pgBase d + r.1 * pgStride d ≤ e.1) && decide (e.1 < pgBase d + (r.1 + 1) * pgStride d))
  s.setAsy n { x with band := x.band.filter (fun e => !in' e), bandRows := x.bandRows.drop gone.length }

/-- A captured row needs reference rows that could not be read: it is treated as NOREF (R266). -/
def State.rowBad (s : State) (n : Nat) (b : Bank) (pg : AsyPage) (row : AsyRow) : Bool :=
  (s.asy n).bandRows.any (fun e => !e.2) && (List.range (s.asyCols n b).2).any (fun j =>
    let c := (s.asyCols n b).1 + j
    let d := dispAt (cellBase b) pg c row.r
    let pt := refPoint b pg.pstart c d.1 d.2 row.line.o.x
    onPage pg.desc pt && (pointRows pg.desc [pt]).any (fun r => (s.asy n).bandRows.contains (r, false)))

/-- Pixels of cell u that take part (R245): column from the first cell's, page row, and captured luminance. -/
def State.cellPixels (s : State) (n : Nat) (b : Bank) (pg : AsyPage) (rows : List AsyRow) (u : Nat) :
    List (Int × Int × Nat) :=
  let first := (s.asyCols n b).1
  rows.flatMap (fun r =>
    if r.noref || r.line.o.code == 2 || s.rowBad n b pg r then []
    else ((List.range 64).filter (fun k => inCore b (cellBase b + 64 * u + k))).filterMap (fun k =>
      let c := cellBase b + 64 * u + k
      let d := dispAt (cellBase b) pg c r.r
      let pt := refPoint b pg.pstart c d.1 d.2 r.line.o.x
      if onPage pg.desc pt && s.inspected n b c && zoneWeight b (zoneAt s.devMem pg.desc pt) != 0 then
        some ((64 * u + k : Nat), (r.r : Int), capLum first r c)
      else none))

/-- Tier A on cell u (R245, Table 8.4): FINE or FLAT, or none when the cell goes to Tier B. -/
def State.tierA (s : State) (n : Nat) (b : Bank) (pg : AsyPage) (rows : List AsyRow) (u : Nat) : Option Cell :=
  let p := nth pg.pred u (0, 0)
  let ref : Int → Int → Nat := fun x y =>
    let c : Int := (cellBase b : Int) + x
    let d := dispAt (cellBase b) pg c.toNat y
    expLum (s.asy n).band b pg c d.1 d.2 (rowX b rows y)
  let px := s.cellPixels n b pg rows u
  if px.length < 2048 ∨ !contrastOk (b.af 0x14 0 16) (px.map (fun e => ref e.1 e.2.1)) then
    some { dx := p.1, dy := p.2, status := 2 }
  else
    let f := fineFit px ref
    if f.2.2 then some { dx := p.1 + 16 * f.1.1 + f.2.1.1, dy := p.2 + 16 * f.1.2 + f.2.1.2, status := 0 } else none

/-- A cell is MISREG (R247). -/
def cellMis (mistol : Nat) (p : Int × Int) (k : Cell) : Bool :=
  k.status != 2 && (k.status == 3 || decide (mistol < (k.dx - p.1).natAbs) || decide (mistol < (k.dy - p.2).natAbs))

/-- Block means of the captured luminance of cell u, 16 by 16 of 4 by 4 pixels (R246). -/
def State.cellMeans (s : State) (n : Nat) (b : Bank) (rows : List AsyRow) (v u : Nat) : List Nat :=
  let first := (s.asyCols n b).1
  (List.range 256).map (fun k =>
    let ys := (List.range 4).flatMap (fun j =>
      match rows.find? (fun r => r.r == 64 * v + 4 * (k / 16) + j) with
      | some r => ((List.range 4).filter (fun i => inCore b (cellBase b + 64 * u + 4 * (k % 16) + i))).map (fun i =>
        capLum first r (cellBase b + 64 * u + 4 * (k % 16) + i))
      | none => [])
    blockMean ys)

/-- Block means of the expected luminance around a cell at a fixed displacement in 1/16 pixel (R246). -/
def refMeans (m : List Host.Cell) (b : Bank) (pg : AsyPage) (c0 : Int) (p : Int × Int) (x0 : Nat) (bx by' : Int) : Nat :=
  let ys := (List.range 16).map (fun k =>
    expLum m b pg (c0 + 4 * bx + (k % 4 : Nat)) (128 * p.1) (128 * p.2)
      (xAdd x0 ((4 * by' + (k / 4 : Nat)) * (b.pitch : Int))))
  (roundDiv (ys.foldl (· + ·) 0 : Nat) 16).toNat

/-- The cells of the row that ends: each FINE or FLAT, or queued for Tier B, or UNSURE when the queue is full (R245,
R246). -/
def State.cellRow (s : State) (n : Nat) (b : Bank) (pg : AsyPage) (rows : List AsyRow) : State × List Cell :=
  (List.range (asyCells b)).foldl (fun (a : State × List Cell) u =>
    match a.1.tierA n b pg rows u with
    | some k => (a.1, a.2 ++ [k])
    | none =>
      let p := nth pg.pred u (0, 0)
      let x := a.1.asy n
      let k : Cell := { dx := p.1, dy := p.2, status := 3 }
      if x.tb.length < 64 then
        let e : TbCell := {
          u := u, v := pg.v, px := p.1, py := p.2, means := a.1.cellMeans n b rows pg.v u,
          x0 := rowX b rows (64 * (pg.v : Int)) }
        ((a.1.setAsy n { x with tb := x.tb ++ [e] }).setBit (Reg.ASY_STAT n) 4 true, a.2 ++ [k])
      else (((a.1.addSat (Reg.ASY_TBOVF n) 0 32 1).asyIrq n 7).fault 3 4 n 0, a.2 ++ [k])) (s, [])

/-! ## Records leave (R253 to R258) -/

/-- The view and tenant byte of a record (Table 8.5). -/
def State.viewTen (s : State) (b : Bank) : Nat := let v := b.af 0 12 4; v + 16 * s.viewOwner v

/-- One counted record of stage n: over RECMAX it is discarded (R258). -/
def State.recOut (s : State) (n : Nat) (b : Bank) (run i0 : Nat) (r : List Byte) : State :=
  let x := s.asy n
  let max := b.af 0x2C 16 10
  let cnt := ((x.recs.find? (fun e => e.1 == run && e.2.1 == i0)).map (·.2.2)).getD 0
  if max ≠ 0 ∧ max ≤ cnt then ((s.addSat (Reg.ASY_RECDROP n) 0 32 1).asyIrq n 5).fault 3 6 n 0
  else
    let s1 := s.setAsy n { x with
      recs := x.recs.filter (fun e => !(e.1 == run && e.2.1 == i0)) ++ [(run, i0, cnt + 1)] }
    s1.setPipe n { s1.pipe n with intake := (s1.pipe n).intake ++ [.defect r] }

/-- A blob is finished (R253, R256): a record, a fragment, or nothing; the continuation of a SPLIT blob that no pixel joined is
no blob. -/
def State.blobOut (s : State) (n : Nat) (b : Bank) (k : Blob) : State :=
  if k.area = 0 then s
  else if b.af 0x28 0 16 ≤ k.area ∨ b.af 0x24 16 16 ≤ k.peak then
    let bind := s.rd (Reg.PIPE_BIND n)
    let st := fldOf bind 8 3
    let vt := s.viewTen b
    if k.left ≠ [] ∨ k.right ≠ [] then
      let f : Frag := { n := n, stripe := st, viewten := vt, thi := b.af 0x24 16 16, amaj := b.af 0x28 16 16, blob := k }
      s.setPipe n { s.pipe n with intake := (s.pipe n).intake ++ [.fragment f] }
    else s.recOut n b k.run k.blk (blobRecord (fldOf bind 1 7) st st vt (b.af 0x24 16 16) (b.af 0x28 16 16) false k)
  else s

/-- Finish every open blob of stage n (R255, R262), with TRUNC where its block is lost, with EDGE where the next row is
masked whole (R254). -/
def State.blobsEnd (s : State) (n : Nat) (trunc edge : Bool) : State :=
  let l := (s.asy n).blobs
  (s.setAsy n { s.asy n with blobs := [] }).each l (fun t k =>
    t.blobOut n (t.blkBank n k.run k.blk) { k with trunc := k.trunc || trunc, edge := k.edge || edge })

/-! ## Labelling (R251 to R254) -/

/-- ew of pixel k of a row after the filter (R251). -/
def filtEw (prev cur next : List Px) (k : Nat) : Nat :=
  let at' : List Px → Nat := fun l =>
    (if k = 0 then 0 else ((l[k - 1]?).map (·.ew)).getD 0) + ((l[k]?).map (·.ew)).getD 0 + ((l[k + 1]?).map (·.ew)).getD 0
  (at' prev + at' cur + at' next + 4) / 9

/-- Two blobs become one (R253): its first line is the earlier one, and it covers the lines of both. The continuation of a SPLIT
blob has no line of its own until a pixel joins it. -/
def Blob.join (a b : Blob) : Blob :=
  let f := if a.area = 0 then b else if b.area = 0 ∨ a.y0 ≤ b.y0 then a else b
  { f with
    rows := max (a.y0 + a.rows) (b.y0 + b.rows) - f.y0, area := a.area + b.area, sumE := a.sumE + b.sumE, peak := max a.peak b.peak
    dl := a.dl + b.dl, da := a.da + b.da, db := a.db + b.db, rx := a.rx + b.rx, ry := a.ry + b.ry
    c0 := min a.c0 b.c0, c1 := max a.c1 b.c1, last := a.last ++ b.last, cur := a.cur ++ b.cur, cont := a.cont || b.cont
    split := a.split || b.split, trunc := a.trunc || b.trunc, edge := a.edge || b.edge, ovfl := a.ovfl || b.ovfl
    left := a.left ++ b.left, right := a.right ++ b.right }

/-- Add row i to rows of contact: intervals merge, and at most 16 are kept, the last spanning the remainder
(R256). -/
def contactAdd (i : Nat) (l : List (Nat × Nat)) : List (Nat × Nat) :=
  match l.getLast? with
  | some (a, e) => if i ≤ e + 1 ∨ l.length = 16 then l.dropLast ++ [(a, max e i)] else l ++ [(i, i)]
  | none => [(i, i)]

/-- A run of marked pixels of a row as a blob of its own. -/
def runBlob (l : AsyLine) (page : Nat) (px : List Px) (ews : List Nat) (first : Nat) (a e : Nat) : Blob :=
  let ks := (List.range (e + 1 - a)).map (fun k => a + k - first)
  let g : Nat → Px := fun k => (px[k]?).getD ⟨0, true, 0, 0, 0, 0, 0⟩
  {
    run := l.run, i0 := l.o.i, y0 := l.o.y, x0 := l.o.x, t0 := l.o.expt, seq := l.seq, blk := l.i0, page := page
    area := e + 1 - a, sumE := (ks.map (fun k => nth ews k 0)).foldl (· + ·) 0, peak := maxList (ks.map (fun k => nth ews k 0))
    dl := sumI (ks.map (fun k => (g k).dl)), da := sumI (ks.map (fun k => (g k).da)), db := sumI (ks.map (fun k => (g k).db))
    rx := (ks.map (fun k => (g k).rx)).foldl (· + ·) 0, ry := (ks.map (fun k => (g k).ry)).foldl (· + ·) 0
    c0 := a, c1 := e, cur := (List.range (e + 1 - a)).map (· + a) }

/-- Columns a to e lie within one column of a list of columns (8-connectivity). -/
def touches (a e : Nat) (cs : List Nat) : Bool := cs.any (fun c => decide (a ≤ c + 1) && decide (c ≤ e + 1))

/-- One row is labelled (R253, R254): runs join the blobs they touch; what no run touches is finished. -/
def State.labelRow (s : State) (n : Nat) (b : Bank) (row : AsyRow) (page : Nat) (px next : List Px) : State :=
  let x := s.asy n
  let core := asyCore b
  let first := (s.asyCols n b).1
  let bind := s.rd (Reg.PIPE_BIND n)
  let ews := (List.range px.length).map (fun k =>
    if ((px[k]?).map (·.masked)).getD true then 0
    else if b.af 0 2 1 = 1 then filtEw x.prevPx px next k else ((px[k]?).map (·.ew)).getD 0)
  let marks := ((List.range px.length).filter (fun k =>
    inCore b (first + k) && decide (b.af 0x24 0 16 ≤ nth ews k 0) && !((px[k]?).map (·.masked)).getD true)).map (· + first)
  let maskOf : List Px → List Nat := fun l => ((List.range l.length).filter (fun k =>
    ((l[k]?).map (·.masked)).getD true)).map (· + first)
  let mask := maskOf px
  let near := mask ++ maskOf x.prevPx
  let y := row.line.o.y
  let r := (runsOf marks).foldl (fun (a : State × List Blob) (run : Nat × Nat) =>
    let k0 := runBlob row.line page px ews first run.1 run.2
    let k := { k0 with edge := touches run.1 run.2 near }
    let hit := a.2.filter (fun q => touches run.1 run.2 q.last)
    let rest := a.2.filter (fun q => !touches run.1 run.2 q.last)
    let grow : Blob → Blob := fun q => { q with rows := y + 1 - q.y0 }
    if hit = [] ∧ 1024 ≤ (rest.filter (fun q => !q.ovfl)).length then
      let ov := rest.filter (·.ovfl)
      if ov = [] then
        (((a.1.addSat (Reg.ASY_LBLOVF n) 0 32 1).asyIrq n 6).fault 3 5 n 0, rest ++ [{ k with ovfl := true }])
      else (a.1, rest.filter (fun q => !q.ovfl) ++ [grow (ov.foldl Blob.join k)])
    else (a.1, rest ++ [grow (hit.foldl Blob.join k)])) (s, x.blobs)
  let leftSeam := 0 < fldOf bind 8 3
  let rightSeam := fldOf bind 8 3 < fldOf bind 12 3
  let bl := r.2.map (fun q => { q with
    edge := q.edge || mask.any (fun c => touches c c q.last)
    left := if leftSeam && q.cur.contains core.1 then contactAdd y q.left else q.left
    right := if rightSeam && q.cur.contains (core.1 + core.2 - 1) then contactAdd y q.right else q.right })
  let done := bl.filter (fun q => q.cur == [])
  let live := bl.filter (fun q => q.cur != [])
  let hmax := clampN 16 1024 (b.af 0x2C 0 11)
  let full := live.filter (fun q => decide (hmax ≤ q.rows))
  let keep := live.map (fun q =>
    if hmax ≤ q.rows then
      {
        ({
        run := row.line.run, i0 := row.line.o.i, y0 := y + 1, x0 := row.line.o.x, t0 := row.line.o.expt
        seq := row.line.seq, blk := row.line.i0, page := page, rows := 0, c0 := 65536, c1 := 0 } : Blob) with
        last := q.cur, cont := true, ovfl := q.ovfl }
    else { q with last := q.cur, cur := [] })
  let s1 := r.1.setAsy n { r.1.asy n with blobs := keep, prevPx := px }
  let s2 := s1.each done (fun t q => t.blobOut n (t.blkBank n q.run q.blk) q)
  s2.each full (fun t q => t.blobOut n (t.blkBank n q.run q.blk) { q with split := true })

/-! ## The end of a block (R259 to R262) -/

/-- The header of a column summary (Table 8.10). -/
def sumHead (k : AsyBlk) (cam stripe : Nat) (core : Nat × Nat) : List Byte :=
  leBytes 4 k.page ++ leBytes 4 k.seq ++ leBytes 4 k.first.i ++ leBytes 1 cam ++ leBytes 1 stripe ++ leBytes 2 core.1 ++
  leBytes 2 core.2 ++ leBytes 2 k.lines ++ leBytes 6 (k.first.x / 2 ^ 32) ++ List.replicate 6 0#8

/-- The STREAK and UNIFORM record of columns a to e (Table 8.7). -/
def devRecord (type : Nat) (k : AsyBlk) (cam stripe vt lines : Nat) (cont ref : Bool) (cs : List ColSum) (core0 a e : Nat)
    (devs : List Int) (chan : List Int) : List Byte :=
  let sel := (cs.drop a).take (e + 1 - a)
  let area := (sel.map (fun c => if ref then c.n else c.m)).foldl (· + ·) 0
  let peak := devs.foldl (fun (p : Int) d => if p.natAbs < d.natAbs then d else p) 0
  let rn := (sel.map (·.n)).foldl (· + ·) 0
  recOf (recHead type (2 * b2n cont + 128 * b2n (!ref)) cam (stripe + 8 * stripe) vt lines k.page k.seq k.first.i
      (core0 + a) (e + 1 - a) k.first.x)
    (leBytes 4 area ++ leI 2 (satI 16 peak) ++ leI 2 (satI 16 (meanI (sumI devs) devs.length)) ++
      (chan.take 3).flatMap (fun v => leI 2 (satI 16 v)) ++ leBytes 2 0 ++
      leBytes 4 (if ref then (meanI ((sel.map (·.rx)).foldl (· + ·) 0 : Nat) rn).toNat else 0) ++
      leBytes 4 (if ref then (meanI ((sel.map (·.ry)).foldl (· + ·) 0 : Nat) rn).toNat else 0))
    k.first.expt

/-- STREAK records of a block (R260), and its runs. -/
def State.streakOut (s : State) (n : Nat) (b : Bank) (k : AsyBlk) (ms : List (List Int)) (cs : List ColSum) (skip : Nat)
    (ref : Bool) (fv : Nat → Nat) : State :=
  let core := asyCore b
  let bind := s.rd (Reg.PIPE_BIND n)
  let some' : (List Int → Int) → List (Option Int) := fun f =>
    (ms.zip cs).map (fun e => if e.2.cnt ref = 0 then none else some (f e.1))
  let devOf : (List Int → Int) → Nat → Nat → Int := fun f part c =>
    match profile (some' f) (skip + c) with
    | some p => f (nth ms (skip + c) []) - p
    | none => sgn 16 (fv (part + 4 * c) % 65536)
  let dev : Nat → Int := devOf lumI 0x10000
  let chDev : Nat → Nat → Int := fun ch => devOf (fun m => nth m ch 0) (0x10001 + ch)
  let hits := (List.range core.2).filter (fun c => decide (b.af 0x30 0 16 ≤ (dev c).natAbs) &&
    decide (0 < ((cs[skip + c]?).map (·.cnt ref)).getD 0))
  let wmax := clampN 1 8 (b.af 0x30 16 4)
  let rs := (runsOf hits).flatMap (cutRun core.2 wmax)
  let old := (s.asy n).streaks
  let s1 := s.each rs (fun t r =>
    let ks := (List.range (r.2 + 1 - r.1)).map (· + r.1)
    let chan := (List.range 3).map (fun ch => meanI (sumI (ks.map (chDev ch))) ks.length)
    t.recOut n b k.run k.i0 (devRecord 1 k (fldOf bind 1 7) (fldOf bind 8 3) (t.viewTen b) k.lines (old.contains r) ref
      (cs.drop skip) core.1 r.1 r.2 (ks.map dev) chan))
  s1.setAsy n { s1.asy n with streaks := rs }

/-- UNIFORM records of a block (R261). -/
def State.uniformOut (s : State) (n : Nat) (b : Bank) (k : AsyBlk) (cs : List ColSum) (skip : Nat) (ref : Bool) : State :=
  let core := asyCore b
  let bind := s.rd (Reg.PIPE_BIND n)
  let bn : BandSum → Nat := fun e => if ref then e.n else e.m
  let by' : BandSum → Int := fun e => if ref then e.y else e.cy
  let bq : BandSum → Int := fun e => if ref then e.yy else e.cyy
  let flat : BandSum → Bool := fun e =>
    decide (0 < bn e) && decide (bq e * bn e - by' e * by' e < (b.af 0x34 16 16 : Nat) * (bn e : Int) * (bn e : Int))
  let mean : BandSum → Int := fun e => roundDiv (16 * by' e) (bn e : Nat)
  let fl := (k.bands.zipIdx.filter (fun e => flat e.1))
  s.each fl (fun t e =>
    let nb := fl.filter (fun o => o.2 != e.2 && decide (o.2 ≤ e.2 + 4) && decide (e.2 ≤ o.2 + 4))
    let d := mean e.1 - roundDiv (sumI (nb.map (fun o => mean o.1))) (nb.length : Nat)
    if 2 ≤ nb.length ∧ b.af 0x34 0 16 ≤ d.natAbs then
      let a := 64 * e.2
      let z := min (a + 63) (core.2 - 1)
      let cm : Nat → Nat → Int := bandMean ref (cs.drop skip) core.2
      let chan := (List.range 3).map (fun ch => cm ch e.2 - roundDiv (sumI (nb.map (fun o => cm ch o.2))) (nb.length : Nat))
      t.recOut n b k.run k.i0 (devRecord 2 k (fldOf bind 1 7) (fldOf bind 8 3) (t.viewTen b) k.lines false ref
        (cs.drop skip) core.1 a z [d] chan)
    else t)

/-- The summary entry of a column (Table 8.10). -/
def sumEntry (ref : Bool) (m : List Int) (c : ColSum) : List Byte :=
  leI 2 (nth m 0 0) ++ leI 2 (nth m 1 0) ++ leI 2 (nth m 2 0) ++
  leBytes 2 (min 32767 (if ref then c.n else c.m) + 32768 * b2n ref)

/-- The assay work of block k of stage n ends (R259 to R262): summary, STREAK and UNIFORM records. The counts of its records go
unless an open blob began in it (R258). -/
def State.asyBlkEnd (s : State) (n : Nat) (k : AsyBlk) : State :=
  let b := s.blkBank n k.run k.i0
  let core := asyCore b
  let bind := s.rd (Reg.PIPE_BIND n)
  let skip := core.1 - (s.asyCols n b).1
  let fv : Nat → Nat := fun j => (Config.freePart s.freeIdx j).toNat
  let ms := colMeans k.compared k.cols fv
  let s0 := s.free.2
  let s1 := if b.af 0 3 1 = 1 then s0.streakOut n b k ms k.cols skip k.compared fv else s0
  let s2 := if b.af 0 4 1 = 1 then s1.uniformOut n b k k.cols skip k.compared else s1
  let s3 := if b.af 0 5 1 = 1 then
      let body := ((((ms.zip k.cols).drop skip).take core.2).flatMap (fun e => sumEntry k.compared e.1 e.2))
      s2.setPipe n { s2.pipe n with
        intake := (s2.pipe n).intake ++ [.summary (sumHead k (fldOf bind 1 7) (fldOf bind 8 3) core ++ body)] }
    else s2
  let s4 := s3.setPipe n ((s3.pipe n).mapBlk (fun p => p.run == k.run && p.i0 == k.i0) (fun p => { p with
    assayDone := true }))
  let x := s4.asy n
  let blks := x.blks.filter (fun e => !(e.run == k.run && e.i0 == k.i0))
  s4.setAsy n { x with
    blks := blks
    recs := x.recs.filter (fun e =>
      x.blobs.any (fun q => q.run == e.1 && q.blk == e.2.1) || blks.any (fun q => q.run == e.1 && q.i0 == e.2.1)) }

/-! ## ΔE of a row (R248 to R252) -/

/-- Sums of a row join its block (R259, R261). A masked pixel takes part in neither form; a row that is not compared has masks
only where its column is not inspected or the line is FILLED (log entry 60). -/
def AsyBlk.addRow (k : AsyBlk) (first core0 corew : Nat) (insp : Nat → Bool) (row : AsyRow) (px : List Px)
    (exp : List (List Nat)) (compared : Bool) : AsyBlk :=
  let o := row.line.o
  let w := px.length
  let seen := o.code != 2
  let old : Nat → ColSum := fun j => (k.cols[j]?).getD {}
  let clear : Nat → Bool := fun j => !((px[j]?).map (·.masked)).getD true
  let live : Nat → Bool := fun j => compared && clear j
  let cap : Nat → Bool := fun j => seen && insp (first + j) && (!compared || clear j)
  let cols := (List.range w).map (fun j =>
    let c := old j
    let v := rgbOf o.planes j
    let e := nth exp j []
    let c1 := if live j then { c with
        d := (List.range 3).map (fun ch => nth c.d ch 0 + ((nth v ch 0 : Nat) - (nth e ch 0 : Nat) : Int)), n := c.n + 1
        rx := c.rx + ((px[j]?).map (·.rx)).getD 0, ry := c.ry + ((px[j]?).map (·.ry)).getD 0 } else c
    if cap j then { c1 with
      c := (List.range 3).map (fun ch => nth c1.c ch 0 + nth v ch 0), m := c1.m + 1 } else c1)
  let bands := (List.range ((corew + 63) / 64)).map (fun u =>
    (List.range (min 64 (corew - 64 * u))).foldl (fun (a : BandSum) i =>
      let j := core0 + 64 * u + i - first
      let y : Int := lum (rgbOf o.planes j)
      let a1 := if live j then
          let d := y - (lum (nth exp j []) : Nat)
          { a with n := a.n + 1, y := a.y + d, yy := a.yy + d * d } else a
      if cap j then { a1 with m := a1.m + 1, cy := a1.cy + y, cyy := a1.cyy + y * y } else a1)
      ((k.bands[u]?).getD {}))
  let cmp := compared && seen
  { k with
    cols := cols, bands := bands, compared := k.compared || cmp
    lines := if cmp && !k.compared then 1 else k.lines + b2n (seen && (cmp || !k.compared)) }

/-- ΔE of one row at the field of its cell row (R248 to R252): its pixels, its expected colours, and the off-page
pixels of its core. -/
def State.rowPx (s : State) (n : Nat) (b : Bank) (pg : Option AsyPage) (cells : List Cell) (row : AsyRow) :
    List Px × List (List Nat) × Nat :=
  let ac := s.asyCols n b
  let blank : Px := ⟨0, true, 0, 0, 0, 0, 0⟩
  match pg with
  | none => (List.replicate ac.2 blank, [], 0)
  | some p =>
    if row.placed && !row.noref && b.af 0 0 1 == 1 && p.desc != [] && !s.rowBad n b p row then
      let es := (List.range ac.2).map (fun j =>
        let c := ac.1 + j
        let d := dispAt (cellBase b) p c row.r
        let pt := refPoint b p.pstart c d.1 d.2 row.line.o.x
        let off := !onPage p.desc pt
        let mis := inCore b c && ((cells[(c - cellBase b) / 64]?).map (·.misreg)).getD false
        let zw := zoneWeight b (zoneAt s.devMem p.desc pt)
        let masked := off || !s.inspected n b c || row.line.o.code == 2 || mis || zw == 0
        let e := expected b (refSample (s.asy n).band p.desc pt)
        let lc := labOf b (rgbOf row.line.o.planes j)
        let le := labOf b e
        let px : Px := {
          ew := if masked then 0 else deltaE b lc le zw, masked := masked, dl := lc.1 - le.1, da := lc.2.1 - le.2.1
          db := lc.2.2 - le.2.2, rx := (max 0 pt.1).toNat, ry := (max 0 pt.2).toNat }
        (px, e, off && inCore b c))
      (es.map (·.1), es.map (·.2.1), (es.filter (·.2.2)).length)
    else (List.replicate ac.2 blank, [], 0)

/-- The row at the head of `pend` is labelled, with the next row's pixels if it has come. -/
def State.pendLabel (s : State) (n : Nat) (next : List Px) : State :=
  match (s.asy n).pend with
  | [] => s
  | (row, px) :: rest =>
    let b := s.blkBank n row.line.run row.line.i0
    let page := match (s.asy n).page with
      | some p => if row.placed then p.page else 0xFFFFFFFF
      | none => 0xFFFFFFFF
    let s1 := (s.setAsy n { s.asy n with pend := rest }).labelRow n b row page px next
    let s2 := s1.setAsy n { s1.asy n with doneI := some (row.line.run, row.line.o.y) }
    if row.line.last then
      match (s2.asy n).blks.find? (fun k => k.run == row.line.run && k.i0 == row.line.i0) with
      | some k => s2.asyBlkEnd n k
      | none => s2
    else s2

/-- The block of a line has a NOREF line (R237): its tag will say so whatever becomes of the block. -/
def State.asyNoref (s : State) (n run i0 : Nat) : State :=
  s.setPipe n ((s.pipe n).mapBlk (fun k => k.run == run && k.i0 == i0) (fun k => { k with noref := true }))

/-- One row passes ΔE, joins its block's sums, and is labelled, one row late when the filter needs the next row. -/
def State.rowDE (s' : State) (n : Nat) (pg : Option AsyPage) (cells : List Cell) (row : AsyRow) : State :=
  let b := s'.blkBank n row.line.run row.line.i0
  let bad := b.af 0 0 1 == 1 && row.placed && !row.noref && pg.any (fun p => p.desc != [] && s'.rowBad n b p row)
  let s := if bad then (s'.asyNoref n row.line.run row.line.i0).addSat (Reg.ASY_NOREFL n) 0 32 1 |>.asyIrq n 2 else s'
  let r := s.rowPx n b pg cells row
  let core := asyCore b
  let s1 := s.addSat (Reg.ASY_OFFPAGE n) 0 32 r.2.2
  let x := s1.asy n
  let s2 := s1.setAsy n { x with
    pend := x.pend ++ [(row, r.1)]
    blks := x.blks.map (fun k => if k.run = row.line.run ∧ k.i0 = row.line.i0 then
      k.addRow (s.asyCols n b).1 core.1 core.2 (s.inspected n b) row r.1 r.2.1 (r.2.1 != []) else k) }
  let s3 := if x.pend ≠ [] then s2.pendLabel n r.1 else s2
  if b.af 0 2 1 = 1 then s3 else s3.pendLabel n []

/-! ## The end of a cell row (R245 to R249) -/

/-- The REGROW record of a cell row (Table 8.8). -/
def regrow (s : State) (n : Nat) (b : Bank) (pg : AsyPage) (cells : List Cell) (rows : List AsyRow) : List Byte :=
  let bind := s.rd (Reg.PIPE_BIND n)
  let core := asyCore b
  let cnt : Nat → Nat := fun k => (cells.filter (fun c => c.status == k)).length
  let fc := cells.filter (fun c => decide (c.status ≤ 1))
  let mn : List Int → Int := fun l => match l with
    | [] => 0
    | a :: r => r.foldl min a
  let mx : List Int → Int := fun l => match l with
    | [] => 0
    | a :: r => r.foldl max a
  let res := maxList ((cells.zip pg.pred).map (fun e => max (e.1.dx - e.2.1).natAbs (e.1.dy - e.2.2).natAbs))
  let o : OutLine := match rows.head? with
    | some r => r.line.o
    | none => { i := 0, x := 0, expt := 0, code := 0, planes := [] }
  let seq := match rows.head? with
    | some r => r.line.seq
    | none => 0
  recOf (recHead 4 0 (fldOf bind 1 7) (fldOf bind 8 3 * 9) (s.viewTen b) rows.length pg.page seq o.i core.1 core.2 o.x)
    (leBytes 2 cells.length ++ leBytes 1 (cnt 0) ++ leBytes 1 (cnt 1) ++ leBytes 1 (cnt 2) ++ leBytes 1 (cnt 3) ++
      leI 2 (meanI (sumI (fc.map (·.dx))) fc.length) ++ leI 2 (meanI (sumI (fc.map (·.dy))) fc.length) ++
      leI 2 (mn (fc.map (·.dx))) ++ leI 2 (mx (fc.map (·.dx))) ++ leI 2 (mn (fc.map (·.dy))) ++ leI 2 (mx (fc.map (·.dy))) ++
      leBytes 2 res ++ leBytes 2 ((cells.filter (·.misreg)).length) ++ leBytes 2 pg.v)
    o.expt

/-- Mean of pairs, halves up. -/
def meanPair (l : List (Int × Int)) : Int × Int :=
  (roundDiv (sumI (l.map (·.1))) l.length, roundDiv (sumI (l.map (·.2))) l.length)
/-- A g in the layout of ASY_VGINIT. -/
def gWord (g : Int × Int) : Word := w32 (low 16 g.1 + low 16 g.2 * 65536)

/-- A new g of view v: on a paired FOLLOW it serves only for comparison, a paired LEAD also sends it (R435). Whether it is
used, and the state. -/
def State.viewG (s : State) (v : Nat) (g : Word) : Bool × State :=
  if s.fld Reg.TWIN_STAT 0 3 = 2 ∧ s.fld Reg.TWIN_STAT 3 2 = 1 then
    (false, s.setTwin { s.twin with ownG := sset (fun _ => 0#32) s.twin.ownG v g })
  else
    let s1 := s.wr (Reg.ASY_VG v) g
    (true, if s.fld Reg.TWIN_STAT 0 3 = 2 then
        s1.twinCtrl (leBytes 1 2 ++ leBytes 1 v ++ leBytes 4 g.toNat) else s1)

/-- The offsets of page num of a view, and the latest page begun. -/
def View.pg (w : View) (num : Nat) : Option ViewPage := w.pgs.find? (fun e => e.num == num)
def View.latest (w : View) (num : Nat) : Bool := w.pgs.all (fun e => decide (e.num ≤ num))
/-- Update the offsets of page num of view v. -/
def State.mapPg (s : State) (v num : Nat) (f : ViewPage → ViewPage) : State :=
  s.setView v { s.view v with pgs := (s.view v).pgs.map (fun e => if e.num = num then f e else e) }

/-- The FINE cells of cell row 0 of page num: without an accepted mark, their mean is what the view carries into the next page
(R249); the page's own g stays. -/
def State.row0Carry (s : State) (v num : Nat) (cells : List Cell) : State :=
  match (s.view v).pg num with
  | none => s
  | some e =>
    let l := e.row0 ++ (cells.filter (fun c => c.status == 0)).map (fun c => (c.dx, c.dy))
    let s1 := s.mapPg v num (fun e => { e with row0 := l })
    if e.marks = [] ∧ l ≠ [] ∧ (s.view v).latest num then (s1.viewG v (gWord (meanPair l))).2 else s1

/-- A new g of page num of view v goes to every stage on the page that has not begun cell row 2 (R249). -/
def State.gPages (s : State) (v num : Nat) (g : Int × Int) : State :=
  (s.mapPg v num (fun e => { e with g := g })).each (s.viewPipes v) (fun t n =>
    match (t.asy n).page with
    | some pg => if pg.q = num ∧ pg.v ≤ 1 then t.setAsy n { t.asy n with page := some { pg with newG := some g } } else t
    | none => t)

/-- Accepted marks give page num of view v a new g; the view carries that of its latest page on (R249, R435). -/
def State.gUpdate (s : State) (v num : Nat) (g : Int × Int) : State :=
  if (s.view v).latest num then
    (let r := s.viewG v (gWord g); if r.1 then r.2.gPages v num g else r.2)
  else if s.fld Reg.TWIN_STAT 0 3 = 2 ∧ s.fld Reg.TWIN_STAT 3 2 = 1 then s
  else s.gPages v num g

/-- Status counters of a cell row (Table 8.14). -/
def State.cellCount (s : State) (n : Nat) (cells : List Cell) : State :=
  let cnt : Nat → Nat := fun k => (cells.filter (fun c => c.status == k)).length
  let s1 := ((s.addSat (Reg.ASY_CFINE n) 0 32 (cnt 0)).addSat (Reg.ASY_CCOARSE n) 0 32 (cnt 1)).addSat
    (Reg.ASY_CFLAT n) 0 32 (cnt 2)
  (s1.addSat (Reg.ASY_CUNSURE n) 0 32 (cnt 3)).addSat (Reg.ASY_CMISREG n) 0 32 ((cells.filter (·.misreg)).length)

/-- The crucible keeps the d values of the stripe's last completed cell row (R263). -/
def State.cellKeep (s : State) (n : Nat) (pg : AsyPage) (cells : List Cell) : State :=
  match s.pipeCam n with
  | none => s
  | some c =>
    let st := s.fld (Reg.PIPE_BIND n) 8 3
    let m : CellMem := {
      q := pg.q, run := pg.run, y0 := pg.y0, base := pg.base, v := pg.v, d := cells.map (fun e => (e.dx, e.dy)) }
    s.setCru c { s.cru c with cells := (s.cru c).cells.filter (fun e => e.1 != st) ++ [(st, m)] }

/-- Every cell of the row has its status (R247): counters, MISREG, REGROW, ΔE of its rows, and the next predictions
(R244, R249). The rows of a block that was dropped late are gone, but their cells count (R262). -/
def State.cellClose (s : State) (n : Nat) : State :=
  let x := s.asy n
  match x.page with
  | some pg =>
    let b := s.blkBank n pg.blk.1 pg.blk.2
    let rows := x.rows
    let cells := (pg.prev.zip pg.pred).map (fun e => { e.1 with misreg := cellMis (b.af 0x14 24 8) e.2 e.1 })
    let on := b.af 0 0 1 == 1 && pg.desc != [] && decide (pg.meas ≤ pg.v)
    let s1 := if on then (s.cellCount n cells).cellKeep n pg cells else s
    let many := on && decide (cells.length < 2 * (cells.filter (·.misreg)).length)
    let s2 := if many then (s1.asyIrq n 3).fault 3 7 n 0 else s1
    let s3 := if on && b.af 0 6 1 == 1 && rows != [] then
        s2.setPipe n { s2.pipe n with intake := (s2.pipe n).intake ++ [.defect (regrow s2 n b pg cells rows)] }
      else s2
    let s4 := if on && pg.v == 0 then s3.row0Carry (b.af 0 12 4) pg.q cells else s3
    let s5 := (s4.setAsy n { s4.asy n with rows := [] }).each rows (fun t r => t.rowDE n (some pg) cells r)
    let pr := predict (pg.gx, pg.gy) (pg.v + 1) (asyCells b) cells pg.prev2
    let fresh := match pg.newG with
      | some g => (List.replicate (asyCells b) g, List.replicate (asyCells b) (0, 0))
      | none => pr
    let g := pg.newG.getD (pg.gx, pg.gy)
    let s6 := s5.setAsy n { s5.asy n with
      page := some { pg with
        v := pg.v + 1, gx := g.1, gy := g.2, newG := none, pred := fresh.1, slope := fresh.2, prev := cells } }
    ((s6.bandTrim n b pg.desc).setFld (Reg.ASY_CELLROW n) 0 16 (pg.v + 1)).wr (Reg.ASY_G n) (gWord g)
  | none => s

/-- Cells that are not measured: FLAT, with d = p. -/
def AsyPage.flat (pg : AsyPage) : List Cell := pg.pred.map (fun p => { dx := p.1, dy := p.2, status := 2 })

/-- The cell row in progress ends (R245): Tier A on its cells; it closes at once unless Tier B has cells to do. The cell row in
which a sprue took over is not measured (R263). -/
def State.cellEnd (s : State) (n : Nat) : State :=
  let x := s.asy n
  match x.page, x.rows with
  | some pg0, r0 :: _ =>
    let b := s.blkBank n r0.line.run r0.line.i0
    let pg := { pg0 with blk := (r0.line.run, r0.line.i0) }
    if b.af 0 0 1 = 1 ∧ pg.desc ≠ [] ∧ pg.meas ≤ pg.v then
      let s0 := s.each (x.rows.filter (fun r => !r.noref)) (fun t r => t.bandFill n b pg r.r r.line.o.x)
      let r := s0.cellRow n b pg x.rows
      let s1 := r.1.setAsy n { r.1.asy n with page := some { pg with prev2 := pg.prev, prev := r.2 } }
      if (s1.asy n).tb = [] then s1.cellClose n else s1
    else (s.setAsy n { x with page := some { pg with prev2 := pg.prev, prev := pg.flat } }).cellClose n
  | _, _ => s

/-- Cell rows up to w have no line of the page (a block was dropped late): their cells are FLAT, and predictions go on from
there (R243, R244). -/
def AsyPage.skipTo (pg : AsyPage) (w : Nat) : AsyPage :=
  if w ≤ pg.v then pg
  else
    let g := pg.newG.getD (pg.gx, pg.gy)
    { pg with
      v := w, prev := pg.flat, prev2 := pg.flat, slope := pg.pred.map (fun _ => (0, 0)), newG := none, gx := g.1, gy := g.2
      pred := if pg.newG.isSome then pg.pred.map (fun _ => g) else pg.pred }

/-- Stage n leaves its page (R255): rows that wait are labelled, blobs finished, PAGEEND set. A row on no page is masked whole
(R252), so the blobs that reach it carry EDGE (R254). -/
def State.pageEnd (s : State) (n : Nat) (toBlank : Bool) : State :=
  match (s.asy n).page with
  | none => s
  | some _ =>
    let s1 := (s.pendLabel n []).blobsEnd n false toBlank
    (s1.setAsy n { s1.asy n with page := none, hist := [], prevPx := [], band := [], bandRows := [] }).asyIrq n 1

/-- The g that page p of view v starts with (R249): the page's own where another stripe has begun it, else what the view
carries. -/
def State.startG (s : State) (v : Nat) (p : Place) : Int × Int :=
  match (s.view v).pg p.num with
  | some e => e.g
  | none => (sgn 16 (s.fld (Reg.ASY_VG v) 0 16), sgn 16 (s.fld (Reg.ASY_VG v) 16 16))

/-- Stage n begins a page with line l (R236, R249). A sprue that takes over inside a page goes on from what the crucible kept of
the stripe: its grid, its d values, with slope 0, measured from the next cell row on (R263). -/
def State.pageStart (s : State) (n v : Nat) (b : Bank) (p : Place) (l : AsyLine) : State :=
  let w := s.view v
  let g := s.startG v p
  let s0 := if (w.pg p.num).isSome then s else s.setView v { w with pgs := w.pgs ++ [{ num := p.num, g := g }] }
  let k := asyCells b
  let zero := List.replicate k ((0, 0) : Int × Int)
  let pg0 : AsyPage := {
    q := p.num, page := p.page, desc := s0.viewPage v p.page, pstart := p.pstart, gx := g.1, gy := g.2
    pred := List.replicate k g, slope := zero, run := l.run, y0 := l.o.y }
  let pg := match (s0.asy n).seed with
    | some m =>
      if m.q = p.num ∧ m.run = l.run then
        let r := m.base + (l.o.y - m.y0)
        { pg0 with y0 := m.y0, base := m.base, rows := r, v := r / 64, meas := (r + 63) / 64, pred := m.d }
      else pg0
    | none => pg0
  let s1 := s0.setAsy n { s0.asy n with page := some pg, seed := none }
  let s2 := ((s1.wr (Reg.ASY_PAGEID n) (w32 p.page)).setFld (Reg.ASY_CELLROW n) 0 16 pg.v).wr (Reg.ASY_G n) (gWord g)
  (s2.wr (Reg.ASY_VPAGE v) (w32 p.page)).asyIrq n 0

/-- Stage n abandons a late block (R262): its rows that have not passed ΔE go, one that has is labelled, its open blobs leave
with TRUNC, and no summary is sent. Cells that wait for Tier B stay. -/
def State.asyDrop (s : State) (n run i0 : Nat) : State :=
  let x := s.asy n
  let other : AsyLine → Bool := fun l => !(l.run == run && l.i0 == i0)
  let s1 := s.setAsy n { x with
    queue := x.queue.filter other, rows := x.rows.filter (fun r => other r.line)
    blks := x.blks.filter (fun k => !(k.run == run && k.i0 == i0)) }
  let s2 := if x.pend.any (fun e => !other e.1.line) then s1.pendLabel n [] else s1
  if x.blks.any (fun k => k.run == run && k.i0 == i0) then s2.blobsEnd n true false else s2

/-! ## Page marks (R249) -/

/-- Camera column and page row of mark k of the page stage n is on, through R238 with D = g. -/
def markPlace (b : Bank) (pg : AsyPage) (rows : List AsyRow) (k : Nat) : Int × Int :=
  let m := pgMark pg.desc k
  let xscl : Int := (b.aw 0x08).toNat
  let yscl : Int := (b.aw 0x0C).toNat
  let c := roundDiv (((m.1 : Int) * 4096 - (b.aw 0x04).toInt) * 2 ^ 22 - pg.gx * xscl) (16 * xscl)
  let x := xAdd (xAdd (xOfPos pg.pstart) (roundDiv ((m.2 : Int) * 2 ^ 72) yscl)) (-(pg.gy * (b.pitch : Int) / 16))
  match rows.head? with
  | some r => (c, (r.r : Int) + roundDiv (xDiff x r.line.o.x) b.pitch)
  | none => (c, 0)

/-- Search range in pixels (Table 8.15). -/
def markRange (b : Bank) : Nat := if b.af 0x18 0 2 = 0 then 16 else if b.af 0x18 0 2 = 1 then 32 else 64

/-- Mark measurements in progress in stage n: a mark of its core, not measured yet, whose template's rows have begun to pass
(R249, R263). -/
def State.marksOpen (s : State) (n : Nat) : Nat :=
  let x := s.asy n
  match x.page, x.hist with
  | some pg, r0 :: _ =>
    let b := s.blkBank n r0.line.run r0.line.i0
    if b.af 0 1 1 = 0 then 0
    else ((List.range (pgMarks pg.desc)).filter (fun k =>
      let p := markPlace b pg x.hist k
      !pg.marks.contains k && decide (0 ≤ p.1) && inCore b p.1.toNat && decide (p.2 - 32 < (pg.rows : Int)))).length
  | _, _ => 0

/-- Placements, pages in progress and open blobs of stage n are cleared without records (Table 8.11). -/
def State.asyClear (s : State) (n : Nat) : State := s.setAsy n {}

end Sys2Proof.Machine
end

