-- ==== Sys2Proof/Machine/Assay.lean ====
section
/-!
DEFINITION. Meanings of the assay commands (chapter 8): a line enters the stage, Tier B and mark measurements, render
sets, counters and table errors. FRAGMENT_MERGE stands in Delivery.lean.
-/
namespace Sys2Proof.Machine
open Sys2Proof

/-- The block record of a line, made on the block's first line (R237). -/
def State.asyBlkOpen (s : State) (n : Nat) (l : AsyLine) : State :=
  let x := s.asy n
  if x.blks.any (fun k => k.run == l.run && k.i0 == l.i0) then s
  else
    let page := (s.pblk n l.run l.i0).elim 0xFFFFFFFF (·.page)
    s.setAsy n { x with blks := x.blks ++ [{ run := l.run, i0 := l.i0, seq := l.seq, first := l.o, page := page }] }

/-- Whether the lines of a block that are placed on placement p are NOREF: READY is sampled at the first (R237). The block's tag
takes its page and NOREF from the record of the pipeline, which outlives a late drop and an inlay. -/
def State.norefOf (s : State) (n : Nat) (l : AsyLine) (p : Place) (ready : Bool) : Bool × State :=
  let x := s.asy n
  match x.blks.find? (fun k => k.run == l.run && k.i0 == l.i0) with
  | none => (!ready, s)
  | some k =>
    let nr := match k.refs.find? (fun e => e.1 == p.num) with
      | some e => e.2
      | none => !ready
    let k1 := { k with
      refs := if k.refs.any (fun e => e.1 == p.num) then k.refs else k.refs ++ [(p.num, nr)]
      page := if k.page = 0xFFFFFFFF then p.page else k.page }
    let s1 := s.setAsy n { x with blks := x.blks.map (fun e => if e.run = l.run ∧ e.i0 = l.i0 then k1 else e) }
    (nr, s1.setPipe n ((s1.pipe n).mapBlk (fun e => e.run == l.run && e.i0 == l.i0) (fun e => { e with
      page := k1.page, noref := e.noref || nr })))

/-- The placement a line gets, if the line lies on its page (R236). -/
def State.linePlace (s : State) (n : Nat) (l : AsyLine) : Option Place :=
  let b := s.blkBank n l.run l.i0
  let v := b.af 0 12 4
  if s.bit (Reg.ASY_VCTL v) 0 then
    match s.placeOf v l.o.x with
    | none => none
    | some p =>
      let d := s.viewPage v p.page
      if d = [] ∨ nominalRow b p.pstart l.o.x < (pgHeight d : Int) * 2 ^ 72 then some p else none
  else none

/-- A page that has become READY since the stage reached it is known from now on (R237). -/
def State.pageRefresh (s : State) (n v : Nat) : State :=
  match (s.asy n).page with
  | some pg =>
    if pg.desc = [] then s.setAsy n { s.asy n with page := some { pg with desc := s.viewPage v pg.page } } else s
  | none => s

/-- A READY page of a view counts as such for a block whose first placed line lies at x: on a paired twin, from its
activation position on (R434). -/
def State.pageActive (s : State) (v page x : Nat) : Bool :=
  (s.twin.pageFrom.filter (fun e => e.1 == s.viewOwner v && e.2.1 == page)).all (fun e =>
    decide (0 ≤ xDiff x (xOfPos e.2.2)))

/-- The page with the row numbers that line l is read by: a run that begins inside the page counts on (R243). -/
def AsyPage.forLine (pg : AsyPage) (l : AsyLine) : AsyPage :=
  if l.run = pg.run ∧ pg.y0 ≤ l.o.y then pg else { pg with run := l.run, y0 := l.o.y, base := pg.rows }
/-- Page row of line l (R243). -/
def AsyPage.rowOf (pg : AsyPage) (l : AsyLine) : Nat :=
  let q := pg.forLine l
  max pg.rows (q.base + (l.o.y - q.y0))

/-- The line leaves the queue and takes its place: page end and start, NOREF, then its row (R236, R237, R243). -/
def State.lineTake (s : State) (n : Nat) (l : AsyLine) : State :=
  let b := s.blkBank n l.run l.i0
  let v := b.af 0 12 4
  let pl := s.linePlace n l
  let s0 := (s.setAsy n { s.asy n with queue := (s.asy n).queue.drop 1, lastX := some l.o.x }).asyBlkOpen n l
  let s1 := s0.placePass n v b l.o.x
  let same := match (s1.asy n).page, pl with
    | some pg, some p => pg.q == p.num
    | none, none => true
    | _, _ => false
  let s2 := if same then s1 else s1.pageEnd n pl.isNone
  match pl with
  | none =>
    let s3 := ((s2.setBit (Reg.ASY_STAT n) 2 false).setBit (Reg.ASY_STAT n) 3 false).wr (Reg.ASY_PAGEID n) 0xFFFFFFFF#32
    s3.rowDE n none [] { line := l, placed := false, noref := false, r := 0 }
  | some p =>
    let s3 := (if same then s2 else s2.pageStart n v b p l).pageRefresh n v
    let ready := match (s3.asy n).page with
      | some pg => pg.desc != [] && s3.pageActive v pg.page l.o.x
      | none => false
    let r := s3.norefOf n l p ready
    let s4 := (r.2.setBit (Reg.ASY_STAT n) 2 r.1).setBit (Reg.ASY_STAT n) 3 true
    let s5 := if r.1 then (s4.addSat (Reg.ASY_NOREFL n) 0 32 1).asyIrq n 2 else s4
    match (s5.asy n).page with
    | none => s5
    | some pg' =>
      let k := pg'.rowOf l
      let on := b.af 0 0 1 == 1
      let pg0 := pg'.forLine l
      let pg := if on && (s5.asy n).rows == [] then pg0.skipTo (k / 64) else pg0
      let row : AsyRow := { line := l, placed := true, noref := r.1, r := k }
      let x := s5.asy n
      let s6 := s5.setAsy n { x with
        page := some { pg with rows := k + 1 }, hist := (x.hist ++ [row]).drop (x.hist.length + 1 - 200) }
      if !on then s6.rowDE n (some pg) [] row
      else
        let s7 := s6.setAsy n { s6.asy n with rows := (s6.asy n).rows ++ [row] }
        let s8 := if r.1 || pg.desc == [] then s7 else s7.bandFill n b pg k l.o.x
        if k % 64 = 63 then s8.cellEnd n else s8

/-- The run of the rows that stage n holds is over, and no line waits. -/
def State.asyOver (s : State) (n : Nat) : Bool :=
  let x := s.asy n
  let run := match x.rows.head?, x.pend.head? with
    | some r, _ => some r.line.run
    | none, some e => some e.1.line.run
    | none, none => none
  match run with
  | none => false
  | some id =>
    (match (s.pipe n).runs.find? (fun r => r.id == id) with
     | some r => r.over && (match r.issued with
        | some i => decide (i < r.nextOut)
        | none => true)
     | none => true)

/-- The stage takes its next line. While Tier B has cells of the row to do, lines wait (R248). A line of another page or of
another cell row first ends the cell row in progress; with no line left and the run over, what the stage holds is
finished. -/
def State.assayLine (s : State) (n : Nat) : State :=
  let x := s.asy n
  if x.tb ≠ [] then s
  else match x.queue with
    | [] =>
      if s.asyOver n then
        let s1 := s.cellEnd n
        if (s1.asy n).tb ≠ [] then s1 else (s1.pageEnd n false).pendLabel n []
      else s
    | l :: _ =>
      let pl := s.linePlace n l
      let same := match x.page, pl with
        | some pg, some p => pg.q == p.num && pg.rowOf l / 64 == pg.v
        | none, none => true
        | _, _ => false
      if !same && x.rows != [] then
        let s1 := s.cellEnd n
        if (s1.asy n).tb ≠ [] then s1 else s1.lineTake n l
      else s.lineTake n l

/-- An event of stage n's own, which runs on its pipeline's clock (R229). -/
def State.onPgclk (s : State) (n dt : Nat) (f : State → State) : Res :=
  let s0 := s.pass dt
  .next (if s0.pipeClk n then f s0 else s0)

/-- ASSAY_LINE (R236). -/
def execAssayLine (n : Fin 104) (dt : Nat) (s : State) : Res := s.alive fun s =>
  s.onPgclk n.val dt (fun s => s.assayLine n.val)

/-- The whole raster of a page lies in its owner's range (R327). -/
def State.pageIn (s : State) (v : Nat) (d : List Byte) : Bool :=
  s.inRange (s.viewOwner v) (pgBase d) (pgStride d * (pgHeight d - 1) + pgWidth d * pxBytes (pgFmt d))

/-- TIER_B_DONE (R246): the oldest queued cell gets its result from fresh reference fetches; when none waits, its cell row
closes. A fetch outside the owner's range is not performed and is counted (R327); its cell ends UNSURE. -/
def State.tierBDone (s : State) (n : Nat) : State :=
  let x := s.asy n
  match x.tb, x.page with
  | t :: rest, some pg =>
    let b := s.blkBank n pg.blk.1 pg.blk.2
    let inn := s.pageIn (b.af 0 12 4) pg.desc
    let f := coarseFit 4 (b.af 0x14 16 8) t.means (fun bx by' =>
      refMeans s.devMem b pg ((cellBase b + 64 * t.u : Nat) : Int) (t.px, t.py) t.x0 bx by')
    let k : Cell := if inn && f.2.1 then { dx := t.px + 64 * f.1.1, dy := t.py + 64 * f.1.2, status := 1 }
      else { dx := t.px, dy := t.py, status := 3 }
    let s1 := ((if inn then s else s.partViol (s.viewOwner (b.af 0 12 4))).setAsy n { x with tb := rest, page := some { pg with prev := setNth pg.prev t.u k } }).setBit
      (Reg.ASY_STAT n) 4 (rest != [])
    if rest = [] then s1.cellClose n else s1
  | _ :: rest, none => s.setAsy n { x with tb := rest }
  | [], _ => s

/-- TIER_B_DONE (R246). -/
def execTierBDone (n : Fin 104) (dt : Nat) (s : State) : Res := s.alive fun s =>
  s.onPgclk n.val dt (fun s => s.tierBDone n.val)

/-! ## Page marks (R249) -/

/-- The measurement of a mark: STATUS of Table 8.9 and the offset in 1/16 pixel. -/
def State.markMeasure (s : State) (n : Nat) (b : Bank) (pg : AsyPage) (rows : List AsyRow) (c y : Int) : Nat × Int × Int :=
  let first := (s.asyCols n b).1
  let g := (pg.gx, pg.gy)
  let x0 := rowX b rows (y - 32)
  let off := !onPage pg.desc (refPoint b pg.pstart c (128 * g.1) (128 * g.2) (rowX b rows y))
  let at' : Int → Int → Option Nat := fun dx dy =>
    if (first : Int) ≤ c - 32 + dx ∧ c - 32 + dx < ((first + (s.asyCols n b).2 : Nat) : Int) then
      (rows.find? (fun r => (r.r : Int) == y - 32 + dy && r.line.o.code != 2)).map (fun r => capLum first r (c - 32 + dx).toNat)
    else none
  let px : List (Int × Int × Nat) := (List.range 4096).filterMap (fun i =>
    let dx : Int := (i % 64 : Nat)
    let dy : Int := (i / 64 : Nat)
    (at' dx dy).map (fun v => (dx, dy, v)))
  let means := (List.range 256).map (fun k =>
    let ys := px.filter (fun e => e.1 / 4 == ((k % 16 : Nat) : Int) && e.2.1 / 4 == ((k / 16 : Nat) : Int))
    blockMean (ys.map (·.2.2)))
  if off then (4, 0, 0)
  else if !contrastOk (b.af 0x14 0 16) (px.map (·.2.2)) then (1, 0, 0)
  else
    let f := coarseFit (markRange b / 4) (b.af 0x18 8 8) means (fun bx by' => refMeans s.devMem b pg (c - 32) g x0 bx by')
    let p := (g.1 + 64 * f.1.1, g.2 + 64 * f.1.2)
    if f.2.2 then (3, p.1, p.2)
    else if !f.2.1 then (2, p.1, p.2)
    else
      let q := fineFit px (fun dx dy => expLum s.devMem b pg (c - 32 + dx) (128 * p.1) (128 * p.2)
        (xAdd x0 (dy * (b.pitch : Int))))
      let d := (p.1 + 16 * q.1.1 + q.2.1.1, p.2 + 16 * q.1.2 + q.2.1.2)
      if q.2.2 then (0, d.1, d.2) else (2, d.1, d.2)

/-- The MARK record (Table 8.9): it covers the 64 by 64 pixels of the template around camera column col; r is its first row. -/
def State.markRecord (s : State) (n : Nat) (b : Bank) (pg : AsyPage) (k status col : Nat) (dx dy : Int) (g : Int × Int)
    (r : AsyRow) : List Byte :=
  let bind := s.rd (Reg.PIPE_BIND n)
  let m := pgMark pg.desc k
  recOf (recHead 3 0 (fldOf bind 1 7) (fldOf bind 8 3 * 9) (s.viewTen b) 64 pg.page r.line.seq r.line.o.i (col - 32) 64
      r.line.o.x)
    (leBytes 1 k ++ leBytes 1 status ++ leBytes 2 0 ++ leI 2 dx ++ leI 2 dy ++ leI 2 g.1 ++ leI 2 g.2 ++ leBytes 4 0 ++
      leBytes 4 (256 * m.1) ++ leBytes 4 (256 * m.2))
    r.line.o.expt

/-- Mark k of the page of stage n has been measured (R249): accepted marks give the page's new offset. The stage must hold the
template's rows, which a sprue that took over within them does not. -/
def State.markDone (s : State) (n k : Nat) : State :=
  let x := s.asy n
  match x.page, x.hist with
  | some pg, r0 :: _ =>
    let b := s.blkBank n r0.line.run r0.line.i0
    let c := (markPlace b pg x.hist k).1
    let y := (markPlace b pg x.hist k).2
    if b.af 0 1 1 = 1 ∧ pg.desc ≠ [] ∧ k < pgMarks pg.desc ∧ !pg.marks.contains k ∧ 0 ≤ c ∧ inCore b c.toNat ∧
        y + 32 + (markRange b : Int) ≤ (pg.rows : Int) ∧ (r0.r : Int) ≤ max 0 (y - 32) then
      let v := b.af 0 12 4
      let inn := s.pageIn v pg.desc
      let m := if inn then s.markMeasure n b pg x.hist c y else (2, 0, 0)
      let s0 := if inn then s else s.partViol (s.viewOwner v)
      let s1 := s0.setAsy n { x with page := some { pg with marks := pg.marks ++ [k] } }
      let s2 := match m.1, (s.view v).pg pg.q with
        | 0, some e =>
          let ms := e.marks ++ [(m.2.1, m.2.2)]
          ((s1.mapPg v pg.q (fun e => { e with marks := ms })).gUpdate v pg.q (meanPair ms)).addSat (Reg.ASY_VMARK v) 0 16 1
        | _, _ => s1.addSat (Reg.ASY_VMARK v) 16 16 1
      let g := (((s2.view v).pg pg.q).map (·.g)).getD (pg.gx, pg.gy)
      let top := ((x.hist.find? (fun r => decide (y - 32 ≤ (r.r : Int)))).getD r0)
      let r := s2.markRecord n b pg k m.1 c.toNat m.2.1 m.2.2 g top
      (s2.setPipe n { s2.pipe n with intake := (s2.pipe n).intake ++ [.defect r] }).asyIrq n 4
    else s
  | _, _ => s

/-- MARK_DONE (R249). -/
def execMarkDone (n : Fin 104) (k : Fin 4) (dt : Nat) (s : State) : Res := s.alive fun s =>
  s.onPgclk n.val dt (fun s => s.markDone n.val k.val)

/-! ## Render sets (R242) -/

/-- ASY_RSCMD.PUBLISH of sets (R242): COPY and published are set, and every stage whose shadow names one begins its
copy. -/
def State.rsPublish (s : State) (v : Nat) : State :=
  let sets := (List.range 8).filter (fun k => v / 2 ^ k % 2 = 1)
  s.each sets (fun t k =>
    let t := t.w1sSet Reg.ASY_RSCMD k (t.bit Reg.ASY_RSSTAT k)
    let t1 := (t.setBit Reg.ASY_RSSTAT k true).setBit Reg.ASY_RSSTAT (8 + k) true
    t1.each ((List.range 104).filter (fun n => t1.fld (Reg.ASY_CFG n) 8 3 == k)) (fun u n =>
      u.setBit (Reg.ASY_STAT n) 1 true))

/-- ASY_RSCMD_PUBLISH (R242). -/
def execAsyRscmdPublish (v : Word) (s : State) : Res := s.alive fun s => s.reach 0 Reg.ASY_RSCMD fun s =>
  .next (s.rsPublish (fldOf v 0 8))

/-- The copy of set k into the shadow of every stage whose shadow names it is complete (R242). -/
def State.rsCopied (s : State) (k : Nat) : State :=
  let ns := (List.range 104).filter (fun n => s.fld (Reg.ASY_CFG n) 8 3 == k && s.bit (Reg.ASY_STAT n) 1)
  ((s.each ns (fun t n =>
    (t.copySpan (Reg.RSET k 0) (Reg.ATAB n (1 - t.pipeBank n) 0) 0xC000).setBit (Reg.ASY_STAT n) 1 false)).setBit
    Reg.ASY_RSSTAT k false).w1sDone Reg.ASY_RSCMD k (fun t => t.rsPublish (2 ^ k))

/-- RENDER_SET_COPY_DONE (R242). -/
def execRenderSetCopyDone (k : Fin 8) (dt : Nat) (s : State) : Res := s.alive fun s => .next ((s.pass dt).rsCopied k.val)

/-! ## Counters and table errors (R266) -/

/-- ASY_CMD.CLRCNT (Table 8.14): 0x2020 to 0x2048. -/
def State.asyClr (s : State) (n : Nat) : State := s.wrList (Reg.ASY_CFINE n) (List.replicate 11 0#32)
/-- ASY_CLRCNT. -/
def execAsyClrcnt (n : Fin 104) (s : State) : Res := s.alive fun s => s.reach 0 (Reg.ASY_CMD n.val) fun s =>
  .next (s.asyClr n.val)

/-- TBL_UE (Table 8.13): an uncorrectable error in stage n's table bank, or in render set memory. -/
def execTblUe (n : Fin 104) (rs : Bool) (dt : Nat) (s : State) : Res := s.alive fun s =>
  let s1 := s.pass dt
  .next (if rs then s1.addSat Reg.ASY_RSECC 16 16 1
    else (s1.addSat (Reg.ASY_ECC n.val) 16 16 1).fault 3 2 n.val 2)
/-- TBL_CE (Table 8.13): corrected. -/
def execTblCe (n : Fin 104) (rs : Bool) (dt : Nat) (s : State) : Res := s.alive fun s =>
  let s1 := s.pass dt
  .next (if rs then s1.addSat Reg.ASY_RSECC 0 16 1 else (s1.addSat (Reg.ASY_ECC n.val) 0 16 1).fault 3 1 n.val 0)

end Sys2Proof.Machine
end

