-- ==== Sys2Proof/Machine/DmaOps.lean ====
section
/-!
DEFINITION. The shared operations of the DMA engines (chapter 11): channel states and credits (R331, R338), loading a
descriptor (R333, R334), moving its elements (R336, R337), completion (R341 to R344), stops (R345), the silencing of a
tenant's channels (R346) and withdrawn pipelines (R347). A channel is numbered 32 e + j.
-/
namespace Sys2Proof.Machine
open Sys2Proof

/-- Channel ch. -/
def State.chan (s : State) (ch : Nat) : Chan := sget (fun _ => {}) s.chans ch
/-- Set channel ch. -/
def State.setChan (s : State) (ch : Nat) (x : Chan) : State := { s with chans := sset (fun _ => {}) s.chans ch x }
/-- Engine e. -/
def State.engine (s : State) (e : Nat) : Engine := sget (fun _ => {}) s.engines e
/-- Set engine e. -/
def State.setEngine (s : State) (e : Nat) (x : Engine) : State := { s with engines := sset (fun _ => {}) s.engines e x }

/-! ## Channel registers (Table 11.14) -/

/-- Channel states of DMA_CHSTAT. -/
abbrev Ch.idle : Nat := 0
abbrev Ch.ready : Nat := 1
abbrev Ch.run : Nat := 2
abbrev Ch.waitCr : Nat := 3
abbrev Ch.waitOwn : Nat := 4
abbrev Ch.stopped : Nat := 5
abbrev Ch.halted : Nat := 6

def State.chSt (s : State) (ch : Nat) : Nat := s.fld (Reg.DMA_CHSTAT ch) 0 3
def State.setChSt (s : State) (ch v : Nat) : State := s.setFld (Reg.DMA_CHSTAT ch) 0 3 v
def State.chLinked (s : State) (ch : Nat) : Bool := s.bit (Reg.DMA_CHCFG ch) 0
def State.chTenant (s : State) (ch : Nat) : Nat := s.fld (Reg.DMA_CHOWN ch) 0 4
def State.chPace (s : State) (ch : Nat) : Nat := s.fld (Reg.DMA_CHPACE ch) 0 2
def State.chShValid (s : State) (ch : Nat) : Bool := s.bit (Reg.DMA_CHSTAT ch) 8
/-- Set bit i of DMA_CHIRQ. -/
def State.chIrq (s : State) (ch i : Nat) : State := (s.setBit (Reg.DMA_CHIRQ ch) i true).noteFlag (Reg.DMA_CHIRQ ch) i
/-- The channel's vector goes out (R341, R343): VEC of the owning function. -/
def State.chVec (s : State) (ch : Nat) : State := s.sendVec (s.chTenant ch) (s.fld (Reg.DMA_CHCFG ch) 5 11)
/-- DMA_CHIRQ bit i is set; HALT and STALL go to the channel's vector while enabled (R367, last paragraph). -/
def State.chIrqVec (s : State) (ch i : Nat) : State :=
  let s1 := s.chIrq ch i
  if s1.bit (Reg.DMA_CHIEN ch) i then s1.chVec ch else s1

/-- Credits held (R338); both registers show them. -/
def State.credits (s : State) (ch : Nat) : Nat := s.fld (Reg.DMA_CHCRED ch) 0 8
def State.setCredits (s : State) (ch n : Nat) : State :=
  (s.setFld (Reg.DMA_CHCRED ch) 0 8 n).setFld (Reg.DMA_CHSTAT ch) 16 8 n

/-- One credit for a paced channel (R338): beyond 255 it is counted as lost. A channel that waits becomes ready. -/
def State.dmaCredit (s : State) (ch : Nat) : State :=
  if 255 ≤ s.credits ch then (s.addSat (Reg.DMA_CHCRED ch) 16 16 1).chIrq ch 5
  else
    let s1 := s.setCredits ch (s.credits ch + 1)
    if s1.chSt ch = Ch.waitCr then (s1.setChSt ch Ch.ready).setChan ch { s1.chan ch with wait := none } else s1

/-- An event on the channel's subscription (consumer 32 + ch): a credit when PACE is 0b01. -/
def State.dmaEventCredit (s : State) (ch : Nat) : State := if s.chPace ch = 1 then s.dmaCredit ch else s

/-- A loaded channel is ready, or waits for a credit (R331, R339). -/
def State.chReady (s : State) (ch : Nat) : State :=
  if s.chPace ch ≠ 0 ∧ s.credits ch = 0 then
    (s.setChSt ch Ch.waitCr).setChan ch { s.chan ch with wait := some s.devTime }
  else s.setChSt ch Ch.ready

/-! ## Descriptors -/

/-- CTL fields (Table 11.6). -/
def Desc.mode (d : Desc) : Nat := fldOf d.ctl 0 2
def Desc.srcHost (d : Desc) : Bool := bitOf d.ctl 2
def Desc.dstHost (d : Desc) : Bool := bitOf d.ctl 3
def Desc.idxHost (d : Desc) : Bool := bitOf d.ctl 4
def Desc.idxBytes (d : Desc) : Nat := if bitOf d.ctl 5 then 8 else 4
/-- The descriptor moves by an index table. -/
def Desc.indexed (d : Desc) : Bool := d.mode == 1 || d.mode == 2
/-- Total bytes (R336). -/
def Desc.total (d : Desc) : Nat := if d.indexed then d.idxCnt * d.esize else d.len
/-- Elements: one per index entry, or pieces of 256 bytes (R330). -/
def Desc.count (d : Desc) : Nat := if d.indexed then d.idxCnt else (d.len + 255) / 256
/-- Bytes of element k. -/
def Desc.size (d : Desc) (k : Nat) : Nat := if d.indexed then d.esize else min 256 (d.len - 256 * k)
/-- Source and destination address of element k, given its index entry. -/
def Desc.srcAt (d : Desc) (k idx : Nat) : Nat :=
  if d.mode = 1 then d.src + idx else if d.mode = 2 then d.src + k * d.esize else d.src + 256 * k
def Desc.dstAt (d : Desc) (k idx : Nat) : Nat :=
  if d.mode = 1 then d.dst + k * d.esize else if d.mode = 2 then d.dst + idx else d.dst + 256 * k
/-- It names a host address. -/
def Desc.usesHost (d : Desc) : Bool :=
  d.dstHost || (d.srcHost && d.mode != 3) || (d.idxHost && d.indexed)

/-- Read a descriptor from its 64 bytes (Table 11.5). -/
def descOf (bs : List Byte) : Desc :=
  {
    src := leAt bs 0 8, dst := leAt bs 8 8, len := leAt bs 16 4, ctl := w32 (leAt bs 20 4), next := leAt bs 24 8
    idx := leAt bs 32 8, idxCnt := leAt bs 40 4, esize := leAt bs 44 2 }
/-- A malformed descriptor (R334): a reserved field not 0, a total above 16 MiB, or a NEXT off its boundary. -/
def Desc.bad (d : Desc) (res next : Nat) : Bool :=
  decide (fldOf d.ctl 22 10 ≠ 0) || decide (res ≠ 0) || decide (2 ^ 24 < d.total) || decide (next % 64 ≠ 0)

/-- The register set of channel ch at base (shadow at 0x100, active at 0x200) as a descriptor (Table 11.14). -/
def State.regDesc (s : State) (ch base : Nat) : Desc :=
  let k := Reg.DMA_CHCFG ch + base
  {
    src := s.rd64 k, dst := s.rd64 (k + 8), len := s.rdN (k + 16), ctl := s.rd (k + 20), next := 0
    idx := s.rd64 (k + 24), idxCnt := s.rdN (k + 32), esize := s.fld (k + 36) 0 16 }

/-- Pipeline n is withdrawn (R347): isolated, unbound, or its domain off. -/
def State.withdrawn (s : State) (n : Nat) : Bool :=
  s.bit (Reg.PIPE_STAT n) 6 || !s.bit (Reg.PIPE_BIND n) 0 || !s.clkOn (104 + n)
/-- The descriptor reads a withdrawn pipeline (R347). -/
def State.descWithdrawn (s : State) (d : Desc) : Bool := bitOf d.ctl 21 && s.withdrawn (fldOf d.ctl 14 7)

/-! ## Completion (R341 to R344) -/

/-- One credit to every channel paced by completions of ch (R338, R341). -/
def State.paceOthers (s : State) (ch : Nat) : State :=
  s.each ((List.range 512).filter (fun k => s.chPace k == 2 && s.fld (Reg.DMA_CHPACE k) 2 9 == ch)) (fun t k => t.dmaCredit k)

/-- A halt with LASTST already set: HALTED, DMA_CHIRQ.HALT (R344). -/
def State.chHalt (s : State) (ch : Nat) : State :=
  ((s.setChSt ch Ch.halted).setChan ch { s.chan ch with wait := none, stopping := false, want := 0 }).chIrqVec ch 2

/-- The engine that serves ch is free again. -/
def State.engineFree (s : State) (ch : Nat) : State :=
  let e := ch / 32
  if (s.engine e).ch = some ch then
    ((s.setEngine e { s.engine e with ch := none }).setBit (Reg.DMA_ENGSTAT e) 0 false).setBit (Reg.DMA_ENGSTAT e) 9 false
  else s

/-- HOSTEP_RDOUT: device reads outstanding. -/
def State.showReads (s : State) : State :=
  s.setFld Reg.HOSTEP_RDOUT 0 14 ((s.chans.filter (fun e => e.2.want == 1)).length)

/-- Load the shadow register set of ch as the active one (R333). -/
def State.loadShadow (s : State) (ch : Nat) : State :=
  let k := Reg.DMA_CHCFG ch
  let s1 := (s.wrList (k + 0x200) (s.rdList (k + 0x100) 10)).setBit (Reg.DMA_CHSTAT ch) 8 false
  (s1.setChan ch { wait := none, desc := some (s1.regDesc ch 0x200), addr := (s1.chan ch).addr }).chReady ch

/-- The access that a descriptor was at: the index entry, the source or the destination of its element k, with the
access type of Table 16.7. -/
def State.chAccess (s : State) (ch : Nat) (d : Desc) : Nat × Nat :=
  let x := s.chan ch
  let idx := nth x.table x.k 0
  if d.indexed && decide (x.table.length ≤ x.k) then (d.idx + x.k * d.idxBytes, 3)
  else if d.srcHost || (d.mode != 3 && (s.devAddr (s.chTenant ch) (d.srcAt x.k idx) (d.size x.k)).isNone) then
    (d.srcAt x.k idx, 0)
  else (d.dstAt x.k idx, 1)

/-- A fault of channel ch, with the access it names (R491). -/
def State.dmaFault (s : State) (ch i level addr access : Nat) : State :=
  s.report { sig := 8 * 256 + i, src := ch, level := level, t := s.devTime, addr := addr, master := 0x1000 + ch, access := access }

/-- The faults of a status (Table 11.10); d is the descriptor that ended. -/
def State.chFault (s : State) (ch st : Nat) (acc : Nat × Nat) : State :=
  if st = 3 then s.dmaFault ch 1 2 acc.1 acc.2
  else if st = 4 then s.dmaFault ch 2 1 acc.1 acc.2
  else if st = 5 then s.dmaFault ch 3 1 (s.chan ch).addr 2 else s

/-- What follows a completed descriptor: halt, stop, the next of the list, or the shadow (R333, R334, R344, R345). -/
def State.chNext (s : State) (ch : Nat) (d : Desc) (st : Nat) : State :=
  let x := s.chan ch
  let addr := if s.chLinked ch then d.next else x.addr
  let acc := s.chAccess ch d
  let s1 := s.setChan ch { addr := addr }
  let s2 := if s1.chLinked ch then s1.wr64 (Reg.DMA_CHCUR_LO ch) addr else s1
  if st = 3 ∨ st = 4 ∨ st = 5 then (s2.chHalt ch).chFault ch st acc
  else if x.stopping ∨ st = 6 then s2.setChSt ch Ch.stopped
  else if s2.chLinked ch then (if bitOf d.ctl 12 then s2.setChSt ch Ch.idle else s2.setChSt ch Ch.ready)
  else if s2.chShValid ch then s2.loadShadow ch
  else s2.setChSt ch Ch.idle

/-- The device address of n bytes at address a as channel ch reaches it: its tenant's range, or the bench region where the
crucible drives it (R326, R332). -/
def State.chAddr (s : State) (ch a n : Nat) : Option Nat :=
  if s.bit (Reg.DMA_CHOWN ch) 5 then (if a + n ≤ 0xB40000000 then some a else none) else s.devAddr (s.chTenant ch) a n

/-- A translation enters the cache: at most 512 of a function and 2,048 in all, the oldest leaving first (R371). -/
def atcAdd (l : List (Nat × Nat × Nat)) (f page dst : Nat) : List (Nat × Nat × Nat) :=
  let l1 := l.filter (fun e => !(e.1 == f && e.2.1 == page))
  let l2 := if 512 ≤ (l1.filter (fun e => e.1 == f)).length then l1.eraseP (fun e => e.1 == f) else l1
  (if 2048 ≤ l2.length then l2.drop 1 else l2) ++ [(f, page, dst)]
def State.atcPut (s : State) (f page dst : Nat) : State :=
  s.setHost { s.host with atc := atcAdd s.host.atc f page dst }

/-- A host page's translation for function f (R371). -/
def State.translate (s : State) (f a : Nat) : Option Nat :=
  (s.host.atc.find? (fun e => e.1 == f && e.2.1 == a / 4096)).map (fun e => e.2.2 * 4096 + a % 4096)
/-- The host address an access uses: translated when its bit and ATS Enable are set; none while a translation is due. -/
def State.hostAddr (s : State) (f : Nat) (at' : Bool) (a : Nat) : Option Nat :=
  if at' && s.bit (Reg.HOSTEP_FNSTAT f) 6 then s.translate f a else some a
/-- n bytes from a, cut at the pages of 4 KiB that are translated one by one: offset and length of each piece. -/
def pagePieces (a n : Nat) : List (Nat × Nat) :=
  (List.range ((a % 4096 + n + 4095) / 4096)).map (fun i =>
    let lo := max a ((a / 4096 + i) * 4096)
    (lo - a, min (a + n) ((a / 4096 + i + 1) * 4096) - lo))
/-- Every page of an access can be reached (R371). -/
def State.hostReady (s : State) (f : Nat) (at' : Bool) (a n : Nat) : Bool :=
  (pagePieces a n).all (fun p => (s.hostAddr f at' (a + p.1)).isSome)
/-- Write bytes to host address a of function f, page by page; none while a translation is due. -/
def State.hostPut (s : State) (f : Nat) (at' : Bool) (a : Nat) (bs : List Byte) : Option State :=
  if s.hostReady f at' a bs.length then
    some ((pagePieces a bs.length).foldl (fun t p => t.hostWrite ((s.hostAddr f at' (a + p.1)).getD 0) ((bs.drop p.1).take p.2)) s)
  else none

/-- Where the completion word of channel ch goes: CWORD, or DMA_CHWB in register-set mode (R333, R341). -/
def State.wordAddr (s : State) (ch : Nat) : Nat :=
  if s.chLinked ch then (s.chan ch).addr + 56 else s.rd64 (Reg.DMA_CHWB_LO ch)
/-- It lies in host memory: where the descriptor does, or the destination in register-set mode. -/
def State.wordHost (s : State) (ch : Nat) (d : Desc) : Bool :=
  if s.chLinked ch then s.bit (Reg.DMA_CHCFG ch) 1 else d.dstHost
/-- Its address is one that DESCAT marks as translated. -/
def State.wordAt (s : State) (ch : Nat) : Bool := s.chLinked ch && s.bit (Reg.DMA_CHCFG ch) 2
/-- The completion word of descriptor d can be written now: its translation, if one is due, is there (R371). -/
def State.wordReady (s : State) (ch : Nat) (d : Desc) : Bool :=
  !bitOf d.ctl 13 || !s.wordHost ch d || s.hostReady (s.chTenant ch) (s.wordAt ch) (s.wordAddr ch) 8

/-- The completion word of descriptor d goes to its place (R333, R341); false: the access lies outside the tenant's range,
so it is not performed (R327). Where its translation is missing it is not written (log entry 143). -/
def State.chWord (s : State) (ch : Nat) (d : Desc) (word : List Byte) : State × Bool :=
  let a := s.wordAddr ch
  if s.wordHost ch d then ((s.hostPut (s.chTenant ch) (s.wordAt ch) a word).getD s, true)
  else match s.chAddr ch a 8 with
    | some v => (s.devWrite v word, true)
    | none => (s.partViol (s.chTenant ch), false)

/-- The descriptor of ch completes with a status (R341): completion word, producer and credits, vector; then what comes
next. -/
def State.chComplete (s : State) (ch st : Nat) : State :=
  let x := s.chan ch
  match x.desc with
  | none => s
  | some d =>
    let word := leBytes 8 (2 + 16 * st + x.bytes % 2 ^ 32 * 2 ^ 32)
    let r := if bitOf d.ctl 13 then s.chWord ch d word else (s, true)
    let st := if r.2 then st else 3
    let s1 := r.1
    let s2 := (s1.produce (352 + ch)).paceOthers ch
    let s3 := s2.chIrq ch 1
    let s4 := if bitOf d.ctl 10 ∧ ¬(bitOf d.ctl 9 ∧ d.total ≤ 1 ∧ x.half) then s3.chVec ch else s3
    let s5 := (s4.addWrap (Reg.DMA_CHDONE ch) 0 32 1).setFld (Reg.DMA_CHSTAT ch) 4 4 st
    ((s5.engineFree ch).chNext ch d st).showReads

/-- A descriptor of the crucible on channel ch moved n bytes and completes with a status (R332, R341). -/
def State.cruDesc (s : State) (ch st n : Nat) : State :=
  let s1 := (((s.addWrap (Reg.DMA_CHDONE ch) 0 32 1).setFld (Reg.DMA_CHSTAT ch) 4 4 st)).chIrq ch 1
  let k := Reg.DMA_ENGBYTES_LO (ch / 32)
  let s2 := (s1.wr64 k (s1.rd64 k + n)).setEngine (ch / 32) { s1.engine (ch / 32) with last := ch % 32 }
  (s2.produce (352 + ch)).paceOthers ch
/-- n bytes of an image run as descriptors of at most 256 KiB (R332). -/
def State.cruRun (s : State) (ch n : Nat) : State :=
  s.each (List.range ((n + 262143) / 262144)) (fun t i => t.cruDesc ch 0 (min 262144 (n - 262144 * i)))

/-- The descriptor at the channel's address cannot be had: it ends with a status, and the list with it (R344). -/
def State.chLost (s : State) (ch st : Nat) : State :=
  (s.setChan ch { s.chan ch with desc := some { next := (s.chan ch).addr }, want := 0 }).chComplete ch st

/-! ## Moving data (R336, R337) -/

/-- What one try at an element gives: blocked on a host read or a translation, an end with a status, or the state with
the element moved. -/
inductive Move where
  | blocked (want : Nat)
  | stop (st : Nat)
  | moved (s : State)
  deriving DecidableEq, Repr

/-- Take n bytes of an operand: from device memory, or from the host bytes at hand. The bytes, poison, and what stays
at hand. -/
def State.fetchBytes (s : State) (ch : Nat) (host at' : Bool) (a n : Nat) : Except (Option Nat) (List Byte × Bool × Chan) :=
  let x := s.chan ch
  let t := s.chTenant ch
  if host then
    if !s.hostReady t at' a n then .error (some 2)
    else if x.buf.length < n then .error (some 1)
    else .ok (x.buf.take n, x.bufPoison, { x with
      buf := x.buf.drop n, bufPoison := x.bufPoison && decide (n < x.buf.length) })
  else match s.devAddr t a n with
    | none => .error none
    | some d => .ok ((s.devRead d n).1, (s.devRead d n).2, x)

/-- The half of a transfer is reached (R343). -/
def State.chHalf (s : State) (ch : Nat) (d : Desc) : State :=
  let x := s.chan ch
  if x.half = false ∧ max 1 (d.total / 2) ≤ x.bytes then
    let s1 := (s.setChan ch { x with half := true }).chIrq ch 0
    if bitOf d.ctl 9 then s1.chVec ch else s1
  else s

/-- Store an element: its bytes go to the destination, with their poison mark (R344), and are counted. -/
def State.storeBytes (s : State) (ch : Nat) (d : Desc) (a : Nat) (bs : List Byte) (poison : Bool) : Move :=
  let t := s.chTenant ch
  let count : State → State := fun u =>
    let x := u.chan ch
    let u1 := u.setChan ch { x with
      k := x.k + 1, bytes := x.bytes + bs.length, stat := if poison then 2 else x.stat, want := 0 }
    (u1.wr64 (Reg.DMA_ENGBYTES_LO (ch / 32)) (u1.rd64 (Reg.DMA_ENGBYTES_LO (ch / 32)) + bs.length)).chHalf ch d
  if d.dstHost then
    match s.hostPut t (bitOf d.ctl 7) a bs with
    | some u => .moved (count u)
    | none => .blocked 2
  else match s.devAddr t a bs.length with
    | some v => .moved (count (if poison then s.devWritePoison v bs else s.devWrite v bs))
    | none => .stop 3

/-- Move element k of the descriptor of ch (R336, R337). -/
def State.moveOne (s : State) (ch : Nat) (d : Desc) : Move :=
  let x := s.chan ch
  let k := x.k
  if d.indexed && decide (x.table.length ≤ k) then
    match s.fetchBytes ch d.idxHost (bitOf d.ctl 8) (d.idx + k * d.idxBytes) d.idxBytes with
    | .error (some w) => .blocked w
    | .error none => .stop 3
    | .ok (bs, p, y) => .moved (s.setChan ch { y with table := y.table ++ [leNat bs], stat := if p then 2 else y.stat })
  else
    let idx := nth x.table k 0
    let n := d.size k
    if d.mode = 3 then
      let pat := leBytes 8 d.src
      s.storeBytes ch d (d.dstAt k idx) ((List.range n).map (fun b => nth pat (b % 8) 0#8)) false
    else
      match s.fetchBytes ch d.srcHost (bitOf d.ctl 6) (d.srcAt k idx) n with
      | .error (some w) => .blocked w
      | .error none => .stop 3
      | .ok (bs, p, y) =>
        match (s.setChan ch y).storeBytes ch d (d.dstAt k idx) bs p with
        | .blocked w => .blocked w
        | .stop st => .stop st
        | .moved t => .moved t

/-- The descriptor of ch ends with a status once its last write has left; with FENCE it waits for its writes (R342). -/
def State.chFinish (s : State) (ch st : Nat) : State :=
  (s.setChan ch { s.chan ch with stat := st, done := true, want := 0 }).showReads

/-- An access outside the range is counted (R327). -/
def State.chStop (s : State) (ch st : Nat) : State :=
  (if st = 3 then s.partViol (s.chTenant ch) else s).chFinish ch st

/-- Run the descriptor of ch as far as it goes, at most n moves. -/
def State.chRun : Nat → State → Nat → Desc → State
  | 0, s, _, _ => s
  | n + 1, s, ch, d =>
    if s.descWithdrawn d then s.chFinish ch 1
    else if d.count ≤ (s.chan ch).k then s.chFinish ch (s.chan ch).stat
    else match s.moveOne ch d with
      | .blocked w => (s.setChan ch { s.chan ch with want := w, wantT := s.devTime }).showReads
      | .stop st => s.chStop ch st
      | .moved t => State.chRun n t ch d

/-- Run channel ch on its engine. -/
def State.chGo (s : State) (ch : Nat) : State :=
  match (s.chan ch).desc with
  | some d => if (s.chan ch).done then s else s.chRun (2 * d.count + 2) ch d
  | none => s

/-! ## Stops and resets -/

/-- STOP (R345): the descriptor in progress completes; a channel that waits stops at once. -/
def State.chStopCmd (s : State) (ch : Nat) : State :=
  let st := s.chSt ch
  if st = Ch.run then s.setChan ch { s.chan ch with stopping := true }
  else if st = Ch.halted then s
  else (s.setChSt ch Ch.stopped).setChan ch { s.chan ch with wait := none }

/-- Channels of tenant t, as DMA_CHOWN shows; PF0 has those that are assigned to no tenant (R23). -/
def State.chOf (s : State) (t ch : Nat) : Bool := if s.bit (Reg.DMA_CHOWN ch) 4 then s.chTenant ch == t else t == 0
def State.tenantChans (s : State) (t : Nat) : List Nat := (List.range 512).filter (s.chOf t)

/-- Every channel of tenant t falls silent (R346): nothing of its descriptors completes, and its registers return to
reset, DMA_CHOWN excepted. -/
def State.chansSilent (s : State) (t : Nat) : State :=
  (s.each (s.tenantChans t) (fun u ch =>
    let own := u.rd (Reg.DMA_CHOWN ch)
    let base := Reg.DMA_CHCFG ch
    let u1 : State := { (u.engineFree ch) with regs := skeep (fun k => !(decide (base ≤ k) && decide (k < base + 0x300))) (u.engineFree ch).regs }
    (u1.wr (Reg.DMA_CHOWN ch) own).setChan ch {})).showReads

/-- Channels of tenant t stop at a descriptor boundary (Table 12.9). -/
def State.chansStop (s : State) (t : Nat) : State := s.each (s.tenantChans t) (fun u ch => u.chStopCmd ch)

/-- Pipeline n has been withdrawn: descriptors in progress that read it complete at once (R347). -/
def State.pipeWithdraw (s : State) (n : Nat) : State :=
  s.each (List.range 512) (fun t ch =>
    match (t.chan ch).desc with
    | some d => if t.chSt ch == Ch.run && bitOf d.ctl 21 && fldOf d.ctl 14 7 == n then t.chComplete ch 1 else t
    | none => t)

/-- Every channel of tenant t with work halts with HOSTERR (Table 16.3, class 9). -/
def State.chansHostErr (s : State) (t : Nat) : State :=
  s.each (s.tenantChans t) (fun u ch =>
    ((u.setFld (Reg.DMA_CHSTAT ch) 4 4 4).engineFree ch).chHalt ch)

/-- The data link goes down while PCIE_PERST_N is high (R382): outstanding reads end with HOSTERR, and the touchstone resets the
device. -/
def State.linkDown (s : State) : State :=
  if s.bit Reg.HOSTEP_LINK 14 && !s.boot.perst then
    let s1 := (s.wr Reg.HOSTEP_LINK 0#32).epIrq 0
    let s2 := s1.each ((List.range 512).filter (fun ch => (s1.chan ch).want != 0)) (fun t ch => t.chComplete ch 4)
    s2.epFault 10 0 4 0 0
  else s

end Sys2Proof.Machine
end

