-- ==== Sys2Proof/Machine/Dma.lean ====
section
/-!
DEFINITION. The meanings of the DMA commands (chapter 11, and the completions of chapter 12 that end a descriptor).
-/
namespace Sys2Proof.Machine
open Sys2Proof

/-! ## DMA_CHCMD (R333, R335, R344, R345) -/

/-- START (R344, R345): a channel whose PACE is reserved halts with BADDESC (R338); else an idle channel begins at HEAD,
a stopped one goes on. -/
def State.chStart (s : State) (ch : Nat) : State :=
  let st := s.chSt ch
  if st = Ch.idle ∨ st = Ch.stopped then
    if s.chPace ch = 3 then
      (((s.setFld (Reg.DMA_CHSTAT ch) 4 4 5).chHalt ch).dmaFault ch 3 1 (s.chan ch).addr 2)
    else if s.chLinked ch then
      let a := if st = Ch.idle then s.rd64 (Reg.DMA_CHHEAD_LO ch) else (s.chan ch).addr
      ((s.setChan ch { addr := a }).wr64 (Reg.DMA_CHCUR_LO ch) a).setChSt ch Ch.ready
    else if (s.chan ch).desc.isSome then s.chReady ch
    else if s.chShValid ch then s.loadShadow ch
    else s.setChSt ch Ch.idle
  else s

/-- GO (R333): the shadow is marked valid, and becomes active at once where nothing is; a second GO sets GOERR. -/
def State.chGoCmd (s : State) (ch : Nat) : State :=
  if s.chShValid ch then s.chIrqVec ch 4
  else
    let s1 := s.setBit (Reg.DMA_CHSTAT ch) 8 true
    let st := s1.chSt ch
    if !s1.chLinked ch && (s1.chan ch).desc.isNone && st != Ch.stopped && st != Ch.halted then s1.loadShadow ch else s1

/-- KICK (R335): a channel in WAITOWN reads its descriptor again. -/
def State.chKick (s : State) (ch : Nat) : State :=
  if s.chSt ch = Ch.waitOwn then s.setChSt ch Ch.ready else s

/-- CLRERR (R344): the halt ends; START resumes. -/
def State.chClrErr (s : State) (ch : Nat) : State :=
  if s.chSt ch = Ch.halted then s.setChSt ch Ch.stopped else s

/-- CLRCNT (R338): the counts and the credits are cleared. -/
def State.chClrCnt (s : State) (ch : Nat) : State :=
  let s1 := ((s.wr (Reg.DMA_CHDONE ch) 0#32).wr (Reg.DMA_CHCRED ch) 0#32).setFld (Reg.DMA_CHSTAT ch) 16 8 0
  if s1.chSt ch = Ch.ready ∧ (s1.chan ch).desc.isSome then s1.chReady ch else s1

/-- The DMA unit's clock for the engine of channel ch runs (Table 15.3). -/
def State.dmaOn (s : State) (ch : Nat) : Bool := s.clkOn (208 + ch / 32)

/-- CHCMD_START (R344, R345). -/
def execChcmdStart (ch : Fin 512) (s : State) : Res := s.alive fun s => s.reach 0 (Reg.DMA_CHCMD ch.val) fun s =>
  .next (if s.dmaOn ch.val then s.chStart ch.val else s)
/-- CHCMD_STOP (R345). -/
def execChcmdStop (ch : Fin 512) (s : State) : Res := s.alive fun s => s.reach 0 (Reg.DMA_CHCMD ch.val) fun s =>
  .next (if s.dmaOn ch.val then s.chStopCmd ch.val else s)
/-- GO (R333). -/
def execGo (ch : Fin 512) (s : State) : Res := s.alive fun s => s.reach 0 (Reg.DMA_CHCMD ch.val) fun s =>
  .next (if s.dmaOn ch.val then s.chGoCmd ch.val else s)
/-- KICK (R335). -/
def execKick (ch : Fin 512) (s : State) : Res := s.alive fun s => s.reach 0 (Reg.DMA_CHCMD ch.val) fun s =>
  .next (if s.dmaOn ch.val then s.chKick ch.val else s)
/-- CLRERR (R344). -/
def execClrerr (ch : Fin 512) (s : State) : Res := s.alive fun s => s.reach 0 (Reg.DMA_CHCMD ch.val) fun s =>
  .next (if s.dmaOn ch.val then s.chClrErr ch.val else s)
/-- CHCMD_CLRCNT (R338). -/
def execChcmdClrcnt (ch : Fin 512) (s : State) : Res := s.alive fun s => s.reach 0 (Reg.DMA_CHCMD ch.val) fun s =>
  .next (if s.dmaOn ch.val then s.chClrCnt ch.val else s)

/-- MBX_DMAKICK (R395): a channel that the function's tenant owns and the crucible does not drive gets a KICK; any
other write is ignored and counted. -/
def execMbxDmakick (f : Fin 16) (ch : Fin 512) (s : State) : Res :=
  s.alive fun s => s.reach f.val (Reg.MBX_DMAKICK 0 ch.val) fun s =>
  let c := ch.val
  if s.chOf f.val c ∧ s.bit (Reg.DMA_CHOWN c) 5 = false ∧ s.dmaOn c then .next (s.chKick c)
  else .next (s.addSat (Reg.MBX_ERR f.val) 0 16 1)

/-! ## Engines (R331) -/

/-- Channel ch could start now: ready with a descriptor, a credit if paced, and no host address while the data link is
down (R331, R338, R382). -/
def State.chCan (s : State) (ch : Nat) : Bool :=
  s.chSt ch == Ch.ready && (decide (s.chPace ch = 0) || decide (0 < s.credits ch)) &&
  match (s.chan ch).desc with
  | some d => !d.usesHost || s.bit Reg.HOSTEP_LINK 14
  | none => false

/-- The channel that engine e picks: the highest PRIO, round robin from the one after the last it served (R331). -/
def State.enginePick (s : State) (e : Nat) : Option Nat :=
  let order := (List.range 32).map (fun i => 32 * e + ((s.engine e).last + 1 + i) % 32)
  let ready := order.filter s.chCan
  let top := maxList (ready.map (fun ch => s.fld (Reg.DMA_CHCFG ch) 3 2))
  ready.find? (fun ch => s.fld (Reg.DMA_CHCFG ch) 3 2 == top)

/-- Channel ch enters service on its engine, spends its credit (R338) and runs its descriptor as far as it goes. -/
def State.chBegin (s : State) (ch : Nat) : State :=
  let e := ch / 32
  let s1 := s.setEngine e { ch := some ch, last := ch % 32 }
  let s2 := ((s1.setFld (Reg.DMA_ENGSTAT e) 4 5 (ch % 32)).setBit (Reg.DMA_ENGSTAT e) 9 true).setBit (Reg.DMA_ENGSTAT e) 0 true
  let s3 := if s2.chPace ch ≠ 0 then s2.setCredits ch (s2.credits ch - 1) else s2
  let s4 := s3.setChSt ch Ch.run
  match (s4.chan ch).desc with
  | some d => if d.bad 0 0 then s4.chFinish ch 5 else s4.chGo ch
  | none => s4

/-- ENGINE_PICK (R331): a free, enabled engine takes a ready channel. -/
def execEnginePick (e : Fin 16) (dt : Nat) (s : State) : Res := s.alive fun s =>
  let s := s.pass dt
  if s.clkOn (208 + e.val) && s.bit (Reg.DMA_ENGCTL e.val) 0 && !s.bit (Reg.DMA_ENGSTAT e.val) 10 && (s.engine e.val).ch.isNone then
    match s.enginePick e.val with
    | some ch => .next (s.chBegin ch)
    | none => .next s
  else .next s

/-! ## Descriptors (R334, R335) -/

/-- The 64 bytes at the channel's next descriptor: from the host's completion when DESCSP is set, else from device
memory; a crucible channel's lie in the bench region (R332). None: outside the tenant's range. -/
def State.descBytes (s : State) (ch : Nat) (host : List Byte) : Option (List Byte × Bool) :=
  let a := (s.chan ch).addr
  if s.bit (Reg.DMA_CHCFG ch) 1 then some (host, false)
  else (s.chAddr ch a 64).map (fun d => s.devRead d 64)

/-- A descriptor as fetched (R334, R335): OWN 0 parks the channel; a bad one completes with BADDESC; a poisoned one
carries the mark (R319). -/
def State.takeDesc (s : State) (ch : Nat) (bs : List Byte) (poison : Bool) : State :=
  let d := descOf bs
  let s1 := s.wr64 (Reg.DMA_CHCUR_LO ch) (s.chan ch).addr
  let x : Chan := { addr := (s.chan ch).addr, desc := some d, stat := if poison then 2 else 0 }
  if leAt bs 56 8 % 2 = 0 then (s1.setChan ch { addr := x.addr }).setChSt ch Ch.waitOwn
  else if d.bad (leAt bs 46 2) d.next then (s1.setChan ch x).chComplete ch 5
  else (s1.setChan ch x).chReady ch

/-- DESCRIPTOR_FETCH (R334): a linked channel that is ready and has no descriptor reads its next one. `host` is what the
host read returns where descriptors lie in host memory; fewer than 64 bytes are a read that failed (R344 HOSTERR). Where
the address awaits its translation, the channel asks for one (R371). -/
def execDescriptorFetch (ch : Fin 512) (host : List Byte) (dt : Nat) (s : State) : Res := s.alive fun s =>
  let s := s.pass dt
  let c := ch.val
  if s.dmaOn c && s.chLinked c && s.chSt c == Ch.ready && (s.chan c).desc.isNone then
    if s.bit (Reg.DMA_CHCFG c) 1 && !s.bit Reg.HOSTEP_LINK 14 then .next s
    else if s.bit (Reg.DMA_CHCFG c) 1 && !s.hostReady (s.chTenant c) (s.bit (Reg.DMA_CHCFG c) 2) (s.chan c).addr 64 then
      .next (s.setChan c { s.chan c with want := 2, wantT := s.devTime })
    else if s.bit (Reg.DMA_CHCFG c) 1 && decide (host.length < 64) then .next (s.chLost c 4)
    else match s.descBytes c host with
      | some (bs, p) => .next (s.takeDesc c bs p)
      | none => .next ((s.partViol (s.chTenant c)).chLost c 3)
  else .next s

/-! ## Completion (R341, R342) -/

/-- The channel in service on engine e whose last write has left, with its descriptor. -/
def State.doneOn (s : State) (e : Nat) : Option (Nat × Desc × Nat) :=
  match (s.engine e).ch with
  | some ch =>
    (match (s.chan ch).desc with
    | some d => if (s.chan ch).done then some (ch, d, (s.chan ch).stat) else none
    | none => none)
  | none => none

/-- A descriptor waits for its writes to arrive (R342). -/
def Desc.fenced (d : Desc) : Bool := bitOf d.ctl 11

/-- The descriptor of ch completes, once the translation that its completion word needs is there (R371). -/
def State.chEnd (s : State) (ch : Nat) (d : Desc) (st : Nat) : State :=
  if s.wordReady ch d then s.chComplete ch st
  else s.setChan ch { s.chan ch with want := 2, wantT := s.devTime }

/-- DESCRIPTOR_COMPLETE (R341): the last write has left the engine. -/
def execDescriptorComplete (e : Fin 16) (dt : Nat) (s : State) : Res := s.alive fun s =>
  let s := s.pass dt
  match s.doneOn e.val with
  | some (ch, d, st) => .next (if d.fenced && !(st == 1 || st == 5 || st == 6) then s else s.chEnd ch d st)
  | none => .next s

/-- FENCE_READ_RETURN (R342): the zero-length read after a host destination's writes returns. -/
def execFenceReadReturn (e : Fin 16) (dt : Nat) (s : State) : Res := s.alive fun s =>
  let s := s.pass dt
  match s.doneOn e.val with
  | some (ch, d, st) => .next (if d.fenced && d.dstHost then s.chEnd ch d st else s)
  | none => .next s

/-- FABRIC_WRITE_ACK (R342): the fabric has acknowledged every write to device memory. -/
def execFabricWriteAck (e : Fin 16) (dt : Nat) (s : State) : Res := s.alive fun s =>
  let s := s.pass dt
  match s.doneOn e.val with
  | some (ch, d, st) => .next (if d.fenced && !d.dstHost then s.chEnd ch d st else s)
  | none => .next s

/-- STALL (R339): no credit for DMA_CHSTALL µs, where 0 acts as 1. -/
def execStall (ch : Fin 512) (dt : Nat) (s : State) : Res := s.alive fun s =>
  let s := s.pass dt
  let c := ch.val
  match (s.chan c).wait with
  | some t0 =>
    if s.dmaOn c && s.chSt c == Ch.waitCr && decide (t0 + usTicks (max 1 (s.fld (Reg.DMA_CHSTALL c) 0 24)) ≤ s.devTime) then
      .next (((s.chHalt c).chIrqVec c 3).dmaFault c 4 1 0 0)
    else .next s
  | none => .next s

/-! ## Engine and fabric errors (Table 11.10) -/

/-- Another engine of the same kind, in service, for a channel of engine e: DE0 to DE3 are record engines (R332). -/
def State.otherEngine (s : State) (e : Nat) : Option Nat :=
  (List.range 16).find? (fun k => k != e && (decide (k < 4) == decide (e < 4)) && !s.bit (Reg.DMA_ENGSTAT k) 10)

/-- A free channel of engine e: no tenant owns it. -/
def State.freeChan (s : State) (e : Nat) : Option Nat :=
  ((List.range 32).map (· + 32 * e)).find? (fun ch => !s.bit (Reg.DMA_CHOWN ch) 4)

/-- Bench firmware rebinds a ring's channel on another engine of the same kind (Table 11.10): the tenant's unused
channel there, else a free one, takes over the crucible's use. -/
def State.rebindRing (s : State) (f r : Nat) : State :=
  let old := (s.ring f r).ch
  match s.otherEngine (old / 32) with
  | none => s
  | some e =>
    match ((List.range 32).map (· + 32 * e)).find? (fun ch =>
        (s.bit (Reg.DMA_CHOWN ch) 4 && s.chTenant ch == f && !s.bit (Reg.DMA_CHOWN ch) 5 && s.chSt ch == Ch.idle)) with
    | some ch =>
      ((s.setBit (Reg.DMA_CHOWN old) 5 false).setBit (Reg.DMA_CHOWN ch) 5 true).setRing f r { s.ring f r with ch := ch }
    | none =>
      match s.freeChan e with
      | some ch =>
        ((s.setBit (Reg.DMA_CHOWN old) 5 false).wr (Reg.DMA_CHOWN ch) (w32 (f + 16 + 32))).setRing f r { s.ring f r with ch := ch }
      | none => s

/-- The delivery rings whose channel lies on engine e. -/
def State.ringsOn (s : State) (e : Nat) : List (Nat × Nat) :=
  (s.rings.filter (fun x => x.2.ch / 32 == e)).map (fun x => (x.1 / 16, x.1 % 16))

/-- Rings on isolated engines are bound elsewhere, while the bench is in service (R390). -/
def State.ringsRebind (s : State) : State :=
  if s.fwDuty 3 then
    s.each ((List.range 16).filter (fun e => s.bit (Reg.DMA_ENGSTAT e) 10)) (fun t e =>
      t.each (t.ringsOn e) (fun u fr => u.rebindRing fr.1 fr.2))
  else s

/-- BUF_UE (Table 11.10): engine e isolates itself, its channels halt with HOSTERR, their rings move. -/
def execBufUe (e : Fin 16) (dt : Nat) (s : State) : Res := s.alive fun s =>
  let s := s.pass dt
  let e := e.val
  if s.clkOn (208 + e) then
    let s1 := ((s.setBit (Reg.DMA_ENGSTAT e) 10 true).addSat (Reg.DMA_ENGECC e) 16 16 1).fault 8 6 (32 * e) 2
    let s2 := s1.each ((List.range 32).map (· + 32 * e)) (fun t ch =>
      (((t.setFld (Reg.DMA_CHSTAT ch) 4 4 4).engineFree ch).setChan ch { addr := (t.chan ch).addr }).chHalt ch)
    .next (s2.ringsRebind.showReads)
  else .next s

/-- BUF_CE (Table 11.10). -/
def execBufCe (e : Fin 16) (dt : Nat) (s : State) : Res := s.alive fun s =>
  let s := s.pass dt
  if s.clkOn (208 + e.val) then .next ((s.addSat (Reg.DMA_ENGECC e.val) 0 16 1).fault 8 5 (32 * e.val) 0) else .next s

/-- FAB_UE (Table 16.2): an L4 fault. -/
def execFabUe (dt : Nat) (s : State) : Res := s.alive fun s => .next ((s.pass dt).fault 8 7 0 4)

/-- STOP_WAIT_END (R348): ten milliseconds after a forced power-down stopped them, channels still in a descriptor that
use the domain are cut: domain 22 and 23 are PD_MEM0 and PD_MEM1. -/
def State.chCut (s : State) (ch : Nat) : State :=
  match (s.chan ch).desc with
  | some d => if s.chSt ch = Ch.run then s.chComplete ch (if s.descWithdrawn d then 1 else 6) else s
  | none => s

end Sys2Proof.Machine
end

