-- ==== Sys2Proof/Machine/MboxOps.lean ====
section
/-!
DEFINITION. The shared operations of the mailbox (chapter 13): reading a command from its slot (Table 13.4), the objects
it names (R396), statuses and their rank (R400), answers and notices (R394, R397, R408), register-pair lists (R399).
-/
namespace Sys2Proof.Machine
open Sys2Proof

/-! ## Commands -/

/-- Status codes (Table 13.6). -/
abbrev St.ok : Nat := 0
abbrev St.deferred : Nat := 1
abbrev St.capacity : Nat := 2
abbrev St.isolation : Nat := 3
abbrev St.badParam : Nat := 4
abbrev St.aborted : Nat := 5
abbrev St.busy : Nat := 6
abbrev St.noObject : Nat := 7
abbrev St.timeout : Nat := 8
abbrev St.cycle : Nat := 9
abbrev St.state : Nat := 10
abbrev St.fenced : Nat := 11
abbrev St.badOpcode : Nat := 12
abbrev St.authFailed : Nat := 13
abbrev St.transferFailed : Nat := 14

/-- Rank of a status; the lowest rank that applies is answered (R400). -/
def statusRank (st : Nat) : Nat :=
  if st = 12 then 1 else if st = 11 then 2 else if st = 3 then 3 else if st = 4 then 4 else if st = 7 then 5
  else if st = 10 then 6 else if st = 6 then 7 else if st = 9 then 8 else if st = 2 then 9 else 10

/-- The status of lowest rank among those whose condition holds; OK when none does (R400). -/
def pickStatus (l : List (Bool × Nat)) : Nat :=
  l.foldl (fun best e => if e.1 && (best == 0 || decide (statusRank e.2 < statusRank best)) then e.2 else best) 0

/-- The command in slot s of function f, as firmware reads it (Table 13.4). -/
def State.readCmd (s : State) (f slot : Nat) : Cmd :=
  let b := s.rdBytes (Reg.MBX_SLOT f (256 * slot)) 256
  let len := leAt b 10 2
  {
    f := f, slot := slot, op := leAt b 0 2, flags := leAt b 2 2, seq := leAt b 4 4, tenant := leAt b 8 1, len := len
    payload := b.drop 16, t := s.devTime
    bad := decide (240 < len) || decide (leAt b 9 1 ≠ 0) || decide (leAt b 12 4 ≠ 0) || decide (4 ≤ leAt b 2 2) }

/-- Field of the payload: n bytes from offset o. -/
def Cmd.at (c : Cmd) (o n : Nat) : Nat := leAt c.payload o n
/-- FLAGS.FORCE and FLAGS.IRQ. -/
def Cmd.force (c : Cmd) : Bool := c.flags % 2 == 1
def Cmd.irq (c : Cmd) : Bool := c.flags / 2 % 2 == 1
/-- The header is malformed, the payload is shorter than the fixed part, or a reserved byte range is not 0 (R398). -/
def Cmd.short (c : Cmd) (fixed : Nat) (res : List (Nat × Nat)) : Bool :=
  c.bad || decide (c.len < fixed) || res.any (fun r => decide (c.at r.1 r.2 ≠ 0))

/-- The opcodes of Tables 13.9 and 13.11 to 13.19, and whether only PF0 may issue each. -/
def opTable : List (Nat × Bool) :=
  [(0x0101, false), (0x0102, true), (0x0103, true), (0x0104, true), (0x0105, false), (0x0106, false), (0x0107, false)] ++
  [(0x0201, false), (0x0202, false), (0x0203, false), (0x0204, false), (0x0205, false), (0x0206, false), (0x0207, false)] ++
  [(0x0208, false), (0x0209, true)] ++
  [(0x0301, false), (0x0302, false), (0x0303, false), (0x0304, false), (0x0305, false), (0x0306, false), (0x0307, false)] ++
  [(0x0401, false), (0x0402, false), (0x0403, false), (0x0404, false), (0x0405, false), (0x0406, false), (0x0407, false)] ++
  [(0x0408, false), (0x0409, false), (0x040A, false), (0x040B, false), (0x040C, false), (0x040D, false)] ++
  [(0x0501, false), (0x0502, false), (0x0503, false), (0x0504, false), (0x0505, false), (0x0506, false), (0x0507, false)] ++
  [(0x0508, false)] ++
  [(0x0601, false), (0x0602, false), (0x0603, false), (0x0604, false), (0x0605, false), (0x0606, false), (0x0607, false)] ++
  [(0x0608, false), (0x0609, false)] ++
  [(0x0701, false), (0x0702, false), (0x0703, false), (0x0704, false), (0x0705, true), (0x0706, false), (0x0707, false)] ++
  [(0x0708, false), (0x0709, false), (0x070A, false), (0x070B, false)] ++
  [(0x0801, false), (0x0802, true), (0x0803, true), (0x0804, true), (0x0805, true), (0x0806, true)] ++
  [(0x0901, false), (0x0902, true), (0x0903, true), (0x0904, true), (0x0905, false)] ++
  [(0x0A01, false), (0x0A02, true), (0x0A03, true), (0x0A04, true), (0x0A05, false)] ++
  [(0x0B01, false), (0x0B02, true), (0x0B03, true), (0x0B04, true), (0x0B05, true)]

def opListed (op : Nat) : Bool := opTable.any (fun e => e.1 == op)
def opPf0 (op : Nat) : Bool := opTable.any (fun e => e.1 == op && e.2)

/-- Commands that a fenced device answers (R407): names that end in INFO, STATUS, QUERY or READ, the 0x08xx group and
FAULT_ACK. -/
def opWhenFenced (op : Nat) : Bool :=
  op / 256 == 8 ||
  [0x0101, 0x0105, 0x0203, 0x0206, 0x0307, 0x0403, 0x0409, 0x0508, 0x0604, 0x0609, 0x0706, 0x070A, 0x070B, 0x0901,
   0x0902, 0x0A01, 0x0A05, 0x0B01].contains op

/-- Kinds of object that commands name (R396). -/
abbrev Obj.tenant : Nat := 0
abbrev Obj.camera : Nat := 1
abbrev Obj.lane : Nat := 2
abbrev Obj.pipe : Nat := 3
abbrev Obj.axis : Nat := 4
abbrev Obj.gen : Nat := 5
abbrev Obj.list : Nat := 6
abbrev Obj.pin : Nat := 7
abbrev Obj.evch : Nat := 8
abbrev Obj.page : Nat := 9
abbrev Obj.view : Nat := 10
abbrev Obj.set : Nat := 11
abbrev Obj.plane : Nat := 12
abbrev Obj.ring : Nat := 13
abbrev Obj.dma : Nat := 14
abbrev Obj.cls : Nat := 15
abbrev Obj.domain : Nat := 16

/-- The objects a command names (R396): kind and number. -/
def Cmd.objects (c : Cmd) : List (Nat × Nat) :=
  let b := c.at 0 1
  let op := c.op
  if op = 0x0107 then [(Obj.tenant, c.tenant)]
  else if op / 256 = 1 then (if op = 0x0101 then [] else [(Obj.tenant, b)])
  else if op = 0x0201 then
    [(Obj.camera, b), (Obj.axis, c.at 7 1), (Obj.lane, c.at 2 1)] ++ (List.range 8).map (fun i => (Obj.lane, c.at (8 + i) 1))
  else if op = 0x0209 then [(Obj.lane, c.at 0 2)]
  else if op / 256 = 2 then [(Obj.camera, b)]
  else if op = 0x0301 then [(Obj.camera, b)] ++ (List.range 8).map (fun i => (Obj.pipe, c.at (8 + i) 1))
  else if op / 256 = 3 then [(Obj.camera, b)]
  else if op = 0x0404 then []
  else if op ≤ 0x0403 then [(Obj.axis, b)]
  else if op ≤ 0x0406 then [(Obj.gen, b)]
  else if op ≤ 0x0409 then [(Obj.list, b)]
  else if op = 0x040A then [(Obj.pin, 64 * b + c.at 1 1)]
  else if op ≤ 0x040C then [(Obj.evch, c.at 2 1)]
  else if op = 0x040D then [(Obj.evch, b)]
  else if op = 0x0501 ∨ op = 0x0502 ∨ op = 0x0508 then [(Obj.page, c.at 0 4)]
  else if op = 0x0503 then [(Obj.view, b), (Obj.page, c.at 4 4)]
  else if op = 0x0504 then [(Obj.view, b)]
  else if op = 0x0505 ∨ op = 0x0506 then [(Obj.set, b)]
  else if op = 0x0507 then [(Obj.camera, b)]
  else if op / 256 = 6 then [(Obj.plane, b)]
  else if op = 0x0703 then [(Obj.camera, b)]
  else if op = 0x0704 then [(Obj.camera, b), (Obj.ring, 16 * c.tenant + c.at 1 1)]
  else if op = 0x0705 then [(Obj.tenant, b)]
  else if op = 0x070B then []
  else if op ≤ 0x0706 then [(Obj.ring, 16 * c.tenant + b)]
  else if op / 256 = 7 then [(Obj.dma, c.at 0 2)]
  else if op = 0x0902 ∨ op = 0x0903 ∨ op = 0x0904 then [(Obj.cls, b)]
  else if op = 0x0A02 then [(Obj.domain, 16 + b)]
  else if op = 0x0A03 then [(Obj.domain, b)]
  else []

/-- Two commands name a common object. -/
def Cmd.shares (a b : Cmd) : Bool := a.objects.any (fun o => b.objects.contains o)

/-- The core whose duties a command is (Table 13.1); positions, triggers and routes run with mailbox dispatch. -/
def Cmd.core (c : Cmd) : Nat :=
  let g := c.op / 256
  if g = 2 then 1 else if g = 3 ∨ g = 5 ∨ g = 6 then 2 else if 7 ≤ g ∧ g ≤ 10 then 3 else 0

/-! ## Answers (R394, R397) -/

/-- Response bytes: header of Table 13.5 and payload. -/
def respBytes (status kind slot seq op : Nat) (payload : List Byte) : List Byte :=
  leBytes 2 status ++ leBytes 1 kind ++ leBytes 1 slot ++ leBytes 4 seq ++ leBytes 2 op ++ leBytes 2 payload.length ++
    leBytes 4 0 ++ payload

/-- Firmware holds a response for function f. -/
def State.hold (s : State) (f : Nat) (r : Resp) : State := s.setMbox f { s.mbox f with held := (s.mbox f).held ++ [r] }

/-- The command is no longer running. -/
def State.cmdGone (s : State) (c : Cmd) : State :=
  s.setBench { s.bench with running := s.bench.running.filter (fun x => !(x.f == c.f && x.slot == c.slot)) }

/-- Answer a command with a FINAL. -/
def State.answer (s : State) (c : Cmd) (status : Nat) (payload : List Byte) : State :=
  let s1 := if c.interim then s else s.cmdGone c
  let s2 := if status = St.capacity then s1.addSat (Reg.MBX_CAPCNT c.f) 16 16 1 else s1
  s2.hold c.f {
    bytes := respBytes status 0 (if c.interim then 0xFF else c.slot) c.seq c.op payload
    slot := if c.interim then none else some c.slot
    irq := c.irq, notice := false }

/-- An optional waiting command that does not meet a test. -/
def keepOpt (p : Nat × Nat → Bool) (k : Option (Nat × Nat)) : Option (Nat × Nat) := k.filter (fun x => !p x)

/-- Device actions in progress answer no command (function, slot) that meets a test any longer. -/
def State.waitersDrop (s : State) (p : Nat × Nat → Bool) : State :=
  let s1 := s.setTwin { s.twin with hoCmd := keepOpt p s.twin.hoCmd, fenceCmd := keepOpt p s.twin.fenceCmd }
  let s2 := s1.setClk { s1.clk with
    swCmd := keepOpt p s1.clk.swCmd
    temper := s1.clk.temper.map (fun (x : Temper) => { x with cmds := x.cmds.filter (fun c => !p c) }) }
  let s3 := s2.setPwr { s2.pwr with cmds := s2.pwr.cmds.filter (fun x => !p x.2.2) }
  let s4 := s3.setBench { s3.bench with tests := s3.bench.tests.filter (fun x => !p x.2.2) }
  let s5 := s4.setTouch { s4.touch with
    resets := s4.touch.resets.map (fun (x : TReset) => { x with cmds := x.cmds.filter (fun c => !p c) }) }
  s5.each (List.range 96) (fun t c => t.setCam c { t.cam c with
    reqs := (t.cam c).reqs.filter (fun r => !p (r.f, r.slot)) })

/-- Answer a command with the INTERIM DEFERRED (R307, R394): its slot is free, a FINAL follows. -/
def State.answerDeferred (s : State) (c : Cmd) : State :=
  ((s.cmdGone c).addSat (Reg.MBX_CAPCNT c.f) 0 16 1).hold c.f {
    bytes := respBytes St.deferred 1 c.slot c.seq c.op []
    slot := some c.slot, irq := c.irq, notice := false }

/-- Send a notice to function f (R397, R408): beyond 32 held notices it is lost and counted. -/
def State.notice (s : State) (f code : Nat) (payload : List Byte) : State :=
  if s.fnPresent f then
    if 32 ≤ ((s.mbox f).held.filter (·.notice)).length then s.addSat (Reg.MBX_NOTLOST f) 0 32 1
    else s.hold f { bytes := respBytes 0 2 0xFF 0 code payload, slot := none, irq := false, notice := true }
  else s

/-- Send a notice to every function. -/
def State.noticeAll (s : State) (code : Nat) (payload : List Byte) : State :=
  s.each (List.range 16) (fun t f => t.notice f code payload)

/-- Run a command: the refusal of lowest rank that applies, else its effect with the payload of its answer (R400). PF0
may name any existing tenant (Table 13.4). -/
def State.cmdDo (s : State) (c : Cmd) (refusals : List (Bool × Nat)) (eff : State → State × List Byte) : State :=
  let st := pickStatus ((!s.tenantIs c.tenant && c.f == 0, St.noObject) :: refusals)
  if st = 0 then (let r := eff s; r.1.answer c St.ok r.2) else s.answer c st []

/-- A command that is not refused and whose answer carries a payload under status st. -/
def State.cmdSays (s : State) (c : Cmd) (refusals : List (Bool × Nat)) (st : Nat) (bs : List Byte) : State :=
  let r := pickStatus ((!s.tenantIs c.tenant && c.f == 0, St.noObject) :: refusals)
  if r = 0 then s.answer c st bs else s.answer c r []

/-- An effect without an answer payload. -/
def State.cmdRun (s : State) (c : Cmd) (refusals : List (Bool × Nat)) (eff : State → State) : State :=
  s.cmdDo c refusals (fun t => (eff t, []))

/-- The bench is in service for command c: no restart runs, and no inlay of the core that it runs on (R389, R391). -/
def State.cmdServed (s : State) (c : Cmd) : Bool :=
  s.bench.restart.isNone && decide (s.bench.inlay.map (·.1) ≠ some c.core)

/-- The command of opcode op that runs from slot `slot` of function f goes on to its effect; nothing happens where no such
command runs, or while its core is out of service. -/
def State.onCmd (s : State) (f : Fin 16) (slot : Fin 64) (op : Nat) (m : Cmd → State → State) : Res :=
  match s.bench.running.find? (fun c => c.f == f.val && c.slot == slot.val && c.op == op && !c.interim) with
  | some c => .next (if s.cmdServed c then m c s else s)
  | none => .next s

/-! ## Checks shared by commands -/

/-- Unit u of BENCH_DWCLAIM is claimed (R411): its commands answer BUSY. -/
def State.claimed (s : State) (u : Nat) : Bool := s.bit Reg.BENCH_DWCLAIM u

/-- One of the units of a list is claimed. -/
def State.claimedAny (s : State) (us : List Nat) : Bool := us.any s.claimed

/-- Object i of the map at byte o belongs to tenant t (R23, R405). -/
def State.owns (s : State) (t o i : Nat) : Bool := s.owner o i == t

/-- Object i of the map at byte o, which holds n objects, lies outside tenant t's partition (R405). A number that no object
has lies outside every VF's partition; to tenant 0 it is no object. -/
def State.foreign (s : State) (t o n i : Nat) : Bool := if i < n then !s.owns t o i else t != 0

/-- Entries of a register-pair list from payload offset o on: (offset, value) (R399). -/
def Cmd.pairs (c : Cmd) (o : Nat) : List (Nat × Nat) :=
  (List.range ((c.len - o) / 8)).map (fun i => (c.at (o + 8 * i) 2, c.at (o + 8 * i + 4) 4))
/-- The list's form is good: whole entries, and the reserved halves 0. -/
def Cmd.pairsForm (c : Cmd) (o : Nat) : Bool :=
  decide (o ≤ c.len) && decide ((c.len - o) % 8 = 0) && (List.range ((c.len - o) / 8)).all (fun i => decide (c.at (o + 8 * i + 2) 2 = 0))

/-- The value that a register-pair list leaves at offset `off` of a table, or the one there now. -/
def Cmd.pairVal (c : Cmd) (o off : Nat) (now : Word) : Word :=
  (((c.pairs o).filter (fun e => e.1 == off)).getLast?).elim now (fun e => w32 e.2)

/-- An offset names a register with RWL fields of the table at address `base` (R399): the row there is defined, and the
value sets no bit that the row does not let software write. -/
def pairOk (base lo hi : Nat) (e : Nat × Nat) : Bool :=
  decide (lo ≤ e.1) && decide (e.1 ≤ hi) && decide (e.1 % 4 = 0) &&
  match Reg.rowAt (base + e.1) with
  | some r => decide (r.rwl ≠ 0) && decide ((w32 e.2 &&& ~~~ (w32 (r.rwl + r.rw + r.w1c))) = 0#32)
  | none => false

/-- Table rows of a register list in bytes, 4 each. -/
def State.regsBytes (s : State) (ks : List Nat) : List Byte := ks.flatMap (fun k => leBytes 4 (s.rdN k))

end Sys2Proof.Machine
end

