-- ==== Sys2Proof/Machine/CruOps.lean ====
section
/-!
DEFINITION. Blocks of a camera (chapter 10): opening a block at a boundary with the swap, the format apply and the
lane shadow due there (R84, R146, R176, R220, R288), capture-ring slots (R299), positions and deadlines (R289, R293).
-/
namespace Sys2Proof.Machine
open Sys2Proof

/-- SLOTS of camera c's capture ring, 2 to 255 (R299). -/
def State.ringSlots (s : State) (c : Nat) : Nat := clampN 2 255 (s.fld (Reg.CRU_CAMCRCFG c) 0 8)

/-- Slot counters of CRU_CAMCRSTAT. -/
def State.slotStat (s : State) (c : Nat) : State :=
  let l := (s.cru c).slots
  (s.setFld (Reg.CRU_CAMCRSTAT c) 0 8 l.length).setFld (Reg.CRU_CAMCRSTAT c) 8 8 (l.filter (·.kept)).length

/-- A free slot number, or the oldest kept slot that no block or transfer uses (R299). -/
def State.pickSlot (s : State) (c : Nat) : Option Nat :=
  let l := (s.cru c).slots
  match (List.range (s.ringSlots c)).find? (fun i => !l.any (fun e => e.idx == i)) with
  | some i => some i
  | none => (l.find? (fun e => e.kept && !e.busy)).map (·.idx)

/-- Take a slot for block seq of camera c, if there is one; NOSLOT otherwise (R299). -/
def State.takeSlot (s : State) (c seq : Nat) : Option Nat × State :=
  match s.pickSlot c with
  | some i =>
    let l := (s.cru c).slots.filter (fun e => e.idx != i) ++ [{ idx := i, seq := seq, kept := false, busy := true }]
    (some i, (s.setCru c { s.cru c with slots := l }).slotStat c)
  | none => (none, s.addSat (Reg.CRU_CAMNOSLOT c) 0 32 1)

/-- Free a slot. -/
def State.freeSlot (s : State) (c i : Nat) : State :=
  (s.setCru c { s.cru c with slots := (s.cru c).slots.filter (fun e => e.idx != i) }).slotStat c

/-- A position `lines` pitches beyond X_i0, floored to whole PT (R289). -/
def blkPos (x pitch lines : Nat) : Posn := posn (xAdd x ((lines * pitch : Nat) : Int) / 2 ^ 32)

/-- SLACK of camera c in lines, 16 to 4,095 (Table 10.9). -/
def State.slack (s : State) (c : Nat) : Nat := clampN 16 4095 (s.fld (Reg.CRU_CAMCFG c) 0 12)

/-- The deadline D of an open block (R289), by its first stripe in service. -/
def State.blkDeadline (s : State) (c : Nat) (b : CBlk) : Option Posn :=
  match b.pipes.find? (fun n => (s.pblk n b.run b.i0).isSome) with
  | some n =>
    (s.pblk n b.run b.i0).map (fun p =>
      blkPos (s.blkX n b.run b.i0) p.bank.pitch (p.len + s.slack c))
  | none => none

/-- CRU_CAMSTAT and CRU_CAMDL of camera c. -/
def State.cruShow (s : State) (c : Nat) : State :=
  let l := (s.cru c).blocks
  let s1 := s.setFld (Reg.CRU_CAMSTAT c) 0 5 l.length
  match l.head?.bind (s.blkDeadline c) with
  | some d => s1.wrPos (Reg.CRU_CAMDL_LO c) d
  | none => s1

/-- A stripe of camera c has no pipeline in service (R33). -/
def State.stripeLost (s : State) (c : Nat) : Bool :=
  match (s.camPipes c).head? with
  | some n => decide ((s.camPipes c).length < s.fld (Reg.PIPE_BIND n) 12 3 + 1)
  | none => false

/-- Block i0 of a run opens in the crucible for the pipelines that run it, and takes a slot (R288, R299). -/
def State.cruOpen (s : State) (c run i0 seq : Nat) : State :=
  let ps := (s.camPipes c).filter (fun n => (s.pblk n run i0).isSome)
  if ps = [] then s
  else
    let t := s.takeSlot c seq
    let s1 := t.2
    (s1.setCru c { s1.cru c with
      blocks := (s1.cru c).blocks ++ [{ run := run, i0 := i0, seq := seq, pipes := ps, slot := t.1, part := s.stripeLost c }] }).cruShow c

/-- The record of index i of a run was issued for camera c at exposure time t: a block that starts there takes its
TSTART (Table 10.1). -/
def State.cruRec (s : State) (c run i t : Nat) : State :=
  let x := s.cru c
  if x.blocks.any (fun b => b.run == run && b.i0 == i) then
    s.setCru c { x with blocks := x.blocks.map (fun b => if b.run = run ∧ b.i0 = i then { b with t0 := some t } else b) }
  else s

/-- The pipeline's swap is due and its shadow fails its checks (R223, R230). -/
def State.swapBad (s : State) (n : Nat) (fmt : List Byte) : Bool :=
  s.pipeBit n 2 && !(swapChecks (s.shadowBank n) (s.rd (Reg.PIPE_BIND n)) fmt && s.asyOk n (s.shadowBank n) fmt)

/-- The first block boundary of camera c after Ts of a pairing: the camera has joined, and the FOLLOW takes the LEAD's
BLKSEQ (Table 14.4 step 6). -/
def State.twinJoin (s : State) (c : Nat) : State :=
  if s.fld Reg.TWIN_STAT 0 3 = 1 ∧ 4 ≤ s.twin.step ∧ !s.twin.joined.contains c then
    let s1 := s.setTwin { s.twin with joined := s.twin.joined ++ [c] }
    match s.twin.seqs.find? (fun e => e.1 == c) with
    | some e => if s.fld Reg.TWIN_STAT 3 2 = 1 then s1.wr (Reg.CRU_CAMBLKSEQ c) (w32 e.2) else s1
    | none => s1
  else s

/-- A block boundary of camera c: the swaps and the format apply due there (R176, R220, R223), the lane shadows
(R146), then the block opens in every stripe and in the crucible. `armed`: a generator ARM sets PEND (R84). -/
def State.camBoundary (s : State) (c run i0 : Nat) (phase : Posn) (armed : Bool) : State :=
  let ps := s.camPipes c
  let s1 := if armed then s.each ps (fun t n => t.pipeSet n 2 true) else s
  let fmt := if s1.cfgPending c then (s1.fmtOf c (s1.rd (Reg.LINK_CAMCFG c))).getD [] else s1.camFmt c
  let refuse := s1.cfgPending c && (s1.cfgRefused c || ps.any (fun n => s1.swapBad n fmt))
  let s2 := if s1.cfgPending c then (if refuse then s1.cfgRefuse c else s1.cfgApply c) else s1
  let s3 := s2.each ps (fun t n =>
    if (t.pipe n).loading then
      t.setPipe n { t.pipe n with lateSwap := (t.pipe n).lateSwap || t.pipeBit n 2 }
    else if t.pipeBit n 2 then (if refuse || t.swapBad n fmt then t.swapRefuse n else t.swapTake n) else t)
  let s4 := s3.bondApply c
  let s4 := s4.twinJoin c
  let seq := s4.rdN (Reg.CRU_CAMBLKSEQ c)
  let area := fmtArea (s4.camFmt c)
  let s5 := s4.each ps (fun t n => t.pipeBoundary n run i0 seq phase area)
  let s6 := s5.cruOpen c run i0 seq
  if ps = [] then s6 else s6.addWrap (Reg.CRU_CAMBLKSEQ c) 0 32 1

/-- The fragments of a block of camera c are merged no more: each will leave with TRUNC (R256). -/
def State.fragsTrunc (s : State) (c run i0 : Nat) : State :=
  s.setCru c { s.cru c with
    frags := (s.cru c).frags.map (fun f => if f.blob.run = run ∧ f.blob.blk = i0 then
      { f with blob := { f.blob with trunc := true } } else f) }

/-- Stripe n drops a late block (R218, R294): its lines that have not passed stage 10 are abandoned and its statistics
record is marked LATE. The block still counts in PIPE_BLKSEQ (R288). -/
def State.lateDrop (s : State) (n run i0 : Nat) : State :=
  match s.pblk n run i0 with
  | none => s
  | some b =>
    let x := s.pipe n
    let hold := match x.hold with
      | some o => if b.has x.holdRun o.i then none else x.hold
      | none => none
    let x1 := x.mapBlk (fun k => k.run == run && k.i0 == i0) (fun k => { k with
      late := true, cut := some k.passed, statDone := true, assayDone := true })
    let x2 := x1.mapRun run (fun r => { r with nextOut := max r.nextOut b.iEnd })
    let s1 := (s.setPipe n { x2 with hold := hold }).asyDrop n run i0
    let s2 := match s.pipeCam n with
      | some c => s1.fragsTrunc c run i0
      | none => s1
    if b.passed < b.total then s2.addWrap (Reg.PIPE_BLKSEQ n) 0 32 1 else s2

/-- The crucible tests the open blocks of camera c against the high-water mark of its axis (R293). -/
def State.cruLate (s : State) (c : Nat) : State :=
  match s.camAxis c with
  | none => s
  | some a =>
    if s.bit (Reg.POS_AXEN a) 0 && !s.bit (Reg.POS_AXSTAT a) 3 then
      let h := s.rdPos (Reg.POS_AXHWM_LO a)
      let s1 := s.each (s.cru c).blocks (fun t b =>
        match t.blkDeadline c b with
        | some d =>
          if posLt h d then t
          else t.each (b.pipes.filter (fun n => match t.pblk n b.run b.i0 with
            | some p => !p.posted && !p.late
            | none => false)) (fun u n => u.lateDrop n b.run b.i0)
        | none => t)
      s1.cruShow c
    else s

end Sys2Proof.Machine
end

