-- ==== Sys2Proof/Machine/Lanes.lean ====
section
/-!
DEFINITION. Meanings of the lane commands (chapter 5), for camera lanes 0 to 103 and, where R421 gives a twin lane the
same step, for lanes 104 to 111: control and commands, bring-up, equalisation, commas, detectors, sparing, Alaol-1
synchronisation and the test pattern checker.
-/
namespace Sys2Proof.Machine
open Sys2Proof

/-! ## Control (R146, R147) -/

/-- A write of LANE_CTL (R117, R146, R149). -/
def State.laneCtlWrite (s : State) (n : Nat) (v : Word) : State :=
  let w := v &&& 0x1FFF#32
  if laneCtlOk w then
    let s1 := (s.setBit (laneStat n) 17 false).wr (Reg.LANE_CTL n) w
    if s1.laneCtlBit n 0 then s1.setBit (laneStat n) 18 true else (s1.wr (Reg.LANE_CTLA n) w).laneWake n
  else s.setBit (laneStat n) 17 true

/-- LANE_CTL_WRITE (R146). -/
def execLaneCtlWrite (n : Fin 104) (v : Word) (s : State) : Res := s.alive fun s => s.reach 0 (Reg.LANE_CTL n.val) fun s =>
  .next (s.rwl .lane (fun t => t.laneCtlWrite n.val v))

/-- The bond of lane n has an inlay in progress. -/
def State.laneInInlay (s : State) (n : Nat) : Bool :=
  match s.laneBond n with
  | some c => (s.bond c).sw.isSome
  | none => false

/-- LANE_CMD.RESTART: it waits for an inlay of its bond (R144). -/
def State.laneRestart (s : State) (n : Nat) : State :=
  if s.laneInInlay n then s.laneDefer n 1 else s.laneRestart1 n
/-- LANE_CMD.APPLY: it waits likewise. -/
def State.laneApply (s : State) (n : Nat) : State :=
  if s.laneInInlay n then s.laneDefer n 2 else s.laneApplyNow n
/-- LANE_CMD.CLRCNT (Table 5.14). -/
def State.laneClr (s : State) (n : Nat) : State :=
  (((s.wr (Reg.LANE_HDRERR n) 0#32).wr (Reg.LANE_CMAERR n) 0#32).wr (Reg.LANE_TRN n) 0#32).wr (Reg.LANE_EQCNT n) 0#32
/-- LANE_CMD.PRBSRST (R148). -/
def State.lanePrbsRst (s : State) (n : Nat) : State :=
  (s.wr (Reg.LANE_PRBSERR n) 0#32).setLane n { s.lane n with prbsSync := false, prbs := [] }

/-- LANE_RESTART (Table 5.4, R144). -/
def execLaneRestart (n : Fin 104) (s : State) : Res := s.alive fun s => s.reach 0 (Reg.LANE_CMD n.val) fun s =>
  .next (s.laneRestart n.val)
/-- LANE_APPLY (R146). -/
def execLaneApply (n : Fin 104) (s : State) : Res := s.alive fun s => s.reach 0 (Reg.LANE_CMD n.val) fun s =>
  .next (s.laneApply n.val)
/-- LANE_CLRCNT. -/
def execLaneClrcnt (n : Fin 104) (s : State) : Res := s.alive fun s => s.reach 0 (Reg.LANE_CMD n.val) fun s =>
  .next (s.laneClr n.val)
/-- PRBSRST (R148). -/
def execPrbsrst (n : Fin 104) (s : State) : Res := s.alive fun s => s.reach 0 (Reg.LANE_CMD n.val) fun s =>
  .next (s.lanePrbsRst n.val)

/-- A write of LANE_TEST: honoured only in OFF, DETECT, FAILED and LOOP, with equal rates for a loop (R147). -/
def State.laneTestWrite (s : State) (n : Nat) (v : Word) : State :=
  let st := s.laneSt n
  let loop := fldOf v 0 2
  if (st = 0 ∨ st = 1 ∨ st = 9 ∨ st = 10) ∧ (loop = 0 ∨ s.laneRx n = s.laneTx n) then
    let s0 := if fldOf v 2 3 = s.fld (Reg.LANE_TEST n) 2 3 then s else s.setLane n { s.lane n with pat := none }
    let s1 := (s0.wr (Reg.LANE_TEST n) (v &&& 0x3F#32)).setBit (laneStat n) 17 false
    if loop ≠ 0 then s1.laneGo n 9
    else if st = 9 then (s1.laneGo n 0).laneWake n else s1
  else s.setBit (laneStat n) 17 true

/-! ## Bring-up (R124 to R129) -/

/-- RECEIVER_DETECT (R125): every 100 µs in DETECT; `found`: the far receiver is there; `clear`: LOS is clear. -/
def execReceiverDetect (n : Fin 112) (found clear : Bool) (dt : Nat) (s : State) : Res := s.alive fun s =>
  let s1 := s.pass dt
  .next (
    if s1.laneSt n.val = 1 then
      let s2 := s1.setBit (laneStat n.val) 4 (!clear)
      if found && clear then s2.laneGo n.val 2 else s2
    else s1)

/-- NODETECT (Table 5.4): 100 ms in DETECT. -/
def execNodetect (n : Fin 112) (dt : Nat) (s : State) : Res := s.alive fun s =>
  let s1 := s.pass dt
  let x := s1.lane n.val
  .next (
    if s1.laneSt n.val = 1 ∧ x.noDet = false ∧ x.since + usTicks 100000 ≤ s1.devTime then
      (s1.setLane n.val { x with noDet := true }).laneIrq n.val 7
    else s1)

/-- A valid TRAIN block from the partner of lane n: a camera has ROLE 1, a twin ROLE 0 (Table 5.5, R421). -/
def trainOk (n : Nat) (b : BitVec 64) : Bool :=
  decide (blkBits b 0 8 = 0x2D) && decide (blkBits b 25 1 = (if n < 104 then 1 else 0)) &&
  decide (blkBits b 27 5 = 0) && decide (blkBits b 48 16 = 0)

/-- The rate R127 takes for a request and a mask. -/
def pickRate (want mask : Nat) (fallback : Bool) : Option Nat :=
  if mask / 2 ^ want % 2 = 1 then some want
  else if fallback then ((List.range want).reverse).find? (fun r => mask / 2 ^ r % 2 = 1) else none

/-- Lane n fixes UPRATE and DNRATE (R127), or refuses. -/
def State.trainRates (s : State) (n : Nat) (b : BitVec 64) : Option State :=
  let fb := s.laneCtlBit n 8
  match pickRate (s.laneRx n) (blkBits b 14 5) fb, pickRate (s.laneTx n) (blkBits b 9 5) fb with
  | some r, some t => some ((s.setFld (laneStat n) 9 3 r).setFld (laneStat n) 12 3 t)
  | _, _ => none

/-- A sync header error of lane n: counted, and part of its BER interval and of its self-test (R119, R137, R145). -/
def State.hdrError (s : State) (n : Nat) : State :=
  (s.addSat (laneReg 0x3C n) 0 32 1).setLane n { s.lane n with ber := (s.lane n).ber + 1, selfBad := true }

/-- What a block that a command brings counts: a bad sync header, or a reserved type (R119, R121). -/
def State.blkCount (s : State) (n : Nat) (b : RxBlk) : State :=
  if b.isBad then s.hdrError n else if b.isReserved then s.addSat (laneReg 0x40 n) 16 16 1 else s

/-- LAST has been sent and received: lane n switches to its operating rates and enters LOCK (R126). A near-end loop without a
pattern brings the lane's own blocks back: block lock after 64 of them, and then its commas (R147, Table 5.11). -/
def State.laneDue (s : State) (n : Nat) : State :=
  let x := s.lane n
  let loop := s.fld (Reg.LANE_TEST n) 0 2
  if s.laneSt n = 2 ∧ x.trLastTx ∧ x.trLastRx then s.laneGo n 3
  else if n < 104 ∧ s.laneSt n = 9 ∧ (loop = 1 ∨ loop = 2) ∧ s.bit (Reg.LANE_TEST n) 4 = false ∧
      s.bit (laneStat n) 6 = false ∧ x.since + 128 * blockMilli (s.laneTx n) / 1000 ≤ s.devTime then
    ((s.laneLock n true).setBit (laneStat n) 8 true).setFld (Reg.LANE_PEER n) 16 5 ((s.commaPos n).1 % 16 + 16)
  else s

/-- An idle step: one TBCLK tick passes while the device has its clocks; the lanes send, and go on where that was awaited (R12,
R126, R515, log entry 4). -/
def State.idle (s : State) : State :=
  if s.boot.mode = 0 then (s.pass 1).each (List.range 112) (fun t n => t.laneDue n)
  else if s.boot.mode = 2 then s.pass 1
  else s

/-- One TRAIN block received in TRAIN (R126, R127): the ACK after 8 valid ones in a row, and the rates with it. -/
def State.trainBlock (s : State) (n : Nat) (blk : WireBlk) : State :=
  match ctlOf blk 0x2D with
  | none => (s.blkCount n (blkOf blk)).setLane n { (s.blkCount n (blkOf blk)).lane n with trRun := 0 }
  | some b =>
    if trainOk n b then
      let s1 := s.setFld (laneReg 0x54 n) 0 10 (blkBits b 9 5 + blkBits b 14 5 * 2 ^ 5)
      let x := s1.lane n
      let s2 := s1.setLane n { x with
        trRun := x.trRun + 1, trPeer := x.trPeer || blkBits b 8 1 == 1, trLastRx := x.trLastRx || blkBits b 26 1 == 1 }
      if x.trAck = false ∧ 8 ≤ x.trRun + 1 then
        match s2.trainRates n b with
        | some u => u.setLane n { u.lane n with trAck := true }
        | none => s2.laneRefused n
      else s2.laneDue n
    else s.setLane n { s.lane n with trRun := 0 }

/-- TRAIN (R126). -/
def execTrain (n : Fin 112) (blk : WireBlk) (dt : Nat) (s : State) : Res := s.alive fun s =>
  let s1 := s.pass dt
  .next (if s1.laneSt n.val = 2 then s1.trainBlock n.val blk else s1)

/-- Three comma periods of lane n at the long spacing, in ticks (Tables 5.1, 5.4). -/
def State.relockTime (s : State) (n : Nat) : Nat := 3 * 8192 * s.rxMilli n / 1000

/-- The RELOCK of lane n times out (R138 step 3): L2, isolated, its bond muted; a twin lane leaves its bond (R422),
and a spare in STANDBY is unavailable (R144). -/
def State.relockFails (s : State) (n : Nat) : State :=
  if 104 ≤ n then s.twinLaneOut n
  else if s.lanePos n = 15 then (s.spareFailed n).laneIsolate n
  else (s.fault 0 2 n 2).laneLose n

/-- The time limit of lane n's state (Table 5.4). -/
def State.laneTimeout (s : State) (n : Nat) : State :=
  let st := s.laneSt n
  let past := fun (lim : Nat) => decide ((s.lane n).since + lim ≤ s.devTime)
  if st = 2 ∧ past (usTicks 2000) then s.laneFailed n
  else if st = 3 ∧ past (usTicks 1000) then s.laneFailed n
  else if st = 4 ∧ past (usTicks 10000) then s.laneFailed n
  else if st = 8 ∧ past (s.relockTime n) then s.relockFails n
  else if st = 5 then
    match s.laneBond n with
    | some c =>
      (match (s.bond c).capsT with
      | some t => if t + usTicks 5000 ≤ s.devTime then s.capsFail c else s
      | none => s)
    | none => s
  else s

/-- LANE_STATE_TIMEOUT (R129, R138). -/
def execLaneStateTimeout (n : Fin 112) (dt : Nat) (s : State) : Res := s.alive fun s =>
  .next (((s.pass dt).laneDue n.val).laneTimeout n.val)

/-! ## Commas (R122, R128, R134, R135) -/

/-- Every lane of camera c's bond has finished EQ or entered FAILED (R135). -/
def State.bondFinished (s : State) (c : Nat) : Bool :=
  (s.bondLanes c).all (fun n => [5, 6, 7, 10, 13].contains (s.laneSt n))

/-- A failed data lane's position may move to the spare before the exchange (R143). -/
def State.capsSwitch (s : State) (c : Nat) : Option (Nat × Nat) :=
  match (s.bondLanes c).find? (fun n => (s.laneSt n == 10 || s.laneSt n == 13) && s.lanePos n != 15),
    (s.bondLanes c).find? (fun n => isSprue n && s.laneSt n == 5 && s.lanePos n == 15 && !(s.lane n).spareFail) with
  | some f, some sp => some (f, sp)
  | _, _ => none

/-- CAPS: align on equal CNT, test the skew, then start the exchange or move a failed position first (R135, R143). -/
def State.capsCheck (s : State) (c : Nat) : State :=
  let ls := (s.bondLanes c).filter (fun n => [5, 6, 7].contains (s.laneSt n))
  if (s.bond c).active || (s.bond c).capsT.isSome || (s.bond c).sw.isSome || !s.bondFinished c ||
      !(s.sameCnt ls || (s.skewed ls).isSome) then s
  else match s.skewed ls with
    | some n => (s.fault 0 6 n 0).bondAttemptFails c
    | none =>
      let s1 := s.alignLanes ls
      match s1.capsSwitch c with
      | some w => s1.startSwitch c (s1.lanePos w.1) w.1 w.2 false
      | none => s1.capsReady c

/-- The own commas of lane n follow those of lane m: same slots, same CNT (R122). -/
def State.commaFollow (s : State) (n m : Nat) : State :=
  s.setLane n { s.lane n with cmaNext := (s.lane m).cmaNext, cmaCnt := (s.lane m).cmaCnt }

/-- A spare that reaches CAPS after its bond is ACTIVE joins it in STANDBY once aligned (R135, R136). -/
def State.spareJoins (s : State) (c n : Nat) : State :=
  let ds := (s.bondLanes c).filter (fun m => m != n && s.laneSt m == 6)
  let ls := n :: ds
  if s.lanePos n = 15 then
    match s.skewed ls with
    | some _ => (s.fault 0 6 n 0).laneFailed n
    | none =>
      if s.sameCnt ls then
        let s1 := (s.alignLanes ls).laneGo n 7
        match ds with
        | m :: _ => s1.commaFollow n m
        | [] => s1
      else s
  else s

/-- R134: two commas in a row whose POS or SIZE differ from LANE_BOND raise BONDMAP. -/
def State.commaMap (s : State) (n pos size : Nat) : State :=
  if n < 104 ∧ s.bit (Reg.LANE_BOND n) 0 then
    if pos = s.lanePos n ∧ size = s.fld (Reg.LANE_BOND n) 12 4 then s.setLane n { s.lane n with mism := 0 }
    else
      let s1 := s.setLane n { s.lane n with mism := (s.lane n).mism + 1 }
      if (s1.lane n).mism = 2 then (s1.setLane n { s1.lane n with badMap := true }).fault 0 5 n 0 else s1
  else s

/-- RXOK 0 on two consecutive partner commas in ACTIVE or STANDBY raises TXFAIL (R137). -/
def State.commaRxok (s : State) (n : Nat) (rxok : Bool) : State :=
  let k := if rxok then 0 else (s.lane n).rxok0 + 1
  let s0 := if rxok then s.causeOff 0 3 n else s
  let s1 := s0.setLane n { s0.lane n with rxok0 := k, selfBad := (s0.lane n).selfBad || !rxok }
  if k = 2 ∧ n < 104 then s1.laneFault n 3 else s1

/-- Every lane of a bond fails its attempt over its skew (R135): the bond leaves ACTIVE. -/
def State.skewFails (s : State) (c n : Nat) : State :=
  let s1 := (s.fault 0 6 n 0).bondDown c
  s1.each ((s1.bondLanes c).filter (fun m => [5, 6, 7].contains (s1.laneSt m))) (fun t m => t.laneFailed m)

/-- The lock conditions of R128 hold in RELOCK: the lane returns, and its bond re-deskews on commas of equal CNT (R138 step 2,
R135). -/
def State.relocked (s : State) (n : Nat) : State :=
  let s0 := (s.causeOff 0 1 n).causeOff 0 2 n
  let s1 := s0.laneGo n (if n < 104 ∧ s0.lanePos n = 15 then 7 else 6)
  match s1.laneBond n with
  | none => s1
  | some c =>
    let ls := (s1.bondLanes c).filter (fun m => s1.laneSt m == 6 || s1.laneSt m == 7)
    match s1.skewed ls with
    | some m => if c < 96 then s1.skewFails c m else s1.alignLanes ls
    | none =>
      let s2 := if s1.sameCnt ls then s1.alignLanes ls else s1
      let s3 := if c < 96 then s2.bondShow c else s2
      if (s3.bondLanes c).any (fun m => s3.laneSt m == 8) then s3
      else s3.setBond c { s3.bond c with losses := closeLoss false s3.devTime (s3.bond c).losses }

/-- A twin lane that has completed EQ joins the twin bond at this comma (R421). -/
def State.twinJoins (s : State) (n : Nat) : State :=
  if (s.lane n).eqDone ∧ (s.lane n).eqPeerDone then
    let s1 := (s.laneGo n 6).setBit Reg.TWIN_LANES (n - 104) true
    let ls := (s1.bondLanes 96).filter (fun m => s1.laneSt m == 6)
    let s2 := if s1.sameCnt ls then s1.alignLanes ls else s1
    let s3 := match ls.filter (fun m => m != n) with
      | m :: _ => s2.commaFollow n m
      | [] => s2
    s3.bondUp 96
  else s

/-- The twin bond has re-formed once commas of equal CNT align what remains of it (R422). -/
def State.twinReform (s : State) : State :=
  let ls := (s.bondLanes 96).filter (fun m => s.laneSt m == 6)
  if (s.bond 96).reform ∧ s.sameCnt ls then (s.alignLanes ls).setBond 96 { s.bond 96 with reform := false } else s

/-- Lane n's receiver has signal and bit lock, and block lock after 64 blocks with valid headers in a row (R128, Table 5.8). -/
def State.rxLock (s : State) (n run : Nat) : State :=
  let s1 := (s.setBit (laneStat n) 4 false).setBit (laneStat n) 5 true
  if 64 ≤ run then s1.setBit (laneStat n) 6 true else s1

/-- A comma in its expected slot; `second`: it follows another one there (R128). -/
def State.commaGood (s : State) (n : Nat) (second rxok : Bool) : State :=
  let st := s.laneSt n
  let lock := s.bit (laneStat n) 6
  if st = 3 then (if second && rxok && lock then s.laneEq n else s)
  else if st = 4 ∧ 104 ≤ n then s.twinJoins n
  else if st = 5 then
    match s.laneBond n with
    | some c => if (s.bond c).active then s.spareJoins c n else s.capsCheck c
    | none => s
  else if st = 6 ∨ st = 7 then (if 104 ≤ n then s.twinReform else s.commaRxok n rxok)
  else if st = 8 then (if second && rxok && lock then s.relocked n else s)
  else s

/-- Loss of lock of lane n (R137): in ACTIVE or STANDBY a fault, unless the lane's LOS already made it one. -/
def State.laneLol (s : State) (n : Nat) : State :=
  let st := s.laneSt n
  let s1 := s.laneIrq n 3
  if st = 6 ∨ st = 7 then
    if 104 ≤ n then s1.laneRelock n
    else if s1.bit (laneStat n) 4 && s1.hasCause 0 1 n then s1 else s1.laneFault n 2
  else s1

/-- A comma error of lane n: counted, the next comma is awaited afresh, and lock is lost (R137). -/
def State.commaErr (s : State) (n : Nat) : State :=
  ((s.addSat (laneReg 0x40 n) 0 16 1).setLane n { s.lane n with comma := false }).laneLol n

/-- A received comma of lane n with payload w, `gap` slots after the one before it and after `run` valid headers in a row: its
slot is the one that the comma before it announced (R122). -/
def State.commaIn (s : State) (n : Nat) (w : BitVec 64) (gap run : Nat) : State :=
  let st := s.laneSt n
  if 3 ≤ st ∧ st ≤ 8 then
    let pos := blkBits w 8 4
    let rxok := blkBits w 17 1 == 1
    let s1 := (s.setFld (laneReg 0x54 n) 16 5 (pos + b2n rxok * 16)).setBit (laneStat n) 8 rxok
    let x := s1.lane n
    let s2 := ((s1.rxLock n run).commaMap n pos (blkBits w 12 4))
    let y := s2.lane n
    let s3 := s2.setLane n { y with
      comma := true, long := blkBits w 16 1 == 1, commas := ((blkBits w 18 6, s2.devTime) :: y.commas).take 4 }
    if x.comma ∧ gap ≠ (if x.long then 8192 else 64) then s3.commaErr n else s3.commaGood n x.comma rxok
  else s

/-- COMMA (R122): a block recognised by its header, TYPE and PATTERN; a block that is none is no comma. -/
def execComma (n : Fin 112) (hdr : BitVec 2) (typ : BitVec 8) (mid : BitVec 16) (pat : BitVec 40) (gap run : Nat) (dt : Nat)
    (s : State) : Res := s.alive fun s =>
  let s1 := (s.pass dt).laneDue n.val
  .next (if isComma hdr.toNat (commaPay typ mid pat) then s1.commaIn n.val (commaPay typ mid pat) gap run else s1)

/-! ## Equalisation (R130 to R132) -/

/-- Both directions of lane n have finished: EQ ends (R132). A twin lane waits for the next comma (R421). -/
def State.eqFinish (s : State) (n : Nat) : State :=
  if n < 104 ∧ s.laneSt n = 4 ∧ (s.lane n).eqDone ∧ (s.lane n).eqPeerDone then s.laneGo n 5 else s

/-- Send the EQRSP of a request: RESULT and the taps as they stand (Table 5.6). -/
def eqAnswer (seq result : Nat) (taps : Word) : BitVec 64 :=
  BitVec.ofNat 64 (0x66 + seq * 2 ^ 8 + result * 2 ^ 16 + fldOf taps 0 6 * 2 ^ 24 + fldOf taps 8 6 * 2 ^ 32
    + fldOf taps 16 6 * 2 ^ 40)

/-- A camera's or partner's request on lane n (R130, R131). -/
def State.eqReqIn (s : State) (n : Nat) (b : BitVec 64) : State :=
  let seq := blkBits b 8 8
  let s1 := s.addSat (laneReg 0x48 n) 8 8 1
  let again := match (s1.lane n).eqAnswer with
    | some (q, a) => if q = seq then some a else none
    | none => none
  match again with
  | some a => s1.sendCtl n a
  | none =>
    let r := eqApply (tapsOf (s1.rd (laneReg 0x28 n))) (blkBits b 16 2) (blkBits b 18 3) (blkBits b 21 3)
    let s2 := s1.wr (laneReg 0x28 n) (tapWord r.1)
    let s3 := if r.2 = 1 then s2.addSat (laneReg 0x48 n) 24 8 1 else s2
    let a := eqAnswer seq r.2 (tapWord r.1)
    let x := s3.lane n
    let s4 := s3.setLane n { x with eqAnswer := some (seq, a), eqPeerDone := x.eqPeerDone || r.2 == 3 }
    (s4.sendCtl n a).eqFinish n

/-- EQREQ (R130). -/
def execEqreq (n : Fin 112) (blk : WireBlk) (dt : Nat) (s : State) : Res := s.alive fun s =>
  let s1 := s.pass dt
  .next (match ctlOf blk 0x33 with
    | some b => if s1.laneSt n.val = 4 ∨ s1.laneSt n.val = 5 then s1.eqReqIn n.val b else s1
    | none => s1.blkCount n.val (blkOf blk))

/-- The request that moves lane n's partner one step from its taps to the best ones; none: it stands there. -/
def eqBackStep (cur best : Nat × Nat) : Option (Nat × Nat) :=
  if cur.2 < best.2 then some (1, 1) else if best.2 < cur.2 then some (1, 2)
  else if cur.1 < best.1 then some (0, 1) else if best.1 < cur.1 then some (0, 2)
  else none

/-- The search of R132 goes on. Its steps are post INC, post DEC, pre INC, pre DEC (phases 1 to 4), each taken from the best taps
as long as the margin grows; after all of them, after 4 judged requests without improvement, or when 30 of the 32 requests are
sent, it returns to the best taps and sends DONE (log entry 53). -/
def State.eqNext (s : State) (n : Nat) : State :=
  let x := s.lane n
  let cur := tapsOf (s.rd (laneReg 0x2C n))
  let best := tapsOf (w32 x.eqBestTap)
  let over' := decide (5 ≤ x.eqPhase) || decide (4 ≤ x.eqNoImp) || decide (30 ≤ x.eqCount)
  if 32 ≤ x.eqCount then s
  else match eqBackStep cur best with
    | some (tap, cmd) => s.newEq n tap cmd false
    | none =>
      if over' then s.newEq n 0 4 false
      else s.newEq n (if x.eqPhase ≤ 2 then 1 else 0) (if x.eqPhase % 2 = 1 then 1 else 2) true

/-- An answer to the outstanding request of lane n, with the eye then measured (R130, R132). -/
def State.eqRspIn (s : State) (n : Nat) (b : BitVec 64) (eyeh eyev : Nat) : State :=
  let x := s.lane n
  match x.eqReq with
  | none => s
  | some r =>
    if blkBits b 8 8 = r.seq then
      let taps := w32 (blkBits b 24 6 + blkBits b 32 6 * 2 ^ 8 + blkBits b 40 6 * 2 ^ 16)
      let res := blkBits b 16 3
      let s1 := (s.wr (laneReg 0x2C n) taps).setFld (laneReg 0x30 n) 8 16 (eyeh + eyev * 2 ^ 8)
      if r.cmd = 4 then
        let s2 := s1.setLane n { x with eqReq := none, eqDone := x.eqDone || res == 3 }
        if res = 3 then s2.eqFinish n else s2
      else
        let m := eyeh * eyev
        let good := r.judge && (x.eqPhase == 0 || (res == 0 && decide (x.eqBest < m)))
        let s2 := s1.setLane n { x with
          eqReq := none, eqBest := if good then m else x.eqBest,
          eqBestTap := if good then taps.toNat else x.eqBestTap
          eqNoImp := if good then 0 else x.eqNoImp + b2n r.judge
          eqPhase := if x.eqPhase = 0 then 1 else if r.judge && !good then x.eqPhase + 1 else x.eqPhase }
        s2.eqNext n
    else s

/-- EQRSP (R130, R132); eyeh and eyev are what the receiver measures at those taps. -/
def execEqrsp (n : Fin 112) (blk : WireBlk) (eyeh eyev : BitVec 8) (dt : Nat) (s : State) : Res := s.alive fun s =>
  let s1 := s.pass dt
  .next (match ctlOf blk 0x66 with
    | some b => if s1.laneSt n.val = 4 then s1.eqRspIn n.val b eyeh.toNat eyev.toNat else s1
    | none => s1.blkCount n.val (blkOf blk))

/-- EQ_REQUEST_TIMEOUT (R130): no answer after 20 µs: the same SEQ again, up to 3 repeats, then the attempt fails. -/
def State.eqTimeout (s : State) (n : Nat) : State :=
  match (s.lane n).eqReq with
  | none => s
  | some r =>
    if s.laneSt n = 4 ∧ r.t + usTicks 20 ≤ s.devTime then
      if r.repeats < 3 then
        let q := { r with repeats := r.repeats + 1, t := s.devTime }
        ((s.setLane n { s.lane n with eqReq := some q }).addSat (laneReg 0x48 n) 16 8 1).sendEq n q
      else s.laneFailed n
    else s
def execEqRequestTimeout (n : Fin 112) (dt : Nat) (s : State) : Res := s.alive fun s => .next ((s.pass dt).eqTimeout n.val)

/-! ## Detectors (R137) -/

/-- LOS of an Alaol-1 lane (kind 1) or loss of its sync (kind 2) in A1ACTIVE (R150). -/
def State.a1Lost (s : State) (n kind : Nat) : State :=
  let s1 := (s.faultState 0 kind n 1).laneLock n false
  let s2 := s1.setLane n { s1.lane n with a1Was := true }
  (s2.laneLeaves n).laneGo n 11

/-- LOS of lane n; a lane that is off or out of service has no detector. -/
def State.laneLos (s : State) (n : Nat) : State :=
  let st := s.laneSt n
  let s1 := (((s.setBit (laneStat n) 4 true).laneLock n false).setLane n { s.lane n with comma := false, selfBad := true }).laneIrq n 2
  if st = 0 ∨ st = 10 ∨ st = 13 then s
  else if st = 6 ∨ st = 7 then (if 104 ≤ n then (s1.twinCdr n).twinLaneOut n else s1.laneFault n 1)
  else if st = 12 then s1.a1Lost n 1
  else s1

/-- LOS (R137). -/
def execLos (n : Fin 112) (dt : Nat) (s : State) : Res := s.alive fun s => .next ((s.pass dt).laneLos n.val)

/-- LOL (R137): kind 0 CDR loss, which takes block lock with it; 1 block lock loss; 2 a comma absent from its slot. -/
def execLol (n : Fin 112) (kind : Fin 3) (dt : Nat) (s : State) : Res := s.alive fun s =>
  let s1 := (s.pass dt).laneDue n.val
  let s0 := s1.setLane n.val { s1.lane n.val with comma := false, selfBad := (s1.lane n.val).selfBad || kind.val != 2 }
  let s2 := if kind.val = 2 then s0.addSat (laneReg 0x40 n.val) 0 16 1
    else if kind.val = 1 then s0.setBit (laneStat n.val) 6 false else (s0.laneLock n.val false).twinCdr n.val
  .next (if 3 ≤ s2.laneSt n.val ∧ s2.laneSt n.val ≤ 8 then s2.laneLol n.val
    else if s2.laneSt n.val = 12 ∧ kind.val ≠ 2 then (s2.laneIrq n.val 3).a1Lost n.val 2 else s1)

/-- BER_INTERVAL (R137): a 1 ms interval ends, with errs header errors beside those of the blocks that commands brought. -/
def execBerInterval (n : Fin 112) (errs dt : Nat) (s : State) : Res := s.alive fun s =>
  let s0 := s.pass dt
  let k := (s0.lane n.val).ber + errs
  let s1 := (s0.addSat (laneReg 0x3C n.val) 0 32 errs).setLane n.val { s0.lane n.val with
    ber := 0, selfBad := (s0.lane n.val).selfBad || errs != 0 }
  let st := s1.laneSt n.val
  .next (if (st = 6 ∨ st = 7) ∧ s1.fld (laneReg 0x1C n.val) 16 8 < k then s1.fault 0 7 n.val 0 else s1)

/-! ## Sparing (R139 to R143) -/

/-- The confirm of a SWITCH on spare lane n (R139): the spare carries the position, the failed lane is isolated. In
CAPS no line is lost to it (R143). Only lines that begin from now on are captured, unless the receive direction stayed healthy
(R140, R141). -/
def State.switchDone (s : State) (c : Nat) (w : Switch) : State :=
  let n := w.spare
  let s1 := s.setLane n { s.lane n with carry := some w.pos }
  let s2 := (s1.setBit (laneStat n) 15 true).setBit Reg.LANE_SPRUE (16 + n / 13) true
  let b := s2.bond c
  let tx := b.losses.any (fun l => l.t1.isNone && l.tx)
  let s3 := s2.setBond c { b with
    sw := none, losses := if b.active then closeLoss true s2.devTime b.losses else b.losses
    resume := if tx then b.resume else s2.devTime }
  let s4 := (s3.laneIsolate w.lane).laneIrq n 5
  if (s4.bond c).active then (((s4.laneGo n 6).bondLate c).bondDeferred c) else (s4.capsReady c).bondDeferred c

/-- A SWITCH block that arrives on lane n with payload b: the confirm that the bond awaits is acted on (R139). -/
def State.switchIn (s : State) (n : Nat) (b : BitVec 64) : State :=
  match s.laneBond n with
  | none => s
  | some c =>
    match (s.bond c).sw with
    | none => s
    | some w =>
      if blkBits b 12 1 = 1 ∧ blkBits b 8 4 = w.pos ∧ blkBits b 16 8 = w.seq ∧ n = w.spare then s.switchDone c w else s

/-- SWITCH_CONFIRM (R139): a SWITCH block with DIR 1 arrives on lane n. -/
def execSwitchConfirm (n : Fin 104) (blk : WireBlk) (dt : Nat) (s : State) : Res := s.alive fun s =>
  let s1 := s.pass dt
  .next (match ctlOf blk 0x4B with
    | some b => if s1.laneSends n.val then s1.switchIn n.val b else s1
    | none => s1.blkCount n.val (blkOf blk))

/-- A SWITCH of camera c stays unconfirmed (R142). -/
def State.switchTimeout (s : State) (c : Nat) : State :=
  match (s.bond c).sw with
  | none => s
  | some w =>
    if w.t + usTicks 20 ≤ s.devTime then
      if w.again then
        let s1 := (s.setBond c { s.bond c with sw := none }).fault 0 9 w.lane 2
        (((s1.laneIsolate w.lane).laneIsolate w.spare).bondMute c).bondLate c |>.bondDeferred c
      else s.startSwitch c w.pos w.lane w.spare true
    else s

/-- SWITCH_TIMEOUT (R142). -/
def execSwitchTimeout (c : Fin 96) (dt : Nat) (s : State) : Res := s.alive fun s => .next ((s.pass dt).switchTimeout c.val)

/-! ## Alaol-1 (R150) and the pattern checker (R148) -/

/-- A code group of an Alaol-1 lane at an alignment: it gains sync with four K28.5 at one alignment and no invalid group between
them, and loses it when the error count reaches 4 (R150). In A1ACTIVE only groups at the alignment found are groups. -/
def State.a1Group (s : State) (n : Nat) (g : BitVec 10) (al : Nat) : State :=
  let st := s.laneSt n
  let x := s.lane n
  let sym := decSym? x.a1Rx g
  let rd := some (rdAfter (x.a1Rx.getD false) g)
  let s1 := if sym.isSome then s else s.addSat (laneReg 0x3C n) 0 32 1
  if st = 11 then
    let k := if sym = some (true, 0xBC) then (if al = x.a1Al then x.a1Commas + 1 else 1)
      else if sym.isSome then x.a1Commas else 0
    let s2 := s1.setLane n { x with a1Commas := k, a1Rx := rd, a1Al := if sym = some (true, 0xBC) then al else x.a1Al }
    if 4 ≤ k then
      let s3 := ((s2.laneLock n true).setBit (laneStat n) 4 false).laneGo n 12
      let s4 := s3.setLane n { s3.lane n with a1Was := true, a1Rx := rd }
      match s4.laneBond n with
      | some c => s4.bondUp c
      | none => s4
    else s2
  else if st = 12 ∧ al = x.a1Al then
    if sym.isSome then
      if x.a1Run + 1 = 4 then s1.setLane n { x with a1Run := 0, a1Err := x.a1Err - 1, a1Rx := rd }
      else s1.setLane n { x with a1Run := x.a1Run + 1, a1Rx := rd }
    else if 4 ≤ x.a1Err + 1 then (s1.laneIrq n 3).a1Lost n 2
    else s1.setLane n { x with a1Run := 0, a1Err := x.a1Err + 1, a1Rx := rd }
  else s

/-- A1_CODE_GROUP (R150). -/
def execA1CodeGroup (n : Fin 104) (group : BitVec 10) (al : Fin 10) (dt : Nat) (s : State) : Res := s.alive fun s =>
  .next ((s.pass dt).a1Group n.val group al.val)

/-- A1SYNC_TIMEOUT (R150): more than 1 ms in A1SYNC after A1ACTIVE: L2, and the lane is isolated. -/
def execA1syncTimeout (n : Fin 104) (dt : Nat) (s : State) : Res := s.alive fun s =>
  let s1 := s.pass dt
  let x := s1.lane n.val
  .next (
    if s1.laneSt n.val = 11 ∧ x.a1Was ∧ x.since + usTicks 1000 < s1.devTime then
      (s1.fault 0 (if s1.bit (laneStat n.val) 4 then 1 else 2) n.val 2).laneIsolate n.val
    else s1)

/-- PRBSERR (R148): bits arrive on a lane whose checker is on; the first error sets LANE_IRQ.PRBSERR. A far-end loop sends them
again (Table 5.11). -/
def execPrbserr (n : Fin 104) (bits : List Bool) (dt : Nat) (s : State) : Res := s.alive fun s =>
  let s0 := s.pass dt
  let st := s0.laneSt n.val
  let s1 := if st = 9 ∧ s0.fld (Reg.LANE_TEST n.val) 0 2 = 3 then s0.emit (.bits n.val bits) else s0
  .next (
    if s1.bit (Reg.LANE_TEST n.val) 5 ∧ [0, 1, 9, 10].contains st then
      let x := s1.lane n.val
      let r := bits.foldl (Prbs.bit (s1.fld (Reg.LANE_TEST n.val) 2 2)) { h := x.prbs, sync := x.prbsSync, errs := 0 }
      let first := decide (s1.rd (Reg.LANE_PRBSERR n.val) = 0#32) && decide (0 < r.errs)
      let s2 := (s1.addSat (Reg.LANE_PRBSERR n.val) 0 32 r.errs).setLane n.val { x with prbs := r.h, prbsSync := r.sync }
      if first then s2.laneIrq n.val 9 else s2
    else s1)

end Sys2Proof.Machine
end

