-- ==== Sys2Proof/Machine/Pipeline.lean ====
section
/-!
DEFINITION. Meanings of the pipeline commands (chapter 7), the pipeline inlay of R494 and R495, and the self-test of
the sprue lanes and pipelines (R35, R145).
-/
namespace Sys2Proof.Machine
open Sys2Proof

/-! ## Lines -/

/-- All output lines of a run have been emitted. -/
def PRun.fin (r : PRun) : Bool :=
  r.over && (match r.issued with
    | some i => decide (i < r.nextOut)
    | none => true)

/-- A block whose last line has passed stage 10: BLKDONE, and it is counted (Tables 7.7, 7.10). -/
def State.blkPassed (s : State) (n : Nat) : State := (s.pipeIrq n 0).addWrap (Reg.PIPE_BLKSEQ n) 0 32 1

/-- A block that was cut where it stands: nothing more is emitted for it (R210, R212, R224). -/
def State.blkCutHere (s : State) (n : Nat) (b : PBlk) : State :=
  let x := (s.pipe n).mapBlk (fun k => k.run == b.run && k.i0 == b.i0) (fun k => { k with statDone := true })
  let s1 := s.setPipe n (x.mapRun b.run (fun r => { r with
    nextOut := max r.nextOut b.iEnd }))
  if b.passed = b.total ∧ b.statDone = false then
    let s2 := s1.blkPassed n
    match (s2.asy n).blks.find? (fun k => k.run == b.run && k.i0 == b.i0) with
    | some k => s2.asyBlkEnd n k
    | none => s2.setPipe n ((s2.pipe n).mapBlk (fun k => k.run == b.run && k.i0 == b.i0) (fun k => { k with
        assayDone := true }))
  else s1

/-- What the draw plate of pipeline n does next (R211, R212), once stage 10 is free: the run and block it is at, and the output
line it may emit; no line where the block was cut here. -/
def State.plateNext (s : State) (n : Nat) : Option (PRun × PBlk × Option OutLine) :=
  let x := s.pipe n
  let fmt := (s.pipeCam n).elim [] s.camFmt
  (x.runs.find? (fun r => !r.fin)).bind (fun r => (x.blkOf r.id r.nextOut).bind (fun b =>
    if b.total ≤ b.emitted then some (r, b, none)
    else if b.area then
      ((r.lines.filter (fun l => l.i == b.i0))[b.emitted]?).map (fun l => (r, b, some {
        i := b.i0, x := l.p, expt := l.expt, code := 0, planes := l.planes, y := b.i0 * fmtHeight fmt + l.row }))
    else if plateReady b.bank r r.nextOut then
      some (r, b, some { plateOut b.bank r r.nextOut (fmtPlanesOut fmt)
        (stripeCols (b.bank.w 0) (s.rd (Reg.PIPE_BIND n))).2 with y := r.nextOut })
    else none))

/-- Plate lines that stay once output line o of a block has left: an area camera's rows of the frame in progress, else what
R207 may still need. -/
def PRun.shed (r : PRun) (b : PBlk) (o : OutLine) : PRun :=
  if b.area then (if b.emitted + 1 = b.total then { r with lines := r.lines.filter (fun l => l.i != b.i0) } else r)
  else r.prune o.x

/-- The draw plate of pipeline n emits its next output line, if it may (R211, R212). Stage 10 must be free (R218). -/
def State.plateEmit (s : State) (n : Nat) : State :=
  if (s.pipe n).hold.isSome then s
  else match s.plateNext n with
    | some (_, b, none) => s.blkCutHere n b
    | some (r, b, some o) =>
      let s1 := s.emitLine n r.id b o
      s1.setPipe n ((s1.pipe n).mapRun r.id (fun q => q.shed b o))
    | none => s

/-- Stage 10 holds a line while another is ready behind it: the stages before stall (R218, log entry 136). -/
def State.plateStalled (s : State) (n : Nat) : Bool := (s.pipe n).hold.isSome && (s.plateNext n).any (·.2.2.isSome)

/-- SLOT_FREE: stage 2 has read the oldest line or row of pipeline n (R195). A stall leaves it in its slot (R218). -/
def execSlotFree (n : Fin 104) (dt : Nat) (s : State) : Res := s.alive fun s =>
  let s0 := s.pass dt
  .next (if s0.pipeClk n.val && !s0.plateStalled n.val then s0.stage2Read n.val else s0)

/-- DRAW_PLATE_EMIT (R211). -/
def execDrawPlateEmit (n : Fin 104) (dt : Nat) (s : State) : Res := s.alive fun s =>
  let s0 := s.pass dt
  .next (if s0.pipeClk n.val then s0.plateEmit n.val else s0)

/-! ## Stage 10 (R216 to R218) -/

/-- Line stride of a camera's capture ring (R299). -/
def ringStride (fmt : List Byte) (f : Nat) : Nat := (fmtWidth fmt * fmtPlanesOut fmt * ringBytes f + 63) / 64 * 64
/-- Device address of slot k of camera c's capture ring for blocks of B lines (R299, Table 10.3). -/
def State.slotAddr (s : State) (c k stride lines : Nat) : Nat := s.rd64 (Reg.CRU_CAMCRBASE_LO c) + k * (512 + lines * stride)

/-- The slot of a block of camera c, when the block has one, and whether capture-keep has latched it. -/
def State.blkSlot (s : State) (c run i0 : Nat) : Option Nat × Bool :=
  match (s.cru c).blocks.find? (fun k => k.run == run && k.i0 == i0) with
  | some k => (k.slot, k.keep)
  | none => (none, false)

/-- A line's core columns go to line `row` of the block's slot: pixel-interleaved samples (R299). -/
def State.ringLine (s : State) (n c : Nat) (b : PBlk) (row : Nat) (o : OutLine) : State :=
  let f := b.bank.f 0x7C 2 2
  let k := s.blkSlot c b.run b.i0
  match k.1 with
  | some slot =>
    if bitOf (b.bank.w 0x7C) 1 || k.2 then
      let fmt := s.camFmt c
      let stride := ringStride fmt f
      let core := trimLine b.bank (s.rd (Reg.PIPE_BIND n)) 0 o.planes
      s.devWrite (s.slotAddr c slot stride b.len + 512 + row * stride +
        b.bank.f 0 0 16 * fmtPlanesOut fmt * ringBytes f) (Machine.ringLine f core)
    else s
  | none => s

/-- The line that stage 10 of pipeline n holds goes to the assay stage and the ring path (R217), if they accept it:
the assay stage takes a line while none waits in it (R218). -/
def State.stage10 (s : State) (n : Nat) : State :=
  let x := s.pipe n
  match x.hold with
  | none => s
  | some o =>
    match x.blkOf x.holdRun o.i with
    | none => s.setPipe n { x with hold := none }
    | some b =>
      let assay := bitOf (b.bank.w 0x7C) 0
      if assay && (s.asy n).queue != [] then s
      else
        let last := decide (b.passed + 1 = b.total)
        let line : AsyLine := {
          run := b.run, i0 := b.i0, seq := b.seq, last := last
          o := { o with planes := trimLine b.bank (s.rd (Reg.PIPE_BIND n)) (b.bank.f 0x7C 4 7) o.planes } }
        let s1 := if assay then s.setAsy n { s.asy n with queue := (s.asy n).queue ++ [line] } else s
        let s2 := match s1.pipeCam n with
          | some c => s1.ringLine n c b b.passed o
          | none => s1
        let y := (s2.pipe n).mapBlk (fun k => k.run == b.run && k.i0 == b.i0) (fun k => { k with
          passed := k.passed + 1, assayDone := k.assayDone || (last && !assay) })
        let s3 := s2.setPipe n { y with hold := none }
        if last then s3.blkPassed n else s3

/-- STAGE10_ACCEPT (R218). -/
def execStage10Accept (n : Fin 104) (dt : Nat) (s : State) : Res := s.alive fun s =>
  let s0 := s.pass dt
  .next (if s0.pipeClk n.val then s0.stage10 n.val else s0)

/-! ## Contexts and control -/

/-- SHADOW_COPY_DONE (R222): the copy that a swap began ends. -/
def execShadowCopyDone (n : Fin 104) (dt : Nat) (s : State) : Res := s.alive fun s =>
  let s0 := s.pass dt
  .next (if s0.pipeBit n.val 3 then s0.copyDone n.val else s0)

/-- PIPE_CMD.ARM (R220): PEND is set. -/
def State.pipeCmdArm (s : State) (n : Nat) : State :=
  (s.w1sSet (Reg.PIPE_CMD n) 0 (s.pipeBit n 2)).pipeSet n 2 true
def execPipeCmdArm (n : Fin 104) (s : State) : Res := s.alive fun s => s.reach 0 (Reg.PIPE_CMD n.val) fun s =>
  .next (s.pipeCmdArm n.val)

/-- PIPE_CMD.CLRCNT (Table 7.7): OVF, DPCCNT, GAPCNT and GRIDERR. -/
def State.pipeClr (s : State) (n : Nat) : State :=
  (((s.wr (Reg.PIPE_OVF n) 0#32).wr (Reg.PIPE_DPCCNT n) 0#32).wr (Reg.PIPE_GAPCNT n) 0#32).wr (Reg.PIPE_GRIDERR n) 0#32
def execPipeClrcnt (n : Fin 104) (s : State) : Res := s.alive fun s => s.reach 0 (Reg.PIPE_CMD n.val) fun s =>
  .next (s.pipeClr n.val)

/-- One past the highest index of run r that pipeline n has accepted. -/
def PRun.upTo (r : PRun) (q : List InItem) : Nat :=
  q.foldl (fun m g => match g.lrec with
    | some l => if l.run = r.id ∧ g.gap = false then max m (l.i + 1) else m
    | none => m) r.seen

/-- A block whose lines end before index e (R224). -/
def PBlk.stopAt (b : PBlk) (e : Nat) : PBlk :=
  if b.area then
    if b.i0 < e then b else { b with cut := some 0, partLoss := true }
  else if e < b.iEnd ∧ b.cut = none ∧ b.statDone = false then
    { b with cut := some (max (e - b.i0) b.emitted), partLoss := true }
  else b

/-- The last row that the slots hold ends its frame: no further row comes (R224). -/
def lastRowSet : List InItem → List InItem
  | [] => []
  | g :: rest => if !g.gap && rest.all (·.gap) then { g with lastRow := true } :: rest else g :: lastRowSet rest

/-- Acceptance of pipeline n stops at once: its runs end at the last index accepted, and the block in progress closes
there with PARTIAL (R224). A frame ends with the rows accepted. -/
def State.pipeHalt (s : State) (n : Nat) : State :=
  let d := ((s.pipeDiscard n).pipeSet n 0 false).pipeSet n 7 false
  let s0 := d.setPipe n { d.pipe n with inq := lastRowSet (d.pipe n).inq }
  let s1 := if (s0.pipe n).frame.isSome && !(s0.pipe n).inq.any (fun g => !g.gap && g.lrec == (s0.pipe n).frame) then
      s0.frameDone n else s0
  let x := s1.pipe n
  let stop : Nat → Nat := fun id => match x.runs.find? (fun r => r.id == id) with
    | some r => if r.ended then (match r.issued with
        | some i => i + 1
        | none => 0) else r.upTo x.inq
    | none => 0
  s1.setPipe n { x with
    runs := x.runs.map (fun r => if r.ended then r else { r with
      ended := true, issued := if r.upTo x.inq = 0 then none else some (r.upTo x.inq - 1) })
    blks := x.blks.map (fun (b : PBlk) => b.stopAt (stop b.run)) }

/-- A write of PIPE_CTL (R224). -/
def State.pipeCtl (s : State) (n : Nat) (v : Word) : State :=
  let was := s.pipeEn n
  let s1 := s.putReg (Reg.PIPE_CTL n) v
  if s1.pipeEn n && !was then
    (if s1.bit (Reg.PIPE_BIND n) 0 && !s1.pipeBit n 6 then s1.pipeSet n 7 true else s1)
  else if was && !s1.pipeEn n then s1.pipeHalt n
  else s1
def execPipeCtlWrite (n : Fin 104) (v : Word) (s : State) : Res := s.alive fun s => s.reach 0 (Reg.PIPE_CTL n.val) fun s =>
  .next (s.rwl .pipe (fun t => t.pipeCtl n.val v))

/-- A write of PIPE_BIND: ignored with BADCFG while EN is set (Table 7.7); the count of blocks starts anew with a new
binding (R288). -/
def State.pipeBind (s : State) (n : Nat) (v : Word) : State :=
  if s.pipeEn n then (s.pipeSet n 4 true).pipeIrq n 2
  else
    let s1 := (s.putReg (Reg.PIPE_BIND n) v).wr (Reg.PIPE_BLKSEQ n) 0#32
    match s1.pipeCam n with
    | some c => if c < 96 then s1.wr (Reg.CRU_CAMBLKSEQ c) 0#32 else s1
    | none => s1
def execPipeBindWrite (n : Fin 104) (v : Word) (s : State) : Res := s.alive fun s => s.reach 0 (Reg.PIPE_BIND n.val) fun s =>
  .next (s.rwl .pipe (fun t => t.pipeBind n.val v))

/-! ## Errors (R225, Table 7.5) -/

/-- CACHE_UE: counted and reported at L2; the reaction follows from the record. -/
def execCacheUe (n : Fin 104) (dt : Nat) (s : State) : Res := s.alive fun s =>
  .next (((s.pass dt).addSat (Reg.PIPE_ECC n.val) 16 16 1).fault 2 4 n.val 2)
/-- CACHE_CE: counted, PIPE_IRQ.ECC, noted. -/
def execCacheCe (n : Fin 104) (dt : Nat) (s : State) : Res := s.alive fun s =>
  .next ((((s.pass dt).addSat (Reg.PIPE_ECC n.val) 0 16 1).pipeIrq n.val 6).fault 2 3 n.val 0)
/-- DPATH: a residue check failed in a stage of the pipeline, or in its assay stage. -/
def execDpath (n : Fin 104) (assay : Bool) (dt : Nat) (s : State) : Res := s.alive fun s =>
  .next (if assay then (s.pass dt).fault 3 3 n.val 2 else (s.pass dt).fault 2 5 n.val 2)

/-! ## Pipeline inlay (R31, R226, R494, R495) -/

/-- What the sprue knows of a run of the pipeline it replaces: its start, and that lines arrive from here on. -/
def PRun.carry (r : PRun) (next : Nat) : PRun :=
  { r with
    first := r.seen, nextOut := next, aligned := r.seen, raw := [], lines := [], anchors := [] }

/-- A block as the sprue takes it over (R495): the lines that had passed stage 10 stand. A block that lies wholly past it
keeps its statistics record; the rest of its assay work is lost. -/
def PBlk.carry (b : PBlk) (forced : Bool) : PBlk :=
  if b.passed = b.total then
    { b with assayDone := true, inlaid := b.inlaid || !b.assayDone, forced := b.forced || (forced && !b.assayDone) }
  else
    let codes := b.pre ++ b.outs.map (·.code)
    { b with
      pre := codes.take b.passed, outs := [], linesIn := 0, dpc := 0, inlaid := true, forced := b.forced || forced
      statDone := false, assayDone := false }

/-- Pipeline n stops for good: it accepts no line, its work not past stage 10 is gone, its open blobs leave with TRUNC, and its
mark measurements in progress count as unmeasured (Table 16.6 step 2, R495, R263). -/
def State.pipeRetire (s : State) (n : Nat) : State :=
  let v := s.asyView n
  let s0 := s.addSat (Reg.ASY_VMARK v) 16 16 (s.marksOpen n)
  let s1 := s0.blobsEnd n true false
  let s2 := ((((s1.pipeSet n 0 false).pipeSet n 7 false).pipeSet n 6 true).setAsy n {})
  s2.setPipe n { s2.pipe n with
    inq := [], drop := false, frame := none, frows := [], runs := [], blks := [], hold := none, waiting := [] }

/-- Pipeline n is isolated without a sprue (R33): its blocks in progress end where they stand, with PARTIAL. -/
def State.pipeIsolate (s : State) (n : Nat) : State :=
  (s.each ((s.pipe n).blks.filter (fun b => !b.posted)) (fun t b =>
    t.postEnd n { b with
      cut := some b.passed, partLoss := b.partLoss || decide (b.passed < b.total), statDone := true, assayDone := true })
    ).pipeRetire n

/-- What the crucible keeps of the registration of pipeline n's stripe (R263). -/
def State.cellMem (s : State) (n : Nat) : Option CellMem :=
  (s.pipeCam n).bind (fun c => ((s.cru c).cells.find? (fun e => e.1 == s.fld (Reg.PIPE_BIND n) 8 3)).map (·.2))

/-- The sprue m = 13 k + 12 begins to take over pipeline n (Table 16.6 steps 2 and 3): binding, control, counts, bank number,
a pending swap (R31), and the image from which it will load. -/
def State.inlayStart (s : State) (n m : Nat) (forced : Bool) : State :=
  let x := s.pipe n
  let live := x.blks.filter (fun b => !b.posted)
  let next : Nat → Nat := fun id => match live.find? (fun b => b.run == id && decide (b.passed < b.total)) with
    | some b => if b.area then b.i0 else b.i0 + b.passed
    | none => (x.runs.find? (fun r => r.id == id)).elim 0 (·.nextOut)
  let s0 := s.wr (Reg.PIPE_BIND m) (s.rd (Reg.PIPE_BIND n))
  let s1 := s0.wr (Reg.PIPE_CTL m) (s.rd (Reg.PIPE_CTL n))
  let s2 := (s1.wr (Reg.PIPE_BLKSEQ m) (s.rd (Reg.PIPE_BLKSEQ n))).wr (Reg.PIPE_FRAME m) (s.rd (Reg.PIPE_FRAME n))
  let s3 := ((((s2.pipeSet m 1 (s.pipeBit n 1)).pipeSet m 2 (s.pipeBit n 2)).pipeSet m 7 (s.pipeBit n 7)).moveImage n m).setPipe m {
    rep := some n, loading := true, runs := x.runs.map (fun r => r.carry (next r.id))
    blks := live.map (·.carry forced), nblk := x.nblk }
  let s4 := (s3.pipeRetire n).setAsy m { seed := s.cellMem n }
  let s5 := (s4.setBit Reg.PIPE_SPRUE (8 + m / 13) true).setFld Reg.PIPE_SPRUEMAP (4 * (m / 13)) 4 (n % 13)
  match s5.pipeCam m with
  | some c => s5.setCru c { s5.cru c with
      blocks := (s5.cru c).blocks.map (fun b => { b with pipes := b.pipes.map (fun p => if p = n then m else p) }) }
  | none => s5

/-- A sprue's load ends (Table 16.6 steps 4 and 5): a swap that was due meanwhile takes place, as it would have on the failed
pipeline (R31), and blocks that opened since have their bank. -/
def State.inlayLoaded (s : State) (m : Nat) : State :=
  let x := s.pipe m
  let s1 := (s.loadImage m).pipeSet m 5 true
  let s2 := (s1.pipeSet m 0 (s1.pipeEn m && !s1.pipeBit m 7)).setPipe m { s1.pipe m with loading := false, lateSwap := false }
  let s3 := if x.lateSwap then
      (if s2.swapBad m ((s2.pipeCam m).elim [] s2.camFmt) then s2.swapRefuse m else s2.swapTake m) else s2
  s3.setPipe m ((s3.pipe m).mapBlk (·.fresh) (fun b => { b with bank := s3.activeBank m, fresh := false }))

/-- PIPE_INLAY_DONE (Table 16.6 steps 4 and 5): sprue k has loaded both banks of pipeline and assay stage from the
image, and accepts the stripe's next line. -/
def execPipeInlayDone (k : Fin 8) (dt : Nat) (s : State) : Res := s.alive fun s =>
  let s0 := s.pass dt
  let m := 13 * k.val + 12
  .next (if (s0.pipe m).rep.isSome && (s0.pipe m).loading then s0.inlayLoaded m else s0)

/-! ## Self-tests of the sprue units (R35, R145) -/

/-- A self-test of sprue lane n has its result (Table 5.13). -/
def State.laneSelfDone (s : State) (n : Nat) (ok : Bool) : State :=
  let s1 := s.addWrap Reg.LANE_SELFT 0 16 1
  if ok then (s1.setBit Reg.LANE_SPRUE (n / 13) true).setLane n { s1.lane n with spareFail := false }
  else (s1.addSat Reg.LANE_SELFT 16 8 1).spareFailed n

/-- The self-test of an idle sprue lane (R145). A spare in STANDBY is judged by what it received since the last test. A lane that
is not cabled enters the near-end parallel loop with PRBS31, and 10 µs later it must show no error; its rates do not matter there
(log entry 134). -/
def State.laneSelftest (s : State) (n : Nat) : State :=
  let x := s.lane n
  if s.laneSt n = 7 then
    (s.setLane n { x with selfBad := false }).laneSelfDone n (!x.selfBad && s.bit (laneStat n) 6)
  else if s.bit (Reg.LANE_BOND n) 0 then s
  else match x.selfT with
    | none =>
      if s.laneSt n = 0 ∨ s.laneSt n = 1 ∨ s.laneSt n = 10 then
        let s1 := ((s.lanePrbsRst n).wr (Reg.LANE_TEST n) 0x3A#32).laneGo n 9
        s1.setLane n { s1.lane n with selfT := some s1.devTime }
      else s
    | some t =>
      if t + usTicks 10 ≤ s.devTime then
        let ok := decide (s.rd (Reg.LANE_PRBSERR n) = 0#32)
        let s1 := s.setLane n { x with selfT := none }
        let s2 := if s1.laneSt n = 9 then ((s1.wr (Reg.LANE_TEST n) 0#32).laneGo n 0).laneWake n else s1
        s2.laneSelfDone n ok
      else s

/-- SPRUE_SELFTEST: bench firmware's self-test of the idle sprue lane or sprue pipeline of group k, while the bench is in service (R390). A unit in use is not tested; one
that fails is marked unavailable and noted. `ok` is what the test of a pipeline finds; a lane's result follows from what it
received. -/
def execSprueSelftest (pipe : Bool) (k : Fin 8) (ok : Bool) (dt : Nat) (s : State) : Res := s.alive fun s =>
  let s0 := s.pass dt
  let n := 13 * k.val + 12
  .next (
    if !s0.fwDuty 1 then s0
    else if pipe then
      if s0.bit Reg.PIPE_SPRUE (8 + k.val) then s0
      else
        let s1 := (s0.addWrap Reg.PIPE_SELFT 0 16 1).setBit Reg.PIPE_SPRUE k.val ok
        if ok then s1 else (s1.addSat Reg.PIPE_SELFT 16 8 1).fault 2 6 n 0
    else if s0.bit Reg.LANE_SPRUE (16 + k.val) then s0
    else s0.laneSelftest n)

end Sys2Proof.Machine
end

