-- ==== Sys2Proof/Machine/AxisOps.lean ====
section
/-!
DEFINITION. The shared operations of the position unit (chapter 2): direction of a count, the extrapolated position,
the bookkeeping of a new measurement, standstill, the missing-index test, apply and enable, HOLD and its end, the
index latch with its drift check, publication, and speed windows.
-/
namespace Sys2Proof.Machine
open Sys2Proof

/-- POS_AXEN.EN of axis n. -/
def State.axEn (s : State) (n : Nat) : Bool := s.bit (Reg.POS_AXEN n) 0
/-- The active mode of axis n (POS_AXCTLA.MODE). -/
def State.axMode (s : State) (n : Nat) : Nat := s.fld (Reg.POS_AXCTLA n) 0 2
/-- Axis n is in HOLD (R65). -/
def State.axHold (s : State) (n : Nat) : Bool := s.bit (Reg.POS_AXSTAT n) 3
/-- Axis n travels in reverse (POS_AXSTAT.DIR). -/
def State.axRev (s : State) (n : Nat) : Bool := s.bit (Reg.POS_AXSTAT n) 1
/-- The clock of the position unit runs (Table 15.3). -/
def State.posClk (s : State) : Bool := s.clkOn 231
/-- P_pub of axis n (R53). -/
def State.axPos (s : State) (n : Nat) : Posn := s.rdPos (Reg.POS_AXPOS_LO n)
/-- The high-water mark of axis n (R58). -/
def State.axHwm (s : State) (n : Nat) : Posn := s.rdPos (Reg.POS_AXHWM_LO n)
/-- V_pub of axis n, signed 8.24 PT per tick. -/
def State.axVel (s : State) (n : Nat) : Int := (s.rd (Reg.POS_AXVEL n)).toInt

/-- The producer of Table 4.1 that goes with a bit of POS_AXIRQ. -/
def axProducer (i : Nat) : Option Nat :=
  if i = 0 then some 0 else if i = 1 then some 1 else if i = 9 then some 2 else if i = 3 then some 3
  else if i = 4 then some 4 else if i = 5 then some 5 else if i = 6 then some 6 else if i = 10 then some 7 else none

/-- Axis n sets bit i of POS_AXIRQ and publishes the event that goes with it (Table 4.1). -/
def State.axIrq (s : State) (n i : Nat) : State :=
  let s1 := s.irq (Reg.POS_AXIRQ n) n i
  match axProducer i with
  | some p => s1.produce (8 * n + p)
  | none => s1

/-- A sign reversed when POS_AXCTLA.INV is set. -/
def State.axSign (s : State) (n : Nat) (d : Int) : Int := if s.bit (Reg.POS_AXCTLA n) 2 then -d else d

/-- Place of the levels (A, B) in the forward cycle 00, 10, 11, 01 of R43: A leads B in forward travel. -/
def quadIndex (a b : Bool) : Nat := if a then (if b then 2 else 1) else (if b then 3 else 0)

/-- The count of a change of one input, +1 in forward travel (R43), after the exchange of SWAPAB. -/
def quadCount (swap : Bool) (a b a' b' : Bool) : Int :=
  let i := if swap then quadIndex b a else quadIndex a b
  let j := if swap then quadIndex b' a' else quadIndex a' b'
  if (i + 1) % 4 = j then 1 else if (j + 1) % 4 = i then -1 else 0

/-- The greatest lead of E over M, in PT (R54). -/
def State.axLeadLimit (s : State) (n : Nat) : Nat :=
  let v := (s.axis n).v.natAbs
  if s.axMode n = 0 then 4095
  else if s.axMode n = 1 then v * usTicks 3 / 2 ^ 24
  else v * (2 * usTicks (s.fld (Reg.POS_AXABSPER n) 0 16)) / 2 ^ 24

/-- The lead of E over M at time t: the magnitude of V times the time since the measurement, in whole PT, limited (R54; log
entry 8).
In quadrature the velocity used is at most 4,096 PT over that time, which the limit of 4,095 PT already gives. -/
def State.axLead (s : State) (n t : Nat) : Nat :=
  min ((s.axis n).v.natAbs * (t - (s.axis n).tM) / 2 ^ 24) (s.axLeadLimit n)

/-- The extrapolated position E of axis n at time t (R54). -/
def State.axE (s : State) (n t : Nat) : Posn :=
  let l : Int := s.axLead n t
  posAdd (s.axis n).m (if (s.axis n).v < 0 then -l else l)

/-- The velocity estimate starts afresh (R55). -/
def Axis.restartV (x : Axis) : Axis := { x with v := 0, vEdge := none, vIvals := [], vSamples := [] }

/-- Set the velocity estimate, saturated to signed 8.24. -/
def Axis.withV (x : Axis) (v : Int) : Axis := { x with v := satI 32 v }

/-- The missing-index test of R62 after a move of M. -/
def State.axNoIdx (s : State) (n : Nat) : State :=
  let rev := s.rdN (Reg.POS_AXREVPT n)
  let x := s.axis n
  let d := posDiff x.m x.refR
  if rev ≠ 0 ∧ 3 * rev < 2 * d.natAbs then
    let s1 := s.setAxis n { x with refR := posAdd x.refR (if d < 0 then -(rev : Int) else (rev : Int)) }
    (s1.axIrq n 11).fault 5 8 n 0
  else s

/-- Axis n takes a new measurement m acquired at t, with the other fields of its record as x has them: a change of M
ends standstill (R57) and is tested against the reference position (R62). -/
def State.axMeasure (s : State) (n : Nat) (x : Axis) (m : Posn) (t : Nat) : State :=
  if m = x.m then s.setAxis n { x with tM := t }
  else
    let s1 := s.setAxis n { x with m := m, tM := t, tChange := t }
    let s2 := if s1.bit (Reg.POS_AXSTAT n) 2 then (s1.setAxBit n 2 false).axIrq n 4 else s1
    s2.axNoIdx n

/-- Measurement, drift baseline and index reference restart at P_pub (R62, R66, R70). -/
def State.axReref (s : State) (n : Nat) : State :=
  let p := s.axPos n
  s.setAxis n { (s.axis n).restartV with
    m := p, tM := s.devTime, tChange := s.devTime, far := p, frac := 0, phi := none, k := 0, word := none,
    ampBad := 0, chkRun := 0, jmpRun := 0, base := false, turned := false, refR := p }

/-- The first valid word is to load P_pub where the mode is absolute word and ABSLOAD is 1 (R70), and the request period
counts from now (R50, log entry 122). -/
def State.axArmLoad (s : State) (n : Nat) : State :=
  s.setAxis n { s.axis n with absLoad := decide (s.axMode n = 2) && s.bit (Reg.POS_AXCTLA n) 8, tReq := s.devTime }

/-- The axis refuses MODE 0b11: APPLYERR and a class-14 note (R70). -/
def State.axApplyErr (s : State) (n : Nat) : State := (s.axIrq n 8).fault 14 4 n 0

/-- An apply that keeps the mode: the count goes on, and the estimate, the drift baseline and the reference of R62 restart
(R70); the first word sets the reference (R52). The offset of a sin/cos measurement keeps M where INV changes. -/
def State.axRestart (s : State) (n : Nat) : State :=
  let x := s.axis n
  let ofs := match x.phi with
    | some phi => posAdd x.m (-(s.axSign n (x.k * 16384 + (phi / 4 : Nat))))
    | none => x.ofs
  s.setAxis n { x.restartV with
    ofs := ofs, frac := 0, word := none, ampBad := 0, chkRun := 0, jmpRun := 0, base := false, turned := false,
    refR := s.axPos n }

/-- Apply the shadow of POS_AXCTL (R69, R70): a new mode measures on from P_pub. -/
def State.axApply (s : State) (n : Nat) : State :=
  if s.fld (Reg.POS_AXCTL n) 0 2 = 3 then s.axApplyErr n
  else
    let same := decide (s.fld (Reg.POS_AXCTL n) 0 2 = s.axMode n)
    let s1 := s.wr (Reg.POS_AXCTLA n) (s.rd (Reg.POS_AXCTL n))
    let s2 := (if same then s1.axRestart n else s1.axReref n).axArmLoad n
    (s2.setAxis n { s2.axis n with tApply := some s.devTime }).axIrq n 7

/-- Apply the shadow unless this tick has applied it: an index and a RESYNC in one tick cause one apply (R69). -/
def State.axApplyOnce (s : State) (n : Nat) : State :=
  if (s.axis n).tApply = some s.devTime then s else s.axApply n

/-- End an armed apply: POS_AXSTAT.APPLYPEND and POS_AXCMD.APPLYIDX clear (R69). -/
def State.axDisarm (s : State) (n : Nat) : State :=
  (s.setBit (Reg.POS_AXSTAT n) 6 false).setBit (Reg.POS_AXCMD n) 1 false

/-- Length of a speed window that starts at t with POS_AXSPDWIN as it stands: to the next whole multiple (R63). -/
def State.axSpdLen (s : State) (n t : Nat) : Nat :=
  let w := usTicks (clampN 10 100000 (s.fld (Reg.POS_AXSPDWIN n) 0 17))
  w - t % w

/-- Start a speed window now. -/
def State.axSpdStart (s : State) (n t : Nat) : State :=
  s.setAxis n { s.axis n with spdM := s.axE n t, spdT := t, spdLen := s.axSpdLen n t }

/-- Axis HOLD (R65): P_pub and the high-water mark freeze, V_pub is 0, HOLD is set and VALID cleared. -/
def State.axEnterHold (s : State) (n : Nat) : State :=
  if s.axHold n || !s.axEn n then s
  else
    let s1 := (s.setBit (Reg.POS_AXSTAT n) 3 true).setAxBit n 0 false
    (s1.wr (Reg.POS_AXVEL n) 0#32).axIrq n 5

/-- The axis leaves HOLD (R66). -/
def State.axLeaveHold (s : State) (n : Nat) : State :=
  if s.axHold n then
    let s1 := (s.setBit (Reg.POS_AXSTAT n) 3 false).axReref n
    let s2 := (s1.setAxBit n 0 (s1.axEn n)).setBit (Reg.POS_AXSTAT n) 4 true
    s2.axIrq n 6
  else s

/-- The index qualifier of R60 matches: in quadrature the input levels after SWAPAB, in sin/cos the quadrant of the last
phase. -/
def State.axQualified (s : State) (n : Nat) : Bool :=
  let x := s.axis n
  let sw := s.bit (Reg.POS_AXCTLA n) 3
  let a := if sw then x.pinB else x.pinA
  let b := if sw then x.pinA else x.pinB
  let want := s.fld (Reg.POS_AXCTLA n) 5 2
  if s.bit (Reg.POS_AXCTLA n) 4 then
    if s.axMode n = 0 then decide (2 * b2n b + b2n a = want)
    else if s.axMode n = 1 then decide ((x.phi.getD 0) / 2 ^ 14 = want)
    else true
  else true

/-- Drift check after a latch (R61). -/
def State.axDrift (s : State) (n : Nat) : State :=
  let x := s.axis n
  let rev := s.rdN (Reg.POS_AXREVPT n)
  if rev = 0 ∨ x.base = false ∨ x.turned then s
  else
    let r : Int := if s.axRev n then -(rev : Int) else (rev : Int)
    let d := posDiff (s.rdPos (Reg.POS_AXIDX_LO n)) (s.rdPos (Reg.POS_AXIDXPREV_LO n)) - r
    let s1 := s.wr (Reg.POS_AXDRIFT n) (BitVec.ofInt 32 (satI 32 d))
    if s1.fld (Reg.POS_AXDRTOL n) 0 24 < d.natAbs then
      ((s1.setBit (Reg.POS_AXSTAT n) 5 true).axIrq n 2).fault 5 7 n 0
    else s1.setBit (Reg.POS_AXSTAT n) 5 false

/-- Latch the index at time t (R60, R61, R62). -/
def State.axLatch (s : State) (n t : Nat) : State :=
  let p := if s.axMode n = 0 then (s.axis n).m else s.axE n t
  let s1 := s.wrPos (Reg.POS_AXIDXPREV_LO n) (s.rdPos (Reg.POS_AXIDX_LO n))
  let s2 := (s1.wrPos (Reg.POS_AXIDX_LO n) p).wr64 (Reg.POS_AXIDXT_LO n) t
  let s3 := (s2.axIrq n 1).axDrift n
  s3.setAxis n { s3.axis n with base := true, turned := false, refR := p }

/-- Arm an apply at the next index: POS_AXSTAT.APPLYPEND and POS_AXCMD.APPLYIDX (R69). A write that finds it armed may meet
the index in its own clock (R8). -/
def State.axArm (s : State) (n : Nat) : State :=
  let s1 := if s.bit (Reg.POS_AXSTAT n) 6 then s.noteAgain (Reg.POS_AXCMD n) 1 else s
  (s1.setBit (Reg.POS_AXCMD n) 1 true).setBit (Reg.POS_AXSTAT n) 6 true

/-- An accepted ENC_Z edge of the configured polarity: an armed apply takes effect first (R69), then the latch. -/
def State.axIndex (s : State) (n : Nat) : State :=
  if s.axQualified n then
    let s1 := if s.bit (Reg.POS_AXSTAT n) 6 then
        ((s.axDisarm n).axApplyOnce n).w1sDone (Reg.POS_AXCMD n) 1 (fun t => t.axArm n) else s
    s1.axLatch n s1.devTime
  else s

/-- a lies ahead of b in the axis's current direction. -/
def aheadIn (rev : Bool) (a b : Posn) : Bool := if rev then posLt a b else posLt b a

/-- Reversal of axis n (R56): DIR toggles, DIRCHG, P_pub takes M and the estimate restarts. -/
def State.axReverse (s : State) (n : Nat) : State :=
  let s1 := (s.setAxBit n 1 (!s.axRev n)).axIrq n 0
  let x := s1.axis n
  ((s1.setAxis n { x.restartV with far := x.m, turned := true }).wrPos (Reg.POS_AXPOS_LO n) x.m).wr (Reg.POS_AXVEL n) 0#32

/-- P_pub and V_pub of a publication without reversal: P_pub follows E forward in its direction, and holds with
V_pub 0 while E lies behind it or stands at its lead limit (R56; log entry 9). -/
def State.axAdvance (s : State) (n : Nat) : State :=
  let e := s.axE n s.devTime
  let p := s.axPos n
  let v := (s.axis n).v
  if aheadIn (s.axRev n) e p then
    (s.wrPos (Reg.POS_AXPOS_LO n) e).wr (Reg.POS_AXVEL n) (BitVec.ofInt 32 v)
  else if e = p ∧ s.axLead n s.devTime < s.axLeadLimit n then
    s.wr (Reg.POS_AXVEL n) (BitVec.ofInt 32 v)
  else s.wr (Reg.POS_AXVEL n) 0#32

/-- The high-water mark follows P_pub (R58). -/
def State.axMark (s : State) (n : Nat) : State :=
  if posLt (s.axHwm n) (s.axPos n) then s.wrPos (Reg.POS_AXHWM_LO n) (s.axPos n) else s

/-- One publication of an enabled axis n (R53, R56, R58). -/
def State.axTriple (s : State) (n : Nat) : State :=
  let s2 := s.setAxis n { s.axis n with tPub := s.devTime }
  if s2.axHold n then s2
  else
    let x := s2.axis n
    let far := if aheadIn (s2.axRev n) x.m x.far then x.m else x.far
    let s3 := s2.setAxis n { x with far := far }
    let fall := (posDiff far x.m).natAbs
    if 0 < fall ∧ s3.fld (Reg.POS_AXHYST n) 0 16 ≤ fall then (s3.axReverse n).axMark n
    else (s3.axAdvance n).axMark n

/-- A RESYNC waits for the next publication tick, POS_AXCMD.RESYNC set (R69). -/
def State.axWaitSync (s : State) (n : Nat) : State :=
  (s.setBit (Reg.POS_AXCMD n) 0 true).setAxis n { s.axis n with resync := true }

/-- A publication tick of axis n (R53): a RESYNC takes effect (R69), then an enabled axis publishes. -/
def State.axPublish (s : State) (n : Nat) : State :=
  if s.posClk then
    let s1 := if (s.axis n).resync then
        (((s.setAxis n { s.axis n with resync := false }).setBit (Reg.POS_AXCMD n) 0 false).axApplyOnce n).w1sDone
          (Reg.POS_AXCMD n) 0 (fun t => t.axWaitSync n) else s
    if s1.axEn n then s1.axTriple n else s1
  else s

end Sys2Proof.Machine
end

