-- ==== Sys2Proof/Machine/TrigOps.lean ====
section
/-!
DEFINITION. The shared operations of the trigger unit (chapter 3): output pins and pairs (R95 to R97), line records
(R80, R160), pitch generators (R78 to R85), compare lists (R88 to R93), and the scheduling of crossings (R75).
-/
namespace Sys2Proof.Machine
open Sys2Proof

/-- The trigger unit's clock runs (Table 15.3). -/
def State.trgClk (s : State) : Bool := s.clkOn 232
/-- Publish on a channel that a trigger unit register or entry names, when the unit's clock and the router's run (R106). -/
def State.pubCh (s : State) (ch : Nat) : State := if s.trgClk && s.clkOn 233 then s.publish ch else s

/-! ## Output pins -/

/-- The trigger pins are at high impedance (R87). -/
def State.trgHiz (s : State) : Bool := s.bit Reg.TRG_ROLE 0

/-- Pin p's driver is on (R87, R95). -/
def State.pinDriven (s : State) (p : Nat) : Bool := s.bit (Reg.TRG_PINCFG p) 0 && !s.trgHiz

/-- Pins whose drivers are on go to high impedance (R87, R511). -/
def State.pinsFloat (s : State) : State :=
  s.each ((List.range 32).filter s.pinDriven) (fun t p => t.emit (.float p t.devTime))

/-- Drive pin p: its output level, TRG_PINLVL, and what the outside sees while the driver is enabled (R95). -/
def State.pinDrive (s : State) (p : Nat) (lvl : Bool) (t : Nat) : State :=
  let phys := lvl != s.bit (Reg.TRG_PINCFG p) 1
  let s1 := (s.setPin p { s.pin p with level := lvl }).setBit (Reg.TRG_PINLVL p) 1 phys
  if s.pinDriven p && (s.pin p).level != lvl then s1.emit (.pin p phys t) else s1

/-- Dead time of pair k in ticks; above 1,600 acts as 1,600 (R97). -/
def State.pairDt (s : State) (k : Nat) : Nat := min (s.fld (Reg.TRG_PAIRCTL k) 1 11) 1600
/-- Pair k is enabled. -/
def State.pairOn (s : State) (k : Nat) : Bool := s.bit (Reg.TRG_PAIRCTL k) 0

/-- Move the two outputs of pair k to targets a (pin 2k) and b (pin 2k + 1) at t: an output that turns inactive
switches at once, one that turns active DT later (R97). -/
def State.pairMove (s : State) (k : Nat) (a b : Bool) (t : Nat) : State :=
  let dt := s.pairDt k
  let s1 := if a then s else s.pinDrive (2 * k) false t
  let s2 := if b then s1 else s1.pinDrive (2 * k + 1) false t
  s2.setPair k { s2.pair k with
    turn0 := if a && !(s2.pin (2 * k)).level then some (t + dt) else none
    turn1 := if b && !(s2.pin (2 * k + 1)).level then some (t + dt) else none }

/-- An output of pair k whose dead time has passed turns active (R97). Pin 2k waits while its request has ended by that
instant and it is open whether the gap is filled (R96): the interval may turn out to be no longer than DT. -/
def State.deadTurn (s : State) (k : Nat) : State :=
  let x := s.pin (2 * k)
  let s1 := match (s.pair k).turn0 with
    | some w =>
      if w ≤ s.devTime ∧ w < x.endT.getD (w + 1) ∧ w < x.fallT.getD (w + 1) then
        (s.pinDrive (2 * k) true w).setPair k { s.pair k with turn0 := none } else s
    | none => s
  match (s1.pair k).turn1 with
  | some w =>
    if w ≤ s1.devTime then (s1.pinDrive (2 * k + 1) true w).setPair k { s1.pair k with turn1 := none } else s1
  | none => s1

/-- A transition of the shaped request of pair k at t (R97): an active interval that ends in its dead time is suppressed
and counted. -/
def State.pairTransition (s : State) (k : Nat) (req : Bool) (t : Nat) : State :=
  let lost := (s.pair k).turn0.any (fun w => decide (t ≤ w)) && !req
  let s1 := if lost then s.addSat (Reg.TRG_PINSUP (2 * k)) 0 16 1 else s
  ((s1.setPair k { s1.pair k with held := false }).pairMove k req (!req) t).deadTurn k

/-- The shaped request of pin p changes at t (R96, R97). -/
def State.pinShaped (s : State) (p : Nat) (lvl : Bool) (t : Nat) : State :=
  let s1 := (s.setPin p { s.pin p with shaped := lvl }).setBit (Reg.TRG_PINLVL p) 0 lvl
  if s1.pairOn (p / 2) then (if p % 2 = 0 then s1.pairTransition (p / 2) lvl t else s1) else s1.pinDrive p lvl t

/-- The raw request of pin p is active at t by its level, windows or pulse. -/
def State.pinRaw (s : State) (p t : Nat) : Bool :=
  let x := s.pin p
  x.setLvl || decide (0 < x.wins) || decide (t < x.pulseEnd)

/-- Count a stretch (at bit 0) or a filled gap (at bit 16) of pin p; the requests of pin 2k + 1 of an enabled pair are
ignored (R96, R97). -/
def State.pinCount (s : State) (p lo : Nat) : State :=
  if s.pairOn (p / 2) && p % 2 == 1 then s else s.addSat (Reg.TRG_PINSTR p) lo 16 1

/-- The raw request of pin p ended at t; a request that begins in that tick continues it. -/
def State.pinFall (s : State) (p t : Nat) : State :=
  let x := s.pin p
  if x.shaped && x.fallT.isNone && x.endT.isNone then s.setPin p { x with endT := some t } else s

/-- The active interval of pin p that ended before t is over: one shorter than 32 ticks is stretched and counted (R96). -/
def State.pinEnded (s : State) (p t : Nat) : State :=
  let x := s.pin p
  match x.endT with
  | some e =>
    if e < t then
      let s1 := if e < x.start + 32 then s.pinCount p 0 else s
      s1.setPin p { s1.pin p with endT := none, fallT := some (max e (x.start + 32)) }
    else s
  | none => s

/-- Bring pin p up to time t: a pulse that has run out ends the request, and an end that no request follows within
32 ticks becomes the output's (R96). -/
def State.pinSettle (s : State) (p t : Nat) : State :=
  let s1 := (if s.pinRaw p t then s else s.pinFall p (min t (max (s.pin p).pulseEnd (s.pin p).start))).pinEnded p t
  match (s1.pin p).fallT with
  | some e =>
    if e + 32 ≤ t then (s1.setPin p { s1.pin p with fallT := none }).pinShaped p false e else s1
  | none => s1

/-- The output of pin p stays active over an end of its request: an output of its pair that waited for this may turn now
(R97). -/
def State.pinHeld (s : State) (p : Nat) (x : Pin) : State :=
  let s1 := s.setPin p x
  if s1.pairOn (p / 2) && p % 2 == 0 then s1.deadTurn (p / 2) else s1

/-- A request of pin p becomes or stays active at t; a gap below 32 ticks is filled and counted, and a new active interval
begins (R96). -/
def State.pinRise (s : State) (p t : Nat) : State :=
  let s1 := s.pinSettle p t
  let x := s1.pin p
  if x.shaped then
    match x.fallT with
    | some e =>
      let s2 := if e < t then s1.pinCount p 16 else s1
      s2.pinHeld p { s2.pin p with fallT := none, start := t }
    | none => if x.endT.isSome then s1.pinHeld p { x with endT := none } else s1
  else (s1.setPin p { x with start := t }).pinShaped p true t

/-- A pulse of w ticks on pin p from t; a width of 0 makes none (R95). -/
def State.pinPulse (s : State) (p w t : Nat) : State :=
  if w = 0 then s
  else
    let s1 := s.pinRise p t
    s1.setPin p { s1.pin p with pulseEnd := max (s1.pin p).pulseEnd (t + w) }

/-- SET of pin p at t; a CLEAR in the same tick wins (R94). -/
def State.pinSetLevel (s : State) (p t : Nat) : State :=
  if (s.pin p).clearT = some t then s
  else
    let s1 := s.pinRise p t
    s1.setPin p { s1.pin p with setLvl := true }

/-- CLEAR of pin p at t. -/
def State.pinClear (s : State) (p t : Nat) : State :=
  let s1 := s.setPin p { s.pin p with setLvl := false, clearT := some t }
  if s1.pinRaw p t then s1 else s1.pinFall p t

/-- A window opens or closes on pin p. -/
def State.pinWinOpen (s : State) (p t : Nat) : State :=
  let s1 := s.pinRise p t
  s1.setPin p { s1.pin p with wins := (s1.pin p).wins + 1 }
def State.pinWinClose (s : State) (p t : Nat) : State :=
  let s1 := s.setPin p { s.pin p with wins := (s.pin p).wins - 1 }
  if s1.pinRaw p t then s1 else s1.pinFall p t

/-! ## Line records (R80, R160) -/

/-- A record expects a line: KIND LINE in a line-trigger format, KIND CLOSE in a window format (R160). -/
def expectsLine (fmt : List Byte) (r : LineRec) : Bool :=
  if fmtTrgMode fmt = 1 then r.kind == 2 else r.kind == 0

/-- Close a record of camera c as missing (R160): counted, and a gap mark to the camera's pipelines. -/
def State.recClose (s : State) (c : Nat) (r : LineRec) : State :=
  let fmt := s.camFmt c
  if expectsLine fmt r then
    (s.addSat (Reg.LINK_CAMMISS c) 0 32 1).each (s.camPipes c) (fun t n => t.pipeGap n r false fmt)
  else s

/-- Queue a record of camera c; a 65th closes the oldest as missing (R160). -/
def State.recAdd (s : State) (c : Nat) (r : LineRec) : State :=
  let x := s.cam c
  match x.recs with
  | o :: rest =>
    if 64 ≤ x.recs.length then (s.setCam c { x with recs := rest ++ [r] }).recClose c o
    else s.setCam c { x with recs := x.recs ++ [r] }
  | [] => s.setCam c { x with recs := [r] }

/-! ## Generators -/

/-- Fields of the active control of generator g (Table 3.7). -/
def State.genAxis (s : State) (g : Nat) : Nat := s.fld (Reg.TRG_TSCTLA g) 0 3
def State.genCam (s : State) (g : Nat) : Nat := s.fld (Reg.TRG_TSCTLA g) 3 7
def State.genMsg (s : State) (g : Nat) : Bool := s.bit (Reg.TRG_TSCTLA g) 10 && decide (s.genCam g < 96)
/-- TRG_TSSTAT bits. -/
def State.genRun (s : State) (g : Nat) : Bool := s.bit (Reg.TRG_TSSTAT g) 0
/-- The accumulator A in 2^-32 PT, and the index i (R78). -/
def State.genA (s : State) (g : Nat) : Nat := (s.rdPos (Reg.TRG_TSACC_LO g)).toNat * 2 ^ 32 + s.rdN (Reg.TRG_TSACCF g)
def State.genI (s : State) (g : Nat) : Nat := s.rdN (Reg.TRG_TSIDX g)
def State.setGenA (s : State) (g a : Nat) : State :=
  (s.wrPos (Reg.TRG_TSACC_LO g) (posn (a / 2 ^ 32))).wr (Reg.TRG_TSACCF g) (w32 a)
/-- The pitch in use in 2^-32 PT. -/
def State.genPitch (s : State) (g : Nat) : Nat := (s.gen g).pitchI * 2 ^ 32 + (s.gen g).pitchF
/-- The lead L in PT (R79). -/
def State.genLead (s : State) (g : Nat) : Int := (s.rd (Reg.TRG_TSLEAD g)).toInt
/-- TRG_TSMINPER in use: below 400 acts as 400 (R81). -/
def State.genMinPer (s : State) (g : Nat) : Nat := max 400 (s.fld (Reg.TRG_TSMINPER g) 0 20)
/-- TRG_TSBLK in use: 0 acts as 1 (R84). -/
def State.genBlk (s : State) (g : Nat) : Nat := max 1 (s.fld (Reg.TRG_TSBLK g) 0 11)
/-- Exposure delay in use. -/
def State.genXdly (s : State) (g : Nat) : Nat := (s.gen g).xdly

/-- Recompute the lead of generator g from V_pub (R79). -/
def State.genLeadNow (s : State) (g : Nat) : State :=
  s.wr (Reg.TRG_TSLEAD g) (BitVec.ofInt 32 (roundShift (s.axVel (s.genAxis g) * (s.genXdly g : Nat)) 24))

/-- A write of the shadowed register at offset o of generator g takes effect at once while the generator is stopped (R84). -/
def State.tsShadowWritten (s : State) (g o : Nat) : State :=
  if s.genRun g then s
  else if o = 0 then s.wr (Reg.TRG_TSCTLA g) (s.rd (Reg.TRG_TSCTL g))
  else if o = 0x10 then s.setGen g { s.gen g with pitchI := s.fld (Reg.TRG_TSPITCH_I g) 0 24 }
  else if o = 0x14 then s.setGen g { s.gen g with pitchF := s.rdN (Reg.TRG_TSPITCH_F g) }
  else if o = 0x20 then s.setGen g { s.gen g with xdly := s.fld (Reg.TRG_TSXDLY g) 0 16 }
  else if o = 0x30 then s.setGen g { s.gen g with pw := s.fld (Reg.TRG_TSPW g) 0 24 }
  else s

/-- Copy the shadowed registers of generator g to the values in use (R84). -/
def State.genLoad (s : State) (g : Nat) : State :=
  let s1 := s.wr (Reg.TRG_TSCTLA g) (s.rd (Reg.TRG_TSCTL g))
  s1.setGen g { s1.gen g with
    pitchI := s.fld (Reg.TRG_TSPITCH_I g) 0 24, pitchF := s.rdN (Reg.TRG_TSPITCH_F g)
    xdly := s.fld (Reg.TRG_TSXDLY g) 0 16, pw := s.fld (Reg.TRG_TSPW g) 0 24 }

/-- A START or ARM with integer pitch 0 fails (R85). -/
def State.genBadCfg (s : State) (g : Nat) : State :=
  ((s.setBit (Reg.TRG_TSSTAT g) 1 false).setBit (Reg.TRG_TSSTAT g) 4 true).fault 14 3 g 0

/-- The MISSED event of generator or list owner t (R77, R109). -/
def State.pubMissed (s : State) (t : Nat) : State :=
  if s.bit (Reg.TRG_EVMAP t) 8 then s.pubCh (s.fld (Reg.TRG_EVMAP t) 0 8) else s
/-- The OVERSPEED event of owner t (R81, R109). -/
def State.pubOverspeed (s : State) (t : Nat) : State :=
  if s.bit (Reg.TRG_EVMAP t) 24 then s.pubCh (s.fld (Reg.TRG_EVMAP t) 16 8) else s

/-- Grid targets from A on that lie at or behind a position (R77, R81). -/
def gridCount (a pitch : Nat) (p : Posn) : Nat :=
  let d := xDiff (p.toNat * 2 ^ 32 + (2 ^ 32 - 1)) a
  if d < 0 ∨ pitch = 0 then 0 else d.toNat / pitch + 1

/-- TRG_TSCMD.ARM of generator g: it applies at the next block boundary (R84). A write that finds it pending may meet that
boundary in its own clock (R8). -/
def State.tsArm (s : State) (g : Nat) : State :=
  let s1 := if s.bit (Reg.TRG_TSSTAT g) 1 then s.noteAgain (Reg.TRG_TSCMD g) 2 else s
  (s1.setBit (Reg.TRG_TSSTAT g) 1 true).setGen g { s1.gen g with armRun := s1.genRun g }

/-- The boundary at index m of generator g: an armed shadow is tested (R85) and no longer waits, and the camera's
pipelines and crucible open a block (R220, R288). A generator with MSGEN clear hands on no boundary (log entry 124). -/
def State.genBoundary (s : State) (g m : Nat) : State :=
  let armed := s.bit (Reg.TRG_TSSTAT g) 1
  let bad := armed && s.fld (Reg.TRG_TSPITCH_I g) 0 24 == 0
  let s1 := if bad then s.genBadCfg g
    else if armed then (s.setBit (Reg.TRG_TSSTAT g) 1 false).setBit (Reg.TRG_TSSTAT g) 4 false else s
  (if s1.genMsg g then s1.camBoundary (s1.genCam g) (s1.gen g).run m (s1.gen g).phase (armed && !bad) else s1).w1sDone
    (Reg.TRG_TSCMD g) 2 (fun t => if armed then t.tsArm g else t)

/-- The first boundary index at or after i (R84); index 0 is START's own (R220). -/
def State.genNextBlk (s : State) (g i : Nat) : Nat := (max i 1 + s.genBlk g - 1) / s.genBlk g * s.genBlk g

/-- An armed shadow of generator g applies at a boundary among the indices i to i + n - 1 (R84, R85). -/
def State.genArms (s : State) (g i n : Nat) : Bool :=
  s.bit (Reg.TRG_TSSTAT g) 1 && s.fld (Reg.TRG_TSPITCH_I g) 0 24 != 0 && decide (s.genNextBlk g i < i + n)

/-- Block boundaries among the indices i to i + n - 1 of generator g (R84, R220). -/
def State.genBoundaries (s : State) (g i n : Nat) : State :=
  let b := s.genBlk g
  let first := s.genNextBlk g i
  s.each ((List.range ((i + n - first + b - 1) / b)).map (fun k => first + k * b)) (fun t m => t.genBoundary g m)

/-- Generator g passes the indices i to i + n - 1: the boundaries among them, and an armed shadow in use from the one where it
applies on (R84). -/
def State.genWalk (s : State) (g i n : Nat) : State :=
  if s.genArms g i n then
    let b := s.genNextBlk g i
    ((s.genBoundaries g i (b + 1 - i)).genLoad g).genBoundaries g (b + 1) (i + n - (b + 1))
  else s.genBoundaries g i n

/-- How far off the next target is from which on an armed shadow's pitch applies, and that pitch; the pitch in use where
none is armed or the shadow's is refused (R84, R85). -/
def State.genTurn (s : State) (g : Nat) : Nat × Nat :=
  if s.bit (Reg.TRG_TSSTAT g) 1 && s.fld (Reg.TRG_TSPITCH_I g) 0 24 != 0 then
    (s.genNextBlk g (s.genI g) - s.genI g, s.fld (Reg.TRG_TSPITCH_I g) 0 24 * 2 ^ 32 + s.rdN (Reg.TRG_TSPITCH_F g))
  else (0, s.genPitch g)

/-- A after k targets from a, where the target d places on is the last that the old pitch computes (R84). -/
def gridAt (a d old new k : Nat) : Nat := xAdd a ((min k d * old + (k - d) * new : Nat) : Int)

/-- Grid targets of generator g from the pending one on that lie at or behind a position (R77, R81, R82). -/
def State.genCount (s : State) (g : Nat) (p : Posn) : Nat :=
  let d := (s.genTurn g).1
  let new := (s.genTurn g).2
  let n := gridCount (s.genA g) (s.genPitch g) p
  if n ≤ d then n else d + 1 + gridCount (gridAt (s.genA g) d (s.genPitch g) new (d + 1)) new p

/-- The run of generator g ends (R83): the camera's pipelines close it, unless a crossing that is scheduled, or a trigger
that waits for TRG_TSMINPER, is still to come. -/
def State.genEnd (s : State) (g : Nat) : State :=
  let s1 := s.setBit (Reg.TRG_TSSTAT g) 0 false
  let run := (s1.gen g).run
  let due := s1.sched.any (fun x => match x.kind with
    | .gen g' r _ _ => g' == g && r == run
    | _ => false)
  if due || (s1.gen g).wait.isSome then s1.setGen g { s1.gen g with stopping := true }
  else if s1.genMsg g then s1.each (s1.camPipes (s1.genCam g)) (fun t n => t.pipeStop n run) else s1

/-- The generator has counted its TSLINES targets (R83). -/
def State.genDone (s : State) (g : Nat) : State :=
  let lines := (s.gen g).lines
  if lines ≠ 0 ∧ lines ≤ s.genI g ∧ s.genRun g then (s.genEnd g).setBit (Reg.TRG_TSSTAT g) 3 true else s

/-- A trigger message waits on the lane that carries bond position 0 (R99, R157). On Alaol-1 it takes the symbol slots that put
its K29.7 on the boundary nearest to E - LINK_CAMA1DLY, or the first free ones after them, which is too late and counted (R181). -/
def State.trigPut (s : State) (m : TrigMsg) : State :=
  match s.posLane m.cam 0 with
  | none => s
  | some n =>
    let x := s.lane n
    if s.laneA1 n then
      let sy := s.symTime n
      let want := (25 * (m.expt - s.fld (Reg.LINK_CAMA1DLY m.cam) 0 16) + sy / 2) / sy - 6
      let avail := max (s.devTime * 25 / sy + 1) x.a1Next
      let j := max want avail
      let s1 := s.setLane n { x with a1Trigs := x.a1Trigs ++ [(j, m)], a1Next := j + 7 }
      if want < avail then s1.addSat (Reg.TRG_TSDROP m.gen) 0 32 1 else s1
    else s.setLane n { x with urgent := x.urgent ++ [.trig m] }

/-- Send a trigger message to a camera, or drop and count it (R79, R86, R87, R181). -/
def State.sendTrig (s : State) (g : Nat) (kind : Nat) (idx : Nat) (tpos : Posn) (expt : Nat) (ovs : Bool) : State :=
  let c := s.genCam g
  let s1 := s.recAdd c {
    i := idx, t := tpos, expt := expt, ovs := ovs, kind := kind, tidx := idx % 65536,
    run := (s.gen g).run }
  if s1.camCarries c then
    s1.trigPut {
      gen := g, cam := c, kind := kind, tpos := tpos, idx := idx, expt := expt, ovs := ovs,
      follow := s1.bit Reg.LINK_ROLE 16 }
  else (s1.addSat (Reg.TRG_TSDROP g) 0 32 1).fault 6 4 g 0

/-- Issue a trigger of generator g at t with index i and position p in run `run` (R79, R80, R95); `skipped` lists
indices that have no line (R81). -/
def State.genIssue (s : State) (g run i : Nat) (p : Posn) (t : Nat) (ovs : Bool) (skipped : List Nat) : State :=
  let s1 := s.addWrap (Reg.TRG_TSTRIG g) 0 32 1
  let s2 := s1.setGen g { s1.gen g with lastT := some t, lastI := some i, wait := none }
  let s3 := if s2.bit (Reg.TRG_TSCTLA g) 16 then s2.pinPulse (s2.fld (Reg.TRG_TSCTLA g) 11 5) (s2.gen g).pw t else s2
  let s4 := if s3.bit (Reg.TRG_TSCTLA g) 25 then s3.pubCh (s3.fld (Reg.TRG_TSCTLA g) 17 8) else s3
  let s5 := if s4.genMsg g then
      let ps := s4.camPipes (s4.genCam g)
      ((s4.each ps (fun u n => u.pipeIssued n run i skipped)).cruRec (s4.genCam g) run i (t + s4.genXdly g)).sendTrig g 0 i p (t + s4.genXdly g) ovs
    else s4
  if (s5.gen g).stopping ∧ s5.genRun g = false then
    let s6 := s5.setGen g { s5.gen g with stopping := false }
    if s6.genMsg g then s6.each (s6.camPipes (s6.genCam g)) (fun u n => u.pipeStop n run) else s6
  else s5

/-- A target on the grid is issued at t (R79): its boundary first, then the trigger as the active values give it, then the
step to the next target, with an armed pitch from then on (R84). -/
def State.genGrid (s : State) (g t : Nat) : State :=
  let i := s.genI g
  let p := posn (s.genA g / 2 ^ 32)
  let load := s.genArms g i 1
  let next := gridAt (s.genA g) (s.genTurn g).1 (s.genPitch g) (s.genTurn g).2 1
  let s1 := (s.setBit (Reg.TRG_TSSTAT g) 2 false).genBoundaries g i 1
  let s2 := s1.genIssue g (s1.gen g).run i p t false []
  let s3 := if load then s2.genLoad g else s2
  ((s3.setGenA g next).addWrap (Reg.TRG_TSIDX g) 0 32 1).genDone g

/-- The pending target of generator g is crossed at t: it is issued, or limiting begins or goes on (R81). -/
def State.genCross (s : State) (g t : Nat) : State :=
  match (s.gen g).lastT with
  | some last =>
    if t < last + s.genMinPer g then
      let s1 := s.setGen g { s.gen g with wait := some (last + s.genMinPer g) }
      if s1.bit (Reg.TRG_TSSTAT g) 2 then s1
      else (((s1.setBit (Reg.TRG_TSSTAT g) 2 true).pubOverspeed (s1.owner Part.tsgen g)).fault 6 3 g 0)
    else s.genGrid g t
  | none => s.genGrid g t

/-- A limited trigger of generator g is issued at t (R81 steps 1 to 3), with the values of a shadow that applied before its
index (R84). -/
def State.genLimited (s : State) (g t : Nat) : State :=
  let p := posAdd (s.axPos (s.genAxis g)) (s.genLead g)
  let i := s.genI g
  let n := max 1 (s.genCount g p)
  let lines := (s.gen g).lines
  let m := if lines = 0 then n else max 1 (min n (lines - i))
  let j := i + m - 1
  let load := s.genArms g i m && !s.genArms g i (m - 1)
  let next := gridAt (s.genA g) (s.genTurn g).1 (s.genPitch g) (s.genTurn g).2 m
  let s1 := ((s.addSat (Reg.TRG_TSOVS g) 0 32 (m - 1)).genWalk g i (m - 1)).genBoundaries g j 1
  let s2 := s1.genIssue g (s1.gen g).run j p t true ((List.range (m - 1)).map (· + i))
  let s3 := if load then s2.genLoad g else s2
  ((s3.setGenA g next).addWrap (Reg.TRG_TSIDX g) 0 32 m).genDone g

/-- Skip the passed targets of generator g (R82). -/
def State.genSkip (s : State) (g : Nat) : State :=
  let n0 := s.genCount g (posAdd (s.axHwm (s.genAxis g)) (s.genLead g))
  let lines := (s.gen g).lines
  let i := s.genI g
  let n := if lines = 0 then n0 else min n0 (lines - i)
  if n = 0 then s
  else
    let next := gridAt (s.genA g) (s.genTurn g).1 (s.genPitch g) (s.genTurn g).2 n
    let s3 := ((s.genWalk g i n).addSat (Reg.TRG_TSMISS g) 0 32 n).addSat Reg.TRG_MISSTOT 0 32 n
    (((s3.setGenA g next).addWrap (Reg.TRG_TSIDX g) 0 32 n).pubMissed (s3.owner Part.tsgen g)).genDone g

/-- Cancel the scheduled crossings of generator g (R91). -/
def State.genUnsched (s : State) (g : Nat) : State :=
  { s with
    sched := s.sched.filter (fun x => match x.kind with
    | .gen g' _ _ _ => g' != g
    | _ => true) }

/-- The old run of generator g, if one is in progress, is superseded (R91): what it had scheduled is cancelled, and it ends
at its last issued index (R210). -/
def State.genSupersede (s : State) (g : Nat) : State :=
  let s1 := s.genUnsched g
  if (s1.genRun g || (s1.gen g).stopping) && s1.genMsg g then
    s1.each (s1.camPipes (s1.genCam g)) (fun u n => u.pipeStop n (s1.gen g).run) else s1

/-- START of generator g with a phase and a target count (R78, R82, R83, R85, R205). `list`: from a TSSTART entry, at
whose crossing the first target is issued (R91). START is a block boundary, at which a shadow applies that was armed while the
generator ran; an ARM given while it was stopped applies nothing to its registers (R84, R220). -/
def State.genStart (s : State) (g : Nat) (phase : Posn) (lines : Nat) (list : Bool) (t : Nat) : State :=
  if (s.gen g).pitchI = 0 then s.genBadCfg g
  else
    let s0 := s.genSupersede g
    let run := (s0.gen g).run + 1
    let load := s0.bit (Reg.TRG_TSSTAT g) 1 && (s0.gen g).armRun && s0.fld (Reg.TRG_TSPITCH_I g) 0 24 != 0
    let s1 := if load then s0.genLoad g else s0
    let s2 := (s1.setGenA g (xOfPos phase)).wr (Reg.TRG_TSIDX g) 0#32
    let s3 := s2.setGen g { s2.gen g with phase := phase, lines := lines, run := run, wait := none, stopping := false }
    let s4 := (((s3.setBit (Reg.TRG_TSSTAT g) 0 true).setBit (Reg.TRG_TSSTAT g) 3 false).setBit
      (Reg.TRG_TSSTAT g) 4 false).genLeadNow g
    let s5 := if s4.genMsg g then s4.each (s4.camPipes (s4.genCam g)) (fun u n => u.pipeStart n run phase) else s4
    let s6 := s5.genBoundary g 0
    if list then s6.genCross g t else s6.genSkip g

/-! ## Compare lists -/

/-- Fields of list l (Table 3.8). -/
def State.clEn (s : State) (l : Nat) : Bool := s.bit (Reg.TRG_CLCTL l) 0
def State.clAxis (s : State) (l : Nat) : Nat := s.fld (Reg.TRG_CLCTL l) 1 3
def State.clRev (s : State) (l : Nat) : Bool := s.bit (Reg.TRG_CLCTL l) 4
/-- TRG_CLSIZE in use: 0 acts as 1, above 65,536 as 65,536 (R88). -/
def State.clSize (s : State) (l : Nat) : Nat := clampN 1 65536 (s.fld (Reg.TRG_CLSIZE l) 0 17)
def State.clRd (s : State) (l : Nat) : Nat := s.fld (Reg.TRG_CLRD l) 0 16
def State.clWr (s : State) (l : Nat) : Nat := s.fld (Reg.TRG_CLWR l) 0 16

/-- Entry at ring place i of list l, 128 bits (Table 3.2). -/
def State.clEntry (s : State) (l i : Nat) : Nat :=
  let e := (s.fld (Reg.TRG_CLBASE l) 0 16 + i) % 65536
  s.rd64 (Reg.CMEM e 0) + s.rd64 (Reg.CMEM e 2) * 2 ^ 64

/-- Bits of an entry. -/
def entBits (e lo n : Nat) : Nat := e / 2 ^ lo % 2 ^ n
def entTarget (e : Nat) : Posn := posn (entBits e 0 48)
def entPin (e : Nat) : Nat := entBits e 48 5
def entPinEn (e : Nat) : Bool := entBits e 53 1 == 1
def entAction (e : Nat) : Nat := entBits e 54 3
def entGen (e : Nat) : Nat := entBits e 57 7
def entArg (e : Nat) : Nat := entBits e 64 48

/-- A bad entry (R90). -/
def entBad (e : Nat) : Bool :=
  decide (entBits e 121 7 ≠ 0) || decide (entAction e = 7) || decide (96 ≤ entGen e ∧ entGen e ≤ 126) ||
  (entPinEn e && (entAction e == 0 || entAction e == 3 || entAction e == 4)) ||
  ((entAction e == 3 || entAction e == 4) && entGen e == 127)

/-- Compare position of an entry: TARGET, less the lead of its generator (R89). -/
def State.entPos (s : State) (e : Nat) : Posn :=
  if entGen e = 127 then entTarget e else posAdd (entTarget e) (-(s.genLead (entGen e)))

/-- A position is passed for list l (R77). -/
def State.clPassed (s : State) (l : Nat) (f : Posn) : Bool :=
  if s.clRev l then decide (0 ≤ posDiff f (s.axPos (s.clAxis l))) else decide (posDiff f (s.axHwm (s.clAxis l)) ≤ 0)

/-- TRG_CLSTAT.EMPTY and the open-window count. -/
def State.clStat (s : State) (l : Nat) : State :=
  (s.setBit (Reg.TRG_CLSTAT l) 0 (s.clRd l == s.clWr l)).setFld (Reg.TRG_CLSTAT l) 1 4 (s.clist l).wins.length

/-- The head of list l is consumed at tick t (R88); the next entry can be head from the next tick on (R89). -/
def State.clConsume (s : State) (l t : Nat) : State :=
  let s1 := (s.setFld (Reg.TRG_CLRD l) 0 16 ((s.clRd l + 1) % s.clSize l)).addWrap (Reg.TRG_CLDONE l) 0 32 1
  (s1.setClist l { s1.clist l with loaded := false, next := t + 1 }).clStat l

/-- A passed entry of list l is skipped (R77, R93). -/
def State.clMiss (s : State) (l : Nat) : State :=
  ((s.addSat (Reg.TRG_CLMISS l) 0 32 1).addSat Reg.TRG_MISSTOT 0 32 1).pubMissed (s.owner Part.list l)

/-- The crossing instant of position f on axis a, forward against H or in reverse against P_pub, if it is due within four
publications (R75, R76). -/
def State.crossTc (s : State) (a : Nat) (rev : Bool) (f : Posn) : Option Nat :=
  if !s.axEn a || s.axHold a then none
  else
    let v := s.axVel a
    let d := if rev then posDiff (s.axPos a) f else posDiff f (s.axHwm a)
    let w := if rev then -v else v
    if 0 < w ∧ d * 2 ^ 24 ≤ 4 * w ∧ (rev = false ∨ s.axRev a = true) then
      some (((s.axis a).tPub : Int) + max 0 (roundDiv (d * 2 ^ 24) w)).toNat
    else none

/-- The tick at which the next entry of list l becomes head (R89): at once, or in the tick after the last one was consumed. -/
def State.clTick (s : State) (l : Nat) : Nat := max s.devTime (s.clist l).next

/-- An entry at compare position f that becomes head of list l is passed: not ahead of the axis (R77), or its own crossing
comes before the tick in which it follows its predecessor as head (R89). -/
def State.clLate (s : State) (l : Nat) (f : Posn) : Bool :=
  s.clPassed l f ||
    (decide (s.clTick l = (s.clist l).next) &&
      (s.crossTc (s.clAxis l) (s.clRev l) f).any (fun tc => decide (tc < s.clTick l)))

/-- Load the head of list l: bad entries, dropped windows and passed entries are skipped, one a tick, until one is pending
(R77, R89, R90, R92). The ticks up to the axis's next publication see the position as it stands. -/
def State.clLoadN : Nat → State → Nat → State
  | 0, s, _ => s
  | f + 1, s, l =>
    let h := s.clTick l
    if s.clEn l && !(s.clist l).loaded && s.clRd l != s.clWr l &&
        decide (h ≤ s.devTime ∨ h < (s.axis (s.clAxis l)).tPub + 4) then
      let e := s.clEntry l (s.clRd l)
      if entBad e then State.clLoadN f (((s.addSat (Reg.TRG_CLERR l) 0 16 1).fault 14 2 l 0).clConsume l h) l
      else
        let d := posDiff (posn (entArg e)) (entTarget e)
        if entAction e = 2 ∧ d = 0 then State.clLoadN f ((s.addSat (Reg.TRG_CLWDROP l) 0 16 1).clConsume l h) l
        else if entAction e = 2 ∧ (if s.clRev l then 0 < d else d < 0) then
          State.clLoadN f ((s.addSat (Reg.TRG_CLWDROP l) 16 16 1).clConsume l h) l
        else if s.clLate l (s.entPos e) then State.clLoadN f ((s.clMiss l).clConsume l h) l
        else s.setClist l { s.clist l with loaded := true }
    else s

/-- Load the head of list l. -/
def State.clLoad (s : State) (l : Nat) : State := State.clLoadN 65536 s l

/-! ## Scheduling (R75, R76) -/

/-- Order of crossings in one tick: lists in ascending number, then generators (R94). -/
def crossRank (x : Cross) : Nat × Nat :=
  match x.kind with
  | .head l => (x.tc, 16 * l)
  | .winOpen l w => (x.tc, 16 * l + 1 + w)
  | .winClose l w => (x.tc, 16 * l + 1 + w)
  | .winCloseMsg l w => (x.tc, 16 * l + 1 + w)
  | .gen g _ _ _ => (x.tc, 2048 + g)

/-- Insert a crossing in order. -/
def crossIns (x : Cross) : List Cross → List Cross
  | [] => [x]
  | y :: r =>
    let a := crossRank x
    let b := crossRank y
    if a.1 < b.1 ∨ (a.1 = b.1 ∧ a.2 < b.2) then x :: y :: r else y :: crossIns x r

/-- Schedule a crossing of position f on axis a, forward against H or in reverse against P_pub, if it is due within
four publications (R75, R76). -/
def State.schedule (s : State) (a : Nat) (rev : Bool) (f : Posn) (k : CrossKind) : State :=
  if s.sched.any (fun x => decide (x.kind = k)) then s
  else match s.crossTc a rev f with
    | some tc => { s with sched := crossIns { tc := tc, kind := k } s.sched }
    | none => s

/-- Schedule the pending target of generator g. -/
def State.genSched (s : State) (g : Nat) : State :=
  if s.genRun g && (s.gen g).wait.isNone && s.trgClk then
    let p := posn (s.genA g / 2 ^ 32)
    s.schedule (s.genAxis g) false (posAdd p (-(s.genLead g))) (.gen g (s.gen g).run (s.genI g) p)
  else s

/-- Schedule the head and the open windows of list l. -/
def State.clSched (s : State) (l : Nat) : State :=
  if s.trgClk then
    let a := s.clAxis l
    let rev := s.clRev l
    let s1 := if s.clEn l && (s.clist l).loaded then
        s.schedule a rev (s.entPos (s.clEntry l (s.clRd l))) (.head l) else s
    s1.each (s1.clist l).wins (fun t w =>
      let t1 := if w.closed then t
        else if w.opened then t.schedule a rev w.stop (.winClose l w.slot)
        else t.schedule a rev w.start (.winOpen l w.slot)
      match w.gen with
      | some g => if w.sent then t1
          else t1.schedule a rev (posAdd w.stop (-(t1.genLead g))) (.winCloseMsg l w.slot)
      | none => t1)
  else s

/-! ## Windows (R92, R93) -/

/-- Replace or remove window `slot` of list l. -/
def State.winSet (s : State) (l slot : Nat) (f : Win → Option Win) : State :=
  (s.setClist l { s.clist l with
    wins := (s.clist l).wins.filterMap (fun w => if w.slot = slot then f w else some w) }).clStat l

/-- A window that owes nothing any more is removed. -/
def Win.rest (w : Win) : Option Win := if w.closed && (w.sent || w.gen.isNone) then none else some w

/-- The close message of a window leaves (R92). -/
def State.winMsg (s : State) (l : Nat) (w : Win) (kind : Nat) (tpos : Posn) (t : Nat) : State :=
  match w.gen with
  | some g => if s.genMsg g then s.sendTrig g kind (l * 8 + w.slot) tpos (t + s.genXdly g) false else s
  | none => s

/-- Drop the scheduled crossings of list l's windows. -/
def State.winUnsched (s : State) (l : Nat) : State :=
  { s with
    sched := s.sched.filter (fun x => match x.kind with
    | .winOpen l' _ => l' != l
    | .winClose l' _ => l' != l
    | .winCloseMsg l' _ => l' != l
    | _ => true) }

/-- Close every open window of list l at once (R93). -/
def State.winCloseAll (s : State) (l : Nat) : State :=
  let t := s.devTime
  let s1 := s.each (s.clist l).wins (fun u w =>
    let u1 := match w.pin with
      | some p => if w.opened && !w.closed then u.pinWinClose p t else u
      | none => u
    match w.gen with
    | some g => if w.sent then u1
        else u1.winMsg l w 2 (posAdd (u1.axPos (u1.clAxis l)) (u1.genLead g)) t
    | none => u1)
  ((s1.setClist l { s1.clist l with wins := [] }).winUnsched l).clStat l

/-- A CLEAR of pin p by another list crosses in tick t too: it wins over a SET of the same tick (R94). -/
def State.clearDue (s : State) (p t : Nat) : Bool :=
  s.sched.any (fun x => match x.kind with
    | .head l => decide (x.tc = t) &&
        (let e := s.clEntry l (s.clRd l)
         entAction e == 6 && entPinEn e && entPin e == p)
    | _ => false)

/-- The head of list l crosses at t (Table 3.3, R92). An event of a ninth window, which is dropped, is published (log entry
124). -/
def State.headCross (s : State) (l t : Nat) : State :=
  let e := s.clEntry l (s.clRd l)
  let s0 := s.clConsume l t
  let s1 := if entBits e 120 1 = 1 then s0.pubCh (entBits e 112 8) else s0
  let p := entPin e
  match entAction e with
  | 1 => if entPinEn e then s1.pinPulse p (entBits e 64 24) t else s1
  | 2 =>
    match (List.range 8).find? (fun k => !(s1.clist l).wins.any (fun w => w.slot == k)) with
    | none => s1.addSat (Reg.TRG_CLERR l) 16 16 1
    | some k =>
      let gen := if entGen e = 127 then none else if s1.genMsg (entGen e) then some (entGen e) else none
      let now := entGen e == 127
      let w : Win := {
        slot := k, start := entTarget e, stop := posn (entArg e),
        pin := if entPinEn e then some p else none, gen := gen, opened := now }
      let s2 := (s1.setClist l { s1.clist l with wins := (s1.clist l).wins ++ [w] }).clStat l
      let s3 := if now && entPinEn e then s2.pinWinOpen p t else s2
      s3.winMsg l w 1 w.start t
  | 3 => s1.genStart (entGen e) (entTarget e) (entBits e 64 32) true t
  | 4 => s1.genEnd (entGen e)
  | 5 => if entPinEn e && !s1.clearDue p t then s1.pinSetLevel p t else s1
  | 6 => if entPinEn e then s1.pinClear p t else s1
  | _ => s1

/-- A JUMP of axis a (R93): its lists close their windows and skip passed entries, its running generators skip passed
targets; what was scheduled on the axis is evaluated afresh. -/
def State.axJumped (s : State) (a : Nat) : State :=
  let ls := (List.range 64).filter (fun l => s.clAxis l == a)
  let gs := (List.range 96).filter (fun g => s.genAxis g == a && s.genRun g)
  let s1 := { s with
    sched := s.sched.filter (fun x => match x.kind with
    | .gen g _ _ _ => !gs.contains g
    | .head l => !ls.contains l
    | _ => true) }
  let s2 := s1.each ls (fun t l =>
    let t1 := t.winCloseAll l
    if t1.clEn l then (t1.setClist l { t1.clist l with loaded := false }).clLoad l else t1)
  s2.each gs (fun t g => t.genSkip g)

/-- The lists take the ticks up to now, before a publication: heads are loaded and scheduled by the position so far (R89). -/
def State.trgCatchUp (s : State) : State := s.each (List.range 64) (fun t l => (t.clLoad l).clSched l)

/-- The trigger unit takes a publication: leads, then pending targets (R75, R79). -/
def State.trgPublish (s : State) : State :=
  let s1 := s.each (List.range 96) (fun t g => if t.axEn (t.genAxis g) then t.genLeadNow g else t)
  let s2 := s1.each (List.range 64) (fun t l => (t.clLoad l).clSched l)
  s2.each (List.range 96) (fun t g => t.genSched g)

/-! ## Trigger inputs (R98) -/

/-- Minimum interval of input n in ticks (R98, R74). -/
def State.inMinIv (s : State) (n : Nat) : Nat := clampN 8 8000 (s.fld (Reg.TRG_INCFG n) 3 13)

/-- Input n accepts the level its pin shows now (R98). -/
def State.inAccept (s : State) (n : Nat) : State :=
  let x := s.trigIn n
  let t := s.devTime
  let s1 := (s.noteGate (24 + n)).setTrigIn n { x with level := x.pin, last := some t }
  if s1.bit (Reg.TRG_INCFG n) 2 || x.pin != s1.bit (Reg.TRG_INCFG n) 1 then
    let s2 := s1.wr64 (Reg.TRG_INT_LO n) t
    let s3 := s2.wrPos (Reg.TRG_INPOS_LO n) (s2.axE (s2.fld (Reg.TRG_INCFG n) 16 3) t)
    let s4 := s3.addWrap (Reg.TRG_INCNT n) 0 32 1
    if s4.bit (Reg.TRG_INCFG n) 19 then s4.pubCh (s4.fld (Reg.TRG_INCFG n) 20 8) else s4
  else s1

/-- Input n is enabled and its unit's clock runs. -/
def State.inOn (s : State) (n : Nat) : Bool := s.trgClk && s.bit (Reg.TRG_INCFG n) 0

/-- A level change on TRIG_INn (R98, filtered as R44). -/
def State.inEdge (s : State) (n : Nat) (lvl : Bool) : State :=
  let s1 := s.setTrigIn n { s.trigIn n with pin := lvl }
  if s1.inOn n then
    match (s1.trigIn n).last with
    | some t =>
      if s1.devTime < t + s1.inMinIv n then s1.addSat (Reg.TRG_INGL n) 0 32 1
      else if lvl = (s1.trigIn n).level then s1 else s1.inAccept n
    | none => if lvl = (s1.trigIn n).level then s1 else s1.inAccept n
  else (s1.noteGate (24 + n)).setTrigIn n { s1.trigIn n with level := lvl }

/-- The minimum interval of input n ends: a pin that differs is accepted now (R44, R98). -/
def State.inIntervalEnd (s : State) (n : Nat) : State :=
  match (s.trigIn n).last with
  | some t =>
    if s.inOn n && decide (t + s.inMinIv n ≤ s.devTime) && (s.trigIn n).pin != (s.trigIn n).level then s.inAccept n
    else s
  | none => s

end Sys2Proof.Machine
end

