-- ==== Sys2Proof/Machine/ClkOps.lean ====
section
/-!
DEFINITION. The shared operations of clocks and power (chapter 15): the timebase and its switches (R451 to R455), the
isolation of a pipeline group (R459), the temper sequencer (R464 to R466), power domains and what they hold (R468 to R472).
-/
namespace Sys2Proof.Machine
open Sys2Proof

/-- Set bit i of PWR_IRQ (source 317). -/
def State.pwrIrq (s : State) (i : Nat) : State := s.irq Reg.PWR_IRQ 317 i

/-- Finish the mailbox command (function, slot) that waits for an action. -/
def State.answerAt (s : State) (k : Option (Nat × Nat)) (status : Nat) (payload : List Byte) : State :=
  match k.bind (fun k => s.bench.running.find? (fun c => c.f == k.1 && c.slot == k.2 && !c.interim)) with
  | some c => s.answer c status payload
  | none => s

/-! ## The timebase -/

/-- A commanded switch of the timebase to PREF (R454), where both clocks run (R457). -/
def State.tbCommand (s : State) : State :=
  if s.refOk s.tbPref && s.refOk s.tbSrc && s.tbSrc != s.tbPref && s.clk.sw.isNone then s.tbBegin s.tbPref false else s

/-- Firmware sets PREF for the role of the device (R451); the timebase follows at once where it can. -/
def State.tbPrefer (s : State) (r : Nat) : State := ((s.setFld Reg.CLK_TBSEL 0 1 r).tbCommand).tbHold

/-! ## Pipeline groups -/

/-- Pipelines of group k. -/
def groupPipes (k : Nat) : List Nat := (List.range 13).map (· + 13 * k)

/-- The move of group k. -/
def State.temperOf (s : State) (k : Nat) : Option Temper := s.clk.temper.find? (fun x => x.k == k)

/-- The move of group k, if any, ends where it stands, and the commands that wait for it get a status. -/
def State.temperEnd (s : State) (k status : Nat) : State :=
  let cmds := ((s.temperOf k).map (·.cmds)).getD []
  let s1 := (s.setClk { s.clk with temper := s.clk.temper.filter (fun x => x.k != k) }).setBit (Reg.CLK_TPSTAT k) 3 false
  (s1.setBit (Reg.CLK_PLLSTAT (6 + k)) 1 false).each cmds (fun t c => t.answerAt (some c) status [])

/-- Group k's pipelines are isolated and withdrawn (R459, R467); a temper change is abandoned, and its commands can only run
out of time (log entry 145). -/
def State.groupIsolate (s : State) (k : Nat) : State :=
  let s1 := s.each (groupPipes k) (fun t n => (t.pipeIsolate n).pipeWithdraw n)
  (s1.setClk { s1.clk with iso := s1.clk.iso.filter (· != k) ++ [k] }).temperEnd k St.timeout

/-- A pipeline is held in reset for a moment (R458): its blocks in progress end PARTIAL, and it starts again at the next
block boundary of its camera (R224). -/
def State.pipeHold (s : State) (n : Nat) : State :=
  if s.pipeRun n then
    let x := s.pipe n
    let s1 := s.setPipe n { x with
      inq := [], drop := false, frame := none, frows := [], hold := none
      runs := x.runs.map (fun (r : PRun) => { r with ended := true, raw := [], lines := [] })
      blks := x.blks.map (fun (b : PBlk) => { b with partLoss := true, cut := some b.passed }) }
    (s1.pipeSet n 0 false).pipeSet n 7 true
  else s

/-! ## The temper sequencer -/

/-- PGCLK in MHz and voltage in mV of a point (Table 15.4). -/
def tpFreq (p : Nat) : Nat := nth [400, 700, 1000, 1250, 1550, 1600] p 1600
def tpVolt (p : Nat) : Nat := nth [600, 630, 670, 710, 770, 800] p 800
/-- Pipeline capacity of a point in samples per second (Table 15.4). -/
def tpCap (p : Nat) : Nat := nth [797, 1394, 1992, 2490, 3088, 3187] p 3187 * 1000000
/-- The point group k stands at, and its target; 6 and 7 act as 5. -/
def State.tpPoint (s : State) (k : Nat) : Nat := s.fld (Reg.CLK_TPSTAT k) 0 3
def State.tpTarget (s : State) (k : Nat) : Nat := min 5 (s.fld (Reg.CLK_TPCFG k) 0 3)
/-- Domain d is on. -/
def State.domOn (s : State) (d : Nat) : Bool := s.bit Reg.PWR_ON d

/-- Half of a step of group k begins: a ramp of the regulator, or a slew of GPLLk to the frequency that its CLK_PLLCFG then
shows (R463, R465). -/
def State.temperHalf (s : State) (x : Temper) : State :=
  let s1 := (s.setClk { s.clk with temper := s.clk.temper.filter (fun y => y.k != x.k) ++ [x] }).setBit (Reg.CLK_TPSTAT x.k) 3 true
  if x.volt then s1
  else (s1.setFld (Reg.CLK_PLLCFG (6 + x.k)) 0 12 (tpFreq x.next)).setBit (Reg.CLK_PLLSTAT (6 + x.k)) 1 true

/-- The next step of group k from its present point, or the end of the move (R465). -/
def State.temperNext (s : State) (k t0 : Nat) (cmds : List (Nat × Nat)) : State :=
  let p := s.tpPoint k
  let g := s.tpTarget k
  if p = g then (s.temperEnd k St.ok).clkIrq 6
  else s.temperHalf {
    k := k, volt := decide (p < g), next := if p < g then p + 1 else p - 1, t := s.devTime, t0 := t0, cmds := cmds }

/-- A write of CLK_TPCFG(k): the sequencer starts where the group stands elsewhere, is powered and in service (R465). A move
in progress heads for the new target from the point it reaches next, and its 50 µs count from the write (log entry 145). There are
eight groups. -/
def State.tpWrite (s : State) (k : Nat) (v : Word) : State :=
  if 8 ≤ k then s
  else
  let s1 := s.wr (Reg.CLK_TPCFG k) (w32 (fldOf v 0 3))
  match s1.temperOf k with
  | some x =>
    if s1.tpTarget k = s.tpTarget k then s1
    else s1.setClk { s1.clk with
      temper := s1.clk.temper.map (fun (y : Temper) => if y.k = k then { x with t0 := s1.devTime } else y) }
  | none =>
    if s1.tpPoint k == s1.tpTarget k || !s1.domOn (16 + k) || s1.clk.iso.contains k then s1
    else s1.temperNext k s1.devTime []

/-- Ticks that a step takes: a ramp at 10 mV/µs, held 1 µs when it rises, or a slew at 100 MHz/µs (R463, R465). -/
def State.temperTicks (s : State) (x : Temper) : Nat :=
  if x.volt then
    160 * ((tpVolt x.next - tpVolt (s.tpPoint x.k)) + (tpVolt (s.tpPoint x.k) - tpVolt x.next)) +
      (if s.tpPoint x.k < x.next then 1600 else 0)
  else 16 * ((tpFreq x.next - tpFreq (s.tpPoint x.k)) + (tpFreq (s.tpPoint x.k) - tpFreq x.next))

/-- Half of a step completes: raising takes the voltage and then the frequency, lowering the other way round. -/
def State.temperStep (s : State) (x : Temper) : State :=
  let k := x.k
  let up := decide (s.tpPoint k < x.next)
  let s1 := if x.volt then s.setFld (Reg.CLK_TPSTAT k) 16 10 (tpVolt x.next)
    else (s.setFld (Reg.CLK_PLLSTAT (6 + k)) 16 12 (tpFreq x.next)).setBit (Reg.CLK_PLLSTAT (6 + k)) 1 false
  if x.volt = up then s1.temperHalf { x with volt := !x.volt, t := s1.devTime }
  else (s1.setFld (Reg.CLK_TPSTAT k) 0 3 x.next).temperNext k x.t0 x.cmds

/-- Samples per second that the stripes bound in group k need (R189, R466). -/
def State.groupNeed (s : State) (k : Nat) : Nat :=
  maxList ((groupPipes k).map (fun n => match s.pipeCam n with
    | some c =>
      let f := s.camFmt c
      (stripeCols (s.rd (Reg.PIPE_COLS n)) (s.rd (Reg.PIPE_BIND n))).2 * max (fmtPlanesIn f) (fmtPlanesOut f) * fmtMaxLr f
    | none => 0))

/-- The lowest point that carries the bound stripes of group k; TP0 with none bound (R466). -/
def State.needPoint (s : State) (k : Nat) : Nat :=
  ((List.range 6).find? (fun p => decide (s.groupNeed k ≤ tpCap p))).getD 5

/-- Firmware chooses again for the groups that TEMPER_SET left on AUTO (R466). -/
def State.autoTemper (s : State) : State := s.each s.bench.auto (fun t k => t.tpWrite k (w32 (t.needPoint k)))

/-! ## Power domains -/

/-- Prerequisites of domain d (Table 15.5). -/
def domPre (d : Nat) : List Nat :=
  if d = 0 then [] else if d ≤ 2 then [0] else if d < 16 then [2] else [2, 4, 5]
/-- Time limit of a power-on in µs (Table 15.5). -/
def domLimit (d : Nat) : Nat := if d ≤ 3 then 500 else if d ≤ 5 then 50000 else if d < 16 then 200 else 1000
/-- Domains that need domain d, PD_PGk before the rest (R472). -/
def domDeps (d : Nat) : List Nat := ((List.range 24).filter (fun e => (domPre e).contains d)).reverse

/-- The domain of clock enable b (Tables 15.3, 15.5). -/
def gateDom (b : Nat) : Nat :=
  if b < 104 then 8 + b / 13 else if b < 208 then 16 + (b - 104) / 13 else if b < 224 then 2 else if b < 229 then 3
  else if b < 231 then b - 225 else if b < 233 then 6 else if b < 238 then 2 else 7

/-- A write of CLK_GATE(w): an enable in a domain that is off reads 0 (R461, Table 15.7). -/
def State.gateWrite (s : State) (w : Nat) (v : Word) : State :=
  let ok := (List.range 32).foldl (fun a i =>
    if 32 * w + i < 247 ∧ s.domOn (gateDom (32 * w + i)) then a + 2 ^ i else a) 0
  s.wr (Reg.CLK_GATE w) (v &&& w32 ok)

/-- The register or memory word at key k lies in domain d. -/
def domKey (d k : Nat) : Bool :=
  let within : Nat → Nat → Bool := fun a n => decide (a ≤ k) && decide (k < a + n)
  if d = 6 then within 0x400000 0x200000 || within 0x100000000 0x100000
  else if d = 7 then within 0x2200000 0x100000
  else if 8 ≤ d ∧ d < 16 then within (0x800000 + 0x1000 * (13 * (d - 8))) (13 * 0x1000)
  else if 16 ≤ d then
    within (0xC00000 + 0x4000 * (13 * (d - 16))) (13 * 0x4000) || within (0x200000000 + 13 * (d - 16) * 0x80000) (13 * 0x80000) ||
      within (0x400000000 + 13 * (d - 16) * 0x20000) (13 * 0x20000)
  else false

/-- Every register and memory of domain d loses its state (R471). -/
def State.domReset (s : State) (d : Nat) : State :=
  let s1 := { s with regs := skeep (fun k => !domKey d k) s.regs }
  if d = 4 ∨ d = 5 then { s1 with devMem := s1.devMem.filter (fun e => s1.pcOf e.1 / 32 != d - 4) }
  else if d = 6 then
    { s1 with axes := [], gens := [], lists := [], pins := [], pairs := [], trigIns := [], sched := [] }
  else if d = 7 then { s1 with twin := {}, lanes := skeep (fun n => decide (n < 104)) s1.lanes, bonds := skeep (· != 96) s1.bonds }
  else if 8 ≤ d ∧ d < 16 then { s1 with lanes := skeep (fun n => n / 13 != d - 8 || decide (104 ≤ n)) s1.lanes }
  else if 16 ≤ d then
    { s1 with pipes := skeep (fun n => n / 13 != d - 16) s1.pipes, asys := skeep (fun n => n / 13 != d - 16) s1.asys }
  else s1

/-- The domain ramps on (R470). -/
def State.domRamp (s : State) (d : Nat) : State :=
  ((s.setFld (Reg.PWR_DSTAT d) 0 5 (1 + 8 + 16)).setBit (Reg.PWR_CTL d) 0 true).setPwr { s.pwr with
    ramp := some (d, s.devTime) }

/-- The domain begins to power off: it takes no new access and drains (R471). -/
def State.domDrain (s : State) (d : Nat) : State :=
  ((s.setFld (Reg.PWR_DSTAT d) 0 3 4).setBit (Reg.PWR_CTL d) 0 false).setPwr { s.pwr with drain := some (d, s.devTime) }

/-- The commands that wait for domain d to be on, or off, are answered. -/
def State.domAnswer (s : State) (d : Nat) (on : Bool) (status : Nat) : State :=
  let hit := s.pwr.cmds.filter (fun x => x.1 == d && x.2.1 == on)
  let s1 := s.setPwr { s.pwr with cmds := s.pwr.cmds.filter (fun x => !(x.1 == d && x.2.1 == on)) }
  s1.each hit (fun t x => t.answerAt (some x.2.2) status [])

/-- A request that its prerequisites or its dependents do not allow is refused, and no domain changes (R472). -/
def State.domRefuse (s : State) (d : Nat) (on : Bool) : State :=
  ((s.pwrIrq 6).setBit (Reg.PWR_CTL d) 0 (s.domOn d)).domAnswer d on St.state

/-- A request begins, or waits while another domain ramps or drains (R470); what it needs is looked at again when it is
taken (R468, R472). -/
def State.domRequest (s : State) (d : Nat) (on : Bool) : State :=
  if s.pwr.ramp.isSome || s.pwr.drain.isSome then
    (s.setPwr { s.pwr with wait := s.pwr.wait ++ [(d, on)] }).setBit (Reg.PWR_CTL d) 0 on
  else if on then
    (if s.domOn d then s.domAnswer d true St.ok else if (domPre d).all s.domOn then s.domRamp d else s.domRefuse d true)
  else if s.domOn d then (if (domDeps d).any s.domOn then s.domRefuse d false else s.domDrain d)
  else s.domAnswer d false St.ok

/-- The next request that waits and still changes something. -/
def State.domNext : Nat → State → State
  | 0, s => s
  | n + 1, s =>
    match s.pwr.wait with
    | [] => s
    | (d, on) :: rest =>
      let s1 := s.setPwr { s.pwr with wait := rest }
      let s2 := s1.domRequest d on
      if s2.pwr.ramp.isSome || s2.pwr.drain.isSome then s2 else State.domNext n s2

/-- Pipeline n failed its self-test (R35): its group's sprue replaces it, or it is isolated. -/
def State.pipeTestFail (s : State) (n : Nat) : State :=
  let k := n / 13
  if s.bit Reg.PIPE_SPRUE k && !s.bit Reg.PIPE_SPRUE (8 + k) then
    let s1 := s.inlayStart n (13 * k + 12) false
    ((s1.pipeSet (13 * k + 12) 5 true)).setPipe (13 * k + 12) { s1.pipe (13 * k + 12) with loading := false }
  else s.pipeIsolate n

/-- Group k's pipelines take their self-test (R35, R459): `bad` fail. A sprue that fails is unavailable and noted; the others
that fail are replaced, the lowest first, or isolated. -/
def State.groupTest (s : State) (k : Nat) (bad : Nat → Bool) : State :=
  let s1 := (s.setBit Reg.PIPE_SPRUE k (!bad (13 * k + 12))).setBit Reg.PIPE_SPRUE (8 + k) false
  let s2 := if bad (13 * k + 12) then s1.fault 2 6 (13 * k + 12) 0 else s1
  s2.each ((groupPipes k).filter (fun n => n % 13 != 12 && bad n)) (fun t n => t.pipeTestFail n)

/-- Domain d is on: its isolation and reset are released (R470). A pipeline group stands at TP0 and is back in service
(R459, R488). -/
def State.domUp (s : State) (d : Nat) : State :=
  let n := (s.fld (Reg.PWR_DSTAT d) 16 16 + 1) % 65536
  let s1 := ((s.wr (Reg.PWR_DSTAT d) (w32 (3 + n * 65536))).setBit Reg.PWR_ON d true).setBit (Reg.PWR_CTL d) 0 true
  if 16 ≤ d then
    let k := d - 16
    let s2 := (s1.wr (Reg.CLK_TPSTAT k) (w32 (tpVolt 0 * 65536))).wr (Reg.CLK_PLLSTAT (6 + k)) (w32 (1 + tpFreq 0 * 65536))
    ((s2.setFld (Reg.CLK_PLLCFG (6 + k)) 0 12 (tpFreq 0)).setBit Reg.CLK_MON (14 + k) true).setClk { s2.clk with
      iso := s2.clk.iso.filter (· != k) }
  else s1

/-- Domain d is off (R471, R461): its pipelines are withdrawn (R347), its state is lost and its clock enables clear. -/
def State.domDown (s : State) (d : Nat) : State :=
  let s0 := if 16 ≤ d then s.each (groupPipes (d - 16)) (fun t n => t.pipeWithdraw n) else if d = 6 then s.pinsFloat else s
  let s1 := s0.domReset d
  let s2 := ((s1.setFld (Reg.PWR_DSTAT d) 0 5 (8 + 16)).setBit Reg.PWR_ON d false).setBit (Reg.PWR_CTL d) 0 false
  let s3 := s2.each (List.range 8) (fun t w => t.gateWrite w (t.rd (Reg.CLK_GATE w)))
  if 16 ≤ d then
    let k := d - 16
    (((s3.temperEnd k St.timeout).wr (Reg.CLK_TPSTAT k) 0#32).wr (Reg.CLK_PLLSTAT (6 + k)) 0#32).setBit Reg.CLK_MON (14 + k) false
  else s3

/-- Domain d holds a bound object (R471). -/
def State.domBound (s : State) (d : Nat) : Bool :=
  if d = 2 then true
  else if d = 4 ∨ d = 5 then (List.range 104).any (fun n => s.bit (Reg.PIPE_BIND n) 0) || (List.range 512).any (fun c => s.chSt c == Ch.run)
  else if d = 6 then
    (List.range 8).any s.axEn || (List.range 96).any s.genRun || (List.range 64).any s.clEn ||
      (List.range 96).any (fun c => (s.cam c).bound)
  else if d = 7 then s.fld Reg.TWIN_STAT 0 3 != 0
  else if 8 ≤ d ∧ d < 16 then (groupPipes (d - 8)).any (fun n => s.bit (Reg.LANE_BOND n) 0)
  else if 16 ≤ d then (groupPipes (d - 16)).any (fun n => s.bit (Reg.PIPE_BIND n) 0)
  else false

/-- Channels that use domain d (R348): every busy one for device memory, those that read a pipeline of the group. -/
def State.domChans (s : State) (d : Nat) : List Nat :=
  (List.range 512).filter (fun ch => decide (Ch.ready ≤ s.chSt ch) && decide (s.chSt ch ≤ Ch.waitOwn) &&
    (d == 4 || d == 5 || (decide (16 ≤ d) && (match (s.chan ch).desc with
      | some x => bitOf x.ctl 21 && fldOf x.ctl 14 7 / 13 == d - 16
      | none => false))))

/-- Firmware powers off domain d with everything that depends on it (R348, R472): the channels in use stop first. -/
def State.domOffCmd (s : State) (d : Nat) : State :=
  let s1 := s.each (s.domChans d) (fun t ch => t.chStopCmd ch)
  s1.setPwr { s1.pwr with stopWait := s1.pwr.stopWait ++ [(d, s1.devTime)] }

/-- The wait of R348 is over: channels still in a descriptor are cut, and the domains go off. -/
def State.domOffGo (s : State) (d : Nat) : State :=
  let s1 := s.each (s.domChans d) (fun t ch => t.chCut ch)
  let s2 := s1.setPwr { s1.pwr with stopWait := s1.pwr.stopWait.filter (fun e => e.1 != d) }
  s2.each ((domDeps d).filter s2.domOn ++ [d]) (fun t e => t.domRequest e false)

end Sys2Proof.Machine
end

