-- ==== Sys2Proof/Machine/Nozzle.lean ====
section
/-!
DEFINITION. Tracks, planes, maps and updates of the nozzle accountant, and the meanings of its commands (chapter 9).
-/
namespace Sys2Proof.Machine
open Sys2Proof

/-- Set the accountant's record. -/
def State.setNoz (s : State) (x : NozX) : State := { s with noz := x }
/-- Bank b of the track memory. -/
def State.nbank (s : State) (b : Nat) : NozBank := sget (fun _ => {}) s.nbanks b
/-- Set bank b. -/
def State.setNbank (s : State) (b : Nat) (x : NozBank) : State := { s with nbanks := sset (fun _ => {}) s.nbanks b x }
/-- Set bit i of NOZ_IRQ (source 312). -/
def State.nozIrq (s : State) (i : Nat) : State := s.irq Reg.NOZ_IRQ 312 i

/-! ## Tracks (R268, R269) -/

/-- Bank and row of track t (R268). -/
def trackBank (t : Nat) : Nat := t % 32
def trackRow (t : Nat) : Nat := t / 4096
/-- Track of slot k of row r of bank b. -/
def trackAt (b r k : Nat) : Nat := r * 4096 + k * 32 + b

/-- Bits [lo + n - 1 : lo] of track t, inside one word (Table 9.1). -/
def State.trkFld (s : State) (t lo n : Nat) : Nat := s.fld (Reg.NOZ_TRK t (lo / 32)) (lo % 32) n
/-- The 12 bytes of track t. -/
def State.trackBytes (s : State) (t : Nat) : List Byte := (List.range 3).flatMap (fun w => leBytes 4 (s.rdN (Reg.NOZ_TRK t w)))
/-- MEAN, VAR, COUNT, LASTPOS, STATE, PERSIST and MASK of track t. -/
def State.trkMean (s : State) (t : Nat) : Int := sgn 16 (s.trkFld t 0 16)
def State.trkVar (s : State) (t : Nat) : Nat := s.trkFld t 16 16
def State.trkCount (s : State) (t : Nat) : Nat := s.trkFld t 32 24
def State.trkLast (s : State) (t : Nat) : Nat := s.trkFld t 56 8 + s.trkFld t 64 24 * 256
def State.trkState (s : State) (t : Nat) : Nat := s.trkFld t 88 3
def State.trkPersist (s : State) (t : Nat) : Nat := s.trkFld t 91 4
def State.trkMask (s : State) (t : Nat) : Bool := s.trkFld t 95 1 == 1

/-- Write every field of track t (Table 9.1). -/
def State.trkPut (s : State) (t : Nat) (mean : Int) (var count last state persist : Nat) (mask : Bool) : State :=
  s.wrList (Reg.NOZ_TRK t 0) [
    w32 (low 16 mean + var * 2 ^ 16), w32 (count % 2 ^ 24 + last % 256 * 2 ^ 24),
    w32 (last / 256 % 2 ^ 24 + state * 2 ^ 24 + persist * 2 ^ 27 + b2n mask * 2 ^ 31)]

/-- The bitmap's MASK bit of track t (R269). -/
def State.maskMap (s : State) (t : Nat) : Bool := sget (fun _ => 0) s.noz.masked t == 1
/-- Track t in its initial state, with MASK from the bitmap (R269). -/
def State.trkInit (s : State) (t : Nat) : State := s.trkPut t 0 0 0 0 0 0 (s.maskMap t)
/-- Set MASK of track t and its bit in the bitmap (R269). -/
def State.trkSetMask (s : State) (t : Nat) (b : Bool) : State :=
  (s.setBit (Reg.NOZ_TRK t 2) 31 b).setNoz { s.noz with masked := sset (fun _ => 0) s.noz.masked t (b2n b) }

/-! ## Planes and maps (R270 to R273) -/

/-- The track lies in plane p. -/
def State.inPlane (s : State) (p t : Nat) : Bool :=
  decide (s.fld (Reg.NOZ_PLNLO p) 0 20 ≤ t) && decide (t ≤ s.fld (Reg.NOZ_PLNHI p) 0 20)
/-- The owner of plane p. -/
def State.planeOwner (s : State) (p : Nat) : Nat := s.fld (Reg.NOZ_PLCFG p) 24 4
/-- Plane p is enabled. -/
def State.planeEn (s : State) (p : Nat) : Bool := s.bit (Reg.NOZ_PLCFG p) 0

/-- Tracks listed in the store (not in their all-zero initial state), with the word that holds STATE. -/
def State.liveTracks (s : State) : List Nat :=
  s.regs.filterMap (fun e =>
    if 0x1400000 ≤ e.1 ∧ e.1 < 0x2000000 ∧ (e.1 - 0x1400000) % 12 = 8 then some ((e.1 - 0x1400000) / 12) else none)

/-- The state counts of plane p (Table 9.12). -/
def State.recount (s : State) (p : Nat) : State :=
  let l := s.liveTracks.filter (s.inPlane p)
  let cnt : Nat → Nat := fun k => (l.filter (fun t => s.trkState t == k)).length
  ((s.wr (Reg.NOZ_PLNWEAK p) (w32 (cnt 2))).wr (Reg.NOZ_PLNOUT p) (w32 (cnt 3))).wr (Reg.NOZ_PLNDEV p) (w32 (cnt 4))
/-- The state counts of all planes. -/
def State.recountAll (s : State) : State := s.each (List.range 8) (fun t p => t.recount p)

/-- Fields of map segment g (Table 9.2). -/
def State.segCam (s : State) (g : Nat) : Nat := s.fld (Reg.NOZ_SEG g 0) 0 7
def State.segFirst (s : State) (g : Nat) : Nat := s.fld (Reg.NOZ_SEG g 0) 8 16
def State.segLast (s : State) (g : Nat) : Nat := s.fld (Reg.NOZ_SEG g 0) 24 8 + s.fld (Reg.NOZ_SEG g 1) 0 8 * 256
def State.segBase (s : State) (g : Nat) : Nat := s.fld (Reg.NOZ_SEG g 1) 8 20
def State.segCount (s : State) (g : Nat) : Nat := s.fld (Reg.NOZ_SEG g 2) 0 16
def State.segU0 (s : State) (g : Nat) : Int := sgn 32 (s.fld (Reg.NOZ_SEG g 2) 16 16 + s.fld (Reg.NOZ_SEG g 3) 0 16 * 65536)
def State.segStep (s : State) (g : Nat) : Int := sgn 16 (s.fld (Reg.NOZ_SEG g 3) 16 16)

/-- The segments of a run [11:0] BASE, [24:12] COUNT. -/
def mapRun (w : Word) : List Nat := (List.range (fldOf w 12 13)).map (fun i => (fldOf w 0 12 + i) % 4096)
/-- Segment g covers column c of camera cam. -/
def State.segCovers (s : State) (g cam c : Nat) : Bool :=
  s.segCam g == cam && decide (s.segFirst g ≤ c) && decide (c ≤ s.segLast g)
/-- The segment of plane p's active map that covers a column, unless the summary in flight skips it (R286). -/
def State.segOf (s : State) (p cam c : Nat) : Option Nat :=
  (mapRun (s.rd (Reg.NOZ_PLMAP p))).find? (fun g => s.segCovers g cam c && !s.noz.skip.contains g)
/-- The track that a column is attributed to (R272): u has 16 fraction bits, k = floor(u + 0.5). -/
def State.attribute (s : State) (g c : Nat) : Option Nat :=
  let u := s.segU0 g + ((c : Int) - (s.segFirst g : Int)) * s.segStep g * 4
  let k := (u + 32768) / 65536
  if 0 ≤ k ∧ k < (s.segCount g : Int) then some (s.segBase g + k.toNat) else none

/-- Two segments of a run cover one column of one camera (R273). -/
def State.runOverlaps (s : State) (l : List Nat) : Bool :=
  match l with
  | [] => false
  | g :: r =>
    r.any (fun h => s.segCam g == s.segCam h &&
        decide (max (s.segFirst g) (s.segFirst h) ≤ min (s.segLast g) (s.segLast h)))
      || State.runOverlaps s r

/-! ## Summaries (Table 8.10) -/

/-- Header fields of a summary. -/
def sumPage (m : Summary) : Nat := leAt m.bytes 0 4
def sumSeq (m : Summary) : Nat := leAt m.bytes 4 4
def sumCam (m : Summary) : Nat := leAt m.bytes 12 1
def sumStripe (m : Summary) : Nat := leAt m.bytes 13 1
def sumCore (m : Summary) : Nat := leAt m.bytes 14 2
def sumCols (m : Summary) : Nat := leAt m.bytes 16 2
def sumPos (m : Summary) : Nat := leAt m.bytes 20 6
/-- Channel mean ch of entry e, signed 8.8; its N and REF. -/
def sumMean (m : Summary) (e ch : Nat) : Int := sgn 16 (leAt m.bytes (32 + 8 * e + 2 * ch) 2)
def sumN (m : Summary) (e : Nat) : Nat := leAt m.bytes (32 + 8 * e + 6) 2 % 32768
def sumRef (m : Summary) (e : Nat) : Bool := leAt m.bytes (32 + 8 * e + 6) 2 / 32768 == 1

/-- Summaries the queue holds (R274). -/
def State.sqSize (s : State) : Nat := clampN 16 256 (s.fld Reg.NOZ_SQSIZE 0 9)
/-- NOZ_SQ shows the queue and its high-water mark. -/
def State.sqShow (s : State) : State :=
  let n := s.noz.queue.length
  (s.setFld Reg.NOZ_SQ 0 9 n).setFld Reg.NOZ_SQ 16 9 (max n (s.fld Reg.NOZ_SQ 16 9))
/-- Bytes that one summary occupies in the queue: the largest one (Table 8.10, 4,096 entries), in multiples of 64
(log entry 138). -/
def sqStride : Nat := 32832
/-- The crucible places a summary in the queue, in device memory at NOZ_SQBASE, or discards it when the queue is full
(R274). -/
def State.sumIn (s : State) (m : Summary) : State :=
  if s.sqSize ≤ s.noz.queue.length then ((s.addSat Reg.NOZ_SUMDROP 0 32 1).nozIrq 2).fault 4 5 0 0
  else
    let k := s.noz.place % s.sqSize
    let s1 := s.devWrite (s.rd64 Reg.NOZ_SQBASE_LO + sqStride * k) m.bytes
    (s1.setNoz { s1.noz with queue := s1.noz.queue ++ [m], place := k + 1 }).sqShow

/-! ## An update (R275 to R280) -/

/-- ASHIFT and NPERS as they act. -/
def State.ashift (s : State) (p : Nat) : Nat := clampN 1 12 (s.fld (Reg.NOZ_PLCFG p) 4 4)
def State.npers (s : State) (p : Nat) : Nat := max 1 (s.fld (Reg.NOZ_PLCFG p) 8 4)

/-- The deviation x of an entry for plane p (R276). -/
def State.devX (s : State) (p : Nat) (m : Summary) (e : Nat) : Int :=
  let w : Nat → Int := fun ch =>
    if ch = 0 then sgn 16 (s.fld (Reg.NOZ_PLW0 p) 0 16) else if ch = 1 then sgn 16 (s.fld (Reg.NOZ_PLW0 p) 16 16)
    else sgn 16 (s.fld (Reg.NOZ_PLW1 p) 0 16)
  satI 16 ((w 0 * sumMean m e 0 + w 1 * sumMean m e 1 + w 2 * sumMean m e 2 + 0x2000) / 2 ^ 14)

/-- MEAN and VAR after an update with deviation x (R276). -/
def ewma (a count : Nat) (mean : Int) (var : Nat) (x : Int) : Int × Nat :=
  if count = 0 then (x, 0)
  else
    let d := x - mean
    let sq := min 0xFFFF ((d * d + 0x800) / 2 ^ 12)
    (satI 16 (mean + roundShift d a), (max 0 ((var : Int) + roundShift (sq - (var : Int)) a)).toNat)

/-- The target state (Table 9.3). -/
def State.target (s : State) (p : Nat) (mean : Int) (var state : Nat) : Nat :=
  let t0 := s.rd (Reg.NOZ_PLTHR0 p)
  let t1 := s.rd (Reg.NOZ_PLTHR1 p)
  if (fldOf t0 16 16 : Int) ≤ mean then 3
  else if (fldOf t0 0 16 : Int) ≤ mean then 2
  else if mean ≤ -(fldOf t1 16 16 : Int) ∨ s.fld (Reg.NOZ_PLTHR2 p) 0 16 ≤ var then 4
  else if mean.natAbs ≤ fldOf t1 0 16 ∨ state = 0 then 1
  else state

/-- The report kind of a change (Table 9.4); a change from NEW to NORMAL has none. -/
def rptKind (old new : Nat) : Option Nat :=
  if new = 3 then some 0 else if new = 2 then some 1 else if new = 4 then some 2
  else if old = 0 then none else some 3

/-- A nozzle report (Table 9.5). -/
def State.rptBytes (s : State) (p kind old t e : Nat) (m : Summary) (mean : Int) (var count : Nat) : List Byte :=
  leBytes 1 kind ++ leBytes 1 p ++ leBytes 1 (old + 8 * b2n (!sumRef m e) + 16 * s.planeOwner p) ++
  leBytes 1 (sumCam m) ++ leBytes 4 t ++ leBytes 2 (low 16 mean) ++ leBytes 2 var ++ leBytes 3 count ++
  leBytes 1 (sumStripe m) ++ leBytes 2 (sumCore m + e) ++ leBytes 6 (sumPos m) ++ leBytes 4 (sumSeq m) ++
  leBytes 4 (sumPage m)

/-- A track changed state: in PAIRED, a NOZDELTA leaves and the change waits to be matched (R437). -/
def State.nozChanged (s : State) (t state count : Nat) : State :=
  if s.fld Reg.TWIN_STAT 0 3 = 2 then
    let s1 := s.twinSend 3 0xD5 (t + state * 2 ^ 20) 1 (leBytes 4 count)
    match takeFirst (fun e => e.1 == t && e.2.1 == state) s1.twin.nozPeer with
    | (some _, rest) => { s1 with twin := { s1.twin with nozPeer := rest } }
    | (none, _) => { s1 with twin := { s1.twin with nozOwn := s1.twin.nozOwn ++ [(t, state, s1.devTime)] } }
  else s

/-- An applied update of track t of plane p by entry e (R276 to R280). -/
def State.nozApply (s : State) (p t e : Nat) (m : Summary) : State :=
  let st := s.trkState t
  let mv := ewma (s.ashift p) (s.trkCount t) (s.trkMean t) (s.trkVar t) (s.devX p m e)
  let count := min (s.trkCount t + 1) 0xFFFFFF
  let s0 := (s.addWrap Reg.NOZ_UPDCNT 0 32 1).addWrap (Reg.NOZ_PLUPD p) 0 32 1
  let put : State → Nat → Nat → Nat → State := fun z last state persist =>
    z.trkPut t mv.1 mv.2 count last state persist false
  if count < s.fld (Reg.NOZ_PLCFG p) 16 8 then put s0 (s.trkLast t) st (s.trkPersist t)
  else
    let tg := s.target p mv.1 mv.2 st
    if tg = st then put s0 (s.trkLast t) st 0
    else if s.trkPersist t + 1 < s.npers p then put s0 (s.trkLast t) st (s.trkPersist t + 1)
    else
      let kind := if s.bit (Reg.NOZ_PLCFG p) 2 then rptKind st tg else none
      match kind with
      | some k =>
        if 4096 ≤ s.noz.reports.length then
          ((put s0 (s.trkLast t) st (s.npers p)).addSat Reg.NOZ_RPTDEFER 0 32 1).nozIrq 1
        else
          let s1 := put s0 (sumPos m / 65536) tg 0
          let r := s.rptBytes p k st t e m mv.1 mv.2 count
          let s2 := s1.setNoz { s1.noz with reports := s1.noz.reports ++ [r] }
          (((s2.setFld Reg.NOZ_RPTQ 0 13 s2.noz.reports.length).nozIrq 0).recount p).nozChanged t tg count
      | none => ((put s0 (sumPos m / 65536) tg 0).recount p).nozChanged t tg count

/-- Row r of bank b is out of service while a spare is made ready, or isolated. -/
def State.rowInlay (s : State) (b r : Nat) : Bool :=
  let x := s.nbank b
  x.waiting.contains (r, false) || (match x.inlay with
    | some i => i.row == r && !i.copy
    | none => false)
def State.rowLost (s : State) (b r : Nat) : Bool := (s.nbank b).lost.contains r
/-- A preventive copy holds the updates of bank b (R284). -/
def State.bankHeld (s : State) (b : Nat) : Bool :=
  match (s.nbank b).inlay with
  | some i => i.copy
  | none => false

/-- One update slot: entry e of summary m for plane p, whose map covers the column by segment g (R275). A track outside
every enabled plane is never updated (R270). -/
def State.nozSlot (s : State) (p e g : Nat) (m : Summary) : State :=
  let skip := s.addSat Reg.NOZ_SKIPCNT 0 32 1
  match s.attribute g (sumCore m + e) with
  | none => skip
  | some t =>
    if s.trkMask t || decide (sumN m e < s.fld (Reg.NOZ_PLW1 p) 16 16) ||
        !(sumRef m e || s.bit (Reg.NOZ_PLCFG p) 1) || s.rowLost (trackBank t) (trackRow t) ||
        !(List.range 8).any (fun q => s.planeEn q && s.inPlane q t) then skip
    else if s.rowInlay (trackBank t) (trackRow t) then s.addSat Reg.NOZ_INLSKIP 0 32 1
    else s.nozApply p t e m

/-- Enabled plane p covers entry e of the summary: its segment. -/
def State.slotAt (s : State) (m : Summary) (e p : Nat) : Option Nat :=
  if s.planeEn p then s.segOf p (sumCam m) (sumCore m + e) else none

/-- The next update slot at or after (entry e, plane p) in the order of R274, looking at n pairs. -/
def State.nextSlot (s : State) (m : Summary) : Nat → Nat → Nat → Option (Nat × Nat × Nat)
  | 0, _, _ => none
  | n + 1, e, p =>
    if sumCols m ≤ e then none
    else match s.slotAt m e p with
      | some g => some (e, p, g)
      | none => if p < 7 then State.nextSlot s m n e (p + 1) else State.nextSlot s m n (e + 1) 0

/-- The summary at the head is done: it leaves the queue. -/
def State.sumDone (s : State) : State :=
  (s.setNoz { s.noz with queue := s.noz.queue.drop 1, entry := 0, plane := 0, skip := [] }).sqShow

/-- The accountant takes the next update slot of the summary at the head (R274, R275); a summary without a further
slot leaves the queue. A bank under a preventive copy holds its update. -/
def State.nozUpdate (s : State) : State :=
  match s.noz.queue with
  | [] => s
  | m :: _ =>
    let n := 8 * sumCols m + 1
    match s.nextSlot m n s.noz.entry s.noz.plane with
    | none => s.sumDone
    | some (e, p, g) =>
      let held := match s.attribute g (sumCore m + e) with
        | some t => s.bankHeld (trackBank t)
        | none => false
      if held then s
      else
        let s1 := s.nozSlot p e g m
        let e2 := if p < 7 then e else e + 1
        let p2 := if p < 7 then p + 1 else 0
        match s1.nextSlot m n e2 p2 with
        | none => s1.sumDone
        | some _ => s1.setNoz { s1.noz with entry := e2, plane := p2 }

/-- NOZ_UPDATE (R276). The accountant takes summaries while NOZ_CTL.EN is set and its clock runs. -/
def execNozUpdate (dt : Nat) (s : State) : Res := s.alive fun s =>
  let s0 := s.pass dt
  .next (if s0.bit Reg.NOZ_CTL 0 && s0.clkOn 234 then s0.nozUpdate else s0)

/-! ## Map commits (R273) -/

/-- NOZ_PLCMD.COMMIT: the swap of plane p is requested. -/
def State.nozCommit (s : State) (p : Nat) : State :=
  let s1 := s.w1sSet (Reg.NOZ_PLCMD p) 0 (s.noz.commits.contains p)
  s1.setNoz { s1.noz with commits := s1.noz.commits.filter (· != p) ++ [p] }
/-- COMMIT (R273). -/
def execCommit (p : Fin 8) (s : State) : Res := s.alive fun s => s.reach 0 (Reg.NOZ_PLCMD p.val) fun s =>
  .next (s.nozCommit p.val)

/-- A commit due on plane p takes place, or fails by overlap (R273). -/
def State.mapSwap (s : State) (p : Nat) : State :=
  let s1 := s.setNoz { s.noz with commits := s.noz.commits.filter (· != p) }
  let w := s.rd (Reg.NOZ_PLMAPS p)
  let s2 := if s.runOverlaps (mapRun w) then ((s1.setBit (Reg.NOZ_PLSTAT p) 0 true).nozIrq 6).fault 14 8 p 0
    else (s1.wr (Reg.NOZ_PLMAP p) w).setBit (Reg.NOZ_PLSTAT p) 0 false
  s2.w1sDone (Reg.NOZ_PLCMD p) 0 (fun t => t.nozCommit p)

/-- MAP_SWAP: between two summaries, plane p swaps to its committed run. While a summary is in progress it waits. -/
def execMapSwap (p : Fin 8) (dt : Nat) (s : State) : Res := s.alive fun s =>
  let s0 := s.pass dt
  .next (if s0.noz.commits.contains p.val && s0.noz.entry == 0 && s0.noz.plane == 0 then s0.mapSwap p.val else s0)

/-! ## Track rows (R283, R284) -/

/-- NOZ_BANK and NOZ_STAT show the rows. -/
def State.bankShow (s : State) (b : Nat) : State :=
  let x := s.nbank b
  let s1 := match x.inlay with
    | some i => (s.setFld (Reg.NOZ_BANK b) 16 8 i.row).setBit (Reg.NOZ_BANK b) 24 true
    | none => s.setBit (Reg.NOZ_BANK b) 24 false
  let s2 := s1.setBit (Reg.NOZ_BANK b) 25 (x.lost != [])
  let all := (List.range 32).map s2.nbank
  (s2.setBit Reg.NOZ_STAT 1 (all.any (·.inlay.isSome))).setBit Reg.NOZ_STAT 2 (all.any (fun y => y.lost != []))

/-- The lowest spare row of bank b that is available and not promised. -/
def State.spareRow (s : State) (b : Nat) : Option Nat :=
  (List.range 8).find? (fun i => s.bit (Reg.NOZ_BANK b) (8 + i))

/-- The logical row behind physical row r of bank b: a spare stands for the row it serves. -/
def State.logicalRow (s : State) (b r : Nat) : Option Nat :=
  if r < 256 then some r else ((s.nbank b).served.find? (fun e => e.2 == r - 256)).map (·.1)

/-- Bench firmware begins an inlay of logical row r of bank b with spare i. -/
def State.rowBegin (s : State) (b r i : Nat) (copy : Bool) : State :=
  let s1 := s.setBit (Reg.NOZ_BANK b) (8 + i) false
  let s2 := (s1.setNbank b { s1.nbank b with inlay := some { row := r, spare := i, copy := copy } }).bankShow b
  if !copy && s2.fld Reg.TWIN_STAT 0 3 == 2 then s2.twinBulk (leBytes 1 b ++ leBytes 2 r) else s2

/-- Row r of bank b has no spare: it is isolated (R283). -/
def State.rowIsolate (s : State) (b r phys : Nat) : State :=
  let s1 := (s.setNbank b { s.nbank b with lost := (s.nbank b).lost ++ [r] }).bankShow b
  (s1.nozIrq 4).fault 4 3 (b * 264 + phys) 2

/-- The physical row that serves logical row r of bank b: the row itself, or 256 + its spare. -/
def State.physRow (s : State) (b r : Nat) : Nat :=
  (((s.nbank b).served.find? (fun e => e.1 == r)).map (fun e => 256 + e.2)).getD r

/-- Row r of bank b joins the rows that wait: failed ones stand before those that only want a preventive copy (log entry
139). -/
def State.rowWait (s : State) (b r : Nat) (copy : Bool) : State :=
  let x := s.nbank b
  let l := x.waiting.filter (fun e => e.1 != r) ++ [(r, copy)]
  s.setNbank b { x with waiting := l.filter (fun e => !e.2) ++ l.filter (fun e => e.2) }

/-- A row of bank b needs a spare: at once, or after the inlay in progress and once the bench is in service (R390). -/
def State.rowNeeds (s : State) (b r : Nat) : State :=
  let x := s.nbank b
  if x.lost.contains r then s
  else match x.inlay, s.spareRow b with
    | some i, _ => if i.row = r ∧ i.copy = false then s else s.rowWait b r false
    | none, some i => if s.fwDuty 2 then s.rowBegin b r i false else s.rowWait b r false
    | none, none => s.rowIsolate b r (s.physRow b r)

/-- Row r of bank b is to be copied to a spare (R284): at once, or after the inlay in progress. Without a spare the row
stays in service. -/
def State.rowCopy (s : State) (b r : Nat) : State :=
  let x := s.nbank b
  if x.lost.contains r || x.waiting.any (fun e => e.1 == r) then s
  else match x.inlay, s.spareRow b with
    | some i, _ => if i.row = r then s else s.rowWait b r true
    | none, some i => if s.fwDuty 2 then s.rowBegin b r i true else s.rowWait b r true
    | none, none => s

/-- TRK_UE (R283): an uncorrectable error in physical row r of bank b. A row that serves no track only counts. -/
def execTrkUe (b : Fin 32) (r : Fin 264) (dt : Nat) (s : State) : Res := s.alive fun s =>
  let s1 := ((((s.pass dt).addSat Reg.NOZ_ECC 16 16 1).nozIrq 5).fault 4 2 (b.val * 264 + r.val) 2)
  .next (match s1.logicalRow b.val r.val with
    | some l => s1.rowNeeds b.val l
    | none => s1)

/-- TRK_CE (R284): counted; when the count of a row reaches 4, it is inlaid preventively, after the inlays of its bank that
run or wait. -/
def execTrkCe (b : Fin 32) (r : Fin 264) (dt : Nat) (s : State) : Res := s.alive fun s =>
  let s1 := ((((s.pass dt).addSat Reg.NOZ_ECC 0 16 1).nozIrq 5).fault 4 1 (b.val * 264 + r.val) 0)
  let x := s1.nbank b.val
  let n := sget (fun _ => 0) x.ce r.val + 1
  let s2 := s1.setNbank b.val { x with ce := sset (fun _ => 0) x.ce r.val n }
  .next (match s2.logicalRow b.val r.val with
    | some l => if n = 4 then s2.rowCopy b.val l else s2
    | none => s2)

/-- No inlay of bank b runs: the next row that waits begins, while the bench is in service (R390). Without a spare every
failed row that waits is isolated (R283), and no copy takes place. -/
def State.rowNext (s : State) (b : Nat) : State :=
  match if s.fwDuty 2 && (s.nbank b).inlay.isNone then (s.nbank b).waiting else [] with
  | [] => s
  | e :: rest =>
    match s.spareRow b with
    | some k => (s.setNbank b { s.nbank b with waiting := rest }).rowBegin b e.1 k e.2
    | none => (s.setNbank b { s.nbank b with waiting := [] }).each
        (((e :: rest).filter (fun w => !w.2)).map (·.1)) (fun t r => t.rowIsolate b r (t.physRow b r))

/-- The spare serves row r of bank b: an inlay in progress ends, and the next row that waits begins. -/
def State.rowServe (s : State) (b : Nat) (i : RowInlay) : State :=
  let x := s.nbank b
  let old := x.served.find? (fun e => e.1 == i.row)
  let s1 := s.setNbank b { x with
    inlay := none, served := x.served.filter (fun e => e.1 != i.row) ++ [(i.row, i.spare)] }
  let s2 := match old with
    | some e => s1.setBit (Reg.NOZ_BANK b) e.2 false
    | none => s1
  (((s2.setBit (Reg.NOZ_BANK b) i.spare true).bankShow b).nozIrq 3).rowNext b

/-- ROW_COPY_DONE (R284): the preventive copy ends; nothing is lost and held updates resume. -/
def execRowCopyDone (b : Fin 32) (dt : Nat) (s : State) : Res := s.alive fun s =>
  let s0 := s.pass dt
  .next (match (s0.nbank b.val).inlay with
    | some i => if i.copy then s0.rowServe b.val i else s0
    | none => s0)

/-- ROW_INLAY_DONE (R283, R36): the spare serves the failed row. In PAIRED its tracks are the partner's copy, which came
over BULK (R437), 12 bytes a track; otherwise they restart. Either way MASK comes from the bitmap (R269). -/
def execRowInlayDone (b : Fin 32) (peer : List Byte) (dt : Nat) (s : State) : Res := s.alive fun s =>
  let s0 := s.pass dt
  .next (match (s0.nbank b.val).inlay with
    | some i =>
      if i.copy then s0
      else
        let ts := (List.range 128).map (trackAt b.val i.row)
        let fresh := s0.each ts (fun t k => t.trkInit k)
        let s1 := if s0.fld Reg.TWIN_STAT 0 3 = 2 then
            s0.each ts.zipIdx (fun t e => if 12 * e.2 + 12 ≤ peer.length then
                (t.wrList (Reg.NOZ_TRK e.1 0) ((List.range 3).map (fun w =>
                  w32 (leAt peer (12 * e.2 + 4 * w) 4)))).setBit (Reg.NOZ_TRK e.1 2) 31 (t.maskMap e.1)
              else t.trkInit e.1)
          else fresh
        (s1.recountAll).rowServe b.val i
    | none => s0)

/-- MAP_UE (R286): an uncorrectable error in segment g: it is skipped for the summary in flight, and bench firmware
rewrites it from its image. -/
def execMapUe (g : Fin 4096) (dt : Nat) (s : State) : Res := s.alive fun s =>
  let s1 := (((s.pass dt).addSat Reg.NOZ_ECC 16 16 1).nozIrq 5).fault 4 4 g.val 1
  .next (if s1.noz.queue = [] then s1 else s1.setNoz { s1.noz with skip := s1.noz.skip ++ [g.val] })

/-- NOZ_CMD.CLRCNT (R287): clears 0x01C to 0x030. -/
def State.nozClr (s : State) : State :=
  s.each [Reg.NOZ_SKIPCNT, Reg.NOZ_SUMDROP, Reg.NOZ_RPTDEFER, Reg.NOZ_INLSKIP, Reg.NOZ_RPTCNT, Reg.NOZ_ECC]
    (fun t k => t.wr k 0#32)
def execNozClrcnt (s : State) : Res := s.alive fun s => s.reach 0 Reg.NOZ_CMD fun s => .next s.nozClr

/-- TRACK_WINDOW_READ (R287): a read of a track's first word delivers it and latches the other two. -/
def State.trackRead (s : State) (t : Nat) : State :=
  s.setNoz { s.noz with latch := [(Reg.NOZ_TRK t 1, s.rd (Reg.NOZ_TRK t 1)), (Reg.NOZ_TRK t 2, s.rd (Reg.NOZ_TRK t 2))] }
def execTrackWindowRead (t : BitVec 20) (s : State) : Res := s.alive fun s =>
  let a := Reg.NOZ_TRK t.toNat 0
  .next (if s.unitUp a then (s.trackRead t.toNat).emit (.value 0 a (s.rd a).toNat)
    else s.gatedHost 0 a 13 false)

end Sys2Proof.Machine
end

