-- ==== Sys2Proof/Machine/Delivery.lean ====
section
/-!
DEFINITION. The crucible and the delivery rings (chapter 10): end items, intake, seam merges (R256), block tags, staging,
ring writes and their signals. Queued transfers of commands stand in Transfer.lean.
-/
namespace Sys2Proof.Machine
open Sys2Proof

/-! ## Rings (R301 to R305) -/

/-- Fields of ring r of function f (Table 10.10). -/
def State.ringEn (s : State) (f r : Nat) : Bool := s.bit (Reg.DLV_RCFG f r) 0
def State.ringKind (s : State) (f r : Nat) : Nat := s.fld (Reg.DLV_RCFG f r) 1 3
def State.ringMap (s : State) (f r : Nat) : Bool := s.bit (Reg.DLV_RCFG f r) 4
def State.ringAll (s : State) (f r : Nat) : Bool := s.bit (Reg.DLV_RCFG f r) 12
def State.ringSize (s : State) (f r : Nat) : Nat := 2 ^ s.fld (Reg.DLV_RSIZE f r) 0 5
/-- Entries that the host has not consumed. -/
def State.ringUsed (s : State) (f r : Nat) : Nat := (s.rdN (Reg.DLV_RPIDX f r) + 2 ^ 32 - s.rdN (Reg.DLV_RCIDX f r)) % 2 ^ 32
def State.ringFull (s : State) (f r : Nat) : Bool := decide (s.ringSize f r ≤ s.ringUsed f r)
/-- Entry size in bytes (Table 10.5). -/
def State.entrySize (s : State) (f r : Nat) : Nat :=
  let k := s.ringKind f r
  if k = 0 then (if s.ringMap f r then 320 else 64) else if k = 2 then 64 * s.fld (Reg.DLV_RCFG f r) 16 8
  else if k = 3 then 32 else 64

/-- DLV_RSTAT shows the ring. -/
def State.ringShow (s : State) (f r : Nat) : State :=
  (s.setBit (Reg.DLV_RSTAT f r) 0 (s.ringEn f r && s.ringFull f r)).setFld (Reg.DLV_RSTAT f r) 16 9
    (s.ring f r).staged.length

/-- The ring that takes records of a kind of camera c for tenant f (R302); nozzle reports use ALLCAM rings only. -/
def State.route (s : State) (f kind c : Nat) : Option Nat :=
  let ok : Nat → Bool := fun r => s.ringEn f r && s.ringKind f r == kind
  let own := (List.range 16).find? (fun r => ok r && !s.ringAll f r && s.fld (Reg.DLV_RCFG f r) 5 7 == c)
  let any := (List.range 16).find? (fun r => ok r && s.ringAll f r)
  if kind = 3 then any else match own with
    | some r => some r
    | none => any

/-- A record of camera c is discarded (R302, R304). -/
def State.recLost (s : State) (c : Nat) : State := s.setCru c { s.cru c with lost := (s.cru c).lost + 1 }

/-- Stage an entry of camera c for ring r of function f; one that finds the staging full is discarded (R304). -/
def State.stage (s : State) (f r c : Nat) (e : Staged) : State × Bool :=
  let x := s.ring f r
  if 256 ≤ x.staged.length then ((s.addSat (Reg.DLV_RLOST f r) 0 32 1).recLost c, false)
  else ((s.setRing f r { x with staged := x.staged ++ [e] }).ringShow f r, true)

/-- Route a record of camera c to a ring of tenant f; true when it is staged. -/
def State.routeRec (s : State) (f kind c : Nat) (bs : List Byte) : State × Bool :=
  match s.route f kind c with
  | some r => s.stage f r c { bytes := bs }
  | none => (s.recLost c, false)

/-- A defect record of camera c leaves for the camera's tenant (R298, Table 10.1 NDEF). -/
def State.defectOut (s : State) (c : Nat) (bs : List Byte) : State :=
  let r := s.routeRec (s.owner Part.cam c) 1 c bs
  let x := r.1.cru c
  r.1.setCru c { x with ndef := x.ndef + b2n r.2, defs := if r.2 then x.defs ++ [bs] else x.defs }

/-! ## Fragments (R256) -/

/-- Rows of contact on the side toward a neighbour. -/
def Frag.side (f : Frag) (right : Bool) : List (Nat × Nat) := if right then f.blob.right else f.blob.left
/-- Two sets of row intervals come within one row of each other. -/
def nearRows (a b : List (Nat × Nat)) : Bool :=
  a.any (fun x => b.any (fun y => decide (x.1 ≤ y.2 + 1) && decide (y.1 ≤ x.2 + 1)))
/-- Fragments of neighbouring stripes join, unless they leave unmerged. -/
def fragJoins (a b : Frag) : Bool :=
  !a.blob.trunc && !b.blob.trunc && a.blob.run == b.blob.run &&
  ((a.stripe + 1 == b.stripe && nearRows a.blob.right b.blob.left) ||
    (b.stripe + 1 == a.stripe && nearRows b.blob.right a.blob.left))

/-- Stripe st of camera c as a pipeline. -/
def State.stripePipe (s : State) (c st : Nat) : Option Nat :=
  (s.camPipes c).find? (fun n => s.fld (Reg.PIPE_BIND n) 8 3 == st)

/-- The neighbour of a fragment on a side has passed the row after its last contact row there, and holds no blob that
may still touch it. -/
def State.sidePassed (s : State) (c : Nat) (f : Frag) (right : Bool) : Bool :=
  let l := f.side right
  if l = [] then true
  else
    let st := if right then f.stripe + 1 else f.stripe - 1
    match s.stripePipe c st with
    | none => true
    | some m =>
      let x := s.asy m
      let last := maxList (l.map (·.2))
      let isOver := match (s.pipe m).runs.find? (fun r => r.id == f.blob.run) with
        | some r => r.over && x.queue == [] && x.rows == [] && x.pend == []
        | none => true
      let passed := match x.doneI with
        | some (run, i) => run != f.blob.run || decide (last + 1 ≤ i)
        | none => false
      let open' := x.blobs.any (fun b => b.run == f.blob.run && nearRows l (if right then b.left else b.right))
      let waits := (s.pipe m).intake.any (fun it => match it with
        | .fragment g => fragJoins f g
        | _ => false)
      (passed || isOver) && !open' && !waits

/-- A fragment is final (R256). -/
def State.fragFinal (s : State) (c : Nat) (f : Frag) : Bool := f.blob.trunc || s.sidePassed c f true && s.sidePassed c f false

/-- The set of fragments joined to those given, by n rounds of joining. -/
def fragSet : Nat → List Frag → List Frag → List Frag × List Frag
  | 0, inn, out => (inn, out)
  | n + 1, inn, out =>
    let add := out.filter (fun f => inn.any (fragJoins f))
    if add = [] then (inn, out) else fragSet n (inn ++ add) (out.filter (fun f => !inn.any (fragJoins f)))

/-- The first joined set all of whose fragments are final, and the fragments that stay. -/
def State.fragReady (s : State) (c : Nat) : List Frag → List Frag → Option (List Frag × List Frag)
  | [], _ => none
  | f :: rest, before =>
    let r := fragSet (rest.length + before.length) [f] (before ++ rest)
    if r.1.all (s.fragFinal c) then some r else State.fragReady s c rest (before ++ [f])

/-- The record of a joined set (R256, Table 8.6). -/
def fragRecord (c : Nat) (l : List Frag) : List Byte :=
  match l with
  | [] => []
  | f :: rest =>
    let b := rest.foldl (fun (b : Blob) g => b.join g.blob) f.blob
    let s0 := rest.foldl (fun m g => min m g.stripe) f.stripe
    let s1 := rest.foldl (fun m g => max m g.stripe) f.stripe
    blobRecord c s0 s1 f.viewten f.thi f.amaj (rest != []) b

/-- FRAGMENT_MERGE (R256): the crucible merges one set of joined fragments that has become final into one record. -/
def execFragmentMerge (c : Fin 96) (dt : Nat) (s : State) : Res := s.alive fun s =>
  let s0 := s.pass dt
  .next (match s0.fragReady c.val (s0.cru c.val).frags [] with
    | some (l, rest) => (s0.setCru c.val { s0.cru c.val with frags := rest }).defectOut c.val (fragRecord c.val l)
    | none => s0)

/-! ## End items and intake (R293, R294, R297) -/

/-- END_ITEM (R293): the oldest block of pipeline n whose output, statistics and assay work are done. -/
def execEndItem (n : Fin 104) (dt : Nat) (s : State) : Res := s.alive fun s =>
  let s0 := s.pass dt
  .next (match (s0.pipe n.val).blks.find? (fun b => !b.posted) with
    | some b => if b.passed = b.total ∧ b.statDone ∧ b.assayDone ∧ b.late = false then s0.postEnd n.val b else s0
    | none => s0)

/-- LATE_END_ITEM (R294): the oldest block of pipeline n that was dropped late. -/
def execLateEndItem (n : Fin 104) (dt : Nat) (s : State) : Res := s.alive fun s =>
  let s0 := s.pass dt
  .next (match (s0.pipe n.val).blks.find? (fun b => b.late && !b.posted) with
    | some b => s0.postEnd n.val b
    | none => s0)

/-- A stripe of an open block of camera c was dropped late (R294). -/
def State.blkLate (s : State) (c run i0 : Nat) : Bool :=
  (s.cru c).blocks.any (fun k => k.run == run && k.i0 == i0 && (k.ends.any (·.blk.late) ||
    k.pipes.any (fun n => (s.pblk n run i0).any (·.late))))

/-- The crucible takes one item of pipeline n (R297). A fragment that carries TRUNC, or whose block was dropped late, leaves
unmerged (R256). -/
def State.takeItem (s : State) (n : Nat) (it : Item) : State :=
  match s.pipeCam n with
  | none => s
  | some c =>
    match it with
    | .endItem run i0 x0 b got =>
      let e : EndRec := { n := n, blk := b, x0 := x0, lines := got }
      s.setCru c { s.cru c with
        blocks := (s.cru c).blocks.map (fun k => if k.run = run ∧ k.i0 = i0 then { k with ends := k.ends ++ [e] } else k) }
    | .defect r => s.defectOut c r
    | .fragment f =>
      if f.blob.trunc then s.defectOut c (fragRecord c [f])
      else if s.blkLate c f.blob.run f.blob.blk then
        s.defectOut c (fragRecord c [{ f with blob := { f.blob with trunc := true } }])
      else s.setCru c { s.cru c with frags := (s.cru c).frags ++ [f] }
    | .summary bs =>
      let m : Summary := { bytes := bs }
      (s.setCru c { s.cru c with sums := (s.cru c).sums ++ [(sumSeq m, sumStripe m, bs)] }).sumIn m

/-- The report at the head of the accountant's queue goes to the owner's nozzle report ring (R279). -/
def State.reportOut (s : State) : State :=
  match s.noz.reports with
  | [] => s
  | r :: rest =>
    let s1 := s.setNoz { s.noz with reports := rest }
    let s2 := s1.setFld Reg.NOZ_RPTQ 0 13 rest.length
    (s2.routeRec (leAt r 2 1 / 16) 3 (leAt r 3 1) r).1

/-- CRUCIBLE_INTAKE (R297): one period: at most one item from each pipeline that has one ready, in ascending order; then
the accountant's next report. -/
def execCrucibleIntake (dt : Nat) (s : State) : Res := s.alive fun s =>
  let s0 := s.pass dt
  let ready := (List.range 104).filter (fun n => (s0.pipe n).intake != [])
  let s1 := s0.setFld Reg.CRU_STAT 8 7 (max (s0.fld Reg.CRU_STAT 8 7) ready.length)
  .next (if s0.clkOn 235 then
      (s1.each ready (fun t n => match (t.pipe n).intake with
        | it :: rest => (t.setPipe n { t.pipe n with intake := rest }).takeItem n it
        | [] => t)).reportOut
    else s0)

/-! ## The block tag (R290 to R292, R298) -/

/-- What R141 makes of a line of camera c missing at exposure time t: nothing, PARTIAL or INLAY_GAP, and FORCED. -/
def State.lossOf (s : State) (c t : Nat) : Option (Bool × Bool) :=
  let tmo := usTicks (s.fld (Reg.LINK_CAMLNTMO c) 0 16)
  match (s.bond c).losses.find? (fun l => decide (l.t0 ≤ t + tmo) && (match l.t1 with
    | some e => decide (t ≤ e)
    | none => true)) with
  | some l => some (l.inlay && l.t1.isSome, l.forced)
  | none => if (s.bond c).muted then some (false, false) else none

/-- Status codes of a stripe's lines that passed stage 10. -/
def EndRec.codes (e : EndRec) : List Nat := (e.blk.pre ++ e.blk.outs.map (·.code)).take e.blk.passed
/-- The code of line j of a block: the highest over the stripes, 3 where one was never emitted (R292). -/
def mapCode (ends : List EndRec) (j : Nat) : Nat := maxList (ends.map (fun e => nth e.codes j 3))
/-- The line map of a block of B lines (R292). -/
def lineMap (ends : List EndRec) (lines : Nat) : List Byte :=
  (List.range 256).map (fun k => BitVec.ofNat 8
    ((List.range 4).foldl (fun a j => a + (if 4 * k + j < lines then mapCode ends (4 * k + j) else 0) * 4 ^ j) 0))

/-- An inlay of a TXFAIL completed while the block was in progress (Table 10.2). -/
def State.txInlay (s : State) (c : Nat) (b : CBlk) : Bool :=
  let next := ((s.cru c).blocks.find? (fun k => k.run == b.run && decide (b.i0 < k.i0))).bind (·.t0)
  (s.bond c).losses.any (fun l => l.tx && l.inlay && (match l.t1, b.t0 with
    | some e, some t => decide (t ≤ e) && (match next with
      | some u => decide (e < u)
      | none => true)
    | _, _ => false))

/-- Everything a block's tag is made of, but TWIN_UNCHECKED and MAPV: flags, late mask and gap mask. -/
def State.tagFlags (s : State) (c : Nat) (b : CBlk) : Nat × Nat × Nat :=
  let miss := b.ends.flatMap (fun e => (e.blk.missT.filterMap (s.lossOf c)))
  let lane := miss.any (·.1) || s.txInlay c b
  let late := b.ends.any (fun e => e.blk.late)
  let part := b.part || b.ends.any (fun e => e.blk.partLoss) || miss.any (fun m => !m.1)
  let gap := lane || b.ends.any (fun e => e.blk.inlaid)
  let forced := b.ends.any (fun e => e.blk.forced) || miss.any (·.2)
  let stripe : EndRec → Nat := fun e => s.fld (Reg.PIPE_BIND e.n) 8 3
  let mask : (EndRec → Bool) → Nat := fun p => ((b.ends.filter p).map (fun e => 2 ^ stripe e)).foldl Nat.lor 0
  (b2n late + 2 * b2n part + 4 * b2n (b.ends.any (fun e => e.blk.noref)) + 8 * b2n gap +
      16 * b2n (b.ends.any (fun e => e.blk.ovs)) + 32 * b2n forced,
    mask (fun e => e.blk.late), mask (fun e => lane || e.blk.inlaid))

/-- The tag of a block (Table 10.1), with TWIN_UNCHECKED, MAPV and LOST still clear. tstart and tend are given. -/
def State.tagBytes (s : State) (c : Nat) (b : CBlk) (tstart tend : Nat) : List Byte :=
  let ends := b.ends
  let fl := s.tagFlags c b
  let len := (ends.head?.map (fun e => e.blk.len)).getD 0
  let pitch := (ends.head?.map (fun e => e.blk.bank.pitch)).getD 0
  let x0 := (ends.head?.map (·.x0)).getD 0
  let page := ((ends.map (fun e => e.blk.page)).find? (· != 0xFFFFFFFF)).getD 0xFFFFFFFF
  let nsm1 := (ends.head?.map (fun e => s.fld (Reg.PIPE_BIND e.n) 12 3)).getD 0
  let assay := (ends.head?.map (fun e => bitOf (e.blk.bank.w 0x7C) 0)).getD false
  let view := (ends.head?.map (fun e => e.blk.bank.af 0 12 4)).getD 0
  let lines := ends.foldl (fun m e => min m e.lines) ((ends.head?.map (·.lines)).getD 0)
  let nfill := maxList (ends.map (fun e => (e.codes.filter (· == 2)).length))
  leBytes 8 tstart ++ leBytes 8 tend ++ leBytes 6 (blkPos x0 pitch 0).toNat ++ leBytes 6 (blkPos x0 pitch len).toNat ++
  leBytes 4 page ++ leBytes 4 b.seq ++ leBytes 4 b.i0 ++ leBytes 2 lines ++ leBytes 2 len ++ leBytes 1 c ++
  leBytes 1 (8 * nsm1) ++ leBytes 1 ((s.camAxis c).getD 0) ++
  leBytes 1 (s.owner Part.cam c + 16 * (if assay then view else 0)) ++ leBytes 2 fl.1 ++ leBytes 1 fl.2.1 ++
  leBytes 1 fl.2.2 ++ leBytes 2 (s.cru c).ndef ++ leBytes 2 nfill ++ leBytes 1 0 ++
  List.replicate 7 0#8

/-- Set a bit of byte 48 of a tag. -/
def tagSet (bit : Nat) (on : Bool) (tag : List Byte) : List Byte :=
  if on then setNth tag 48 (BitVec.ofNat 8 (Nat.lor (leAt tag 48 1) (2 ^ bit))) else tag

/-- The block digest (R436): CRC-64 over tag bytes 16 to 55 with FLAGS [6:5] taken as 0, the line map, the statistics
records, the defect records with bytes 56 to 63 taken as 0, and the column summaries in stripe order. -/
def State.blockDigest (s : State) (c : Nat) (b : CBlk) (tag map : List Byte) (stats : List (List Byte)) : Nat :=
  let t := setNth tag 48 (BitVec.ofNat 8 (leAt tag 48 1 - leAt tag 48 1 / 32 % 4 * 32))
  let defs := (s.cru c).defs.map (fun d => d.take 56 ++ List.replicate 8 0#8)
  let sums := (List.range 8).flatMap (fun st =>
    ((s.cru c).sums.filter (fun e => e.1 == b.seq && e.2.1 == st)).flatMap (fun e => e.2.2))
  crcBytes 64 0x42F0E1EBA9EA3693 0 ((t.drop 16).take 40 ++ map ++ stats.flatten ++ defs.flatten ++ sums)

/-- The block's stripes have all ended, and no fragment of the camera is left to merge (R298). -/
def State.blkReady (s : State) (c : Nat) (b : CBlk) : Bool :=
  b.pipes.all (fun n => b.ends.any (fun e => e.n == n)) && (s.fragReady c (s.cru c).frags []).isNone

/-- The pipelines' records of a finished block go; so do runs of which nothing is left. -/
def State.blkForget (s : State) (b : CBlk) : State :=
  s.each b.pipes (fun t n =>
    let x := t.pipe n
    let blks := x.blks.filter (fun k => !(k.run == b.run && k.i0 == b.i0))
    let low := (blks.filter (fun k => k.run == b.run)).foldl (fun m k => min m k.i0) (b.i0 + (blks.length + 1) * 2048)
    t.setPipe n { x with
      blks := blks
      runs := (x.runs.filter (fun r => !(r.fin && !blks.any (fun k => k.run == r.id)))).map (fun r =>
        if r.id = b.run then { r with got := r.got.filter (fun i => decide (low ≤ i)) } else r) })

/-- Lines of the slot that a stripe never emitted read 0 (R294, R299). -/
def State.slotZero (s : State) (addr : Nat) (fmt : List Byte) (e : EndRec) : State :=
  let f := e.blk.bank.f 0x7C 2 2
  let px := fmtPlanesOut fmt * ringBytes f
  let stride := ringStride fmt f
  s.each ((List.range e.blk.len).filter (fun j => decide (e.blk.passed ≤ j))) (fun t j =>
    t.devWrite (addr + 512 + j * stride + e.blk.bank.f 0 0 16 * px) (List.replicate (e.blk.bank.f 0 16 16 * px) 0#8))

/-- An image descriptor (Table 10.6), DOFS still 0. -/
def imageDesc (c seq frame fmt' planes flags lines width stride : Nat) (pstart tstart : Nat) : List Byte :=
  leBytes 4 seq ++ leBytes 4 frame ++ leBytes 1 c ++ leBytes 1 fmt' ++ leBytes 1 planes ++ leBytes 1 flags ++
  leBytes 2 lines ++ leBytes 2 0 ++ leBytes 4 width ++ leBytes 4 stride ++ leBytes 8 0 ++
  leBytes 4 (256 + lines * stride) ++ leBytes 4 0 ++ leBytes 6 pstart ++ leBytes 2 0 ++ leBytes 8 tstart ++ leBytes 8 0

/-- The image of a block in slot k goes to the tenant's image ring (R303); false when no ring or staging takes it. -/
def State.imageOut (s : State) (f c k : Nat) (tag map : List Byte) (b : PBlk) (ss : List Nat) (ring : Option Nat) :
    State × Bool :=
  let fmt := s.camFmt c
  let rf := b.bank.f 0x7C 2 2
  let stride := ringStride fmt rf
  let desc := imageDesc c (leAt tag 32 4) (leAt tag 36 4) rf (fmtPlanesOut fmt) (leAt tag 48 1) b.len (fmtWidth fmt)
    stride (leAt tag 16 6) (leAt tag 0 8)
  let run := map ++ (s.devRead (s.slotAddr c k stride b.len + 512) (b.len * stride)).1
  match ring with
  | some r => s.stage f r c { bytes := desc, run := run, slot := some (c, k), stripes := ss }
  | none => (s.recLost c, false)

/-- The tag of a block leaves (R290, R298, R299): counters, the slot's copy, statistics records and tag into staging,
the producers, and the image or the kept slot. -/
def State.tagOut (s : State) (c : Nat) (b : CBlk) (tag0 map : List Byte) (stats : List (List Byte)) (unchecked : Bool) :
    State :=
  let f := s.owner Part.cam c
  let s0 := s.each stats (fun t r => (t.routeRec f 2 c r).1)
  let lost := min 255 (s0.cru c).lost
  let s1 := s0.setCru c { s0.cru c with lost := 0 }
  let ring := s1.route f 0 c
  let mapv := match ring with
    | some r => s1.ringMap f r
    | none => false
  let tag := setNth (tagSet 7 mapv (tagSet 6 unchecked tag0)) 56 (BitVec.ofNat 8 lost)
  let flags := leAt tag 48 1
  let bump : State → Nat → Nat → State := fun t bit k => if flags / 2 ^ bit % 2 = 1 then t.addSat k 0 32 1 else t
  let s2 := bump (bump (bump s1 0 (Reg.CRU_CAMLATE c)) 1 (Reg.CRU_CAMPART c)) 3 (Reg.CRU_CAMGAP c)
  let put := match ring with
    | some r => s2.stage f r c { bytes := if mapv then tag ++ map else tag }
    | none => (s2.recLost c, false)
  let s4 := if put.2 then put.1.produce (64 + c) else put.1
  let s5 := if flags % 2 = 1 then s4.produce (160 + c) else s4
  let first : Option PBlk := b.ends.head?.map (·.blk)
  let s6 := match b.slot, first with
    | some k, some p =>
      let fmt := s5.camFmt c
      let addr := s5.slotAddr c k (ringStride fmt (p.bank.f 0x7C 2 2)) p.len
      let t := (s5.devWrite addr (tag ++ map ++ List.replicate 192 0#8)).each b.ends (fun t e => t.slotZero addr fmt e)
      if t.bit (Reg.CRU_CAMCFG c) 16 then
        let r := t.imageOut f c k tag map p (b.ends.map (fun (e : EndRec) => t.fld (Reg.PIPE_BIND e.n) 8 3)) (t.route f 4 c)
        if r.2 then r.1 else r.1.freeSlot c k
      else if b.keep then
        (t.setCru c { t.cru c with
          slots := (t.cru c).slots.map (fun (e : CSlot) => if e.idx = k then { e with
            kept := true, busy := false, lines := p.len, rf := p.bank.f 0x7C 2 2, fmt := fmt } else e) }).slotStat c
      else t.freeSlot c k
    | some k, none => s5.freeSlot c k
    | none, _ => s5
  let s7 := s6.blkForget b
  let x := s7.cru c
  (s7.setCru c { x with
    blocks := x.blocks.filter (fun k => !(k.run == b.run && k.i0 == b.i0))
    sums := x.sums.filter (fun e => e.1 != b.seq) }).cruShow c

/-- A partner digest was compared with an own one (R436). -/
def State.digestCmp (s : State) (c own peer : Nat) : State :=
  let s1 := s.addWrap Reg.TWIN_DIGCMP 0 32 1
  if own = peer then s1 else ((s1.addSat Reg.TWIN_DIGERR 0 16 1).irq Reg.TWIN_IRQ 315 4).fault 11 7 c 0

/-- The statistics records of a block, in stripe order (R298), each with its own free value where R215 leaves a value
open. -/
def State.blockStats (s : State) (c : Nat) (b : CBlk) : List (List Byte) × State :=
  let np := fmtPlanesOut (s.camFmt c)
  (List.range 8).foldl (fun (a : List (List Byte) × State) st =>
    match b.ends.find? (fun e => a.2.fld (Reg.PIPE_BIND e.n) 8 3 == st) with
    | some e => (a.1 ++ [a.2.statBytes e.n e.blk np], a.2.free.2)
    | none => a) ([], s)

/-- The oldest block of camera c is tagged when all its parts are complete (R298). In PAIRED the tag waits for the
partner's digest (R300). -/
def State.blockTag (s : State) (c : Nat) : State :=
  match (s.cru c).blocks with
  | [] => s
  | b :: rest =>
    if b.tag.isNone && s.blkReady c b then
      let st := s.blockStats c b
      let t0 := match b.t0 with
        | some t => (t, st.2)
        | none => (st.2.free.1.toNat, st.2.free.2)
      let s1 := t0.2
      let len := (b.ends.head?.map (fun e => e.blk.len)).getD 0
      let tag := s1.tagBytes c b t0.1 s1.devTime
      let map := lineMap b.ends len
      let done : State → State := fun t => t.setCru c { t.cru c with ndef := 0, defs := [] }
      let state := s1.fld Reg.TWIN_STAT 0 3
      if state = 2 ∨ (state = 1 ∧ s1.twin.joined.contains c) then
        let f := s1.owner Part.cam c
        let mapv := match s1.route f 0 c with
          | some r => s1.ringMap f r
          | none => false
        let dig := s1.blockDigest c b (tagSet 7 mapv tag) map st.1
        let s2 := s1.twinSend 3 0xD4 c 2 (leBytes 4 b.seq ++ leBytes 8 dig)
        match takeFirst (fun (e : Nat × Nat × Nat) => e.1 == c && e.2.1 == b.seq) s2.twin.peerDig with
        | (some e, left) =>
          (done (({ s2 with twin := { s2.twin with peerDig := left } } : State).digestCmp c dig e.2.2)).tagOut c b tag map st.1 false
        | (none, _) =>
          (done s2).setCru c { (done s2).cru c with
            blocks := { b with tag := some tag, tagT := s2.devTime, digest := dig, map := map, stats := st.1 } :: rest }
      else (done s1).tagOut c b tag map st.1 (state != 0)
    else s

/-- BLOCK_TAG (R298). -/
def execBlockTag (c : Fin 96) (dt : Nat) (s : State) : Res := s.alive fun s =>
  let s0 := s.pass dt
  .next (if s0.clkOn 235 then s0.blockTag c.val else s0)

/-- TWIN_WAIT_EXPIRY (R300): CRU_TWINWAIT µs have passed for the tag that camera c's oldest block holds; it leaves with
TWIN_UNCHECKED, and its digest is kept for a late comparison. -/
def execTwinWaitExpiry (c : Fin 96) (dt : Nat) (s : State) : Res := s.alive fun s =>
  let s0 := s.pass dt
  .next (match (s0.cru c.val).blocks with
    | b :: _ => match b.tag with
      | some tag =>
        if b.tagT + usTicks (clampN 1 10000 (s0.fld Reg.CRU_TWINWAIT 0 16)) ≤ s0.devTime then
          let s1 : State := { s0 with twin := { s0.twin with ownDig := s0.twin.ownDig ++ [(c.val, b.seq, b.digest)] } }
          s1.tagOut c.val b tag b.map b.stats true
        else s0
      | none => s0
    | [] => s0)

/-! ## Ring writes (R301, R303 to R305) -/

/-- Room for a run of n bytes in a data area of size bytes, after the runs in use (R303): its offset. -/
def runPlace (runs : List (Nat × Nat × Nat)) (ofs size n : Nat) : Option Nat :=
  let o := (ofs + 63) / 64 * 64
  let o1 := if o + n ≤ size then o else 0
  if o1 + n ≤ size ∧ runs.all (fun r => decide (o1 + n ≤ r.2.1 ∨ r.2.1 + r.2.2 ≤ o1)) then some o1 else none

/-- The write-back after entries: PIDX and LOST, then the signal rule (R301, R305). -/
def State.ringSignal (s : State) (f r : Nat) : State :=
  let s1 := s.hostWrite (s.rd64 (Reg.DLV_RWB_LO f r)) (leBytes 4 (s.rdN (Reg.DLV_RPIDX f r)) ++ leBytes 4 (s.rdN (Reg.DLV_RLOST f r)))
  let x := s1.ring f r
  let n := x.unsig + 1
  let mod := s1.fld (Reg.DLV_RMOD f r) 0 8
  if mod = 0 ∨ mod ≤ n then
    (s1.setRing f r { x with unsig := 0, sigT := none }).sendVec f (s1.fld (Reg.DLV_RMOD f r) 24 6)
  else s1.setRing f r { x with
    unsig := n, sigT := match x.sigT with
      | some t => some t
      | none => some s1.devTime }

/-- The pipeline of stripe st of camera c is withdrawn; a sprue that replaced it stands for it (R347). -/
def State.stripeGone (s : State) (c st : Nat) : Bool := (s.stripePipe c st).all s.withdrawn

/-- The staged entry at the head of a ring is written (R301, R303), by descriptors of the crucible on the ring's channel:
those of an image's run, one for the entry and one for the write-back (R332, log entry 141). An image one of whose pipelines
is withdrawn moves nothing and is discarded (R347). -/
def State.ringEntry (s : State) (f r : Nat) (e : Staged) (rest : List Staged) : State :=
  let x := s.ring f r
  let pidx := s.rdN (Reg.DLV_RPIDX f r)
  let addr := s.rd64 (Reg.DLV_RBASE_LO f r) + pidx % s.ringSize f r * s.entrySize f r
  let put : State → List Byte → State := fun t bs =>
    let es := t.entrySize f r
    let t1 := t.hostWrite addr ((bs ++ List.replicate (es - bs.length) 0#8).take es)
    let t2 := t1.wr64 (Reg.DLV_TBYTES_LO f) (t1.rd64 (Reg.DLV_TBYTES_LO f) + es)
    ((((t2.cruDesc x.ch 0 es).addWrap (Reg.DLV_RPIDX f r) 0 32 1).ringSignal f r).cruDesc x.ch 0 8).ringShow f r
  let s1 := s.setRing f r { x with staged := rest }
  let free : State → State := fun t => match e.slot with
    | some (c, k) => t.freeSlot c k
    | none => t
  let dropped : State → State := fun t => free (((t.addSat (Reg.DLV_RLOST f r) 0 32 1).recLost (leAt e.bytes 8 1)).ringShow f r)
  if s.ringKind f r = 4 ∧ e.stripes.any (s.stripeGone (leAt e.bytes 8 1)) then dropped (s1.cruDesc x.ch 1 0)
  else if s.ringKind f r = 4 then
    let size := s.fld (Reg.DLV_RDSIZE f r) 0 16 * 2 ^ 20
    match runPlace x.runs x.ofs size e.run.length with
    | some o =>
      let s2 := s1.hostWrite (s1.rd64 (Reg.DLV_RDBASE_LO f r) + o) e.run
      let s3 := s2.setRing f r { s2.ring f r with
        runs := x.runs ++ [(pidx, o, e.run.length)], ofs := o + e.run.length }
      let s4 := (s3.wr64 (Reg.DLV_TBYTES_LO f) (s3.rd64 (Reg.DLV_TBYTES_LO f) + e.run.length)).cruRun x.ch e.run.length
      free (put s4 (e.bytes.take 24 ++ leBytes 8 o ++ e.bytes.drop 32))
    | none => dropped s1
  else if s.ringKind f r = 3 then ((put s1 e.bytes).addWrap Reg.NOZ_RPTCNT 0 32 1).produce 864
  else put s1 e.bytes

/-- The DMA channel of a ring can run: it is neither halted nor stopped, and its engine is clocked, enabled, in service and
not at a descriptor of another channel, and the data link is up (R331, R344, R352, R382). -/
def State.ringChOk (s : State) (f r : Nat) : Bool :=
  let ch := (s.ring f r).ch
  let e := ch / 32
  decide (s.chSt ch ≠ Ch.stopped) && decide (s.chSt ch ≠ Ch.halted) && s.clkOn (208 + e) && s.bit (Reg.DMA_ENGCTL e) 0 &&
    !s.bit (Reg.DMA_ENGSTAT e) 10 && (s.engine e).ch.isNone && s.bit Reg.HOSTEP_LINK 14

/-- RING_WRITE (R301): the next staged entry of ring r of function f is written when the ring has room. -/
def execRingWrite (f r : Fin 16) (dt : Nat) (s : State) : Res := s.alive fun s =>
  let s0 := s.pass dt
  .next (match (s0.ring f.val r.val).staged with
    | e :: rest =>
      if s0.ringEn f.val r.val && !s0.ringFull f.val r.val && s0.ringChOk f.val r.val then s0.ringEntry f.val r.val e rest
      else s0
    | [] => s0)

/-- MODTIME (R305): MODTIME µs have passed since the first entry not yet signalled. -/
def execModtime (f r : Fin 16) (dt : Nat) (s : State) : Res := s.alive fun s =>
  let s0 := s.pass dt
  let x := s0.ring f.val r.val
  .next (match x.sigT with
    | some t =>
      if t + usTicks (s0.fld (Reg.DLV_RMOD f.val r.val) 8 16) ≤ s0.devTime then
        (s0.setRing f.val r.val { x with unsig := 0, sigT := none }).sendVec f.val (s0.fld (Reg.DLV_RMOD f.val r.val) 24 6)
      else s0
    | none => s0)

/-- A write of DLV_RCIDX: one that would pass PIDX is ignored; the runs of consumed descriptors are freed (R301, R303). -/
def State.rcidxWrite (s : State) (f r : Nat) (v : Word) : State :=
  let old := s.rdN (Reg.DLV_RCIDX f r)
  let step := (v.toNat + 2 ^ 32 - old) % 2 ^ 32
  if s.ringUsed f r < step then s
  else
    let x := s.ring f r
    let s1 := s.setRing f r { x with runs := x.runs.filter (fun e => decide (step ≤ (e.1 + 2 ^ 32 - old) % 2 ^ 32)) }
    (s1.wr (Reg.DLV_RCIDX f r) v).ringShow f r
/-- DLV_RCIDX_WRITE (R301). -/
def execDlvRcidxWrite (f r : Fin 16) (v : Word) (s : State) : Res :=
  s.alive fun s => s.reach f.val (Reg.DLV_RCIDX 0 r.val) fun s =>
  .next (s.rcidxWrite f.val r.val v)

/-- CRU_CMD.CLRCNT (R309). -/
def State.cruClr (s : State) : State :=
  (s.each (List.range 96) (fun t c =>
    (((t.wr (Reg.CRU_CAMLATE c) 0#32).wr (Reg.CRU_CAMPART c) 0#32).wr (Reg.CRU_CAMGAP c) 0#32).wr (Reg.CRU_CAMNOSLOT c) 0#32)
    ).setFld Reg.CRU_STAT 8 7 0
def execCruClrcnt (s : State) : Res := s.alive fun s => s.reach 0 Reg.CRU_CMD fun s => .next s.cruClr

end Sys2Proof.Machine
end

