-- ==== Sys2Proof/Machine/Position.lean ====
section
/-!
DEFINITION. Meanings of the position unit's commands (chapter 2): quadrature, index, sin/cos and absolute-word inputs,
standstill, speed windows, mode changes and the axis commands. POSITION_PUBLISH stands in Publish.lean.
-/
namespace Sys2Proof.Machine
open Sys2Proof

/-- Axis n runs its measurement in mode m. -/
def State.axIn (s : State) (n m : Nat) : Bool := s.posClk && s.axEn n && s.axMode n == m

/-! ## Quadrature (R43 to R46, R55) -/

/-- POS_AXMINIV and POS_AXZMINIV in use (R74). -/
def State.axMinIv (s : State) (n : Nat) (z : Bool) : Nat :=
  clampN 8 8000 (s.fld (if z then Reg.POS_AXZMINIV n else Reg.POS_AXMINIV n) 0 13)
/-- POS_AXGLWIN in use, in ticks (R74). -/
def State.axGlWin (s : State) (n : Nat) : Nat := usTicks (max 1 (s.fld (Reg.POS_AXGLWIN n) 0 16))

/-- The velocity estimate takes a counted edge at t: 4,096 PT for each of the last four intervals in one direction,
divided by their sum (R55). -/
def Axis.quadV (x : Axis) (up : Bool) (t : Nat) : Axis :=
  match x.vEdge with
  | some t0 =>
    if x.vUp = up then
      let iv := ((t - t0) :: x.vIvals).take 4
      let sum : Nat := iv.foldl (· + ·) 0
      let v : Int := (iv.length * 4096 * 2 ^ 24 : Nat) / (sum : Int)
      ({ x with vEdge := some t, vIvals := iv }).withV (if up then v else -v)
    else { x with vEdge := some t, vIvals := [], vUp := up, v := 0 }
  | none => { x with vEdge := some t, vIvals := [], vUp := up, v := 0 }

/-- The decoder accepts what the pins show now (R43, R44, R46). -/
def State.abAccept (s : State) (n : Nat) : State :=
  let x := s.axis n
  let t := s.devTime
  let x1 := { x with decA := x.pinA, decB := x.pinB, lastAB := some t }
  if x.pinA ≠ x.decA ∧ x.pinB ≠ x.decB then
    ((s.setAxis n x1).addSat (Reg.POS_AXQERR n) 0 16 1).fault 5 4 n 1
  else if x.pinA = x.decA ∧ x.pinB = x.decB then s
  else
    let d := s.axSign n (quadCount (s.bit (Reg.POS_AXCTLA n) 3) x.decA x.decB x.pinA x.pinB)
    s.axMeasure n (x1.quadV (decide (0 < d)) t) (posAdd x.m (4096 * d)) t

/-- A rejected A or B change (R44, R45). -/
def State.abReject (s : State) (n : Nat) : State :=
  let x := s.axis n
  let t := s.devTime
  let s1 := (s.addSat (Reg.POS_AXGLCNT n) 0 16 1).setAxis n { x with rejects := (t :: x.rejects).take 15 }
  match x.rejects[14]? with
  | some t0 =>
    if t ≤ t0 + s1.axGlWin n then
      (s1.setAxis n { s1.axis n with glitch := some t }).faultState 5 3 n 2
    else s1
  | none => s1

/-- A level change on A or B. -/
def State.abEdge (s : State) (n : Nat) (a b : Bool) : State :=
  let s1 := s.setAxis n { s.axis n with pinA := a, pinB := b }
  if s1.axIn n 0 then
    match (s1.axis n).lastAB with
    | some t => if s1.devTime < t + s1.axMinIv n false then s1.abReject n else s1.abAccept n
    | none => s1.abAccept n
  else s1.setAxis n { s1.axis n with decA := a, decB := b }

/-- ENC_AB_EDGE (R44). -/
def execEncAbEdge (n : Fin 8) (a b : Bool) (dt : Nat) (s : State) : Res := s.alive fun s =>
  .next ((s.pass dt).abEdge n.val a b)

/-- An accepted index change (R60). -/
def State.zAccept (s : State) (n : Nat) : State :=
  let z := (s.axis n).pinZ
  let s1 := s.setAxis n { s.axis n with decZ := z, lastZ := some s.devTime }
  if z != s1.bit (Reg.POS_AXCTLA n) 7 then s1.axIndex n else s1

/-- A level change on ENC_Z (R44, R60). -/
def State.zEdge (s : State) (n : Nat) (z : Bool) : State :=
  let s1 := s.setAxis n { s.axis n with pinZ := z }
  if s1.posClk && s1.axEn n then
    match (s1.axis n).lastZ with
    | some t =>
      if s1.devTime < t + s1.axMinIv n true then s1.addSat (Reg.POS_AXGLCNT n) 16 16 1
      else if z = (s1.axis n).decZ then s1 else s1.zAccept n
    | none => if z = (s1.axis n).decZ then s1 else s1.zAccept n
  else s1.setAxis n { s1.axis n with decZ := z }

/-- ENC_Z_EDGE (R60). -/
def execEncZEdge (n : Fin 8) (z : Bool) (dt : Nat) (s : State) : Res := s.alive fun s => .next ((s.pass dt).zEdge n.val z)

/-- The end of a minimum interval: pins that differ from the decoder are accepted now (R44). -/
def State.minIntervalEnd (s : State) (n : Nat) (z : Bool) : State :=
  let x := s.axis n
  if z then
    match x.lastZ with
    | some t =>
      if s.posClk && s.axEn n && decide (t + s.axMinIv n true ≤ s.devTime) && x.pinZ != x.decZ then s.zAccept n else s
    | none => s
  else
    match x.lastAB with
    | some t => if s.axIn n 0 && decide (t + s.axMinIv n false ≤ s.devTime) then s.abAccept n else s
    | none => s

/-- MIN_INTERVAL_END (R44, R60, R98): source 0 to 7 the A and B inputs of an axis, 8 to 15 its index, 16 to 31 a
trigger input. -/
def execMinIntervalEnd (src : Fin 32) (dt : Nat) (s : State) : Res := s.alive fun s =>
  let s1 := s.pass dt
  .next (if src.val < 16 then s1.minIntervalEnd (src.val % 8) (decide (8 ≤ src.val)) else s1.inIntervalEnd (src.val - 16))

/-- The GLITCH cause ends once POS_AXGLWIN has passed since the last qualifying rejection (R45). -/
def State.glitchEnd (s : State) (n : Nat) : State :=
  match (s.axis n).glitch with
  | some t =>
    if t + s.axGlWin n ≤ s.devTime then (s.setAxis n { s.axis n with glitch := none }).causeOff 5 3 n else s
  | none => s

/-- GLITCH_CAUSE_END (R45). -/
def execGlitchCauseEnd (n : Fin 8) (dt : Nat) (s : State) : Res := s.alive fun s => .next ((s.pass dt).glitchEnd n.val)

/-! ## Sin/cos (R47, R48) -/

/-- atan2_16 of R47: exact on the axes and diagonals; elsewhere its fraction inside a quadrant, whose rounding is not
stated, and the angle of (0, 0) are free (log entry 2). -/
def atan16 (s c : Int) : Nat :=
  let q : Nat := if 0 < c ∧ 0 ≤ s then 0 else if c ≤ 0 ∧ 0 < s then 1 else if c < 0 ∧ s ≤ 0 then 2
    else if s < 0 then 3 else 0
  let y : Int := if q = 0 then s else if q = 1 then -c else if q = 2 then -s else c
  let x : Int := if q = 0 then c else if q = 1 then s else if q = 2 then -c else -s
  let f : Nat := if y = 0 ∧ x ≠ 0 then 0 else if y = x ∧ x ≠ 0 then 8192 else (Config.atanFrac y x).toNat
  q * 16384 + f

/-- The period counter step when the phase wraps (R47). -/
def phaseWrap (p q : Nat) : Int :=
  let d := sgn 16 (q + 65536 - p)
  if 0 < d ∧ q < p then 1 else if d < 0 ∧ p < q then -1 else 0

/-- The amplitude measure of a sample (R48): POS_AXAMP, and AMP after POS_AXAMPCNT samples outside the window. -/
def State.ampTest (s : State) (n : Nat) (q : Nat) : State :=
  let k := Reg.POS_AXAMP n
  let low := if (s.axis n).ampSeen then min q (s.fld k 16 16) else q
  let bad := q < s.fld (Reg.POS_AXAMPW n) 0 16 ∨ s.fld (Reg.POS_AXAMPW n) 16 16 < q
  let cnt := if bad then (s.axis n).ampBad + 1 else 0
  let s1 := (s.wr k (w32 (q + low * 65536))).setAxis n { s.axis n with ampBad := cnt, ampSeen := true }
  if bad then
    (if max 1 (s1.fld (Reg.POS_AXAMPCNT n) 0 8) ≤ cnt then s1.faultState 5 1 n 2 else s1)
  else s1.causeOff 5 1 n

/-- A sample whose phase is phi updates the measurement (R47, R55). After a restart the estimate uses the samples there are,
and quotients round toward minus infinity (log entry 120). -/
def State.phaseTake (s : State) (n phi : Nat) : State :=
  let x := s.axis n
  let t := s.devTime
  match x.phi with
  | none =>
    let ofs := posAdd x.m (-(s.axSign n (phi / 4 : Nat)))
    s.axMeasure n { x with phi := some phi, k := 0, ofs := ofs, vSamples := [x.m] } x.m t
  | some p =>
    let k := x.k + phaseWrap p phi
    let m := posAdd x.ofs (s.axSign n (k * 16384 + (phi / 4 : Nat)))
    let vs := (m :: x.vSamples).take 9
    let old := vs.getLastD m
    let v := if vs.length < 2 then 0 else posDiff m old * 2 ^ 24 / (((vs.length - 1) * 800 : Nat) : Int)
    s.axMeasure n (({ x with phi := some phi, k := k, vSamples := vs }).withV v) m t

/-- A sin/cos sample pair of axis n (R47, R48). The amplitude test takes every sample, also one that INTERP discards (log
entry 120). -/
def State.sincos (s : State) (n : Nat) (a c : BitVec 14) : State :=
  if s.axIn n 1 then
    let s1 := s.wr (Reg.POS_AXADC n) (w32 (low 16 a.toInt + low 16 c.toInt * 65536))
    let sv := a.toInt - sgn 16 (s1.fld (Reg.POS_AXSCOFS n) 0 16)
    let cv := (c.toInt - sgn 16 (s1.fld (Reg.POS_AXSCOFS n) 16 16)) * (s1.fld (Reg.POS_AXSCGAIN n) 0 16 : Nat) / 2 ^ 15
    let s2 := s1.ampTest n (min 65535 ((sv * sv + cv * cv) / 4096).toNat)
    let phi := atan16 sv cv
    let big := match (s2.axis n).phi with
      | some p => decide (16384 ≤ (sgn 16 (phi + 65536 - p)).natAbs)
      | none => false
    if big then s2.faultState 5 2 n 2 else (s2.causeOff 5 2 n).phaseTake n phi
  else s

/-- SINCOS_SAMPLE (R47). -/
def execSincosSample (n : Fin 8) (adcSin adcCos : BitVec 14) (dt : Nat) (s : State) : Res := s.alive fun s =>
  .next ((s.pass dt).sincos n.val adcSin adcCos)

/-! ## Absolute words (R49 to R52) -/

/-- Number of check bits of a frame format (R51). -/
def absChkLen (fmt : Word) : Nat :=
  if fldOf fmt 12 2 = 0 then 0 else if fldOf fmt 12 2 = 3 then clampN 3 8 (fldOf fmt 14 4) else 1

/-- WBITS in use (R50). -/
def absBits (fmt : Word) : Nat := clampN 13 48 (fldOf fmt 0 6)
/-- Bits of a frame: start bits, word bits, check bits (R49). -/
def absLen (fmt : Word) : Nat := fldOf fmt 6 2 + absBits fmt + absChkLen fmt

/-- The period of ENC_SCLK in thirds of a tick: 300 MHz / (2 × (DIV + 1)), DIV from 14 to 1,499 (R50). -/
def absPeriod (clk : Word) : Nat := 32 * (clampN 14 1499 (fldOf clk 0 16) + 1)

/-- The device time at which a frame that began at t has been sampled whole: its last rising edge, half a period before the
end of its last cycle, and POS_AXABSDLY ticks (R49, log entry 122). -/
def State.absEnd (s : State) (n : Nat) (t : Nat) : Nat :=
  let x := s.axis n
  t + (absPeriod x.frameClk * (2 * absLen x.frameFmt - 1) + 5) / 6 + s.fld (Reg.POS_AXABSDLY n) 0 12

/-- A frame begins: the falling edge of ENC_SCLK is its acquisition instant, its format and clock are fixed, and one clock
cycle goes out for each of its bits (R49, R50, R68). -/
def State.absStart (s : State) (n : Nat) : State :=
  let fmt := s.rd (Reg.POS_AXABSFMT n)
  let clk := s.rd (Reg.POS_AXABSCLK n)
  (s.setAxis n { s.axis n with frame := some s.devTime, frameFmt := fmt, frameClk := clk, waiting := false }).emit
    (.sclk n s.devTime (absPeriod clk) (absLen fmt))

/-- The length in ticks of the gap after a frame, GAP from 1 to 100 µs (R49). -/
def State.absGap (s : State) (n : Nat) : Nat := usTicks (clampN 1 100 (s.fld (Reg.POS_AXABSCLK n) 16 8))

/-- A request for a word: it begins now, or waits for the frame or gap in progress to end (R49). -/
def State.absReq (s : State) (n : Nat) : State :=
  if s.axIn n 2 then
    if (s.axis n).frame.isSome || (s.axis n).gap.isSome then s.setAxis n { s.axis n with waiting := true } else s.absStart n
  else s

/-- The request period of axis n is over: requests fall due at whole periods from the instant it counts from; on command
only while the period is 0 (R50). -/
def State.absPeriodic (s : State) (n : Nat) : State :=
  let x := s.axis n
  let per := usTicks (s.fld (Reg.POS_AXABSPER n) 0 16)
  if per = 0 ∨ s.devTime < x.tReq + per then s
  else (s.setAxis n { x with tReq := s.devTime - (s.devTime - x.tReq) % per }).absReq n

/-- ABS_REQUEST (R50). -/
def execAbsRequest (n : Fin 8) (dt : Nat) (s : State) : Res := s.alive fun s => .next ((s.pass dt).absPeriodic n.val)

/-- The gap of axis n ends once it has lasted GAP µs, and a request that waited begins (R49). -/
def State.absGapEnd (s : State) (n : Nat) : State :=
  match (s.axis n).gap with
  | some t =>
    if t + s.absGap n ≤ s.devTime then
      let s1 := s.setAxis n { s.axis n with gap := none }
      if (s1.axis n).waiting && s1.axIn n 2 && (s1.axis n).frame.isNone then s1.absStart n else s1
    else s
  | none => s

/-- ABS_GAP_END (R49). -/
def execAbsGapEnd (n : Fin 8) (dt : Nat) (s : State) : Res := s.alive fun s => .next ((s.pass dt).absGapEnd n.val)

/-- A frame's start pattern and check pass (R49, R51). -/
def absGood (fmt poly : Word) (f : List Bool) : Bool :=
  let ns := fldOf fmt 6 2
  let wb := absBits fmt
  let word := (f.drop ns).take wb
  let chk := natOfBits ((f.drop (ns + wb)).take (absChkLen fmt))
  let ones := (word.filter id).length
  decide (f.length = absLen fmt) && decide (natOfBits (f.take ns) = fldOf fmt 8 3 / 2 ^ (3 - ns)) &&
  (if fldOf fmt 12 2 = 0 then true
   else if fldOf fmt 12 2 = 1 then (ones + chk) % 2 == 0
   else if fldOf fmt 12 2 = 2 then (ones + chk) % 2 == 1
   else chk == crcBits (absChkLen fmt) (fldOf poly 0 8) (fldOf poly 8 8) word)

/-- The word of a frame, Gray-decoded when GRAY is set. -/
def absWord (fmt : Word) (f : List Bool) : Nat :=
  let bits := (f.drop (fldOf fmt 6 2)).take (absBits fmt)
  natOfBits (if bitOf fmt 11 then grayBits bits else bits)

/-- The first valid word loads P_pub (R70): M moves there, R and the furthest position with it, the fraction starts at 0 (log
entry 121), and passed targets are skipped (R93). -/
def State.absLoadNow (s : State) (n w t : Nat) : State :=
  let p := posn (w * s.rdN (Reg.POS_AXABSSCL n) / 256) + s.rdPos (Reg.POS_AXABSOFS_LO n)
  let s1 := s.axMeasure n { s.axis n with
    far := p, refR := p, absLoad := false, word := some w, tWord := t, frac := 0 } p t
  let s2 := (s1.wrPos (Reg.POS_AXPOS_LO n) p).wrPos (Reg.POS_AXHWM_LO n) p
  (s2.axIrq n 10).axJumped n

/-- A valid word w acquired at t (R52). In HOLD the position stays frozen and a load waits for a word after it (R65, log
entry 121). A word that the jump test discards is no reference (log entry 121). -/
def State.absTake (s : State) (n w t wbits : Nat) : State :=
  let x := s.axis n
  match x.word with
  | none =>
    if x.absLoad && !s.axHold n then s.absLoadNow n w t
    else s.setAxis n { x with word := some w, tWord := t, tM := t }
  | some w0 =>
    let step := s.axSign n (sgn wbits (w + 2 ^ wbits - w0 % 2 ^ wbits) * (s.rdN (Reg.POS_AXABSSCL n) : Nat))
    if s.rdN (Reg.POS_AXABSJMP n) * 256 < step.natAbs then
      let s1 := (s.addSat (Reg.POS_AXABSERR n) 16 16 1).setAxis n { x with jmpRun := x.jmpRun + 1 }
      if 3 ≤ x.jmpRun + 1 then s1.faultState 5 6 n 2 else s1
    else
      let acc := (x.frac : Int) + step
      let v := if t ≤ x.tWord then 0 else step * 2 ^ 16 / ((t - x.tWord : Nat) : Int)
      let x1 := ({ x with word := some w, tWord := t, frac := (acc % 256).toNat, jmpRun := 0 }).withV v
      (s.causeOff 5 6 n).axMeasure n x1 (posAdd x.m (acc / 256)) t

/-- A frame has ended, once its last bit can have been sampled (R49 to R52). -/
def State.absFrame (s : State) (n : Nat) (f : List Bool) : State :=
  let x := s.axis n
  match x.frame with
  | none => s
  | some t =>
    let s1 := s.setAxis n { x with frame := none, gap := some s.devTime }
    if s.devTime < s.absEnd n t then s
    else if s1.axIn n 2 then
      if absGood x.frameFmt (s1.rd (Reg.POS_AXABSPOLY n)) f then
        let w := absWord x.frameFmt f
        let wb := absBits x.frameFmt
        let raw := natOfBits ((f.drop (fldOf x.frameFmt 6 2)).take wb)
        let s2 := (s1.setAxis n { s1.axis n with chkRun := 0 }).causeOff 5 5 n
        (s2.wr64 (Reg.POS_AXABSWORD_LO n) raw).absTake n w t wb
      else
        let s2 := (s1.addSat (Reg.POS_AXABSERR n) 0 16 1).setAxis n { s1.axis n with chkRun := x.chkRun + 1 }
        if 3 ≤ x.chkRun + 1 then s2.faultState 5 5 n 2 else s2
    else s1

/-- ABS_FRAME_END (R51). -/
def execAbsFrameEnd (n : Fin 8) (frame : List Bool) (dt : Nat) (s : State) : Res := s.alive fun s =>
  .next ((s.pass dt).absFrame n.val frame)

/-! ## Standstill and speed windows -/

/-- Standstill of axis n (R57). -/
def State.axStill (s : State) (n : Nat) : State :=
  let x := s.axis n
  if s.posClk && s.axEn n && !s.bit (Reg.POS_AXSTAT n) 2 &&
      decide (x.tChange + usTicks (s.fld (Reg.POS_AXSTILLT n) 0 17) ≤ s.devTime) then
    let s1 := (s.setAxBit n 2 true).wr (Reg.POS_AXVEL n) 0#32
    (s1.setAxis n { x with v := 0, vIvals := [], vSamples := [] }).axIrq n 3
  else s

/-- STILL (R57). -/
def execStill (n : Fin 8) (dt : Nat) (s : State) : Res := s.alive fun s => .next ((s.pass dt).axStill n.val)

/-- A speed window of axis n ends (R63). -/
def State.axSpd (s : State) (n : Nat) : State :=
  let x := s.axis n
  let te := x.spdT + x.spdLen
  if s.posClk && s.axEn n && decide (te ≤ s.devTime) then
    let e := s.axE n te
    let s1 := s.wr64 (Reg.POS_AXSPD_LO n) (low 64 (posDiff e x.spdM))
    let s2 := (s1.wr (Reg.POS_AXSPDLEN n) (w32 x.spdLen)).axIrq n 9
    s2.setAxis n { s2.axis n with spdM := e, spdT := te, spdLen := s2.axSpdLen n te }
  else s

/-- SPDWIN (R63). -/
def execSpdwin (n : Fin 8) (dt : Nat) (s : State) : Res := s.alive fun s => .next ((s.pass dt).axSpd n.val)

/-! ## Mode changes and commands (R68 to R72) -/

/-- A write of POS_AXCTL (R68, R70). -/
def State.axCtlWrite (s : State) (n : Nat) (v : Word) : State :=
  let v9 := v &&& 0x1FF#32
  if s.axEn n then s.wr (Reg.POS_AXCTL n) v9
  else if fldOf v9 0 2 = 3 then
    let w := putFld v9 0 2 (s.axMode n)
    ((s.wr (Reg.POS_AXCTL n) w).wr (Reg.POS_AXCTLA n) w).axApplyErr n
  else (s.wr (Reg.POS_AXCTL n) v9).wr (Reg.POS_AXCTLA n) v9

/-- AXIS_CTL_WRITE (R68). -/
def execAxisCtlWrite (n : Fin 8) (v : Word) (s : State) : Res := s.alive fun s => s.reach 0 (Reg.POS_AXCTL n.val) fun s =>
  .next (s.rwl .pos (fun t => t.axCtlWrite n.val v))

/-- A write of POS_AXEN (R70). -/
def State.axEnWrite (s : State) (n : Nat) (on : Bool) : State :=
  if on then
    let s1 := ((s.setBit (Reg.POS_AXEN n) 0 true).axReref n).axArmLoad n
    let x := s1.axis n
    let s2 := s1.setAxis n { x with decA := x.pinA, decB := x.pinB, decZ := x.pinZ }
    (s2.setAxBit n 0 (!s2.axHold n)).axSpdStart n s2.devTime
  else
    let s1 := (s.setBit (Reg.POS_AXEN n) 0 false).setAxBit n 0 false
    (s1.setAxis n { s1.axis n with glitch := none }).each [1, 2, 3, 5, 6] (fun t i => t.causeOff 5 i n)

/-- POS_AXEN_WRITE (R70). -/
def execPosAxenWrite (n : Fin 8) (v : Word) (s : State) : Res := s.alive fun s => s.reach 0 (Reg.POS_AXEN n.val) fun s =>
  .next (s.rwl .pos (fun t => t.axEnWrite n.val (bitOf v 0)))

/-- POS_AXCMD.RESYNC: it cancels an armed apply and waits for the next publication tick, unless this tick has applied the
shadow (R69). A write that finds a RESYNC waiting may meet its tick (R8). -/
def State.axResync (s : State) (n : Nat) : State :=
  let s1 := s.axDisarm n
  if (s1.axis n).tApply = some s1.devTime then s1
  else (if (s1.axis n).resync then s1.noteAgain (Reg.POS_AXCMD n) 0 else s1).axWaitSync n

/-- RESYNC (R69). -/
def execResync (n : Fin 8) (s : State) : Res := s.alive fun s => s.reach 0 (Reg.POS_AXCMD n.val) fun s =>
  .next (s.axResync n.val)

/-- APPLYIDX (R69). -/
def execApplyidx (n : Fin 8) (s : State) : Res := s.alive fun s => s.reach 0 (Reg.POS_AXCMD n.val) fun s =>
  .next (s.axArm n.val)

/-- ABSREQ (R50). -/
def execAbsreq (n : Fin 8) (s : State) : Res := s.alive fun s => s.reach 0 (Reg.POS_AXCMD n.val) fun s =>
  .next (if s.fld (Reg.POS_AXABSPER n.val) 0 16 = 0 then s.absReq n.val else s)

/-- CLRSUSP (R66). -/
def execClrsusp (n : Fin 8) (s : State) : Res := s.alive fun s => s.reach 0 (Reg.POS_AXCMD n.val) fun s =>
  .next (s.setBit (Reg.POS_AXSTAT n.val) 4 false)

/-- Clear the counters of axis n (Table 2.8). -/
def State.axClrCnt (s : State) (n : Nat) : State :=
  let s1 := ((s.wr (Reg.POS_AXGLCNT n) 0#32).wr (Reg.POS_AXQERR n) 0#32).wr (Reg.POS_AXABSERR n) 0#32
  (s1.setFld (Reg.POS_AXAMP n) 16 16 0).setAxis n { s.axis n with ampSeen := false }

/-- AXIS_CLRCNT (R73). -/
def execAxisClrcnt (n : Fin 8) (s : State) : Res := s.alive fun s => s.reach 0 (Reg.POS_AXCMD n.val) fun s =>
  .next (s.axClrCnt n.val)

/-- Latch all eight positions and the device time (R72). -/
def State.snapshot (s : State) : State :=
  let s1 := s.each (List.range 8) (fun t n => t.wrPos (Reg.POS_AXSNAP_LO n) (t.axPos n))
  s1.wr64 Reg.POS_SNAPT_LO s.devTime

/-- SNAP (R72). -/
def execSnap (s : State) : Res := s.alive fun s => s.reach 0 Reg.POS_SNAP fun s => .next s.snapshot

end Sys2Proof.Machine
end

