-- ==== Sys2Proof/Machine/Trigger.lean ====
section
/-!
DEFINITION. Meanings of the trigger unit's commands (chapter 3): crossings, the generator commands, compare-list
registers, pulse and dead-time ends, pairs, inputs and the compare memory window.
-/
namespace Sys2Proof.Machine
open Sys2Proof

/-! ## Crossings (R75) -/

/-- The compare memory read of list l's head reports an error (Table 3.4): 1 corrected, 2 uncorrectable. -/
def State.cmemError (s : State) (l ecc : Nat) : State :=
  if ecc = 1 then (s.addSat Reg.TRG_ECC 0 16 1).fault 6 1 (96 + l) 0
  else if ecc = 2 then
    let s1 := ((s.addSat Reg.TRG_ECC 16 16 1).fault 6 2 (96 + l) 3).clConsume l s.devTime
    ((s1.setBit (Reg.TRG_CLCTL l) 0 false).winCloseAll l)
  else s

/-- The scheduled crossing x takes place at t. -/
def State.crossAt (s : State) (x : Cross) (ecc : Nat) : State :=
  let t := x.tc
  match x.kind with
  | .gen g run i p =>
    if run = (s.gen g).run then (s.genCross g t).genSched g else s.genIssue g run i p t false []
  | .head l =>
    if ecc = 2 then s.cmemError l 2
    else
      let g := entGen (s.clEntry l (s.clRd l))
      let s1 := (((s.cmemError l ecc).headCross l t).clLoad l).clSched l
      if g < 96 then s1.genSched g else s1
  | .winOpen l k =>
    (s.each ((s.clist l).wins.filter (fun w => w.slot == k)) (fun u w =>
      let u1 := match w.pin with
        | some p => u.pinWinOpen p t
        | none => u
      u1.winSet l k (fun v => some { v with opened := true }))).clSched l
  | .winClose l k =>
    (s.each ((s.clist l).wins.filter (fun w => w.slot == k)) (fun u w =>
      let u1 := match w.pin with
        | some p => u.pinWinClose p t
        | none => u
      u1.winSet l k (fun v => Win.rest { v with closed := true }))).clSched l
  | .winCloseMsg l k =>
    (s.each ((s.clist l).wins.filter (fun w => w.slot == k)) (fun u w =>
      (u.winMsg l w 2 w.stop t).winSet l k (fun v => Win.rest { v with sent := true }))).clSched l

/-- CROSSING (R75): the earliest scheduled crossing takes place; ecc is what the compare memory read reports. -/
def execCrossing (ecc : Nat) (s : State) : Res := s.alive fun s =>
  match s.sched with
  | [] => .next s
  | x :: r => .next (({ s with sched := r, devTime := max s.devTime x.tc }).crossAt x ecc)

/-- MINPER_EXPIRY (R81): a limited trigger of generator g issues once TRG_TSMINPER has passed. -/
def execMinperExpiry (g : Fin 96) (dt : Nat) (s : State) : Res := s.alive fun s =>
  let s1 := s.pass dt
  match (s1.gen g.val).wait with
  | some w =>
    .next (if w ≤ s1.devTime ∧ (s1.genRun g.val = true ∨ (s1.gen g.val).stopping = true) then
      (s1.genLimited g.val w).genSched g.val else s1)
  | none => .next s1

/-! ## Generator commands (R78, R83 to R85) -/

/-- TRG_TSCMD.START of generator g. -/
def State.tsStart (s : State) (g : Nat) : State :=
  (s.genStart g (s.rdPos (Reg.TRG_TSPHASE_LO g)) (s.rdN (Reg.TRG_TSLINES g)) false s.devTime).genSched g
/-- TRG_TSCMD.STOP. -/
def State.tsStop (s : State) (g : Nat) : State := if s.genRun g then s.genEnd g else s
/-- TRG_TSCMD.CLRCNT. -/
def State.tsClr (s : State) (g : Nat) : State :=
  (((s.wr (Reg.TRG_TSTRIG g) 0#32).wr (Reg.TRG_TSOVS g) 0#32).wr (Reg.TRG_TSMISS g) 0#32).wr (Reg.TRG_TSDROP g) 0#32

/-- One write of TRG_TSCMD: its bits act in the order CLRCNT, STOP, START, ARM (R83). -/
def State.tsCmdWrite (s : State) (g : Nat) (v : Word) : State :=
  let s1 := if bitOf v 3 then s.tsClr g else s
  let s2 := if bitOf v 1 then s1.tsStop g else s1
  let s3 := if bitOf v 0 then s2.tsStart g else s2
  if bitOf v 2 then s3.tsArm g else s3

/-- TSCMD_START (R78, R82, R83, R85). -/
def execTscmdStart (g : Fin 96) (s : State) : Res := s.alive fun s => s.reach 0 (Reg.TRG_TSCMD g.val) fun s =>
  .next (s.tsStart g.val)
/-- TSCMD_STOP (R83). -/
def execTscmdStop (g : Fin 96) (s : State) : Res := s.alive fun s => s.reach 0 (Reg.TRG_TSCMD g.val) fun s =>
  .next (s.tsStop g.val)
/-- TSCMD_ARM (R84). -/
def execTscmdArm (g : Fin 96) (s : State) : Res := s.alive fun s => s.reach 0 (Reg.TRG_TSCMD g.val) fun s =>
  .next (s.tsArm g.val)
/-- TSCMD_CLRCNT (Table 3.6). -/
def execTscmdClrcnt (g : Fin 96) (s : State) : Res := s.alive fun s => s.reach 0 (Reg.TRG_TSCMD g.val) fun s =>
  .next (s.tsClr g.val)

/-! ## Compare lists (R88) -/

/-- A write of TRG_CLWR. -/
def State.clWrWrite (s : State) (l : Nat) (v : Word) : State :=
  let n := s.clSize l
  let w := fldOf v 0 16
  let adv := (w + n - s.clWr l % n) % n
  let free := (s.clRd l + 2 * n - s.clWr l - 1) % n
  if w < n ∧ adv ≤ free then
    ((((s.wr (Reg.TRG_CLWR l) (w32 w)).setBit (Reg.TRG_CLSTAT l) 5 false).clStat l).clLoad l).clSched l
  else s.setBit (Reg.TRG_CLSTAT l) 5 true

/-- TRG_CLWR_WRITE (R88). -/
def execTrgClwrWrite (l : Fin 64) (v : Word) (s : State) : Res := s.alive fun s => s.reach 0 (Reg.TRG_CLWR l.val) fun s =>
  .next (s.clWrWrite l.val v)

/-- Empty the ring of list l and drop its head (R88). -/
def State.clEmpty (s : State) (l : Nat) : State :=
  let s1 := (s.wr (Reg.TRG_CLRD l) 0#32).wr (Reg.TRG_CLWR l) 0#32
  let s2 := s1.setClist l { s1.clist l with loaded := false }
  ({ s2 with sched := s2.sched.filter (fun x => decide (x.kind ≠ CrossKind.head l)) }).clStat l

/-- A write of TRG_CLBASE or TRG_CLSIZE. -/
def State.clGeom (s : State) (l : Nat) (size : Bool) (v : Word) : State :=
  (if size then s.wr (Reg.TRG_CLSIZE l) (w32 (fldOf v 0 17)) else s.wr (Reg.TRG_CLBASE l) (w32 (fldOf v 0 16))).clEmpty l

/-- TRG_CLBASE_WRITE (R88): a write of TRG_CLBASE, or of TRG_CLSIZE. -/
def execTrgClbaseWrite (l : Fin 64) (size : Bool) (v : Word) (s : State) : Res :=
  s.alive fun s => s.reach 0 (Reg.TRG_CLBASE l.val) fun s =>
  .next (s.rwl .trg (fun t => t.clGeom l.val size v))

/-- A write of TRG_CLCTL: disabling closes the list's windows (R93) and keeps its entries; enabling resumes at the head
under R77. -/
def State.clCtlWrite (s : State) (l : Nat) (v : Word) : State :=
  let w := v &&& 0x1F#32
  if w = s.rd (Reg.TRG_CLCTL l) then s
  else
    let s1 := { s with sched := s.sched.filter (fun x => decide (x.kind ≠ CrossKind.head l)) }
    let s2 := if s1.clEn l && !bitOf v 0 then s1.winCloseAll l else s1
    let s3 := s2.wr (Reg.TRG_CLCTL l) w
    ((s3.setClist l { s3.clist l with loaded := false }).clLoad l).clSched l

/-- TRG_CLCTL_WRITE (R93). -/
def execTrgClctlWrite (l : Fin 64) (v : Word) (s : State) : Res := s.alive fun s => s.reach 0 (Reg.TRG_CLCTL l.val) fun s =>
  .next (s.rwl .trg (fun t => t.clCtlWrite l.val v))

/-! ## Pins and pairs (R95 to R97) -/

/-- PULSE_END (R95, R96): pin p is brought up to now. -/
def execPulseEnd (p : Fin 32) (dt : Nat) (s : State) : Res := s.alive fun s =>
  let s1 := s.pass dt
  .next (s1.pinSettle p.val s1.devTime)

/-- The dead time of pair k ends: its request is brought up to now, and an output whose time has come turns active (R97). -/
def State.deadEnd (s : State) (k : Nat) : State := (s.pinSettle (2 * k) s.devTime).deadTurn k

/-- DEAD_TIME_END (R97). -/
def execDeadTimeEnd (k : Fin 16) (dt : Nat) (s : State) : Res := s.alive fun s => .next ((s.pass dt).deadEnd k.val)

/-- A write of TRG_PAIRCTL: a change of EN moves both outputs to the levels of their new rule (R97). -/
def State.pairCtlWrite (s : State) (k : Nat) (v : Word) : State :=
  let was := s.pairOn k
  let s1 := s.wr (Reg.TRG_PAIRCTL k) (v &&& 0xFFF#32)
  let a := (s1.pin (2 * k)).shaped
  if was = bitOf v 0 then s1
  else
    let s2 := s1.setPair k { s1.pair k with held := false }
    if bitOf v 0 then s2.pairMove k a (!a) s2.devTime else s2.pairMove k a (s2.pin (2 * k + 1)).shaped s2.devTime

/-- TRG_PAIRCTL_WRITE (R97). -/
def execTrgPairctlWrite (k : Fin 16) (v : Word) (s : State) : Res :=
  s.alive fun s => s.reach 0 (Reg.TRG_PAIRCTL k.val) fun s =>
  .next (s.rwl .trg (fun t => t.pairCtlWrite k.val v))

/-- A write of TRG_PINCFG: polarity and driver enable act on the pin at once (R95). `was`: its driver was on before. -/
def State.pinCfgWritten (s : State) (p : Nat) (was : Bool) : State :=
  let lvl := (s.pin p).level
  let phys := lvl != s.bit (Reg.TRG_PINCFG p) 1
  let s1 := s.setBit (Reg.TRG_PINLVL p) 1 phys
  if s1.pinDriven p then s1.emit (.pin p phys s1.devTime) else if was then s1.emit (.float p s1.devTime) else s1

/-! ## Inputs and the compare memory window -/

/-- TRIG_IN_EDGE (R98). -/
def execTrigInEdge (n : Fin 16) (level : Bool) (dt : Nat) (s : State) : Res := s.alive fun s =>
  .next ((s.pass dt).inEdge n.val level)

/-- A write of the compare memory window at byte offset off (R101). -/
def State.cmemWrite (s : State) (off : Nat) (v : Word) : State :=
  s.wr (Reg.CMEM (s.fld Reg.TRG_CMEMPAGE 0 1 * 32768 + off / 16) (off / 4 % 4)) v

/-- CMEM_WINDOW_WRITE (R101): discarded and noted while TRG_LOCK is closed. -/
def execCmemWindowWrite (off : BitVec 19) (v : Word) (s : State) : Res :=
  s.alive fun s => s.reach 0 (0x580000 + off.toNat) fun s =>
  .next (s.rwl .trg (fun t => t.cmemWrite off.toNat v))

end Sys2Proof.Machine
end

