-- ==== Sys2Proof/Machine/EventRouter.lean ====
section
/-!
DEFINITION. The event router (chapter 4): delivering an event to its subscribers through their gates (R103, R104, R108),
parity errors of its tables (R115), and writes of EVR_PUB and EVR_SUB (R106, R107).
-/
namespace Sys2Proof.Machine
open Sys2Proof

/-- Consumer k's gate lets an event pass, by the level it had as the tick began (R104). -/
def State.gateOk (s : State) (k : Nat) : Bool :=
  let e := s.evrEntry (Reg.EVR_SUB k)
  !bitOf e 16 || (s.gateStart (fldOf e 9 6) != bitOf e 15)

/-- Consumer k subscribes to channel ch: consumers 0 to 31 by their TRG_PINCFG (R108). -/
def State.subscribed (s : State) (k ch : Nat) : Bool :=
  if k < 32 then s.bit (Reg.TRG_PINCFG k) 2 && s.fld (Reg.TRG_PINCFG k) 3 8 == ch
  else bitOf (s.evrEntry (Reg.EVR_SUB k)) 8 && fldOf (s.evrEntry (Reg.EVR_SUB k)) 0 8 == ch

/-- Consumer k's unit is clocked (R106). -/
def State.consumerOn (s : State) (k : Nat) : Bool :=
  if k < 32 then s.trgClk
  else if k < 544 then s.clkOn (208 + (k - 32) / 32)
  else if k < 640 then s.clkOn 235
  else s.posClk

/-- The block in progress of camera c is kept (R108). -/
def State.captureKeep (s : State) (c : Nat) : State :=
  let x := s.cru c
  match x.blocks.getLast? with
  | some b => s.setCru c { x with blocks := x.blocks.dropLast ++ [{ b with keep := true }] }
  | none => s

/-- Consumer k takes an event (Table 4.2). -/
def State.consume (s : State) (k : Nat) : State :=
  if k < 32 then s.pinPulse k (s.fld (Reg.TRG_PINEVW k) 0 24) s.devTime
  else if k < 544 then s.dmaEventCredit (k - 32)
  else if k < 640 then s.captureKeep (k - 544)
  else s.snapshot

/-- An event on channel ch reaches its subscribers; gates are sampled before any of them acts (R104). -/
def State.deliver (s : State) (ch : Nat) : State :=
  s.each ((List.range 641).filter (fun k => s.subscribed k ch && s.consumerOn k && s.gateOk k)) (fun t k => t.consume k)

/-- A parity error in entry k of the subscriber table (`sub`) or of the producer table (R115): the entry is disabled and
recorded, the fault goes at L3 to the tenant of its channel. -/
def State.evrParity (s : State) (sub : Bool) (k : Nat) : State :=
  let s1 := if sub then (if k < 32 then s.setBit (Reg.TRG_PINCFG k) 2 false else s.setBit (Reg.EVR_SUB k) 8 false)
    else s.setBit (Reg.EVR_PUB k) 8 false
  let s2 := if s1.bit Reg.EVR_PE 13 then s1
    else ((s1.setFld Reg.EVR_PE 0 10 k).setBit Reg.EVR_PE 12 sub).setBit Reg.EVR_PE 13 true
  (s2.addSat Reg.EVR_PE 16 16 1).fault 14 5 (if sub then 1024 + k else k) 3

/-- EVENT_DELIVER (R103): the oldest event published reaches its subscribers; `parity` is an entry found bad as it is
read. -/
def execEventDeliver (parity : Option (Bool × Fin 1024)) (dt : Nat) (s : State) : Res := s.alive fun s =>
  let s := s.pass dt
  if s.clkOn 233 then
    let s1 := match parity with
      | some (sub, k) => if k.val < (if sub then 641 else 866) then s.evrParity sub k.val else s
      | none => s
    match s1.events with
    | (ch, _) :: r => .next (({ s1 with events := r } : State).deliver ch)
    | [] => .next s1
  else .next s

/-- A write of EVR_PUB or EVR_SUB, in effect from the next tick on (R106 to R108): reserved entries ignore it; CH and EN of subscribers 0 to 31 are
those of TRG_PINCFG. -/
def State.evrWrite (s : State) (sub : Bool) (k : Nat) (v : Word) : State :=
  if sub then
    if 641 ≤ k then s
    else if k < 32 then s.setEvrEntry (Reg.EVR_SUB k) (v &&& 0x1FE00#32)
    else s.setEvrEntry (Reg.EVR_SUB k) (v &&& 0x1FFFF#32)
  else if 866 ≤ k then s
  else s.setEvrEntry (Reg.EVR_PUB k) (v &&& 0x1FF#32)

/-- EVR_ENTRY_WRITE (R106): refused while EVR_LOCK is closed. -/
def execEvrEntryWrite (sub : Bool) (k : Fin 1024) (v : Word) (s : State) : Res :=
  s.alive fun s => s.reach 0 (Reg.EVR_PUB 0) fun s =>
  .next (s.rwl .evr (fun t => t.evrWrite sub k.val v))

end Sys2Proof.Machine
end

