-- ==== Sys2Proof/Machine/TenantOps.lean ====
section
/-!
DEFINITION. Who owns what a fault names (R482, Table 16.7), and the reset of a tenant (R483, Table 16.4): its hardware
steps, and what bench firmware completes.
-/
namespace Sys2Proof.Machine
open Sys2Proof

/-- Objects below n of the map at byte o that tenant t owns. -/
def State.owned (s : State) (t o n : Nat) : List Nat := (List.range n).filter (fun i => s.owns t o i)

/-- The tenant of producer p's source object; producers 864 and 865 belong to tenant 0 (R405). -/
def State.producerOwner (s : State) (p : Nat) : Nat :=
  if p < 64 then s.owner Part.axOwn (p / 8)
  else if p < 352 then s.owner Part.cam ((p - 64) % 96)
  else if p < 864 then s.owner Part.dmach (p - 352)
  else 0

/-- The tenant of consumer k; consumer 640 belongs to tenant 0 (R405). -/
def State.consumerOwner (s : State) (k : Nat) : Nat :=
  if k < 32 then s.owner Part.pinOut k
  else if k < 544 then s.owner Part.dmach (k - 32)
  else if k < 640 then s.owner Part.cam (k - 544)
  else 0

/-- The tenant that owns the source of a report of signature sig, if a tenant owns it (Table 16.7 MAPTEN). -/
def State.srcOwner (s : State) (sig src : Nat) : Option Nat :=
  let cls := sig / 256
  let i := sig % 256
  if cls = 0 then (s.laneBond src).bind (fun c => if c < 96 then some (s.owner Part.cam c) else none)
  else if cls = 1 then some (s.owner Part.cam src)
  else if cls = 2 ∨ cls = 3 then
    (if src % 13 = 12 then (s.pipe src).rep.map (s.owner Part.pipe) else some (s.owner Part.pipe src))
  else if cls = 4 ∧ i = 4 then
    ((List.range 8).find? (fun p => (mapRun (s.rd (Reg.NOZ_PLMAP p))).contains src)).map s.planeOwner
  else if cls = 5 then some (s.owner Part.axOwn src)
  else if cls = 6 then some (if src < 96 then s.owner Part.tsgen src else s.owner Part.list (src - 96))
  else if cls = 7 ∧ i = 7 then some src
  else if cls = 8 ∧ i ≤ 4 then (if s.bit (Reg.DMA_CHOWN src) 4 then some (s.chTenant src) else none)
  else if cls = 9 then (if s.tenantIs src then some src else none)
  else if cls = 11 ∧ i = 7 then some (s.owner Part.cam src)
  else if cls = 11 ∧ i = 9 then some (s.planeOwner src)
  else if cls = 14 then
    (if i = 2 then some (s.owner Part.list src)
    else if i = 3 then some (s.owner Part.tsgen src)
    else if i = 4 then some (s.owner Part.axOwn src)
    else if i = 5 then
      some (s.owner Part.evch (if src < 1024 then s.fld (Reg.EVR_PUB src) 0 8
        else if src < 1056 then s.fld (Reg.TRG_PINCFG (src - 1024)) 3 8 else s.fld (Reg.EVR_SUB (src - 1024)) 0 8))
    else if i = 6 then some (s.owner Part.pipe src)
    else if i = 7 then some (s.owner Part.cam src)
    else if i = 8 then some (s.planeOwner src)
    else none)
  else none

/-! ## Rings (R301, Table 10.7) -/

/-- Ring r of function f is disabled: staged entries go, counted in DLV_RLOST where `count` says so (Table 10.7), and the
crucible no longer drives its channel. -/
def State.ringOff (s : State) (f r : Nat) (count : Bool) : State :=
  let x := s.ring f r
  let s1 := if count then s.addSat (Reg.DLV_RLOST f r) 0 32 x.staged.length else s
  let s2 := x.staged.foldl (fun t e => match e.slot with
    | some (c, k) => t.freeSlot c k
    | none => t) s1
  let s3 := if s2.ringEn f r then s2.setBit (Reg.DMA_CHOWN x.ch) 5 false else s2
  ((s3.setBit (Reg.DLV_RCFG f r) 0 false).setRing f r {}).ringShow f r

/-! ## Reset of a tenant -/

/-- Pin p of a tenant in reset: its request clears, OE stays; both outputs of an enabled pair stay inactive (R97). -/
def State.pinQuiet (s : State) (p : Nat) : State :=
  let t := s.devTime
  let s1 := (s.setPin p { s.pin p with
    setLvl := false, wins := 0, pulseEnd := 0, shaped := false, fallT := none, endT := none }).setBit (Reg.TRG_PINLVL p) 0 false
  if s1.pairOn (p / 2) then
    (if p % 2 = 0 then (s1.setPair (p / 2) { s1.pair (p / 2) with held := true }).pairMove (p / 2) false false t else s1)
  else s1.pinDrive p false t

/-- Blocks, fragments and capture-ring slots of camera c go without tags (Table 16.4 step 2), with what its pipelines and
their assay stages still hold. -/
def State.camForget (s : State) (c : Nat) : State :=
  let s1 := s.each (s.camPipes c) (fun t n =>
    (t.setPipe n { t.pipe n with
      inq := [], drop := false, dropFrame := false, frame := none, frows := [], runs := [], blks := [], hold := none,
      intake := [] }).setAsy n {})
  let x := s1.cru c
  ((s1.setCru c { x with blocks := [], frags := [], slots := [] }).slotStat c).cruShow c

/-- Steps 1 and 2 of Table 16.4 for tenant t. -/
def State.tenantQuiet (s : State) (t : Nat) : State :=
  let cams := s.owned t Part.cam 96
  let s1 := s.chansSilent t
  let s2 := s1.each (cams.flatMap s1.camPipes) (fun u n => u.pipeCtl n (u.rd (Reg.PIPE_CTL n) &&& ~~~ 1#32))
  let s3 := s2.each (s.owned t Part.tsgen 96) (fun u g => u.tsStop g)
  let s4 := s3.each (s.owned t Part.list 64) (fun u l => u.clCtlWrite l (u.rd (Reg.TRG_CLCTL l) &&& ~~~ 1#32))
  let s5 := s4.each cams (fun u c => u.setCam c { u.cam c with recs := [], asm := none, frame := none })
  let s6 := s5.each (s.owned t Part.pinOut 32) (fun u p => u.pinQuiet p)
  let s7 := s6.each cams (fun u c => u.camForget c)
  s7.each (List.range 16) (fun u r => u.ringOff t r false)

/-- A tenant reset begins (R483): steps 1 and 2, and the rest is left to bench firmware. Cause 0 is the command, 1 the
touchstone, 2 an FLR; a reset of the tenant that runs already takes it in. -/
def State.tenantReset (s : State) (t cause : Nat) (cmds : List (Nat × Nat)) : State :=
  let s1 := (s.tenantQuiet t).irq Reg.TOUCH_IRQ 314 2
  if s1.touch.resets.any (fun r => r.t == t) then
    s1.setTouch { s1.touch with
      resets := s1.touch.resets.map (fun (r : TReset) => if r.t = t then { r with cmds := r.cmds ++ cmds } else r) }
  else s1.setTouch { s1.touch with
    resets := s1.touch.resets ++ [{ t := t, t0 := s1.devTime, cause := cause, cmds := cmds }] }

/-- Bonds of camera c return to DETECT, except ISOLATED lanes; inlays persist (R144). -/
def State.bondRedetect (s : State) (c : Nat) : State :=
  let s1 := s.bondDown c
  s1.each ((s1.bondLanes c).filter (fun n => s1.laneSt n != 13 && s1.laneSt n != 0 && s1.laneSt n != 9)) (fun t n =>
    t.laneBegin n)

/-- Pending commands of tenant t end with STATE, but for those that asked for the reset (R406). -/
def State.tenantCmdsEnd (s : State) (t : Nat) (keep : List (Nat × Nat)) : State :=
  let gone := s.bench.running.filter (fun c => c.tenant == t && !keep.contains (c.f, c.slot))
  let bells := s.bench.bells.filter (fun b => (s.readCmd b.1 b.2).tenant == t)
  let s0 := s.waitersDrop (fun k => gone.any (fun c => (c.f, c.slot) == k))
  let s1 := s0.each gone (fun u c => u.answer c St.state [])
  let s2 := s1.each bells (fun u b => u.answer (u.readCmd b.1 b.2) St.state [])
  let s3 := s2.setBench { s2.bench with bells := s2.bench.bells.filter (fun b => !bells.contains b) }
  (s3.each (s3.xferQ t) (fun u x => if x.cmd.interim then u.answer x.cmd St.state [] else u)).setXferQ t []

/-- A queued nozzle report is tenant t's (Table 9.5, byte 2). -/
def reportOf (t : Nat) (bs : List Byte) : Bool := leAt bs 2 1 / 16 == t

/-- Step 3 of Table 16.4: what bench firmware completes for tenant t. -/
def State.tenantRest (s : State) (t : Nat) : State :=
  let s1 := s.each (s.owned t Part.view 16) (fun u v =>
    (u.setView v {}).wr (Reg.ASY_VG v) 0#32 |>.placeRetire v)
  let s2 := s1.each ((s.owned t Part.cam 96).flatMap s.camPipes) (fun u n => u.asyClear n)
  let s3 := (s2.setNoz { s2.noz with reports := s2.noz.reports.filter (fun r => !reportOf t r) }).setFld Reg.NOZ_RPTQ 0 13
    (s2.noz.reports.filter (fun r => !reportOf t r)).length
  let s4 := s3.each (s.owned t Part.plane 8) (fun u p => u.setBit (Reg.NOZ_PLCFG p) 0 false)
  s4.each (s.owned t Part.cam 96) (fun u c => u.bondRedetect c)

/-- The TENANT_RESET notice goes to the tenant and to PF0 (R408). -/
def State.tenantResetTell (s : State) (r : TReset) : State :=
  let pay := leBytes 1 r.t ++ leBytes 1 r.cause
  let s1 := s.notice 0 2 pay
  if r.t = 0 then s1 else s1.notice r.t 2 pay

/-- The reset of tenant t completes: the rest, pending commands end but the one that asked, the mask is whole again
(R406, R408, R483). -/
def State.tenantResetEnd (s : State) (r : TReset) : State :=
  let s1 := (s.setTouch { s.touch with resets := s.touch.resets.filter (fun x => x.t != r.t) }).tenantRest r.t
  let s2 := if r.cause = 2 then s1 else s1.tenantCmdsEnd r.t r.cmds
  s2.setMbox r.t { s2.mbox r.t with mask := 0x7FFF }

/-- A tenant reset ends: the commands that asked for it are answered, and the notice goes out. -/
def State.tenantResetDone (s : State) (r : TReset) : State :=
  let s3 := s.tenantResetEnd r
  let s4 := s3.each (s3.bench.running.filter (fun c => r.cmds.contains (c.f, c.slot) && !c.interim)) (fun u c => u.answer c St.ok [])
  s4.tenantResetTell r

/-- TENANT_RESET_DONE (R483): the reset of tenant t that runs is completed, once the bench serves. -/
def execTenantResetDone (t : Fin 16) (dt : Nat) (s : State) : Res := s.alive fun s =>
  let s := s.pass dt
  match s.touch.resets.find? (fun r => r.t == t.val) with
  | some r => if s.bench.restart.isNone && s.bench.inlay.isNone then .next (s.tenantResetDone r) else .next s
  | none => .next s

end Sys2Proof.Machine
end

