-- ==== Sys2Proof/Machine/CmdSys.lean ====
section
/-!
DEFINITION. The system commands (Table 13.9): tenants and their partition records (R403, R404), their reset (R406), the
notice mask (R408).
-/
namespace Sys2Proof.Machine
open Sys2Proof

/-- SYS_INFO (0x0101). -/
def execSysInfo (f : Fin 16) (slot : Fin 64) (s : State) : Res := s.alive fun s =>
  s.onCmd f slot 0x0101 (fun c s => s.cmdDo c [(c.short 0 [], St.badParam)] (fun s =>
    (s, leBytes 4 (s.rdN Reg.GLB_ID) ++ leBytes 4 s.bench.fw.version ++ leBytes 1 c.tenant ++ leBytes 1 c.f ++
      leBytes 2 (b2n (s.tenantIs c.tenant) + 2 * b2n (s.bit Reg.TWIN_STAT 7) + 4 * b2n (s.fld Reg.TWIN_STAT 0 3 == 2) +
        8 * b2n (s.fld Reg.TWIN_STAT 3 2 == 0)) ++ leBytes 8 s.devTime)))

/-! ## Partition records (Table 13.8) -/

/-- The maps of exclusive objects in a record: first byte and number of objects. -/
def partMaps : List (Nat × Nat) :=
  [(Part.plane, 8), (Part.axOwn, 8), (Part.view, 16), (Part.rset, 8), (Part.pinOut, 32), (Part.pinIn, 16),
   (Part.list, 64), (Part.tsgen, 96), (Part.cam, 96), (Part.pipe, 104), (Part.evch, 256), (Part.dmach, 512)]

/-- The objects of a map on which two records differ. -/
def partDiff (a b : List Byte) (m : Nat × Nat) : List Nat :=
  (List.range m.2).filter (fun i => partHas a m.1 i != partHas b m.1 i)

/-- Object i of the map at byte o is bound, enabled or running (R404). -/
def State.objBusy (s : State) (o i : Nat) : Bool :=
  if o = Part.plane then s.bit (Reg.NOZ_PLCFG i) 0
  else if o = Part.axOwn then s.axEn i
  else if o = Part.view then s.bit (Reg.ASY_VCTL i) 0 || s.viewPipes i != []
  else if o = Part.pinOut then s.bit (Reg.TRG_PINCFG i) 0
  else if o = Part.pinIn then s.bit (Reg.TRG_INCFG i) 0
  else if o = Part.list then s.clEn i
  else if o = Part.tsgen then s.genRun i
  else if o = Part.cam then (s.cam i).bound
  else if o = Part.pipe then s.bit (Reg.PIPE_BIND i) 0
  else if o = Part.dmach then
    s.bit (Reg.DMA_CHOWN i) 5 || (decide (Ch.ready ≤ s.chSt i) && decide (s.chSt i ≤ Ch.waitOwn))
  else false

/-- Bytes of a record that Table 13.8 leaves at 0. -/
def partReserved (p : List Byte) : Bool :=
  decide (leAt p 15 1 = 0) && decide (leAt p 22 2 = 0) && decide (leAt p 60 4 = 0) && decide (leAt p 77 3 = 0)

/-- A record's own rules (R404): its size and range, no sprue pipeline, AXUSE includes AXOWN, TQDEPTH 1 to 64. -/
def State.partBad (s : State) (p : List Byte) : Bool :=
  let t := leAt p 0 1
  let base := leAt p 8 1
  let size := leAt p 9 1
  !partReserved p || t == 0 || decide (15 < t) || decide (size ≠ 2 ^ s.fld Reg.HOSTEP_VFMEMSZ 0 3) ||
    decide (44 < base + size) ||
    (List.range 16).any (fun u => decide (u ≠ t) && s.part u != [] &&
      decide (leAt (s.part u) 8 1 < base + size) && decide (base < leAt (s.part u) 8 1 + leAt (s.part u) 9 1)) ||
    (List.range 104).any (fun n => decide (n % 13 = 12) && partHas p Part.pipe n) ||
    (List.range 8).any (fun a => partHas p Part.axOwn a && !partHas p Part.axUse a) ||
    leAt p 14 1 == 0 || decide (64 < leAt p 14 1) || leAt p 10 1 == 0

/-- An object added belongs to another VF tenant. -/
def State.partForeign (s : State) (t : Nat) (p : List Byte) : Bool :=
  partMaps.any (fun m => (List.range m.2).any (fun i => partHas p m.1 i && s.owner m.1 i != 0 && s.owner m.1 i != t))

/-- An object added or removed is in use. -/
def State.partBusy (s : State) (t : Nat) (p : List Byte) : Bool :=
  partMaps.any (fun m => (partDiff (s.part t) p m).any (fun i => s.objBusy m.1 i))

/-- A field summed over the VF tenants with tenant t's record replaced by p. -/
def State.partSum (s : State) (t : Nat) (p : List Byte) (o n : Nat) : Nat :=
  (List.range 16).foldl (fun a u => a + (if u = t then leAt p o n else leAt (s.part u) o n)) 0

/-- The sums of R404 are exceeded: page slots, compare entries, MINBW in 0.1 GB/s. -/
def State.partOver (s : State) (t : Nat) (p : List Byte) : Bool :=
  decide (4096 < s.partSum t p 6 2) || decide (65536 < s.partSum t p 24 4) || decide (1000 < s.partSum t p 12 2 + s.fld (Reg.DLV_TSHARE 0) 16 16)

/-- The owner that hardware shows for object i of the map at byte o (Table 11.3). -/
def State.showOwner (s : State) (o i t : Nat) : State :=
  if o = Part.plane then s.setFld (Reg.NOZ_PLCFG i) 24 4 t
  else if o = Part.axOwn then s.setFld Reg.POS_OWNER (4 * i) 4 t
  else if o = Part.view then s.setFld (Reg.ASY_VCTL i) 4 4 t
  else if o = Part.evch then s.wr (Reg.EVR_CHTEN i) (w32 t)
  else if o = Part.dmach then s.wr (Reg.DMA_CHOWN i) (if t = 0 then 0#32 else w32 (t + 16))
  else s

/-- Firmware keeps record p for tenant t (none: the tenant is gone) and copies it into hardware (R328). -/
def State.partApply (s : State) (t : Nat) (p : List Byte) : State :=
  let s1 := s.each partMaps (fun u m => u.each (partDiff (s.part t) p m) (fun v i =>
    v.showOwner m.1 i (if partHas p m.1 i then t else 0)))
  let s2 := s1.setPart t p
  if p = [] then
    let s3 := ((s2.wr (Reg.MEM_PARTBASE t) 0#32).wr (Reg.MEM_PARTSIZE t) 0#32).setBit (Reg.MBX_STAT t) 4 true
    { s3 with
      regs := skeep (fun k => !(decide (Reg.DLV_RCFG t 0 ≤ k) && decide (k < Reg.DLV_RCFG t 0 + 0x1000))) s3.regs }
  else
    let s3 := (s2.wr (Reg.MEM_PARTBASE t) (w32 (leAt p 8 1 + 256))).wr (Reg.MEM_PARTSIZE t) (w32 (leAt p 9 1))
    let s4 := s3.wr (Reg.DLV_TSHARE t) (w32 (leAt p 10 1 + leAt p 12 2 * 2 ^ 16))
    (s4.setFld (Reg.DLV_TQ t) 0 8 (leAt p 14 1)).setBit (Reg.MBX_STAT t) 4 false

/-- The units whose registers a partition change writes. -/
def partUnits : List Nat := [0, 2, 6, 7, 8, 9]

/-- TENANT_CREATE (0x0102, R403, R404). -/
def execTenantCreate (f : Fin 16) (slot : Fin 64) (s : State) : Res := s.alive fun s =>
  s.onCmd f slot 0x0102 (fun c s =>
    let p := c.payload.take 176
    let t := c.at 0 1
    s.cmdRun c [
      (c.short 176 [] || s.partBad p, St.badParam), (s.part t != [], St.state), (s.partForeign t p, St.isolation),
      (s.partBusy t p || s.claimedAny partUnits, St.busy), (s.partOver t p, St.capacity)]
      (fun s => (s.partApply t p).setMbox t { s.mbox t with mask := 0x7FFF }))

/-- TENANT_MODIFY (0x0103, R404). -/
def execTenantModify (f : Fin 16) (slot : Fin 64) (s : State) : Res := s.alive fun s =>
  s.onCmd f slot 0x0103 (fun c s =>
    let p := c.payload.take 176
    let t := c.at 0 1
    s.cmdRun c [
      (c.short 176 [] || s.partBad p, St.badParam), (s.part t == [], St.noObject), (s.partForeign t p, St.isolation),
      (s.partBusy t p || s.claimedAny partUnits, St.busy), (s.partOver t p, St.capacity)]
      (fun s => s.partApply t p))

/-- TENANT_DESTROY (0x0104, R404): the tenant is reset, its objects return to tenant 0. -/
def execTenantDestroy (f : Fin 16) (slot : Fin 64) (s : State) : Res := s.alive fun s =>
  s.onCmd f slot 0x0104 (fun c s =>
    let t := c.at 0 1
    s.cmdRun c [
      (c.short 1 [] || t == 0 || decide (15 < t), St.badParam), (s.part t == [], St.noObject),
      (s.claimedAny partUnits, St.busy)]
      (fun s =>
        let s1 := s.tenantReset t 0 []
        let r : TReset := { t := t, t0 := s1.devTime, cause := 0, cmds := [(c.f, c.slot)] }
        ((s1.tenantResetEnd r).tenantResetTell r).partApply t []))

/-- TENANT_QUERY (0x0105). -/
def execTenantQuery (f : Fin 16) (slot : Fin 64) (s : State) : Res := s.alive fun s =>
  s.onCmd f slot 0x0105 (fun c s =>
    let t := c.at 0 1
    s.cmdDo c [
      (c.short 1 [] || t == 0 || decide (15 < t), St.badParam), (decide (c.f ≠ 0) && decide (t ≠ c.f), St.isolation),
      (s.part t == [], St.noObject)] (fun s => (s, s.part t)))

/-- TENANT_RESET (0x0106, R406): the answer waits for the reset to complete. -/
def execTenantReset (f : Fin 16) (slot : Fin 64) (s : State) : Res := s.alive fun s =>
  s.onCmd f slot 0x0106 (fun c s =>
    let t := c.at 0 1
    if s.touch.resets.any (fun r => r.cmds.contains (c.f, c.slot)) then s
    else
      let st := pickStatus [
        (c.short 1 [], St.badParam), (decide (c.f ≠ 0) && decide (t ≠ c.f), St.isolation),
        (decide (15 < t) || !s.tenantIs t || !s.tenantIs c.tenant, St.noObject)]
      if st ≠ 0 then s.answer c st [] else s.tenantReset t 0 [(c.f, c.slot)])

/-- NOTIFY_SET (0x0107, R408). -/
def execNotifySet (f : Fin 16) (slot : Fin 64) (s : State) : Res := s.alive fun s =>
  s.onCmd f slot 0x0107 (fun c s => s.cmdRun c [(c.short 2 [], St.badParam)] (fun s =>
    s.setMbox c.tenant { s.mbox c.tenant with mask := c.at 0 2 }))

end Sys2Proof.Machine
end

