-- ==== Sys2Proof/Machine/Link.lean ====
section
/-!
DEFINITION. Meanings of the link engine's commands (chapter 6): line and frame segments, pairing, time rounds,
heartbeats, the capability exchange and LINK_CAMCFG. Register responses, Alaol-1 packets and camera heartbeats, which
act on other units too, stand in CamLink.lean.
-/
namespace Sys2Proof.Machine
open Sys2Proof

/-- The link engine's clock runs (Table 15.3). -/
def State.linkClk (s : State) : Bool := s.clkOn 236

/-! ## Packet checks (R154, R158) -/

/-- Bits of a packet header. -/
def pktBits (p : Packet) (lo n : Nat) : Nat := p.hdr.toNat / 2 ^ lo % 2 ^ n
/-- The eight header bytes. -/
def pktBytes (p : Packet) : List Byte := leBytes 8 p.hdr.toNat
/-- The header's HCRC holds and its type is the one named. -/
def pktHdrOk (p : Packet) (type : Nat) : Bool :=
  decide (hcrc (pktBytes p) = pktBits p 56 8) && decide (pktBits p 0 8 = type)
/-- The packet is whole: blocks * 8 bytes, not cut short, and its check word holds. -/
def pktWhole (p : Packet) (blocks : Nat) : Bool :=
  let n := p.data.length
  !p.cut && decide (n = 8 * blocks) &&
  (blocks == 0 || decide (crc32 ((pktBytes p).take 7 ++ p.data.take (n - 4)) = leAt p.data (n - 4) 4))

/-- A header failure of camera c (R158): counted, HCRC. -/
def State.camHcrc (s : State) (c : Nat) : State := (s.addSat (Reg.LINK_CAMERR c) 0 16 1).fault 1 1 c 0
/-- A packet of camera c is discarded (R158): counted, PCRC. -/
def State.camPcrc (s : State) (c : Nat) : State := ((s.addSat (Reg.LINK_CAMERR c) 16 16 1).camIrq c 5).fault 1 2 c 0

/-- The types of Table 6.1. -/
def pktTypes : List Nat :=
  [0x80, 0x81, 0x90, 0x92, 0x93, 0x94, 0xA0, 0xA1, 0xB0, 0xB1, 0xB2, 0xC0, 0xC1, 0xC2, 0xC3, 0xC4]

/-- The bond of camera c receives its stream: a lane in CAPS or ACTIVE holds every position (R155), and none of them is the
failed lane of an inlay that still receives nothing (R139). -/
def State.bondHears (s : State) (c : Nat) : Bool :=
  match s.posLane c 0 with
  | some n0 =>
    (List.range (s.fld (Reg.LANE_BOND n0) 12 4)).all (fun p =>
      match s.posLane c p with
      | some n => s.laneSt n == 5 || s.laneSt n == 6
      | none => false) &&
    (match (s.bond c).sw with
      | some _ => (s.bond c).losses.all (fun l => l.t1.isSome || l.tx)
      | none => true)
  | none => false

/-- The blocks that a reception brings on the lane of each position of camera c: sync header errors and reserved types count
(R119, R121), SWITCH blocks are acted on (R155). -/
def State.bondBlks (s : State) (c : Nat) (rx : BondRx) : State :=
  s.each rx.lanes.zipIdx (fun t e =>
    match t.posLane c e.2 with
    | some n => t.each (laneBlks e.1) (fun u b =>
        match b.switch with
        | some w => u.switchIn n w
        | none => u.blkCount n b)
    | none => t)

/-- A packet of camera c as its bond stream brings it, with its checks: the header first, then the body (R154, R158). A packet of
another type than the command's is not this command's. -/
def State.camPacket (s : State) (c : Nat) (rx : BondRx) (type : Nat) (blocks : Packet → Nat)
    (good : Packet → State → State) : State :=
  if s.bondHears c then
    let s1 := s.bondBlks c rx
    if !s1.linkClk then s1
    else match pktHeader (bondStream rx) with
      | none => s1
      | some (h, rest) =>
        let p0 : Packet := { hdr := h, data := [], cut := false }
        if hcrc (pktBytes p0) ≠ pktBits p0 56 8 ∨ !pktTypes.contains (pktBits p0 0 8) then s1.camHcrc c
        else if pktBits p0 0 8 ≠ type then s1
        else
          let d := pktData (blocks p0) rest
          let p : Packet := { hdr := h, data := d.1, cut := d.2 }
          if pktWhole p (blocks p0) then good p s1 else s1.camPcrc c
  else s

/-- When the first code block of a reception arrived. -/
def State.rxStart (s : State) (c : Nat) (rx : BondRx) : Nat :=
  match s.posLane c 0 with
  | some n => s.devTime - bondSlots rx * s.rxMilli n / 1000
  | none => s.devTime

/-! ## Lines (R159 to R161) -/

/-- Camera c delivers lines now: enabled, exchange accepted or Alaol-1, bond ACTIVE and no lane in RELOCK (R138,
R173). -/
def State.camDelivers (s : State) (c : Nat) : Bool :=
  s.bit (Reg.LINK_CAMCFGA c) 0 && (s.camA1 c || s.fld (Reg.LINK_CAMSTAT c) 0 2 == 2) && (s.bond c).active &&
  !(s.bond c).muted && !(s.bondLanes c).any (fun n => s.laneSt n == 8)

/-- The oldest record a line with this TIDX pairs with, the older ones, and the newer ones (R160). -/
def splitRecs (fmt : List Byte) (tidx : Nat) : List LineRec → Option (List LineRec × LineRec × List LineRec)
  | [] => none
  | r :: rest =>
    if r.tidx = tidx ∧ expectsLine fmt r then some ([], r, rest)
    else (splitRecs fmt tidx rest).map (fun e => (r :: e.1, e.2))

/-- The line under assembly is discarded: its slots are freed. -/
def State.lineDrop (s : State) (c : Nat) : State := s.each (s.camPipes c) (fun t n => t.pipeDiscard n)

/-- An orphan line (R160 step 2). -/
def State.lineOrphan (s : State) (c : Nat) : State :=
  (((s.addSat (Reg.LINK_CAMLNERR c) 0 16 1).camIrq c 6).fault 1 3 c 0).lineDrop c
/-- A line whose length differs from LINEB (R161). -/
def State.lineFmtErr (s : State) (c : Nat) : State :=
  (((s.addSat (Reg.LINK_CAMLNERR c) 16 16 1).camIrq c 7).fault 1 4 c 0).lineDrop c

/-- A line pairs with record r: older records close as missing, and the pipelines take the line (R160, R161). -/
def State.linePair (s : State) (c : Nat) (old : List LineRec) (r : LineRec) (rest : List LineRec) (bytes : List Byte)
    (row : Nat) (last : Bool) : State :=
  let fmt := s.camFmt c
  let s1 := (s.setCam c { s.cam c with recs := rest }).each old (fun t q => t.recClose c q)
  let s2 := s1.addWrap (Reg.LINK_CAMLINES c) 0 32 1
  s2.each (s2.camPipes c) (fun t n => t.pipeLine n r (bytes.drop (fmtHdrb fmt)) row last fmt)

/-- A complete line of a line camera (R160, R161). -/
def State.lineDone (s : State) (c tidx : Nat) (freerun : Bool) (bytes : List Byte) : State :=
  let fmt := s.camFmt c
  match splitRecs fmt tidx (s.cam c).recs with
  | none => s.lineOrphan c
  | some (old, r, rest) =>
    if freerun then s.lineOrphan c
    else if bytes.length ≠ fmtLineb fmt then s.lineFmtErr c
    else s.linePair c old r rest bytes 0 true

/-- The frame in progress ends without its last row: the pipelines close it with the rows it has (R160, R212). -/
def State.frameEnd (s : State) (c : Nat) : State :=
  match (s.cam c).frame with
  | none => s
  | some r =>
    let fmt := s.camFmt c
    (s.setCam c { s.cam c with frame := none }).each (s.camPipes c) (fun t n => t.pipeGap n r true fmt)

/-- A row that belongs to no frame in progress is an orphan, and the rest of its frame goes with it (R160 step 2). -/
def State.rowOrphan (s : State) (c : Nat) (last : Bool) : State :=
  let s1 := s.lineOrphan c
  s1.setCam c { s1.cam c with frameDrop := !last }

/-- A later row of the frame in progress, or its end (R160, R196): its TIDX is that of the frame's trigger, and FREERUN makes it
an orphan. -/
def State.rowDone (s : State) (c tidx row : Nat) (last freerun : Bool) (bytes : List Byte) : State :=
  let fmt := s.camFmt c
  match (s.cam c).frame with
  | none =>
    if (s.cam c).frameDrop then
      let s1 := s.lineDrop c
      s1.setCam c { s1.cam c with frameDrop := !last }
    else s.rowOrphan c last
  | some r =>
    if freerun then s.lineOrphan c
    else if tidx ≠ r.tidx then (s.frameEnd c).rowOrphan c last
    else
      let s1 := if last then s.setCam c { s.cam c with frame := none } else s
      if bytes.length ≠ fmtLineb fmt then
        let s2 := s1.lineFmtErr c
        if last then s2.each (s2.camPipes c) (fun t n => t.pipeGap n r true fmt) else s2
      else s1.each (s1.camPipes c) (fun t n => t.pipeLine n r (bytes.drop (fmtHdrb fmt)) row last fmt)

/-- A complete row of an area camera: row 0 pairs the frame; an orphan frame's later rows go with it. -/
def State.frameRow (s : State) (c tidx row : Nat) (last freerun : Bool) (bytes : List Byte) : State :=
  let fmt := s.camFmt c
  if row ≠ 0 then s.rowDone c tidx row last freerun bytes
  else
    let s0 := (s.frameEnd c).setCam c { (s.frameEnd c).cam c with frameDrop := false }
    match splitRecs fmt tidx (s0.cam c).recs with
    | none => s0.rowOrphan c last
    | some (old, r, rest) =>
      if freerun then s0.rowOrphan c last
      else if bytes.length ≠ fmtLineb fmt then
        (s0.lineFmtErr c).setCam c { (s0.lineFmtErr c).cam c with frameDrop := !last }
      else
        let s1 := s0.linePair c old r rest bytes 0 last
        if last then s1 else s1.setCam c { s1.cam c with frame := some r }

/-- One segment of a line or row, whose first code block arrived at t0: it opens, extends or completes the line under assembly. A
segment that does not continue it is dropped, and the line with it; so is a line that began before the last inlay ended (R140). -/
def State.segment (s : State) (c tidx seg row : Nat) (last freerun area lastRow : Bool) (bytes : List Byte) (t0 : Nat) :
    State :=
  let fmt := s.camFmt c
  let x := s.cam c
  let s1 :=
    if seg = 0 then
      let s0 := if x.asm.isSome then s.lineDrop c else s
      if t0 < (s0.bond c).resume then s0.setCam c { s0.cam c with asm := none }
      else
        let s2 := s0.setCam c { s0.cam c with
          asm := some { tidx := tidx, seg := 0, row := row, freerun := freerun, bytes := bytes, t0 := t0 } }
        s2.each (s2.camPipes c) (fun t n => t.pipeFirst n fmt row)
    else
      match x.asm with
      | none => s
      | some a =>
        if a.tidx = tidx ∧ a.seg + 1 = seg ∧ a.row = row ∧ (s.bond c).resume ≤ a.t0 then
          s.setCam c { x with asm := some { a with seg := seg, bytes := a.bytes ++ bytes } }
        else (s.setCam c { x with asm := none }).lineDrop c
  if last then
    match (s1.cam c).asm with
    | none => s1
    | some a =>
      let s2 := s1.setCam c { s1.cam c with asm := none }
      if area then s2.frameRow c tidx row lastRow a.freerun a.bytes else s2.lineDone c tidx a.freerun a.bytes
  else s1

/-- The content bytes of a LINE or FRAME segment: all before the check word in a segment that is not the last, and in
the last what the line still lacks (R159). -/
def segBytes (have' lineb : Nat) (last : Bool) (p : Packet) : List Byte :=
  let body := p.data.take (p.data.length - 4)
  if last then
    let want := lineb - have'
    if want ≤ body.length ∧ body.length < want + 8 ∧ (body.drop want).all (· == 0#8) then body.take want else body
  else body

/-- Bytes of the line under assembly so far. -/
def State.asmLen (s : State) (c seg : Nat) : Nat :=
  if seg = 0 then 0 else match (s.cam c).asm with
    | some a => a.bytes.length
    | none => 0

/-- LINE_SEGMENT (R159). -/
def execLineSegment (c : Fin 96) (rx : BondRx) (dt : Nat) (s : State) : Res := s.alive fun s =>
  let n := c.val
  .next ((s.pass dt).camPacket n rx 0x80 (fun p => pktBits p 44 12 + 1) (fun p t =>
    if t.camDelivers n then
      let seg := pktBits p 24 8
      let last := pktBits p 32 1 == 1
      t.segment n (pktBits p 8 16) seg 0 last (pktBits p 33 1 == 1) false true
        (segBytes (t.asmLen n seg) (fmtLineb (t.camFmt n)) last p) (t.rxStart n rx)
    else t))

/-- FRAME_SEGMENT (R159). -/
def execFrameSegment (c : Fin 96) (rx : BondRx) (dt : Nat) (s : State) : Res := s.alive fun s =>
  let n := c.val
  .next ((s.pass dt).camPacket n rx 0x81 (fun p => pktBits p 44 12 + 1) (fun p t =>
    if t.camDelivers n then
      let seg := pktBits p 38 3
      let last := pktBits p 41 1 == 1
      t.segment n (pktBits p 8 16) seg (pktBits p 24 14) last (pktBits p 43 1 == 1) true (pktBits p 42 1 == 1)
        (segBytes (t.asmLen n seg) (fmtLineb (t.camFmt n)) last p) (t.rxStart n rx)
    else t))

/-- Records of camera c whose time limit has passed are closed as missing (R160 step 3). -/
def State.recTimeouts (s : State) (c : Nat) : State :=
  let lim := usTicks (s.fld (Reg.LINK_CAMLNTMO c) 0 16)
  let x := s.cam c
  let due := x.recs.filter (fun r => decide (r.expt + lim ≤ s.devTime))
  (s.setCam c { x with recs := x.recs.filter (fun r => decide (s.devTime < r.expt + lim)) }).each due (fun t r =>
    t.recClose c r)

/-- LINE_RECORD_TIMEOUT (R160). -/
def execLineRecordTimeout (c : Fin 96) (dt : Nat) (s : State) : Res := s.alive fun s =>
  .next ((s.pass dt).recTimeouts c.val)

/-! ## Time rounds (R166, R167) -/

/-- LINK_TSPER in ticks, 100 to 1,000 µs. -/
def State.tsPer (s : State) : Nat := usTicks (clampN 100 1000 (s.fld Reg.LINK_TSPER 0 16))

/-- TSYNC (R166): the periodic round of camera c, due LINK_TSPER after the one before. -/
def execTsync (c : Fin 96) (dt : Nat) (s : State) : Res := s.alive fun s =>
  let s1 := s.pass dt
  let n := c.val
  .next (if s1.linkClk && s1.bit (Reg.LINK_CAMCFGA n) 0 && s1.bit (Reg.LINK_CAMCFGA n) 7 && (s1.bond n).active &&
      !s1.camA1 n && (s1.cam n).tsSent.all (fun t => decide (t + s1.tsPer ≤ s1.devTime)) then s1.startRound n else s1)

/-- The echo of the round in flight: DLY, OFS, TRESULT and TIMEOK; in CAPS the exchange goes on (R166, R167, R173). -/
def State.echoIn (s : State) (c : Nat) (p : Packet) : State :=
  match (s.cam c).round with
  | none => s
  | some (seq, t1) =>
    if leAt p.data 0 4 = seq then
      let t2 : Int := leAt p.data 4 8
      let t3 : Int := leAt p.data 12 8
      let t4 : Int := s.devTime
      let dly := 8 * ((t4 - t1) - (t3 - t2))
      let ofs := 8 * ((t2 - t1) - (t4 - t3))
      let o64 := sgn 64 (low 64 ofs)
      let s1 := s.setCam c { s.cam c with round := none, dly := low 24 dly }
      let s2 := (s1.setFld (Reg.LINK_CAMDLY c) 0 24 (low 24 dly)).wr64 (Reg.LINK_CAMOFS_LO c) (low 64 ofs)
      let s3 := s2.sendPkt c 0x94 0 (leBytes 4 seq ++ leBytes 8 (low 64 ofs) ++ leBytes 4 (low 32 dly))
      if s3.fld (Reg.LINK_CAMSTAT c) 0 2 = 1 then (s3.setBit (Reg.LINK_CAMSTAT c) 2 true).capsAccept c
      else if s3.fld Reg.LINK_TSLIM 0 16 < o64.natAbs then
        ((s3.setBit (Reg.LINK_CAMSTAT c) 2 false).camIrq c 3).fault 1 6 c 1
      else s3.setBit (Reg.LINK_CAMSTAT c) 2 true
    else s

/-- TSECHO (R166); its arrival is the device time after dt. -/
def execTsecho (c : Fin 96) (rx : BondRx) (dt : Nat) (s : State) : Res := s.alive fun s =>
  .next ((s.pass dt).camPacket c.val rx 0x93 (fun _ => 3) (fun p t => t.echoIn c.val p))

/-- TIME_ROUND_TIMEOUT (R166): a round without TSECHO within 100 µs is abandoned; an exchange that waited for it goes
on with TIMEOK clear. -/
def execTimeRoundTimeout (c : Fin 96) (dt : Nat) (s : State) : Res := s.alive fun s =>
  let s1 := s.pass dt
  let n := c.val
  match (s1.cam n).round with
  | none => .next s1
  | some (_, t1) =>
    .next (
      if t1 + usTicks 100 ≤ s1.devTime then
        let s2 := s1.setCam n { s1.cam n with round := none }
        if s2.fld (Reg.LINK_CAMSTAT n) 0 2 = 1 then (s2.setBit (Reg.LINK_CAMSTAT n) 2 false).capsAccept n else s2
      else s1)

/-! ## Heartbeats (R169, R170) -/

/-- HEART (R169): the device HEART for every camera in ACTIVE for which LINK_HBPER has passed since the one before. -/
def execHeart (dt : Nat) (s : State) : Res := s.alive fun s =>
  let s1 := s.pass dt
  let due := s1.heartCams.filter (fun c => (s1.cam c).hbSent.all (fun t => decide (t + usTicks s1.hbPer ≤ s1.devTime)))
  .next (if s1.linkClk then
      s1.each due (fun t c => (t.sendPkt c 0xA0 (t.heartBits false) []).setCam c { t.cam c with hbSent := some t.devTime })
    else s1)

/-- A camera HEART is copied (R170), with OBEYED and DUALLEAD (R179). -/
def State.heartCopy (s : State) (c : Nat) (p : Packet) : State :=
  let fl := leAt p.data 9 1
  let obey := fl / 2 % 2 == 1
  let dual := fl / 4 % 2 == 1
  let s1 := s.setCam c { s.cam c with lastHb := s.devTime, hbLost := false, epoch := leAt p.data 10 2 }
  let s2 := ((s1.wr (Reg.LINK_CAMHB0 c) (w32 (leAt p.data 0 4))).wr (Reg.LINK_CAMHB1 c) (w32 (leAt p.data 4 4))).wr
    (Reg.LINK_CAMHB2 c) (w32 (leAt p.data 8 4))
  let s3 := s2.setBit (Reg.LINK_CAMSTAT c) 5 true
  let s4 := if s3.bit (Reg.LINK_CAMSTAT c) 3 = obey then s3 else (s3.setBit (Reg.LINK_CAMSTAT c) 3 obey).camIrq c 4
  let was := s4.bit (Reg.LINK_CAMSTAT c) 4
  let s5 := s4.setBit (Reg.LINK_CAMSTAT c) 4 dual
  if dual && !was then s5.fault 1 8 c 1 else s5

/-- HBLOST (R170): no camera HEART for 3 * HBPER, while the bond is ACTIVE or HBOK still says that one came. -/
def execHblost (c : Fin 96) (dt : Nat) (s : State) : Res := s.alive fun s =>
  let s1 := s.pass dt
  let n := c.val
  let x := s1.cam n
  .next (
    if s1.linkClk && ((s1.bond n).active || s1.bit (Reg.LINK_CAMSTAT n) 5) && !s1.camA1 n && !x.hbLost &&
        decide (x.lastHb + usTicks (3 * s1.hbPer) ≤ s1.devTime) then
      ((((s1.setCam n { x with hbLost := true }).setBit (Reg.LINK_CAMSTAT n) 5 false).camIrq n 2).fault 1 5 n 0)
    else s1)

/-! ## Capability exchange (R173) and configuration (R176) -/

/-- The exchange of camera c is in progress. -/
def State.capsOn (s : State) (c : Nat) : Bool := s.fld (Reg.LINK_CAMSTAT c) 0 2 == 1

/-- CAPR (R173): the record is kept; a VERSION outside 0x20 to 0x2F fails the exchange. -/
def execCapr (c : Fin 96) (rx : BondRx) (dt : Nat) (s : State) : Res := s.alive fun s =>
  let n := c.val
  .next ((s.pass dt).camPacket n rx 0xC1 (fun _ => 17) (fun p t =>
    if t.capsOn n then
      let t1 := (t.wrBytes (Reg.LINK_CAPREC n 0) (p.data.take 128)).setCam n { t.cam n with gotRec := true }
      let v := leAt p.data 0 1
      if 0x20 ≤ v ∧ v ≤ 0x2F then t1 else t1.capsFail n
    else t))

/-- FMT (R173, R175): one format table; a repeated or descending FMTID, or an invalid table while FMTSRC is 0, fails
the exchange. -/
def execFmt (c : Fin 96) (rx : BondRx) (dt : Nat) (s : State) : Res := s.alive fun s =>
  let n := c.val
  .next ((s.pass dt).camPacket n rx 0xC2 (fun p => pktBits p 44 12 + 1) (fun p t =>
    if t.capsOn n then
      let id := pktBits p 8 8
      let x := t.cam n
      let tab := p.data.take (64 + 8 * (pktBits p 44 12 - 8))
      let bad := match x.lastFmt with
        | some l => decide (id ≤ l)
        | none => false
      let t1 := t.setCam n { x with
        tables := x.tables ++ [(id, tab)], lastFmt := some id, badFmt := x.badFmt || bad, nGot := x.nGot + 1 }
      let t2 := t1.setFld (Reg.LINK_CAMSTAT n) 8 5 (min 16 (x.nGot + 1))
      if bad || (!t2.bit (Reg.LINK_CAMCFGA n) 1 && !fmtOk tab) then t2.capsFail n else t2
    else t))

/-- CAPEND (R173): the checks, then the CAPS round if TSEN is set, then CAPACK. -/
def execCapend (c : Fin 96) (rx : BondRx) (dt : Nat) (s : State) : Res := s.alive fun s =>
  let n := c.val
  .next ((s.pass dt).camPacket n rx 0xC3 (fun _ => 0) (fun p t =>
    if t.capsOn n then
      if t.capsGood n (pktBits p 8 8) then
        (if t.bit (Reg.LINK_CAMCFGA n) 7 then t.startRound n else t.capsAccept n)
      else t.capsFail n
    else t))

/-- A write of LINK_CAMCFG (R176): a shadow while the bond is ACTIVE, else at once. -/
def State.camCfgWrite (s : State) (c : Nat) (v : Word) : State :=
  let w := v &&& 0xFF#32
  let s1 := s.wr (Reg.LINK_CAMCFG c) w
  if (s1.bond c).active then s1.setBit (Reg.LINK_CAMSTAT c) 6 true
  else (((s1.wr (Reg.LINK_CAMCFGA c) w).setBit (Reg.LINK_CAMSTAT c) 6 false).setBit (Reg.LINK_CAMSTAT c) 7 false).capsCheck c

/-- LINK_CAMCFG_WRITE (R176). -/
def execLinkCamcfgWrite (c : Fin 96) (v : Word) (s : State) : Res :=
  s.alive fun s => s.reach 0 (Reg.LINK_CAMCFG c.val) fun s =>
  .next (s.rwl .link (fun t => t.camCfgWrite c.val v))

end Sys2Proof.Machine
end

