-- ==== Sys2Proof/Machine/CmdCam.lean ====
section
/-!
DEFINITION. The camera and lane commands (Table 13.11): binding a camera's lanes (R133), its formats (R175, R176), its
registers (R171, R172), restarts and lane tests (R144, R147).
-/
namespace Sys2Proof.Machine
open Sys2Proof

/-- The camera of a command lies outside the tenant's partition, or there is no such camera (R400, R405). -/
def State.camRefusals (s : State) (c : Cmd) (bound : Bool) : List (Bool × Nat) :=
  let n := c.at 0 1
  [(s.foreign c.tenant Part.cam 96 n, St.isolation), (decide (96 ≤ n) || (bound && !(s.cam n).bound), St.noObject)]

/-- Tenant t may use axis a: its partition lists it; tenant 0 uses those no VF tenant owns (R24). -/
def State.usesAxis (s : State) (t a : Nat) : Bool :=
  if t = 0 then s.owner Part.axOwn a == 0 else partHas (s.part t) Part.axUse a

/-! ## Binding (R133) -/

/-- Data lanes of CAM_BIND in position order. -/
def Cmd.bindLanes (c : Cmd) : List Nat := (List.range (c.at 1 1)).map (fun i => c.at (8 + i) 1)

/-- The LANE_CTL value that CAM_BIND asks for (Table 5.15). -/
def Cmd.bindCtl (c : Cmd) : Word :=
  let fl := c.at 3 1
  w32 (1 + fl % 2 * 2 + c.at 4 1 % 8 * 4 + c.at 5 1 % 8 * 32 + fl / 2 % 2 * 256 + c.at 6 1 % 8 * 512 + fl / 4 % 2 * 4096)

/-- The cabling plan of CAM_BIND breaks a rule (R117, R133, R149, R151). -/
def Cmd.bindBad (c : Cmd) : Bool :=
  let size := c.at 1 1
  let spare := c.at 2 1
  let ls := c.bindLanes
  let g := ls.headD 0 / 13
  !([1, 2, 4, 8].contains size) || decide (32 ≤ c.at 3 1) || decide (8 ≤ c.at 4 1) || decide (8 ≤ c.at 5 1) ||
    decide (8 ≤ c.at 6 1) || !laneCtlOk c.bindCtl ||
    (List.range 8).any (fun i => decide (size ≤ i) && decide (c.at (8 + i) 1 ≠ 0xFF)) ||
    ls.any (fun n => n / 13 != g || n % 13 == 12) || decide (ls.eraseDups.length ≠ ls.length) ||
    (spare != 0xFF && spare != 13 * g + 12) || (c.at 3 1 % 2 == 1 && (size != 1 || spare != 0xFF))

/-- The lanes of CAM_BIND, the spare last. -/
def Cmd.bindAll (c : Cmd) : List Nat := c.bindLanes ++ (if c.at 2 1 = 0xFF then [] else [c.at 2 1])

/-- Firmware writes LANE_BOND and LANE_CTL of one lane of camera k. -/
def State.bindLane (s : State) (k size pos n : Nat) (ctl : Word) : State :=
  let s1 := s.wr (Reg.LANE_BOND n) (w32 (1 + k * 2 + pos * 256 + size * 4096))
  let on := s1.laneCtlBit n 0
  let s2 := s1.laneCtlWrite n ctl
  if on then s2.laneApplyNow n else s2

/-- CAM_BIND (0x0201, R133). -/
def execCamBind (f : Fin 16) (slot : Fin 64) (s : State) : Res := s.alive fun s =>
  s.onCmd f slot 0x0201 (fun c s =>
    let k := c.at 0 1
    let ax := c.at 7 1
    s.cmdRun c (s.camRefusals c false ++ [
      (c.short 16 [] || c.bindBad || (List.range 96).any (fun g => s.genMsg g && s.genCam g == k && s.genAxis g != ax),
        St.badParam),
      (!s.usesAxis c.tenant ax, St.isolation), (decide (8 ≤ ax), St.noObject),
      (c.bindAll.any (fun n => decide (104 ≤ n) || s.laneSt n == 13), St.noObject),
      ((s.cam k).bound || c.bindAll.any (fun n => !s.clkOn n || s.laneSt n == 9), St.state),
      (s.claimedAny [3, 4] || c.bindAll.any (fun n => s.bit (Reg.LANE_BOND n) 0), St.busy)])
      (fun s =>
        let s1 := (s.setBond k {}).setCam k { axis := ax, bound := true }
        let cfg := (s1.rdN (Reg.LINK_CAMCFG k)) % 64 / 2 * 2 + 1 + c.at 3 1 / 8 % 2 * 64 + c.at 3 1 / 16 % 2 * 128
        let s2 := s1.camCfgWrite k (w32 cfg)
        s2.each (c.bindLanes.zipIdx ++ (if c.at 2 1 = 0xFF then [] else [(c.at 2 1, 15)])) (fun t e =>
          t.bindLane k (c.at 1 1) e.2 e.1 c.bindCtl)))

/-- CAM_UNBIND (0x0202). -/
def execCamUnbind (f : Fin 16) (slot : Fin 64) (s : State) : Res := s.alive fun s =>
  s.onCmd f slot 0x0202 (fun c s =>
    let k := c.at 0 1
    s.cmdRun c (s.camRefusals c true ++ [
      (c.short 1 [], St.badParam), (s.camPipes k != [], St.state), (s.claimedAny [3, 4], St.busy)])
      (fun s =>
        let s1 := s.bondDown k
        let s2 := s1.each (s1.bondLanes k) (fun t n =>
          ((t.wr (Reg.LANE_CTL n) (t.rd (Reg.LANE_CTL n) &&& 0x1FFE#32)).laneApplyNow n).wr (Reg.LANE_BOND n) 0#32)
        let s3 := ((s2.setBond k {}).setCam k {}).setBench { s2.bench with
          tables := s2.bench.tables.filter (fun x => x.1 != k), slackCams := s2.bench.slackCams.filter (· != k) }
        let s4 := s3.camCfgWrite k (s3.rd (Reg.LINK_CAMCFG k) &&& 0xFE#32)
        s4.wr (Reg.LINK_CAMSTAT k) 0#32))

/-- The lane at position p of camera k, or its spare for p = 8, reads its STATE; 0 where there is none. -/
def State.posState (s : State) (k p : Nat) : Nat :=
  if p = 8 then ((s.bondLanes k).find? (fun n => s.fld (Reg.LANE_BOND n) 8 4 == 15)).elim 0 s.laneSt
  else (s.posLane k p).elim 0 s.laneSt

/-- CAM_STATUS (0x0203). -/
def execCamStatus (f : Fin 16) (slot : Fin 64) (s : State) : Res := s.alive fun s =>
  s.onCmd f slot 0x0203 (fun c s =>
    let k := c.at 0 1
    s.cmdDo c (s.camRefusals c true ++ [(c.short 1 [], St.badParam)]) (fun s =>
      (s, s.regsBytes [Reg.LINK_CAMSTAT k] ++ (List.range 9).flatMap (fun p => leBytes 1 (s.posState k p)) ++ leBytes 3 0 ++
        s.regsBytes [Reg.LINK_CAMDLY k, Reg.LINK_CAMHB0 k, Reg.LINK_CAMHB1 k, Reg.LINK_CAMHB2 k] ++
        s.rdBytes (Reg.LINK_CAPREC k 0) 128)))

/-! ## Formats (R175, R176) -/

/-- CAM_FORMAT_WRITE (0x0204): a table that fails R175 is refused. -/
def execCamFormatWrite (f : Fin 16) (slot : Fin 64) (s : State) : Res := s.alive fun s =>
  s.onCmd f slot 0x0204 (fun c s =>
    let tbl := (c.payload.drop 4).take 192
    s.cmdRun c (s.camRefusals c false ++ [
      (c.short 196 [(2, 2)] || decide (16 ≤ c.at 1 1) || !fmtOk tbl || !fmtSpanOk tbl, St.badParam), (s.claimed 4, St.busy)])
      (fun s => s.wrBytes (Reg.LINK_FMTMEM (c.at 0 1) (c.at 1 1) 0) (tbl ++ List.replicate 64 0#8)))

/-! ## Camera registers (R171, R172) -/

/-- The free TAG of camera k, if fewer than 16 requests are outstanding (R172). -/
def State.freeTag (s : State) (k : Nat) : Option Nat :=
  (List.range 16).find? (fun g => !(s.cam k).reqs.any (fun r => r.tag == g))

/-- Send REGRD or REGWR for a command: Alaol-2 (R171), or Alaol-1 (Table 6.12). -/
def State.regSend (s : State) (c : Cmd) (tag : Nat) (wr : Bool) : State :=
  let k := c.at 0 1
  let n := c.at 1 1
  let words := if wr then (c.payload.drop 8).take (4 * n) else []
  let s1 := s.setCam k { s.cam k with
    reqs := (s.cam k).reqs ++ [{ tag := tag, write := wr, count := n, f := c.f, slot := c.slot, t := s.devTime }] }
  if s1.camA1 k then
    let body := leBytes 1 (if wr then 4 else 3) ++ leBytes 1 tag ++ leBytes 1 n ++ leBytes 4 (c.at 4 4) ++ words
    match s1.posLane k 0 with
    | some m => s1.setLane m { s1.lane m with
        a1Pkts := (s1.lane m).a1Pkts ++ [body ++ (if wr then leBytes 4 (crc32 body) else leBytes 2 (crc16 body))] }
    | none => s1
  else s1.sendPkt k (if wr then 0xB1 else 0xB0) (tag + (n - 1) * 2 ^ 8 + c.at 4 4 * 2 ^ 16) words

/-- A camera register command: the request goes out and the command waits for its answer (R172). -/
def State.camRegCmd (s : State) (c : Cmd) (wr : Bool) : State :=
  let k := c.at 0 1
  let n := c.at 1 1
  if (s.cam k).reqs.any (fun r => r.f == c.f && r.slot == c.slot) then s
  else
    let st := pickStatus (s.camRefusals c true ++ [
      (!s.tenantIs c.tenant, St.noObject),
      (c.short (if wr then 8 + 4 * n else 8) [(2, 2)] || n == 0 || decide (56 < n) || decide (c.at 4 4 % 4 ≠ 0), St.badParam),
      (!(s.bond k).active, St.state), (s.claimed 4 || (s.freeTag k).isNone, St.busy)])
    if st ≠ 0 then s.answer c st [] else s.regSend c ((s.freeTag k).getD 0) wr

/-- CAM_REG_READ (0x0206). -/
def execCamRegRead (f : Fin 16) (slot : Fin 64) (s : State) : Res := s.alive fun s =>
  s.onCmd f slot 0x0206 (fun c s => s.camRegCmd c false)
/-- CAM_REG_WRITE (0x0207). -/
def execCamRegWrite (f : Fin 16) (slot : Fin 64) (s : State) : Res := s.alive fun s =>
  s.onCmd f slot 0x0207 (fun c s => s.camRegCmd c true)

/-! ## Restart and tests (R144, R147, R148) -/

/-- CAM_RESTART (0x0208): RESTART of every lane of the bond; it waits for an inlay to end (R144). -/
def execCamRestart (f : Fin 16) (slot : Fin 64) (s : State) : Res := s.alive fun s =>
  s.onCmd f slot 0x0208 (fun c s =>
    let k := c.at 0 1
    s.cmdRun c (s.camRefusals c true ++ [(c.short 1 [], St.badParam), (s.claimed 3, St.busy)]) (fun s =>
      if (s.bond k).sw.isSome then s.each (s.bondLanes k) (fun t n => t.laneDefer n 4)
      else s.bondRestart k))

/-- LANE_TEST (0x0209): the test runs for its duration, then TEST_DURATION_END answers. -/
def execLaneTest (f : Fin 16) (slot : Fin 64) (s : State) : Res := s.alive fun s =>
  s.onCmd f slot 0x0209 (fun c s =>
    let n := c.at 0 2
    let v := c.at 2 1
    let us := c.at 4 4
    if s.bench.tests.any (fun e => e.2.2.1 == c.f && e.2.2.2 == c.slot) then s
    else
      let st := pickStatus [
        (!s.tenantIs c.tenant && c.f == 0, St.noObject),
        (c.short 8 [(3, 1)] || decide (64 ≤ v) || v / 4 % 4 == 3 || us == 0 || decide (500000 < us) ||
          (v % 4 != 0 && s.laneRx n != s.laneTx n), St.badParam),
        (decide (104 ≤ n), St.noObject),
        ((v % 4 != 0 && s.bit (Reg.LANE_BOND n) 0) || !([0, 1, 9, 10].contains (s.laneSt n)), St.state),
        (s.claimed 3, St.busy)]
      if st ≠ 0 then s.answer c st []
      else
        let s1 := (s.lanePrbsRst n).laneTestWrite n (w32 v)
        s1.setBench { s1.bench with tests := s1.bench.tests ++ [(n, s1.devTime + usTicks us, c.f, c.slot)] })

/-- TEST_DURATION_END: the test of a lane whose duration has passed ends, and LANE_TEST is answered. -/
def execTestDurationEnd (n : Fin 104) (dt : Nat) (s : State) : Res := s.alive fun s =>
  let s := s.pass dt
  match s.bench.tests.find? (fun e => e.1 == n.val && decide (e.2.1 ≤ s.devTime)) with
  | some e =>
    let pay := s.regsBytes [Reg.LANE_PRBSERR n.val] ++ leBytes 1 (s.laneSt n.val)
    let s1 := (s.setBench { s.bench with tests := s.bench.tests.filter (fun x => x != e) }).laneTestWrite n.val 0#32
    .next (match s1.bench.running.find? (fun c => c.f == e.2.2.1 && c.slot == e.2.2.2) with
      | some c => s1.answer c St.ok pay
      | none => s1)
  | none => .next s

end Sys2Proof.Machine
end

