-- ==== Sys2Proof/Machine/CmdPipe.lean ====
section
/-!
DEFINITION. The pipeline commands (Table 13.12): binding stripes with the capacity checks of R39, R189 and R190, the
context and the camera-wide tables, sliced under R188, and swaps (R220).
-/
namespace Sys2Proof.Machine
open Sys2Proof

/-! ## What firmware computes at binding -/

/-- Line rate of an Alaol-2 code in bits per second (Table 5.1), or of an Alaol-1 code (R149). -/
def lineRate (a1 : Bool) (code : Nat) : Nat :=
  if a1 then (if code = 0 then 1250000000 else if code = 1 then 3125000000 else 6250000000)
  else if code = 0 then 3125000000 else if code = 1 then 6250000000 else if code = 2 then 10312500000
  else if code = 3 then 12500000000 else 25000000000

/-- The camera's lines fit the payload of its data lanes (R39): 64/66 and 8191/8192 of the line rate, or 80 % of it. -/
def State.payloadOk (s : State) (c : Nat) (fmt : List Byte) : Bool :=
  let need := fmtMaxLr fmt * fmtHeight fmt * fmtLineb fmt * 8
  let have' := ((s.bondLanes c).filter (fun n => s.lanePos n != 15)).foldl (fun a n =>
    let r := lineRate (s.laneA1 n) (s.laneRx n)
    a + (if s.laneA1 n then r * 4 / 5 else r * 64 * 8191 / (66 * 8192))) 0
  decide (need ≤ have')

/-- Processed columns of pipeline n under its shadow: first and count. -/
def State.pipeCols (s : State) (n : Nat) : Nat × Nat := stripeCols (s.rd (Reg.PIPE_COLS n)) (s.rd (Reg.PIPE_BIND n))

/-- A stripe's samples per second fit a pipeline at TP5 (R189). -/
def rateOk (fmt : List Byte) (w : Nat) : Bool :=
  decide (w * max (fmtPlanesIn fmt) (fmtPlanesOut fmt) * fmtMaxLr fmt ≤ 3187000000)

/-- Columns of camera c that segments of the active maps cover, counted once for each plane (R38, R273). -/
def State.mappedCols (s : State) (c : Nat) : Nat :=
  ((List.range 8).flatMap (fun p => (mapRun (s.rd (Reg.NOZ_PLMAP p))).filter (fun g => s.segCam g == c))).foldl
    (fun a g => a + (s.segLast g + 1 - s.segFirst g)) 0

/-- Updates per second that camera c brings the nozzle accountant with blocks of `lines` lines, as a quotient (R38). -/
def State.nozLoad (s : State) (c lines : Nat) : Nat × Nat := (s.mappedCols c * fmtMaxLr (s.camFmt c), max 1 lines)

/-- The load of cameras with their block lines stays within 2.0 G updates/s (R38). -/
def State.nozFits (s : State) (l : List (Nat × Nat)) : Bool :=
  let q := l.foldl (fun (a : Nat × Nat) e =>
    let b := s.nozLoad e.1 e.2
    (a.1 * b.2 + b.1 * a.2, a.2 * b.2)) (0, 1)
  decide (q.1 ≤ 2000000000 * q.2)

/-- Block lines of a camera, by its first stripe's shadow. -/
def State.camBlkLines (s : State) (c : Nat) : Nat := ((s.camPipes c).head?).elim 0 (fun n => s.fld (Reg.PIPE_BLK n) 0 11)

/-- The total load of the accountant fits with camera c bound with blocks of `lines` lines (R38). -/
def State.nozOk (s : State) (c lines : Nat) : Bool :=
  s.nozFits ((c, lines) :: (s.bench.nozCams.filter (· != c)).map (fun k => (k, s.camBlkLines k)))

/-- RINGFMT of camera c, by its first stripe's shadow. -/
def State.camRingFmt (s : State) (c : Nat) : Nat := ((s.camPipes c).head?).elim 0 (fun n => s.fld (Reg.PIPE_OUT n) 2 2)

/-- Image bytes per second of camera c (R306). -/
def State.imageLoad (s : State) (c rf : Nat) : Nat :=
  fmtWidth (s.camFmt c) * fmtPlanesOut (s.camFmt c) * ringBytes rf * fmtMaxLr (s.camFmt c)

/-- The tenant's image load, with camera c at `own` bytes per second, stays within 90 % of its MINBW (R39, R306). -/
def State.imageOk (s : State) (t c own : Nat) : Bool :=
  let rest := ((List.range 96).filter (fun k => k != c && s.owns t Part.cam k && s.bit (Reg.CRU_CAMCFG k) 16)).foldl
    (fun a k => a + s.imageLoad k (s.camRingFmt k)) 0
  decide ((rest + own) * 10 ≤ s.fld (Reg.DLV_TSHARE t) 16 16 * 100000000 * 9)

/-! ## Stripes -/

/-- The pipeline that carries stripe st of camera c, or that is isolated with it. -/
def State.stripeOf (s : State) (c st : Nat) : Option Nat :=
  let l := (List.range 104).filter (fun n => s.pipeCam n == some c && s.fld (Reg.PIPE_BIND n) 8 3 == st)
  match l.find? (fun n => !s.pipeBit n 6) with
  | some n => some n
  | none => l.head?

/-- Pipelines bound to camera c, isolated ones too. -/
def State.boundPipes (s : State) (c : Nat) : List Nat := (List.range 104).filter (fun n => s.pipeCam n == some c)

/-- Pipelines of the stripe byte of a command: 0xFF is all of them. -/
def State.stripes (s : State) (c st : Nat) : List Nat :=
  if st = 0xFF then s.camPipes c else (s.camPipes c).filter (fun n => s.fld (Reg.PIPE_BIND n) 8 3 == st)

/-- Generators that trigger camera c. -/
def State.camGens (s : State) (c : Nat) : List Nat := (List.range 96).filter (fun g => s.genMsg g && s.genCam g == c)

/-- Firmware writes a word of pipeline n's shadow and its image (R226). -/
def State.fwShadow (s : State) (n k : Nat) (v : Word) : State := (s.shadowWrite n k v).wr (Reg.IMG k) v

/-- Firmware keeps TRG_TSBLK equal to the block length of the camera's pipelines, 1 for an area camera (R84, R212), and their
pitch equal to its generator's (R205). -/
def State.keepGrid (s : State) (c : Nat) : State :=
  if s.camPipes c = [] then s
  else
    let lines := if fmtArea (s.camFmt c) then 1 else s.camBlkLines c
    let s1 := s.each (s.camGens c) (fun t g => t.wr (Reg.TRG_TSBLK g) (w32 lines))
    match (s.camGens c).head? with
    | some g => s1.each (s1.camPipes c) (fun t n =>
      (t.fwShadow n (Reg.PIPE_DPPITCH_I n) (t.rd (Reg.TRG_TSPITCH_I g))).fwShadow n (Reg.PIPE_DPPITCH_F n)
        (t.rd (Reg.TRG_TSPITCH_F g)))
    | none => s1

/-- Firmware keeps the slack of camera c at its block length unless a delivery command gave another (R289). -/
def State.keepSlack (s : State) (c : Nat) : State :=
  if s.bench.slackCams.contains c then s else s.setFld (Reg.CRU_CAMCFG c) 0 12 (s.camBlkLines c)

/-! ## Camera-wide tables (R188) -/

/-- Firmware writes one entry of a camera-wide table into pipeline n's slice: shading by column, the defect map and tone
tables whole (R199, R201, R214). -/
def State.sliceWrite (s : State) (n table plane e v : Nat) : State :=
  let b := 1 - s.pipeBank n
  if table = 0 then
    let fw := s.pipeCols n
    if fw.1 ≤ e ∧ e < fw.1 + fw.2 then s.fwShadow n (Reg.PTAB n b 0 ((plane * 4096 + (e - fw.1)) * 4)) (w32 v) else s
  else if table = 1 then s.fwShadow n (Reg.PTAB n b 1 (4 * e)) (w32 v)
  else s.fwShadow n (Reg.PTAB n b 2 ((plane * 257 + e) * 4)) (w32 v)

/-- Firmware keeps an entry of a camera-wide table and writes it into every stripe. -/
def State.tableEntry (s : State) (c table plane e v : Nat) : State :=
  let key : Nat × Nat × Nat × Nat × Nat → Bool := fun x => x.1 == c && x.2.1 == table && x.2.2.1 == plane && x.2.2.2.1 == e
  let s1 := s.setBench { s.bench with tables := s.bench.tables.filter (fun x => !key x) ++ [(c, table, plane, e, v)] }
  s1.each (s1.camPipes c) (fun t n => t.sliceWrite n table plane e v)

/-! ## Commands -/

/-- Core of stripe st of PIPE_BIND: CFIRST and CWIDTH (R186). -/
def Cmd.stripeCore (c : Cmd) (width st : Nat) : Nat × Nat :=
  let n := c.at 1 1
  if (c.payload.drop 16).take 32 |>.all (· == 0#8) then
    (st * width / n, (st + 1) * width / n - st * width / n)
  else (c.at (16 + 4 * st) 2, c.at (18 + 4 * st) 2)

/-- The core of stripe st of n stripes with an assay: each boundary lies at the largest multiple of 64 not above its default
(R231). -/
def alignCore (width n st : Nat) : Nat × Nat :=
  let edge : Nat → Nat := fun i => if i = n then width else i * width / n / 64 * 64
  (edge st, edge (st + 1) - edge st)

/-- The shadow of pipeline n compares or sums, so its camera's cores are aligned (R231). -/
def State.asyAligned (s : State) (n : Nat) : Bool := s.bit (Reg.ASY_CFG n) 0 || s.bit (Reg.ASY_CFG n) 5

/-- AHALO of pipeline n's shadow is too small for an ASY_CFG value (R231). -/
def State.haloBad (s : State) (n : Nat) (cfg : Word) : Bool :=
  (bitOf cfg 0 || bitOf cfg 5) && decide (s.fld (Reg.PIPE_COLS n + 0x7C) 4 7 < if bitOf cfg 1 then 32 else 8)

/-- Bytes of a reference pixel (Table 8.1). -/
def fmtPixel (fmt : Nat) : Nat := if fmt = 0 then 2 else if fmt = 3 then 8 else 4

/-- Four rows of a span of w columns fit in 64 KiB in a page's format (R239). -/
def bandOk (w : Nat) (xscl : Word) (fmt : Nat) : Bool :=
  decide (4 * ((w * xscl.toNat + 2 ^ 30 - 1) / 2 ^ 30 + 2) * fmtPixel fmt ≤ 65536)

/-- Descriptor slots of tenant t: (slot, descriptor). -/
def State.tenantPages (s : State) (t : Nat) : List (Nat × List Byte) :=
  (s.pages.filter (fun e => e.2 == t + 1)).map (fun e => (e.1, s.pageDesc e.1))

/-- Pipelines of PIPE_BIND in stripe order. -/
def Cmd.bindPipes (c : Cmd) : List Nat := (List.range (c.at 1 1)).map (fun i => c.at (8 + i) 1)

/-- Core that PIPE_BIND gives stripe st. -/
def State.bindCore (s : State) (c : Cmd) (width st : Nat) : Nat × Nat :=
  if c.bindPipes.any s.asyAligned then alignCore width (c.at 1 1) st else c.stripeCore width st

/-- PIPE_BIND and PIPE_COLS words of stripe st. -/
def State.stripeWords (s : State) (c : Cmd) (width st : Nat) : Word × Word :=
  let co := s.bindCore c width st
  (w32 (1 + c.at 0 1 * 2 + st * 256 + (c.at 1 1 - 1) * 4096), w32 (co.1 + co.2 * 65536))

/-- The cores tile the camera's columns in stripe order (R186). -/
def Cmd.tiles (c : Cmd) (width : Nat) : Bool :=
  let l := (List.range (c.at 1 1)).map (c.stripeCore width)
  decide (l.foldl (fun (a : Option Nat) e => if a = some e.1 ∧ e.2 ≠ 0 then some (e.1 + e.2) else none) (some 0) = some width)

/-- Block lines of a binding: those of the command, HEIGHT for an area camera (R212). -/
def State.bindLines (s : State) (c : Cmd) : Nat :=
  if fmtArea (s.camFmt (c.at 0 1)) then fmtHeight (s.camFmt (c.at 0 1)) else c.at 4 2

/-- A block length that the pipelines take (R212, R223). -/
def blkOk (lines : Nat) : Bool := decide (16 ≤ lines ∧ lines ≤ 1024 ∧ lines % 16 = 0)

/-- A shadow bank of pipeline n with the words that PIPE_BIND gives it. -/
def State.bindBank (s : State) (n : Nat) (cols : Word) (lines : Nat) : Bank :=
  let b := s.shadowBank n
  { b with ctx := setNth (setNth b.ctx 0 cols) 1 (w32 lines) }

/-- Greatest line cache need of a binding (R190). -/
def State.bindNeed (s : State) (c : Cmd) : Nat :=
  let fmt := s.camFmt (c.at 0 1)
  maxList (c.bindPipes.zipIdx.map (fun e =>
    let w := s.stripeWords c (fmtWidth fmt) e.2
    cacheNeed (s.bindBank e.1 w.2 (s.bindLines c)) w.1 fmt))

/-- Processed columns of each stripe of PIPE_BIND. -/
def State.bindCols (s : State) (c : Cmd) : List Nat :=
  c.bindPipes.zipIdx.map (fun e =>
    let w := s.stripeWords c (fmtWidth (s.camFmt (c.at 0 1))) e.2
    (stripeCols w.2 w.1).2)

/-- The assay contexts of the pipelines of PIPE_BIND do not fit its stripes (R231, R239). -/
def State.bindAsyBad (s : State) (c : Cmd) : Bool :=
  (c.bindPipes.zip (s.bindCols c)).any (fun e => s.haloBad e.1 (s.rd (Reg.ASY_CFG e.1)) || (s.bit (Reg.ASY_CFG e.1) 0 &&
    (s.tenantPages c.tenant).any (fun d => !bandOk e.2 (s.rd (Reg.ASY_XSCL e.1)) (pgFmt d.2))))

/-- What PIPE_BIND asks for exceeds a capacity (R39, R189, R190, R38, R306). -/
def State.bindOver (s : State) (c : Cmd) : Bool :=
  let k := c.at 0 1
  let fmt := s.camFmt k
  (s.bindCols c).any (fun w => !rateOk fmt w) || decide (327680 < s.bindNeed c) || !s.payloadOk k fmt ||
    (c.at 2 1 == 1 && !s.nozOk k (s.bindLines c)) ||
    (s.bit (Reg.CRU_CAMCFG k) 16 &&
      !s.imageOk c.tenant k (s.imageLoad k (c.bindPipes.head?.elim 0 (fun n => s.fld (Reg.PIPE_OUT n) 2 2))))

/-- Why firmware refuses PIPE_BIND. -/
def State.bindRefusals (s : State) (c : Cmd) : List (Bool × Nat) :=
  let k := c.at 0 1
  let fmt := s.camFmt k
  let ps := c.bindPipes
  let group := ((s.bondLanes k).headD 0) / 13
  s.camRefusals c true ++ [
    (c.short 48 [(3, 1), (6, 2)] || decide (2 ≤ c.at 2 1) || c.at 1 1 == 0 || decide (8 < c.at 1 1) || !blkOk (c.at 4 2) ||
      (fmtOk fmt && (!blkOk (s.bindLines c) || !fmtSpanOk fmt || !c.tiles (fmtWidth fmt) ||
        (s.bindCols c).any (fun w => decide (4096 < w)))), St.badParam),
    (decide (ps.eraseDups.length ≠ ps.length) || ps.any (fun n => n / 13 != group || n % 13 == 12) ||
      ps.any (fun n => (s.pipeCam n).isSome && s.pipeCam n != some k) || s.bindAsyBad c, St.badParam),
    (ps.any (fun n => s.foreign c.tenant Part.pipe 104 n), St.isolation),
    (ps.any (fun n => decide (104 ≤ n) || s.pipeBit n 6), St.noObject),
    (!fmtOk fmt || s.boundPipes k != [] || ps.any (fun n => !s.clkOn (104 + n)), St.state), (s.claimed 5, St.busy),
    (s.bindOver c, St.capacity)]

/-- The stripes of PIPE_BIND are bound: PIPE_BIND, PIPE_COLS and PIPE_BLK of each, and its slices of the camera's tables
(R186, R188, R212). -/
def State.bindStripes (s : State) (c : Cmd) : State :=
  let k := c.at 0 1
  let s1 := s.each c.bindPipes.zipIdx (fun t e =>
    let w := s.stripeWords c (fmtWidth (s.camFmt k)) e.2
    ((t.pipeBind e.1 w.1).fwShadow e.1 (Reg.PIPE_COLS e.1) w.2).fwShadow e.1 (Reg.PIPE_BLK e.1) (w32 (s.bindLines c)))
  s1.each (s1.bench.tables.filter (fun x => x.1 == k)) (fun t x =>
    t.each c.bindPipes (fun u n => u.sliceWrite n x.2.1 x.2.2.1 x.2.2.2.1 x.2.2.2.2))

/-- Firmware counts camera k among those with nozzle accounting, or not (R38). -/
def State.nozCount (s : State) (k : Nat) (on : Bool) : State :=
  s.setBench { s.bench with nozCams := s.bench.nozCams.filter (· != k) ++ (if on then [k] else []) }

/-- PIPE_BIND (0x0301, R185, R186, R189, R190, R231, R239, R38, R39). -/
def execPipeBind (f : Fin 16) (slot : Fin 64) (s : State) : Res := s.alive fun s =>
  s.onCmd f slot 0x0301 (fun c s => s.cmdDo c (s.bindRefusals c) (fun s =>
    let k := c.at 0 1
    let s1 := (s.bindStripes c).nozCount k (c.at 2 1 == 1)
    (((s1.keepSlack k).keepGrid k).autoTemper, leBytes 4 (s.bindNeed c))))

/-- A format that camera k would have under a LINK_CAMCFG value exceeds what its binding has (R39). -/
def State.fmtOver (s : State) (t k : Nat) (cfg : Word) : Bool :=
  let s1 := s.wr (Reg.LINK_CAMCFGA k) cfg
  let fmt := s1.camFmt k
  s.camPipes k != [] && s.fmtGood k cfg &&
    ((s.camPipes k).any (fun n => !rateOk fmt (s.pipeCols n).2) ||
      !s.payloadOk k fmt || (s.bench.nozCams.contains k && !s1.nozOk k (s.camBlkLines k)) ||
      (s.bit (Reg.CRU_CAMCFG k) 16 && !s1.imageOk t k (s1.imageLoad k (s.camRingFmt k))))

/-- CAM_FORMAT_SELECT (0x0205): applied under R176, refused beyond the capacity of the binding (R39). -/
def execCamFormatSelect (f : Fin 16) (slot : Fin 64) (s : State) : Res := s.alive fun s =>
  s.onCmd f slot 0x0205 (fun c s =>
    let k := c.at 0 1
    let b := c.at 1 1
    let cfg := (s.rd (Reg.LINK_CAMCFG k) &&& 0xC1#32) ||| w32 (b % 2 * 2 + b / 16 * 4)
    s.cmdRun c (s.camRefusals c true ++ [
      (c.short 2 [] || decide (b / 2 % 8 ≠ 0) || ((s.fmtOf k cfg).any fun f => fmtOk f && !fmtSpanOk f), St.badParam),
      (s.claimed 4, St.busy), (s.fmtOver c.tenant k cfg, St.capacity)])
      (fun s => s.camCfgWrite k cfg))

/-- PIPE_UNBIND (0x0302): STATE while a pipeline is enabled. -/
def execPipeUnbind (f : Fin 16) (slot : Fin 64) (s : State) : Res := s.alive fun s =>
  s.onCmd f slot 0x0302 (fun c s =>
    let k := c.at 0 1
    s.cmdRun c (s.camRefusals c true ++ [
      (c.short 1 [], St.badParam), (s.boundPipes k == [], St.noObject), ((s.camPipes k).any s.pipeEn, St.state),
      (s.claimed 5, St.busy)])
      (fun s =>
        ((s.each (s.boundPipes k) (fun t n => t.wr (Reg.PIPE_BIND n) 0#32)).nozCount k false).autoTemper))

/-- A value of a context register that no swap would take (R223): block length, KSEL, RINGFMT, NSTAT; AHALO above 64. -/
def ctxBad (e : Nat × Nat) : Bool :=
  let v := w32 e.2
  let blk := fldOf v 0 11
  (e.1 == 0x04 && !blkOk blk) || (e.1 == 0x28 && fldOf v 0 2 == 3) ||
    (e.1 == 0x7C && (fldOf v 2 2 == 3 || decide (64 < fldOf v 4 7))) || (e.1 == 0x14 && decide (1024 < fldOf v 16 11))

/-- PIPE_CONTEXT_WRITE (0x0303, R39, R205, R212, R289, R399). -/
def execPipeContextWrite (f : Fin 16) (slot : Fin 64) (s : State) : Res := s.alive fun s =>
  s.onCmd f slot 0x0303 (fun c s =>
    let k := c.at 0 1
    let ps := s.stripes k (c.at 1 1)
    let l := c.pairs 8
    let lines := fldOf (c.pairVal 8 0x04 (w32 (s.camBlkLines k))) 0 11
    let out := c.pairVal 8 0x7C (w32 (4 * s.camRingFmt k))
    s.cmdRun c (s.camRefusals c true ++ [
      (c.short 8 [(2, 6)] || !c.pairsForm 8 || l.any (fun e => !pairOk (Reg.PIPE_COLS 0) 0x04 0x7C e || ctxBad e) ||
        (fmtArea (s.camFmt k) && lines != fmtHeight (s.camFmt k)), St.badParam),
      (ps == [], St.noObject), (s.claimed 5, St.busy),
      ((s.bench.nozCams.contains k && !s.nozOk k lines) ||
        (s.bit (Reg.CRU_CAMCFG k) 16 && !s.imageOk c.tenant k (s.imageLoad k (fldOf out 2 2))), St.capacity)])
      (fun s =>
        let s1 := s.each ps (fun t n => t.each l (fun u e => u.fwShadow n (Reg.PIPE_COLS n + e.1) (w32 e.2)))
        (s1.keepSlack k).keepGrid k))

/-- PIPE_TABLE_WRITE (0x0304, R188). -/
def execPipeTableWrite (f : Fin 16) (slot : Fin 64) (s : State) : Res := s.alive fun s =>
  s.onCmd f slot 0x0304 (fun c s =>
    let k := c.at 0 1
    let table := c.at 1 1
    let first := c.at 4 2
    let n := c.at 6 2
    let top := if table = 0 then fmtWidth (s.camFmt k) else if table = 1 then 1024 else 257
    s.cmdRun c (s.camRefusals c true ++ [
      (c.short 16 [(3, 1), (8, 8)] || decide (c.len < 16 + 4 * n) || n == 0 || decide (56 < n) || decide (2 < table) ||
        decide (2 < c.at 2 1) || decide (top < first + n) ||
        (table == 2 && (List.range n).any (fun i => decide (c.at (19 + 4 * i) 1 ≠ 0))), St.badParam),
      (s.boundPipes k == [], St.noObject), (s.claimed 5, St.busy)])
      (fun s => s.each (List.range n) (fun t i =>
        t.tableEntry k table (if table = 1 then 0 else c.at 2 1) (first + i) (c.at (16 + 4 * i) 4))))

/-- PIPE_ARM (0x0305, R220). -/
def execPipeArm (f : Fin 16) (slot : Fin 64) (s : State) : Res := s.alive fun s =>
  s.onCmd f slot 0x0305 (fun c s =>
    let k := c.at 0 1
    let gen := c.at 1 1 == 1
    s.cmdRun c (s.camRefusals c true ++ [
      (c.short 2 [] || decide (2 ≤ c.at 1 1), St.badParam), (s.camPipes k == [], St.noObject),
      (s.claimed 5 || (gen && s.claimed 1), St.busy)])
      (fun s =>
        let s1 := s.each (s.camPipes k) (fun t n => t.pipeCmdArm n)
        if gen then s1.each (s1.camGens k) (fun t g => t.tsArm g) else s1))

/-- PIPE_ENABLE (0x0306, R224). -/
def execPipeEnable (f : Fin 16) (slot : Fin 64) (s : State) : Res := s.alive fun s =>
  s.onCmd f slot 0x0306 (fun c s =>
    let k := c.at 0 1
    s.cmdRun c (s.camRefusals c true ++ [
      (c.short 2 [] || decide (2 ≤ c.at 1 1), St.badParam), (s.camPipes k == [], St.noObject), (s.claimed 5, St.busy)])
      (fun s => s.each (s.camPipes k) (fun t n => t.pipeCtl n (w32 (c.at 1 1)))))

/-- PIPE_STATUS (0x0307): 16 bytes for each stripe. -/
def execPipeStatus (f : Fin 16) (slot : Fin 64) (s : State) : Res := s.alive fun s =>
  s.onCmd f slot 0x0307 (fun c s =>
    let k := c.at 0 1
    s.cmdDo c (s.camRefusals c true ++ [(c.short 1 [], St.badParam), (s.boundPipes k == [], St.noObject)]) (fun s =>
      (s, (List.range 8).flatMap (fun st => (s.stripeOf k st).elim [] (fun n =>
        s.regsBytes [Reg.PIPE_STAT n, Reg.PIPE_OVF n, Reg.PIPE_GAPCNT n, Reg.PIPE_BLKSEQ n])))))

end Sys2Proof.Machine
end

