-- ==== Sys2Proof/Machine/CmdTrig.lean ====
section
/-!
DEFINITION. The commands of positions, triggers and routes (Table 13.13): axes (R24), generators (R18, R81, R84, R99),
compare lists (R88, R90, R163), pins (R95, R97, R98) and event routes (R109, R111).
-/
namespace Sys2Proof.Machine
open Sys2Proof

/-! ## Axes -/

/-- Refusals of a command to axis n from its owner alone (R24, R405). -/
def State.axRefusals (s : State) (c : Cmd) : List (Bool × Nat) :=
  [(s.foreign c.tenant Part.axOwn 8 (c.at 0 1), St.isolation), (decide (8 ≤ c.at 0 1), St.noObject)]

/-- Write one register of Table 2.6 of axis n, with the effects its own rows of the opcode table give it. -/
def State.axRegWrite (s : State) (n off : Nat) (v : Word) : State :=
  if off = 0 then s.axEnWrite n (bitOf v 0)
  else if off = 4 then s.axCtlWrite n v
  else s.putReg (Reg.POS_AXEN n + off) v

/-- AXIS_SET (0x0401, R24, R399). -/
def execAxisSet (f : Fin 16) (slot : Fin 64) (s : State) : Res := s.alive fun s =>
  s.onCmd f slot 0x0401 (fun c s =>
    let n := c.at 0 1
    s.cmdRun c (s.axRefusals c ++ [
      (c.short 8 [(1, 7)] || !c.pairsForm 8 || (c.pairs 8).any (fun e => !pairOk (Reg.POS_AXEN 0) 0 0xDC e), St.badParam),
      (s.claimed 0, St.busy)])
      (fun s => s.each (c.pairs 8) (fun t e => t.axRegWrite n e.1 (w32 e.2))))

/-- One write of POS_AXCMD (Table 2.8). -/
def State.axCmdWrite (s : State) (n : Nat) (v : Word) : State :=
  let s1 := if bitOf v 4 then s.axClrCnt n else s
  let s2 := if bitOf v 3 then s1.setBit (Reg.POS_AXSTAT n) 4 false else s1
  let s3 := if bitOf v 2 && s2.fld (Reg.POS_AXABSPER n) 0 16 == 0 then s2.absReq n else s2
  let s4 := if bitOf v 1 then s3.axArm n else s3
  if bitOf v 0 then s4.axResync n else s4

/-- AXIS_CMD (0x0402). -/
def execAxisCmd (f : Fin 16) (slot : Fin 64) (s : State) : Res := s.alive fun s =>
  s.onCmd f slot 0x0402 (fun c s =>
    s.cmdRun c (s.axRefusals c ++ [(c.short 2 [] || decide (32 ≤ c.at 1 1), St.badParam), (s.claimed 0, St.busy)])
      (fun s => s.axCmdWrite (c.at 0 1) (w32 (c.at 1 1))))

/-- AXIS_READ (0x0403): any tenant that lists the axis (R405). -/
def execAxisRead (f : Fin 16) (slot : Fin 64) (s : State) : Res := s.alive fun s =>
  s.onCmd f slot 0x0403 (fun c s =>
    let n := c.at 0 1
    s.cmdDo c [
      (c.short 1 [], St.badParam), (if n < 8 then !s.usesAxis c.tenant n else c.tenant != 0, St.isolation),
      (decide (8 ≤ n), St.noObject)] (fun s =>
      (s, leBytes 6 (s.axPos n).toNat ++ leBytes 6 (s.axHwm n).toNat ++
        s.regsBytes [Reg.POS_AXVEL n, Reg.POS_AXSTAT n, Reg.POS_AXSPD_LO n, Reg.POS_AXSPD_LO n + 4] ++
        leBytes 6 (s.rd64 (Reg.POS_AXIDX_LO n)) ++ leBytes 2 0 ++ s.regsBytes [Reg.POS_AXDRIFT n])))

/-- POS_SNAPSHOT (0x0404, R72). -/
def execPosSnapshot (f : Fin 16) (slot : Fin 64) (s : State) : Res := s.alive fun s =>
  s.onCmd f slot 0x0404 (fun c s =>
    s.cmdDo c [(c.short 0 [], St.badParam), (s.claimed 0, St.busy)] (fun s =>
      let s1 := s.snapshot
      (s1, leBytes 8 (s1.rd64 Reg.POS_SNAPT_LO) ++ (List.range 8).flatMap (fun n =>
        leBytes 6 (if s1.usesAxis c.tenant n then s1.rd64 (Reg.POS_AXSNAP_LO n) else 0)))))

/-! ## Generators -/

/-- Least exposure delay that R99 allows camera k, in picoseconds: t_PM + t_BW + t_SER + the one-way cable delay + the
camera's setup time. -/
def State.xdlyFloor (s : State) (k : Nat) : Nat :=
  let n := (s.bondLanes k).headD 0
  30000 + (3 * 66 * 1000000000000 + lineRate (s.laneA1 n) (s.laneTx n) - 1) / lineRate (s.laneA1 n) (s.laneTx n) +
    s.fld (Reg.LINK_CAMDLY k) 0 24 * 625 / 16 + leAt (s.rdBytes (Reg.LINK_CAPREC k 0) 128) 24 2 * 1000

/-- Firmware's minimum trigger interval for camera k: 400 ticks or the camera's MINPER in ticks, the larger (R81). -/
def State.minPerOf (s : State) (k : Nat) : Nat := max 400 ((leAt (s.rdBytes (Reg.LINK_CAPREC k 0) 128) 20 4 * 8 + 4) / 5)

/-- Refusals of a command to a generator. -/
def State.genRefusals (s : State) (c : Cmd) : List (Bool × Nat) :=
  [(s.foreign c.tenant Part.tsgen 96 (c.at 0 1), St.isolation), (decide (96 ≤ c.at 0 1), St.noObject)]

/-- The generator's setup would name what its tenant may not use (R25, R109). -/
def State.tsForeign (s : State) (t : Nat) (v : Word) : Bool :=
  !s.usesAxis t (fldOf v 0 3) || (bitOf v 10 && s.foreign t Part.cam 96 (fldOf v 3 7)) ||
    (bitOf v 16 && !s.owns t Part.pinOut (fldOf v 11 5)) || (bitOf v 25 && !s.owns t Part.evch (fldOf v 17 8))

/-- The generator's setup breaks R18 or R99: its camera's axis, and the camera's floor of the exposure delay. A generator
with MSGEN clear serves the bound camera that CAM names, if any. -/
def State.tsBad (s : State) (v xdly : Word) : Bool :=
  let k := fldOf v 3 7
  (bitOf v 10 && decide (96 ≤ k)) ||
    ((bitOf v 10 || (s.cam k).bound) && (decide (fldOf v 0 3 ≠ (s.cam k).axis) ||
      decide (fldOf xdly 0 16 * 625 < s.xdlyFloor k)))

/-- Firmware writes one register of Table 3.6 with its effect: a shadowed one at once while the generator is stopped
(R84). -/
def State.tsRegWrite (s : State) (g off : Nat) (v : Word) : State :=
  (s.putReg (Reg.TRG_TSCTL g + off) v).tsShadowWritten g off

/-- TS_SET (0x0405, R18, R81, R84, R99, R399). -/
def execTsSet (f : Fin 16) (slot : Fin 64) (s : State) : Res := s.alive fun s =>
  s.onCmd f slot 0x0405 (fun c s =>
    let g := c.at 0 1
    let v := c.pairVal 8 0 (s.rd (Reg.TRG_TSCTL g))
    let xdly := c.pairVal 8 0x20 (s.rd (Reg.TRG_TSXDLY g))
    let k := fldOf v 3 7
    s.cmdRun c (s.genRefusals c ++ [
      (c.short 8 [(1, 7)] || !c.pairsForm 8 || (c.pairs 8).any (fun e => !pairOk (Reg.TRG_TSCTL 0) 0 0x30 e) ||
        s.tsBad v xdly, St.badParam),
      (s.tsForeign c.tenant v, St.isolation), (bitOf v 10 && !(s.cam k).bound, St.noObject), (s.claimed 1, St.busy)])
      (fun s =>
        let s1 := s.each (c.pairs 8) (fun t e => t.tsRegWrite g e.1 (w32 e.2))
        let s2 := if bitOf v 10 then s1.wr (Reg.TRG_TSMINPER g)
            (w32 (max (fldOf (c.pairVal 8 0x24 0#32) 0 20) (s1.minPerOf k) % 2 ^ 20)) else s1
        if bitOf v 10 then s2.keepGrid k else s2))

/-- TS_CMD (0x0406, R83). -/
def execTsCmd (f : Fin 16) (slot : Fin 64) (s : State) : Res := s.alive fun s =>
  s.onCmd f slot 0x0406 (fun c s =>
    let g := c.at 0 1
    s.cmdDo c (s.genRefusals c ++ [(c.short 2 [] || decide (16 ≤ c.at 1 1), St.badParam), (s.claimed 1, St.busy)])
      (fun s =>
        let s1 := s.tsCmdWrite g (w32 (c.at 1 1))
        (s1, s1.regsBytes [Reg.TRG_TSSTAT g, Reg.TRG_TSTRIG g, Reg.TRG_TSOVS g, Reg.TRG_TSMISS g, Reg.TRG_TSDROP g,
          Reg.TRG_TSIDX g])))

/-! ## Compare lists -/

/-- Refusals of a command to a compare list. -/
def State.listRefusals (s : State) (c : Cmd) : List (Bool × Nat) :=
  [(s.foreign c.tenant Part.list 64 (c.at 0 1), St.isolation), (decide (64 ≤ c.at 0 1), St.noObject)]

/-- Compare entries tenant t may hold: its CMQUOTA; tenant 0 has what the VF tenants leave (R88, R404). -/
def State.cmQuota (s : State) (t : Nat) : Nat :=
  if t = 0 then 65536 - s.partSum 0 [] 24 4 else leAt (s.part t) 24 4

/-- First entry of a free run of n entries among rings in order of first entry. -/
def ringGap (n : Nat) : Nat → List (Nat × Nat × Nat) → Option Nat
  | b, [] => if b + n ≤ 65536 then some b else none
  | b, r :: rest => if b + n ≤ r.2.1 then some b else ringGap n (max b (r.2.1 + r.2.2)) rest

/-- Insert a ring in order of first entry. -/
def ringIns (x : Nat × Nat × Nat) : List (Nat × Nat × Nat) → List (Nat × Nat × Nat)
  | [] => [x]
  | r :: rest => if x.2.1 < r.2.1 then x :: r :: rest else r :: ringIns x rest

/-- Where firmware puts a ring of n entries for list l of tenant t. -/
def State.ringPlace (s : State) (t l n : Nat) : Option Nat :=
  let others := s.bench.clRings.filter (fun r => r.1 != l)
  let held := (others.filter (fun r => s.owns t Part.list r.1)).foldl (fun a r => a + r.2.2) 0
  if held + n ≤ s.cmQuota t then ringGap n 0 others else none

/-- CL_SET (0x0407, R88). -/
def execClSet (f : Fin 16) (slot : Fin 64) (s : State) : Res := s.alive fun s =>
  s.onCmd f slot 0x0407 (fun c s =>
    let l := c.at 0 1
    let v := c.at 1 1
    let n := c.at 4 4
    s.cmdDo c (s.listRefusals c ++ [
      (c.short 8 [(2, 2)] || decide (32 ≤ v) || n == 0 || decide (65536 < n), St.badParam),
      (!s.usesAxis c.tenant (v / 2 % 8), St.isolation), (s.clEn l, St.state), (s.claimed 1, St.busy),
      ((s.ringPlace c.tenant l n).isNone, St.capacity)])
      (fun s =>
        let b := (s.ringPlace c.tenant l n).getD 0
        let s1 := s.setBench { s.bench with clRings := ringIns (l, b, n) (s.bench.clRings.filter (fun r => r.1 != l)) }
        let s2 := ((s1.clGeom l false (w32 b)).clGeom l true (w32 n)).clCtlWrite l (w32 v)
        (s2, leBytes 2 b)))

/-- Entries of CL_APPEND as numbers of 128 bits. -/
def Cmd.entries (c : Cmd) : List Nat := (List.range (c.at 1 1)).map (fun i => c.at (16 + 16 * i) 16)

/-- A WINDOW entry of list l with a generator whose camera takes no OPEN and CLOSE (R163) or is bound to another axis than
the list's (R18). -/
def State.winBad (s : State) (l e : Nat) : Bool :=
  let k := s.genCam (entGen e)
  entAction e == 2 && entGen e != 127 &&
    (decide (s.clAxis l ≠ (s.cam k).axis) || !(decide (leAt (s.rdBytes (Reg.LINK_CAPREC k 0) 128) 26 2 % 2 = 1)) || fmtTrgMode (s.camFmt k) == 0)

/-- An entry names a pin, generator or channel that is not the tenant's (R25, R109). -/
def State.entForeign (s : State) (t e : Nat) : Bool :=
  (entPinEn e && !s.owns t Part.pinOut (entPin e)) || (entGen e != 127 && s.foreign t Part.tsgen 96 (entGen e)) ||
    (entBits e 120 1 == 1 && !s.owns t Part.evch (entBits e 112 8))

/-- Store entry e at place i of list l's ring. -/
def State.entStore (s : State) (l i e : Nat) : State :=
  let k := s.fld (Reg.TRG_CLBASE l) 0 16 + i
  s.each (List.range 4) (fun t w => t.wr (Reg.CMEM k w) (w32 (e / 2 ^ (32 * w))))

/-- CL_APPEND (0x0408, R88, R90, R163): all entries or none. -/
def execClAppend (f : Fin 16) (slot : Fin 64) (s : State) : Res := s.alive fun s =>
  s.onCmd f slot 0x0408 (fun c s =>
    let l := c.at 0 1
    let n := c.at 1 1
    let size := s.clSize l
    s.cmdDo c (s.listRefusals c ++ [
      (c.short 16 [(2, 14)] || n == 0 || decide (14 < n) || decide (c.len < 16 + 16 * n) ||
        c.entries.any (fun e => entBad e || s.winBad l e), St.badParam),
      (c.entries.any (s.entForeign c.tenant), St.isolation), (s.claimed 1, St.busy),
      (decide ((s.clRd l + 2 * size - s.clWr l - 1) % size < n), St.capacity)])
      (fun s =>
        let s1 := s.each c.entries.zipIdx (fun t e => t.entStore l ((s.clWr l + e.2) % size) e.1)
        let s2 := s1.clWrWrite l (w32 ((s.clWr l + n) % size))
        (s2, leBytes 2 (s2.clWr l))))

/-- CL_STATUS (0x0409). -/
def execClStatus (f : Fin 16) (slot : Fin 64) (s : State) : Res := s.alive fun s =>
  s.onCmd f slot 0x0409 (fun c s =>
    let l := c.at 0 1
    s.cmdDo c (s.listRefusals c ++ [(c.short 1 [], St.badParam)]) (fun s =>
      (s, s.regsBytes [Reg.TRG_CLWR l, Reg.TRG_CLRD l, Reg.TRG_CLDONE l, Reg.TRG_CLMISS l, Reg.TRG_CLWDROP l,
        Reg.TRG_CLERR l, Reg.TRG_CLSTAT l])))

/-! ## Pins -/

/-- A consumer of tenant t may subscribe to channel ch (R109). -/
def State.maySub (s : State) (t ch : Nat) : Bool := s.owns t Part.evch ch || s.fld (Reg.EVR_CHTEN ch) (16 + t) 1 == 1

/-- The register block, last offset and object map of PIN_SET's kind, for one index. -/
def pinBlock (kind i : Nat) : Nat × Nat :=
  if kind = 0 then (Reg.TRG_PINCFG i, 0x10) else if kind = 1 then (Reg.TRG_PAIRCTL i, 0) else (Reg.TRG_INCFG i, 0x1C)

/-- PIN_SET's object lies outside the partition, or names an axis or channel that does (R24, R109). -/
def State.pinForeign (s : State) (c : Cmd) : Bool :=
  let kind := c.at 0 1
  let i := c.at 1 1
  let t := c.tenant
  if kind = 0 then
    let v := c.pairVal 8 0 (s.rd (Reg.TRG_PINCFG i))
    s.foreign t Part.pinOut 32 i || (bitOf v 2 && !s.maySub t (fldOf v 3 8))
  else if kind = 1 then s.foreign t Part.pinOut 32 (2 * i) || s.foreign t Part.pinOut 32 (2 * i + 1)
  else
    let v := c.pairVal 8 0 (s.rd (Reg.TRG_INCFG i))
    s.foreign t Part.pinIn 16 i || !s.usesAxis t (fldOf v 16 3) || (bitOf v 19 && !s.owns t Part.evch (fldOf v 20 8))

/-- Write one register of Tables 3.9, 3.11 and 3.12 with its effect. -/
def State.pinRegWrite (s : State) (kind i off : Nat) (v : Word) : State :=
  if kind = 1 then s.pairCtlWrite i v
  else
    let s1 := s.putReg ((pinBlock kind i).1 + off) v
    if kind = 0 ∧ off = 0 then s1.pinCfgWritten i (s.pinDriven i) else s1

/-- PIN_SET (0x040A, R399). -/
def execPinSet (f : Fin 16) (slot : Fin 64) (s : State) : Res := s.alive fun s =>
  s.onCmd f slot 0x040A (fun c s =>
    let kind := c.at 0 1
    let i := c.at 1 1
    s.cmdRun c [
      (c.short 8 [(2, 6)] || decide (2 < kind) || !c.pairsForm 8 ||
        (c.pairs 8).any (fun e => !pairOk (pinBlock kind 0).1 0 (pinBlock kind 0).2 e), St.badParam),
      (s.pinForeign c, St.isolation), (decide ((if kind = 0 then 32 else 16) ≤ i), St.noObject), (s.claimed 1, St.busy)]
      (fun s => s.each (c.pairs 8) (fun t e => t.pinRegWrite kind i e.1 (w32 e.2))))

/-! ## Routes (R109, R111) -/

/-- The edges of R111 as the registers hold them; node d + 256 is DMA channel d. -/
def State.routeEdges (s : State) : List (Nat × Nat) :=
  (List.range 512).flatMap (fun d =>
    (if s.bit (Reg.EVR_SUB (32 + d)) 8 then [(s.fld (Reg.EVR_SUB (32 + d)) 0 8, d + 256)] else []) ++
    (if s.bit (Reg.EVR_PUB (352 + d)) 8 then [(d + 256, s.fld (Reg.EVR_PUB (352 + d)) 0 8)] else []) ++
    (if s.chPace d = 2 then [(s.fld (Reg.DMA_CHPACE d) 2 9 + 256, d + 256)] else []))

/-- Nodes reached from a set in at most n rounds. -/
def reachN (es : List (Nat × Nat)) : Nat → List Nat → List Nat
  | 0, seen => seen
  | n + 1, seen =>
    let new := ((es.filter (fun e => seen.contains e.1 && !seen.contains e.2)).map (·.2)).eraseDups
    if new = [] then seen else reachN es n (seen ++ new)

/-- A new edge closes a cycle (R111). -/
def closesCycle (es : List (Nat × Nat)) (a b : Nat) : Bool := (reachN es 768 [b]).contains a

/-- A route that DMA channel d is to publish on or be paced by channel ch closes a cycle; its old route goes. -/
def State.routeCycle (s : State) (pub : Bool) (d ch : Nat) : Bool :=
  if pub then closesCycle (s.routeEdges.filter (fun e => e.1 != d + 256 || decide (256 ≤ e.2))) (d + 256) ch
  else closesCycle (s.routeEdges.filter (fun e => e.2 != d + 256 || decide (256 ≤ e.1))) ch (d + 256)

/-- ROUTE_PUB (0x040B, R109, R111). -/
def execRoutePub (f : Fin 16) (slot : Fin 64) (s : State) : Res := s.alive fun s =>
  s.onCmd f slot 0x040B (fun c s =>
    let p := c.at 0 2
    let ch := c.at 2 1
    let en := c.at 3 1 == 1
    let own := p == 1024 || p == 1025
    s.cmdRun c [
      (c.short 4 [] || decide (2 ≤ c.at 3 1), St.badParam),
      (!s.owns c.tenant Part.evch ch || (!own && s.producerOwner p != c.tenant), St.isolation),
      (!own && decide (866 ≤ p), St.noObject),
      (s.claimed (if own then 1 else 2), St.busy),
      (en && decide (352 ≤ p) && decide (p < 864) && s.routeCycle true (p - 352) ch, St.cycle)]
      (fun s =>
        if own then s.setFld (Reg.TRG_EVMAP c.tenant) (16 * (p - 1024)) 9 (ch + 256 * b2n en)
        else s.evrWrite false p (w32 (ch + 256 * b2n en))))

/-- The gate of ROUTE_SUB is on an axis or input that the tenant's partition does not list (R109). -/
def State.gateForeign (s : State) (t g : Nat) : Bool :=
  if g < 24 then !s.usesAxis t (g % 8) else if g < 40 then !s.owns t Part.pinIn (g - 24) else false

/-- ROUTE_SUB (0x040C, R108, R109, R111). -/
def execRouteSub (f : Fin 16) (slot : Fin 64) (s : State) : Res := s.alive fun s =>
  s.onCmd f slot 0x040C (fun c s =>
    let k := c.at 0 2
    let ch := c.at 2 1
    let v := c.at 3 1
    let g := c.at 4 1
    s.cmdRun c [
      (c.short 5 [] || decide (8 ≤ v) || decide (64 ≤ g), St.badParam),
      (s.consumerOwner k != c.tenant || !s.maySub c.tenant ch || (v / 2 % 2 == 1 && s.gateForeign c.tenant g),
        St.isolation),
      (decide (641 ≤ k), St.noObject), (s.claimed 2 || (decide (k < 32) && s.claimed 1), St.busy),
      (v % 2 == 1 && decide (32 ≤ k) && decide (k < 544) && s.routeCycle false (k - 32) ch, St.cycle)]
      (fun s =>
        let s1 := s.evrWrite true k (w32 (ch + v % 2 * 256 + g * 512 + v / 4 % 2 * 32768 + v / 2 % 2 * 65536))
        if k < 32 then s1.setFld (Reg.TRG_PINCFG k) 2 9 (v % 2 + 2 * ch) else s1))

/-- ROUTE_SHARE (0x040D, R109). -/
def execRouteShare (f : Fin 16) (slot : Fin 64) (s : State) : Res := s.alive fun s =>
  s.onCmd f slot 0x040D (fun c s =>
    s.cmdRun c [
      (c.short 4 [(1, 1)], St.badParam), (!s.owns c.tenant Part.evch (c.at 0 1), St.isolation), (s.claimed 2, St.busy)]
      (fun s => s.setFld (Reg.EVR_CHTEN (c.at 0 1)) 16 16 (c.at 2 2)))

end Sys2Proof.Machine
end

