-- ==== Sys2Proof/Machine/TwinItems.lean ====
section
/-!
DEFINITION. Pages and placements on a paired twin (R434): an item waits until both twins hold it, then the LEAD names the
position from which it acts.
-/
namespace Sys2Proof.Machine
open Sys2Proof

/-- TWIN_STAT.STATE and ROLE (Table 14.13). -/
def State.twinState (s : State) : Nat := s.fld Reg.TWIN_STAT 0 3
def State.twinRole (s : State) : Nat := s.fld Reg.TWIN_STAT 3 2
/-- This device is PAIRED. -/
def State.paired (s : State) : Bool := s.twinState == 2
/-- Set the twin unit's items. -/
def State.setItems (s : State) (l : List TwinItem) : State := s.setTwin { s.twin with items := l }

/-- Two items are the same page or placement. -/
def TwinItem.same (x y : TwinItem) : Bool :=
  x.kind == y.kind && x.a == y.a && x.page == y.page && x.pstart == y.pstart

/-- A CTRL packet that carries an item: what it says (0 held, 1 activation), the item, and a position. -/
def itemBytes (what : Nat) (x : TwinItem) (act : Posn) : List Byte :=
  leBytes 1 what ++ leBytes 1 x.kind ++ leBytes 1 x.a ++ leBytes 4 x.page ++ leBytes 6 x.pstart.toNat ++ leBytes 6 act.toNat

/-- The axis on which an item's activation position lies: the view's, or that of the tenant's first enabled view. -/
def State.itemAxis (s : State) (x : TwinItem) : Option Nat :=
  (if x.kind = 2 then some x.a
    else (List.range 16).find? (fun v => s.viewOwner v == x.a && s.bit (Reg.ASY_VCTL v) 0)).map (fun v =>
      s.fld (Reg.ASY_VCTL v) 1 3)

/-- Set or clear READY in the descriptor of slot k. -/
def State.pageReadySet (s : State) (k : Nat) (on : Bool) : State :=
  let a := s.rd64 Reg.ASY_PGTAB_LO + 128 * k
  let fl := leAt (s.pageDesc k) 15 1
  s.devWrite (a + 15) (leBytes 1 (fl - fl / 2 % 2 * 2 + 2 * b2n on))

/-- Slot k becomes FREE (R234). -/
def State.pageFree (s : State) (k page : Nat) : State :=
  let t := s.pageSlot k - 1
  let s1 := (s.pageReadySet k false).setPageSlot k 0
  s1.setTwin { s1.twin with pageFrom := s1.twin.pageFrom.filter (fun e => !(e.1 == t && e.2.1 == page)) }

/-- A placement joins its view's queue at its place. -/
def State.placeIn (s : State) (v k : Nat) (act : Option Posn) : State :=
  (s.placeAddAt v k act).wr (Reg.ASY_VQWR v) (w32 ((k + 1) % 64))

/-- An item takes effect; `act` is its activation position, none outside PAIRED. A placement names one of the 16 views. -/
def State.itemDo (s : State) (x : TwinItem) (act : Option Posn) : State :=
  if x.kind = 0 then
    let s1 := s.pageReadySet x.place true
    match act with
    | some a => s1.setTwin { s1.twin with pageFrom := s1.twin.pageFrom ++ [(x.a, x.page, a)] }
    | none => s1
  else if x.kind = 1 then s.pageFree x.place x.page
  else if x.a < 16 then s.placeIn x.a x.place act
  else s

/-- An item that both twins hold is activated at A: a freed page goes once the web reaches A, all else acts now on lines
from A on. -/
def State.itemAct (s : State) (x : TwinItem) (a : Posn) : State :=
  if x.kind = 1 ∧ (s.itemAxis x).isSome then
    s.setItems (s.twin.items.map (fun y => if y.same x then { y with act := some a } else y))
  else (s.setItems (s.twin.items.filter (fun y => !y.same x))).itemDo x (if (s.itemAxis x).isSome then some a else none)

/-- The activation position that the LEAD names: its high-water mark on the axis plus TWIN_ACTLEAD. -/
def State.itemPos (s : State) (x : TwinItem) : Posn :=
  (s.itemAxis x).elim 0 (fun n => s.axHwm n + posn (s.rdN Reg.TWIN_ACTLEAD))

/-- An earlier placement of the same view still waits. -/
def itemBehind (l : List TwinItem) (x : TwinItem) : Bool :=
  x.kind == 2 && ((l.takeWhile (fun y => !y.same x)).any (fun y => y.kind == 2 && y.a == x.a))

/-- The LEAD activates every item that both twins hold, in order. -/
def State.itemsTry (s : State) : State :=
  if s.paired && s.twinRole == 0 then
    s.each s.twin.items (fun t x =>
      if x.own.isSome && x.peer.isSome && x.act.isNone && !itemBehind t.twin.items x then
        let a := t.itemPos x
        (t.itemAct x a).twinCtrl (itemBytes 1 x a)
      else t)
  else s

/-- This device holds an item: it waits for the partner's (R434). -/
def State.itemOwn (s : State) (x : TwinItem) : State :=
  let l := s.twin.items
  let s1 := if l.any (fun y => y.same x) then
      s.setItems (l.map (fun y => if y.same x then { y with own := some s.devTime, place := x.place } else y))
    else s.setItems (l ++ [{ x with own := some s.devTime }])
  (s1.twinCtrl (itemBytes 0 x 0)).itemsTry

/-- The partner holds an item. -/
def State.itemPeer (s : State) (x : TwinItem) : State :=
  let l := s.twin.items
  let s1 := if l.any (fun y => y.same x) then
      s.setItems (l.map (fun y => if y.same x then { y with peer := some s.devTime } else y))
    else s.setItems (l ++ [{ x with peer := some s.devTime }])
  s1.itemsTry

/-- A command's page or placement: at once outside PAIRED, else it waits for the partner. -/
def State.itemCmd (s : State) (x : TwinItem) : State := if s.paired then s.itemOwn x else s.itemDo x none

/-- Outside PAIRED what waits acts at once on its own device. -/
def State.itemsRelease (s : State) : State :=
  s.each s.twin.items (fun t x => if x.own.isSome then t.itemDo x none else t) |>.setItems []

/-- Freed pages whose activation position an axis has reached stop being READY. -/
def State.itemsReach (s : State) : State :=
  s.each s.twin.items (fun t x => match x.act, t.itemAxis x with
    | some a, some n =>
      if posLt (t.axHwm n) a then t else (t.setItems (t.twin.items.filter (fun y => !y.same x))).itemDo x none
    | _, _ => t)

end Sys2Proof.Machine
end

