-- ==== Sys2Proof/Machine/CmdAsy.lean ====
section
/-!
DEFINITION. The reference and assay commands (Table 13.14): page descriptors (R233, R234), views and placements (R235,
R236), render sets (R242), assay contexts (R231, R239).
-/
namespace Sys2Proof.Machine
open Sys2Proof

/-! ## Pages -/

/-- Bytes 0 to 79 of a descriptor meet Table 8.2. -/
def pageOk (d : List Byte) : Bool :=
  let w := pgWidth d
  let ink := pgInk d
  decide (pgId d ≠ 0xFFFFFFFF) && decide (1 ≤ w ∧ w ≤ 262143) && decide (1 ≤ pgHeight d ∧ pgHeight d ≤ 262143) &&
    decide (leAt d 12 1 ≤ 2) && decide (pgFmt d ≤ 3) &&
    (if pgFmt d ≤ 1 then decide (1 ≤ ink ∧ ink ≤ 4) else decide (5 ≤ ink ∧ ink ≤ 8)) && decide (leAt d 15 1 < 4) &&
    decide (pgBase d % 64 = 0) && decide (pgStride d % 64 = 0) && decide (w * fmtPixel (pgFmt d) ≤ pgStride d) &&
    decide (leAt d 28 4 = 0) && decide (pgZBase d % 64 = 0) && decide (pgZStride d % 64 = 0) &&
    (!pgZones d || decide ((w + 15) / 16 ≤ pgZStride d)) && decide (pgMarks d ≤ 4) && decide (leAt d 45 3 = 0)

/-- Absolute addresses of the raster and of the zone map, if both lie wholly in the tenant's partition. -/
def State.pageBases (s : State) (t : Nat) (d : List Byte) : Option (Nat × Nat) :=
  let h := pgHeight d
  match s.devAddr t (pgBase d) (pgStride d * (h - 1) + pgWidth d * fmtPixel (pgFmt d)) with
  | none => none
  | some a =>
    if pgZones d then
      (s.devAddr t (pgZBase d) (pgZStride d * ((h + 7) / 8 - 1) + (pgWidth d + 15) / 16)).map (fun z => (a, z))
    else some (a, 0)

/-- Bound pipelines of tenant t whose shadow compares with a reference. -/
def State.comparing (s : State) (t : Nat) : List Nat :=
  (List.range 104).filter (fun n =>
    s.bit (Reg.ASY_CFG n) 0 && (s.pipeCam n).any (fun k => s.owns t Part.cam k))

/-- The tenant's quota of descriptor slots: PAGEQ; tenant 0 has what the VF tenants leave (R404). -/
def State.pageQuota (s : State) (t : Nat) : Nat := if t = 0 then 4096 - s.partSum 0 [] 6 2 else leAt (s.part t) 6 2

/-- The lowest FREE descriptor slot. -/
def State.freeSlotNo (s : State) : Nat := ((List.range 4096).find? (fun k => s.pageSlot k == 0)).getD 0

/-- REF_PAGE_LOAD (0x0501, R234, R434). -/
def execRefPageLoad (f : Fin 16) (slot : Fin 64) (s : State) : Res := s.alive fun s =>
  s.onCmd f slot 0x0501 (fun c s =>
    let d := c.payload.take 80
    let t := c.tenant
    s.cmdDo c [
      (c.short 80 [] || !pageOk d || (s.pageBases t d).isNone ||
        (s.comparing t).any (fun n => !bandOk (s.pipeCols n).2 (s.rd (Reg.ASY_XSCL n)) (pgFmt d)), St.badParam),
      ((s.tenantPages t).any (fun e => pgId e.2 == pgId d), St.state), (s.claimed 6, St.busy),
      (decide (s.pageQuota t ≤ (s.tenantPages t).length), St.capacity)]
      (fun s =>
        let k := s.freeSlotNo
        let a := (s.pageBases t d).getD (0, 0)
        let bs := d.take 15 ++ leBytes 1 (leAt d 15 1 % 2) ++ leBytes 8 a.1 ++ (d.drop 24).take 8 ++ leBytes 8 a.2 ++
          d.drop 40 ++ List.replicate 48 0#8
        let s1 := (s.devWrite (s.rd64 Reg.ASY_PGTAB_LO + 128 * k) bs).setPageSlot k (t + 1)
        (s1.itemCmd { kind := 0, a := t, page := pgId d, pstart := 0, place := k }, leBytes 2 k)))

/-- Views of tenant t with their placements that have not retired and name a page. -/
def State.pagePlaces (s : State) (t page : Nat) : List (Nat × Place) :=
  ((List.range 16).filter (fun v => s.viewOwner v == t)).flatMap (fun v =>
    ((s.view v).places.filter (fun p => p.page == page)).map (fun p => (v, p)))

/-- A placement that waits for the partner names a page of tenant t. -/
def State.pageWaits (s : State) (t page : Nat) : Bool :=
  s.twin.items.any (fun x => x.kind == 2 && x.own.isSome && s.viewOwner x.a == t && x.page == page)

/-- REF_PAGE_FREE (0x0502, R234, R434). -/
def execRefPageFree (f : Fin 16) (slot : Fin 64) (s : State) : Res := s.alive fun s =>
  s.onCmd f slot 0x0502 (fun c s =>
    let page := c.at 0 4
    s.cmdRun c [
      (c.short 4 [], St.badParam), ((s.findPage c.tenant page).isNone, St.noObject),
      (s.pagePlaces c.tenant page != [] || s.pageWaits c.tenant page || s.claimed 6, St.busy)]
      (fun s => s.itemCmd {
        kind := 1, a := c.tenant, page := page, pstart := 0, place := ((s.findPage c.tenant page).map (·.1)).getD 0 }))

/-- REF_PAGE_STATUS (0x0508). -/
def execRefPageStatus (f : Fin 16) (slot : Fin 64) (s : State) : Res := s.alive fun s =>
  s.onCmd f slot 0x0508 (fun c s =>
    let page := c.at 0 4
    s.cmdDo c [(c.short 4 [], St.badParam)] (fun s =>
      let l := s.pagePlaces c.tenant page
      let e := s.findPage c.tenant page
      (s, leBytes 1 (b2n e.isSome) ++ leBytes 1 l.length ++ leBytes 2 ((e.map (·.1)).getD 0) ++ leBytes 4 0 ++
        (l.take 16).flatMap (fun p => leBytes 1 p.1 ++ leBytes 1 0 ++ leBytes 6 p.2.pstart.toNat))))

/-! ## Views and placements -/

/-- Refusals of a command to a view. -/
def State.viewRefusals (s : State) (c : Cmd) : List (Bool × Nat) :=
  [(s.foreign c.tenant Part.view 16 (c.at 0 1), St.isolation), (decide (16 ≤ c.at 0 1), St.noObject)]

/-- Placements of view v that wait for the partner. -/
def State.viewWaits (s : State) (v : Nat) : List TwinItem :=
  s.twin.items.filter (fun x => x.kind == 2 && x.a == v && x.own.isSome)

/-- The queue place of view v's next placement. -/
def State.viewNext (s : State) (v : Nat) : Nat := (s.fld (Reg.ASY_VQWR v) 0 6 + (s.viewWaits v).length) % 64

/-- PSTART of the view's previous placement. -/
def State.viewLast (s : State) (v : Nat) : Option Posn :=
  match (s.viewWaits v).getLast? with
  | some x => some x.pstart
  | none =>
    if (s.view v).count = 0 then none
    else
      let k := (s.fld (Reg.ASY_VQWR v) 0 6 + 63) % 64
      some (posn (s.rdN (Reg.ASY_PLQ v k 1) + s.fld (Reg.ASY_PLQ v k 2) 0 16 * 2 ^ 32))

/-- REF_PLACE (0x0503, R236, R434). -/
def execRefPlace (f : Fin 16) (slot : Fin 64) (s : State) : Res := s.alive fun s =>
  s.onCmd f slot 0x0503 (fun c s =>
    let v := c.at 0 1
    let p := posn (c.at 8 6)
    s.cmdDo c (s.viewRefusals c ++ [
      (c.short 14 [(1, 3)] || (s.viewLast v).any (fun q => decide (posDiff p q ≤ 0)), St.badParam), (s.claimed 6, St.busy),
      (decide (64 ≤ (s.view v).places.length + (s.viewWaits v).length), St.capacity)])
      (fun s =>
        let k := s.viewNext v
        let s1 := s.wrList (Reg.ASY_PLQ v k 0) [w32 (c.at 4 4), w32 (c.at 8 4), w32 (c.at 12 2), 0#32]
        (s1.itemCmd { kind := 2, a := v, page := c.at 4 4, pstart := p, place := k }, leBytes 1 k)))

/-- A write of ASY_VCTL [3:0] and ASY_VGINIT of view v: enabling the view loads its carried g. -/
def State.viewSet (s : State) (v ctl : Nat) (g : Word) : State :=
  let s1 := (s.wr (Reg.ASY_VGINIT v) g).setFld (Reg.ASY_VCTL v) 0 4 ctl
  if s.bit (Reg.ASY_VCTL v) 0 || ctl % 2 == 0 then s1 else s1.wr (Reg.ASY_VG v) g

/-- Some bound stripe of pipeline bindings names view v, in its shadow or in use. -/
def State.viewNamed (s : State) (v : Nat) : Bool :=
  s.viewPipes v != [] || (List.range 104).any (fun n =>
    (s.pipeCam n).isSome && s.fld (Reg.ASY_CFG n) 12 4 == v && s.fld (Reg.ASY_CFG n) 0 2 != 0)

/-- REF_VIEW_SET (0x0504, R235). -/
def execRefViewSet (f : Fin 16) (slot : Fin 64) (s : State) : Res := s.alive fun s =>
  s.onCmd f slot 0x0504 (fun c s =>
    let v := c.at 0 1
    let ctl := c.at 1 1
    s.cmdRun c (s.viewRefusals c ++ [
      (c.short 8 [(2, 2)] || decide (16 ≤ ctl), St.badParam), (!s.usesAxis c.tenant (ctl / 2), St.isolation),
      (s.claimed 6 || (s.fld (Reg.ASY_VCTL v) 1 3 != ctl / 2 && s.viewNamed v), St.busy)])
      (fun s => s.viewSet v ctl (w32 (c.at 4 4))))

/-! ## Render sets -/

/-- Refusals of a command to a render set. -/
def State.setRefusals (s : State) (c : Cmd) : List (Bool × Nat) :=
  [(s.foreign c.tenant Part.rset 8 (c.at 0 1), St.isolation), (decide (8 ≤ c.at 0 1), St.noObject)]

/-- RENDER_SET_WRITE (0x0505, R242). -/
def execRenderSetWrite (f : Fin 16) (slot : Fin 64) (s : State) : Res := s.alive fun s =>
  s.onCmd f slot 0x0505 (fun c s =>
    let n := c.at 8 2
    s.cmdRun c (s.setRefusals c ++ [
      (c.short 16 [(1, 3), (10, 6)] || n == 0 || decide (224 < n) || decide (c.len < 16 + n) ||
        decide (0xC000 < c.at 4 4 + n), St.badParam),
      (s.claimed 6 || s.bit Reg.ASY_RSSTAT (c.at 0 1), St.busy)])
      (fun s => s.wrBytes (Reg.RSET (c.at 0 1) (c.at 4 4)) ((c.payload.drop 16).take n)))

/-- Firmware fills the f table of render set k (R250). -/
def State.fillF (s : State) (k : Nat) : State :=
  s.wrList (Reg.RSET k 0xA900) ((List.range 1025).map (fun n => w32 (fEntry n)))

/-- The image of pipeline n's shadow takes render set k, as its shadow does (R226, R263). -/
def State.imageSet (s : State) (n k : Nat) : State :=
  s.copySpan (Reg.RSET k 0) (Reg.IMG (Reg.ATAB n (1 - s.pipeBank n) 0)) 0xC000

/-- RENDER_SET_PUBLISH (0x0506, R242, R250): the copies that the device makes reach the image as well. -/
def execRenderSetPublish (f : Fin 16) (slot : Fin 64) (s : State) : Res := s.alive fun s =>
  s.onCmd f slot 0x0506 (fun c s =>
    let k := c.at 0 1
    s.cmdRun c (s.setRefusals c ++ [(c.short 1 [], St.badParam), (s.claimed 6, St.busy)])
      (fun s =>
        let s1 := (s.fillF k).rsPublish (2 ^ k)
        s1.each ((List.range 104).filter (fun n => (s1.pipeCam n).isSome && s1.fld (Reg.ASY_CFG n) 8 3 == k))
          (fun t n => t.imageSet n k)))

/-! ## Assay contexts -/

/-- Firmware writes one register of Table 8.15 of pipeline n's shadow; a write of ASY_CFG starts a copy of its render set
(R242). -/
def State.asyShadow (s : State) (n off : Nat) (v : Word) : State :=
  let s1 := s.fwShadow n (Reg.ASY_CFG n + off) v
  if off = 0 then (s1.setBit (Reg.ASY_STAT n) 1 true).imageSet n (fldOf v 8 3) else s1

/-- Firmware places the cores of camera k at multiples of 64 and writes the slices that follow (R231, R188). -/
def State.alignCores (s : State) (k : Nat) : State :=
  let width := fmtWidth (s.camFmt k)
  s.each (s.camPipes k) (fun t n =>
    let w := t.rd (Reg.PIPE_COLS n)
    let co := alignCore width (t.fld (Reg.PIPE_BIND n) 12 3 + 1) (t.fld (Reg.PIPE_BIND n) 8 3)
    if co = (fldOf w 0 16, fldOf w 16 16) then t
    else
      let t1 := t.fwShadow n (Reg.PIPE_COLS n) (w32 (co.1 + co.2 * 65536))
      t1.each (t1.bench.tables.filter (fun x => x.1 == k)) (fun u x => u.sliceWrite n x.2.1 x.2.2.1 x.2.2.2.1 x.2.2.2.2))

/-- The configuration of pipeline n that ASSAY_CONFIG would leave breaks R231, R235 or R239. -/
def State.asyBad (s : State) (c : Cmd) (k n : Nat) : Bool :=
  let cfg := c.pairVal 8 0 (s.rd (Reg.ASY_CFG n))
  let xscl := c.pairVal 8 0x08 (s.rd (Reg.ASY_XSCL n))
  let v := fldOf cfg 12 4
  s.haloBad n cfg ||
    (decide (fldOf cfg 0 2 ≠ 0) && decide (s.fld (Reg.ASY_VCTL v) 1 3 ≠ (s.cam k).axis)) ||
    (decide (c.at 1 1 ≠ 0xFF) && (s.camPipes k).any (fun m => m != n && s.fld (Reg.ASY_CFG m) 12 4 != v)) ||
    (bitOf cfg 0 && (s.tenantPages c.tenant).any (fun e => !bandOk (s.pipeCols n).2 xscl (pgFmt e.2)))

/-- The configuration names a view or a render set that is not the tenant's. -/
def State.asyForeign (s : State) (c : Cmd) (n : Nat) : Bool :=
  let cfg := c.pairVal 8 0 (s.rd (Reg.ASY_CFG n))
  decide (fldOf cfg 0 2 ≠ 0) && (s.viewOwner (fldOf cfg 12 4) != c.tenant || !s.owns c.tenant Part.rset (fldOf cfg 8 3))

/-- ASSAY_CONFIG (0x0507, R231, R235, R239, R399). -/
def execAssayConfig (f : Fin 16) (slot : Fin 64) (s : State) : Res := s.alive fun s =>
  s.onCmd f slot 0x0507 (fun c s =>
    let k := c.at 0 1
    let ps := s.stripes k (c.at 1 1)
    s.cmdRun c (s.camRefusals c true ++ [
      (c.short 8 [(2, 6)] || !c.pairsForm 8 || (c.pairs 8).any (fun e => !pairOk (Reg.ASY_CFG 0) 0 0x34 e) ||
        ps.any (s.asyBad c k), St.badParam),
      (ps.any (s.asyForeign c), St.isolation), (ps == [], St.noObject), (s.claimed 6, St.busy)])
      (fun s =>
        let s1 := s.each ps (fun t n => t.each (c.pairs 8) (fun u e => u.asyShadow n e.1 (w32 e.2)))
        if ps.any (fun n => s1.bit (Reg.ASY_CFG n) 0 || s1.bit (Reg.ASY_CFG n) 5) then s1.alignCores k else s1))

end Sys2Proof.Machine
end

