-- ==== Sys2Proof/Machine/XferOps.lean ====
section
/-!
DEFINITION. The transfer queue of a tenant (R307): commands of class T wait in it in order; the head runs.
-/
namespace Sys2Proof.Machine
open Sys2Proof

/-- Depth of tenant t's transfer queue, 1 to 64 (R307). -/
def State.xferDepth (s : State) (t : Nat) : Nat := clampN 1 64 (s.fld (Reg.DLV_TQ t) 0 8)

/-- Set tenant t's transfer queue and DLV_TQ.queued. -/
def State.putXferQ (s : State) (t : Nat) (l : List Xfer) : State :=
  (s.setXferQ t l).setFld (Reg.DLV_TQ t) 8 8 l.length

/-- A command that starts a transfer (R307): refused, alone in the queue and answered when it is done, or queued behind
others with the INTERIM DEFERRED. A command that is in the queue already stays as it is. -/
def State.xferCmd (s : State) (c : Cmd) (refusals : List (Bool × Nat)) : State :=
  let t := c.tenant
  let q := s.xferQ t
  if q.any (fun x => x.cmd.f == c.f && x.cmd.slot == c.slot && !x.cmd.interim) then s
  else
    let full := decide (s.xferDepth t ≤ q.length)
    let st := pickStatus ((!s.tenantIs t && c.f == 0, St.noObject) :: refusals ++ [(full, St.capacity)])
    if st ≠ 0 then (if st = St.capacity then s.addSat (Reg.DLV_TREFUSE t) 0 32 1 else s).answer c st []
    else if q = [] then s.putXferQ t [{ cmd := c, headT := some s.devTime }]
    else ((s.addSat (Reg.DLV_TDEFER t) 0 32 1).answerDeferred c).putXferQ t (q ++ [{ cmd := { c with interim := true } }])

end Sys2Proof.Machine
end

