-- ==== Sys2Proof/Machine/CmdNoz.lean ====
section
/-!
DEFINITION. The nozzle commands (Table 13.15): planes (R270), maps (R271 to R273, R38), tracks (R269, R281).
-/
namespace Sys2Proof.Machine
open Sys2Proof

/-- Refusals of a command to a plane. -/
def State.planeRefusals (s : State) (c : Cmd) : List (Bool × Nat) :=
  [(s.foreign c.tenant Part.plane 8 (c.at 0 1), St.isolation), (decide (8 ≤ c.at 0 1), St.noObject)]

/-! ## Planes -/

/-- Words of NOZ_PLANE_SET: PLCFG, PLW0, PLW1, PLTHR0 to PLTHR2, PLNLO, PLNHI. -/
def Cmd.planeWords (c : Cmd) : List Word := (List.range 8).map (fun i => w32 (c.at (4 + 4 * i) 4))

/-- Another plane that has a range of its own overlaps tracks lo to hi (R270). -/
def State.planeOverlap (s : State) (p lo hi : Nat) : Bool :=
  (List.range 8).any (fun q =>
    let a := s.fld (Reg.NOZ_PLNLO q) 0 20
    let b := s.fld (Reg.NOZ_PLNHI q) 0 20
    q != p && (s.planeEn q || b != 0) && decide (a ≤ hi) && decide (lo ≤ b))

/-- The words of NOZ_PLANE_SET break Tables 9.12 and 9.13 or R270. -/
def State.planeBad (s : State) (p : Nat) (l : List Word) : Bool :=
  let cfg := nth l 0 0#32
  let lo := (nth l 6 0#32).toNat
  let hi := (nth l 7 0#32).toNat
  bitOf cfg 3 || decide (fldOf cfg 12 4 ≠ 0) || decide (fldOf cfg 28 4 ≠ 0) || decide (fldOf cfg 4 4 < 1 ∨ 12 < fldOf cfg 4 4) ||
    fldOf cfg 8 4 == 0 || decide (fldOf (nth l 5 0#32) 16 16 ≠ 0) || decide (hi < lo) || decide (2 ^ 20 ≤ hi) ||
    s.planeOverlap p lo hi

/-- NOZ_PLANE_SET (0x0601, R270): OWNER stays. -/
def execNozPlaneSet (f : Fin 16) (slot : Fin 64) (s : State) : Res := s.alive fun s =>
  s.onCmd f slot 0x0601 (fun c s =>
    let p := c.at 0 1
    s.cmdRun c (s.planeRefusals c ++ [
      (c.short 36 [(1, 3)] || s.planeBad p c.planeWords, St.badParam), (s.claimed 7, St.busy)])
      (fun s =>
        let own := s.planeOwner p
        ((s.wrList (Reg.NOZ_PLCFG p) c.planeWords).setFld (Reg.NOZ_PLCFG p) 24 4 own).recount p))

/-! ## Maps -/

/-- Segments of NOZ_MAP_WRITE as numbers of 128 bits. -/
def Cmd.segs (c : Cmd) : List Nat := (List.range (c.at 1 1)).map (fun i => c.at (16 + 16 * i) 16)
/-- Camera, first and last column of a segment (Table 9.2). -/
def sgCam (g : Nat) : Nat := entBits g 0 7
def sgFirst (g : Nat) : Nat := entBits g 8 16
def sgLast (g : Nat) : Nat := entBits g 24 16

/-- A segment of plane p breaks R273. -/
def State.segBad (s : State) (p g : Nat) : Bool :=
  let step := (sgn 16 (entBits g 112 16)).natAbs
  let nb := entBits g 40 20
  let nc := entBits g 64 16
  entBits g 7 1 == 1 || decide (entBits g 60 4 ≠ 0) || decide (96 ≤ sgCam g) || decide (sgLast g < sgFirst g) ||
    decide (fmtWidth (s.camFmt (sgCam g)) ≤ sgLast g) || decide (step < 2048 ∨ 16384 < step) || nc == 0 ||
    decide (nb < s.fld (Reg.NOZ_PLNLO p) 0 20) || decide (s.fld (Reg.NOZ_PLNHI p) 0 20 < nb + nc - 1)

/-- Two segments cover one column of one camera. -/
def segsMeet (a b : Nat) : Bool := sgCam a == sgCam b && decide (sgFirst a ≤ sgLast b) && decide (sgFirst b ≤ sgLast a)

/-- Segment g of the map memory as a number. -/
def State.segNo (s : State) (g : Nat) : Nat := (List.range 4).foldl (fun a w => a + s.rdN (Reg.NOZ_SEG g w) * 2 ^ (32 * w)) 0

/-- Store a segment. -/
def State.segStore (s : State) (g v : Nat) : State :=
  s.each (List.range 4) (fun t w => t.wr (Reg.NOZ_SEG g w) (w32 (v / 2 ^ (32 * w))))

/-- The run that NOZ_MAP_WRITE holds for plane p: first segment and segments held. -/
def State.runOf (s : State) (p : Nat) : Nat × Nat := ((s.bench.runs.find? (fun r => r.1 == p)).map (·.2)).getD (0, 0)

/-- Runs of the map memory in use, apart from plane p's new one: first segment and length. -/
def State.runsUsed (s : State) (p : Nat) : List (Nat × Nat) :=
  (List.range 8).map (fun q => (s.fld (Reg.NOZ_PLMAP q) 0 12, s.fld (Reg.NOZ_PLMAP q) 12 13)) ++
    s.noz.commits.map (fun q => (s.fld (Reg.NOZ_PLMAPS q) 0 12, s.fld (Reg.NOZ_PLMAPS q) 12 13)) ++
    (s.bench.runs.filter (fun r => r.1 != p)).map (·.2)

/-- A run of n segments from b on is free. -/
def runFree (used : List (Nat × Nat)) (b n : Nat) : Bool :=
  decide (b + n ≤ 4096) && used.all (fun r => decide (r.2 = 0 ∨ b + n ≤ r.1 ∨ r.1 + r.2 ≤ b))

/-- Where plane p's new run of n segments lies: where it is if it still fits, else the first free place. -/
def State.runPlace (s : State) (p n : Nat) : Option Nat :=
  let used := s.runsUsed p
  let r := s.runOf p
  if r.2 ≠ 0 ∧ runFree used r.1 n then some r.1
  else ((0 :: used.map (fun e => e.1 + e.2)).filter (fun b => runFree used b n)).head?

/-- The segments of plane p's new run after NOZ_MAP_WRITE. -/
def State.runAfter (s : State) (c : Cmd) : List Nat :=
  let p := c.at 0 1
  let i := c.at 2 2
  let r := s.runOf p
  ((List.range (min i r.2)).map (fun k => s.segNo (r.1 + k))) ++ c.segs

/-- Some pair of a list meets. -/
def pairsMeet : List Nat → Bool
  | [] => false
  | a :: r => r.any (segsMeet a) || pairsMeet r

/-- NOZ_MAP_WRITE (0x0602, R273). -/
def execNozMapWrite (f : Fin 16) (slot : Fin 64) (s : State) : Res := s.alive fun s =>
  s.onCmd f slot 0x0602 (fun c s =>
    let p := c.at 0 1
    let n := c.at 1 1
    let l := s.runAfter c
    s.cmdDo c (s.planeRefusals c ++ [
      (c.short 16 [(4, 12)] || n == 0 || decide (14 < n) || decide (c.len < 16 + 16 * n) ||
        (c.at 2 2 != 0 && decide ((s.runOf p).2 < c.at 2 2)) || c.segs.any (s.segBad p) || pairsMeet l, St.badParam),
      (c.segs.any (fun g => s.foreign (s.planeOwner p) Part.cam 96 (sgCam g)), St.isolation), (s.claimed 7, St.busy),
      ((s.runPlace p l.length).isNone, St.capacity)])
      (fun s =>
        let b := (s.runPlace p l.length).getD 0
        let s1 := s.each l.zipIdx (fun t e => t.segStore (b + e.2) e.1)
        (s1.setBench { s1.bench with runs := s1.bench.runs.filter (fun r => r.1 != p) ++ [(p, b, l.length)] },
          leBytes 2 l.length)))

/-- NOZ_MAP_COMMIT (0x0603, R273, R38): the load with the new map stays within 2.0 G updates/s. -/
def execNozMapCommit (f : Fin 16) (slot : Fin 64) (s : State) : Res := s.alive fun s =>
  s.onCmd f slot 0x0603 (fun c s =>
    let p := c.at 0 1
    let r := s.runOf p
    let w := w32 (r.1 + r.2 * 4096)
    let t := s.wr (Reg.NOZ_PLMAP p) w
    let fits := t.nozFits (t.bench.nozCams.map (fun k => (k, t.camBlkLines k)))
    s.cmdDo c (s.planeRefusals c ++ [
      (c.short 1 [], St.badParam), (r.2 == 0, St.state), (s.claimed 7, St.busy), (!fits, St.capacity)])
      (fun s =>
        let s1 := (s.wr (Reg.NOZ_PLMAPS p) w).nozCommit p
        (s1.setBench { s1.bench with runs := s1.bench.runs.filter (fun e => e.1 != p) }, leBytes 2 r.1 ++ leBytes 2 r.2)))

/-! ## Tracks -/

/-- First track and count of a track command; they leave the plane of the tenant. -/
def State.tracksForeign (s : State) (p first n : Nat) : Bool :=
  decide (first < s.fld (Reg.NOZ_PLNLO p) 0 20) || decide (s.fld (Reg.NOZ_PLNHI p) 0 20 < first + n - 1) ||
    decide (2 ^ 20 < first + n)

/-- Track t lies in an isolated row (R283). -/
def State.trkLost (s : State) (t : Nat) : Bool := s.rowLost (trackBank t) (trackRow t)

/-- NOZ_TRACK_READ (0x0604, R281). A track of an isolated row reads as in its initial state, and the answer has status
NO_SUCH_OBJECT (R283). -/
def execNozTrackRead (f : Fin 16) (slot : Fin 64) (s : State) : Res := s.alive fun s =>
  s.onCmd f slot 0x0604 (fun c s =>
    let p := c.at 0 1
    let first := c.at 4 4
    let n := c.at 8 2
    let ts := (List.range (min n 19)).map (first + ·)
    s.cmdSays c (s.planeRefusals c ++ [
      (c.short 10 [(1, 3)] || n == 0 || decide (19 < n), St.badParam), (s.tracksForeign p first n, St.isolation)])
      (if ts.any s.trkLost then St.noObject else St.ok)
      (ts.flatMap (fun t => if s.trkLost t then List.replicate 12 0#8 else s.trackBytes t)))

/-- NOZ_TRACK_RESET (0x0605, R269): MASK comes back from the bitmap. -/
def execNozTrackReset (f : Fin 16) (slot : Fin 64) (s : State) : Res := s.alive fun s =>
  s.onCmd f slot 0x0605 (fun c s =>
    let p := c.at 0 1
    let first := c.at 4 4
    let n := c.at 8 4
    s.cmdRun c (s.planeRefusals c ++ [
      (c.short 12 [(1, 3)] || n == 0, St.badParam), (s.tracksForeign p first n, St.isolation), (s.claimed 7, St.busy)])
      (fun s => (s.each (List.range n) (fun t i => t.trkInit (first + i))).recount p))

/-- NOZ_TRACK_MASK (0x0606, R269). -/
def execNozTrackMask (f : Fin 16) (slot : Fin 64) (s : State) : Res := s.alive fun s =>
  s.onCmd f slot 0x0606 (fun c s =>
    let p := c.at 0 1
    let first := c.at 4 4
    let n := c.at 8 4
    s.cmdRun c (s.planeRefusals c ++ [
      (c.short 13 [(1, 3)] || n == 0 || decide (2 ≤ c.at 12 1), St.badParam), (s.tracksForeign p first n, St.isolation),
      (s.claimed 7, St.busy)])
      (fun s => s.each (List.range n) (fun t i => t.trkSetMask (first + i) (c.at 12 1 == 1))))

/-- NOZ_TRACK_LOAD (0x0607, R281, R307): the transfer waits in the tenant's queue. -/
def execNozTrackLoad (f : Fin 16) (slot : Fin 64) (s : State) : Res := s.alive fun s =>
  s.onCmd f slot 0x0607 (fun c s =>
    let n := c.at 8 4
    s.xferCmd c (s.planeRefusals c ++ [
      (c.short 24 [(2, 2), (12, 4)] || n == 0 || decide (2 ≤ c.at 1 1), St.badParam),
      (s.tracksForeign (c.at 0 1) (c.at 4 4) n, St.isolation), (s.claimed 7, St.busy)]))

/-- NOZ_SNAPSHOT (0x0608, R281, R307). -/
def execNozSnapshot (f : Fin 16) (slot : Fin 64) (s : State) : Res := s.alive fun s =>
  s.onCmd f slot 0x0608 (fun c s =>
    s.xferCmd c (s.planeRefusals c ++ [(c.short 24 [(2, 14)] || decide (2 ≤ c.at 1 1), St.badParam)]))

/-- NOZ_STATUS (0x0609). -/
def execNozStatus (f : Fin 16) (slot : Fin 64) (s : State) : Res := s.alive fun s =>
  s.onCmd f slot 0x0609 (fun c s =>
    let p := c.at 0 1
    s.cmdDo c (s.planeRefusals c ++ [(c.short 1 [], St.badParam)]) (fun s =>
      (s, s.regsBytes [Reg.NOZ_PLNWEAK p, Reg.NOZ_PLNOUT p, Reg.NOZ_PLNDEV p, Reg.NOZ_PLUPD p, Reg.NOZ_SQ, Reg.NOZ_RPTQ,
        Reg.NOZ_STAT])))

end Sys2Proof.Machine
end

