-- ==== Sys2Proof/Machine/Memory.lean ====
section
/-!
DEFINITION. The meanings of the memory controller's commands (chapter 11): monitor windows and re-salts (R316, R317), ECC
errors and scrubbing (R318, R320), copying inlays and outright failures of pseudo-channels (R321 to R324).
-/
namespace Sys2Proof.Machine
open Sys2Proof

/-- Set bit i of MEM_IRQ, source 313. -/
def State.memIrq (s : State) (i : Nat) : State := s.irq Reg.MEM_IRQ 313 i

/-- Device memory ends here (R312). -/
def memEnd : Nat := 0xB40000000

/-- The clock of the controller of pseudo-channel p runs (Table 15.3). -/
def State.memClk (s : State) (p : Nat) : Bool := s.clkOn (229 + p / 32)

/-! ## Pseudo-channels -/

/-- ROLE of pseudo-channel p: 0 service, 1 sprue, 2 SOURCE, 3 RETIRED (Table 11.12). -/
def State.pcRole (s : State) (p : Nat) : Nat := s.fld (Reg.MEM_PCSTAT p) 0 2
def State.setPcRole (s : State) (p v : Nat) : State := s.setFld (Reg.MEM_PCSTAT p) 0 2 v
/-- The logical channel that pseudo-channel p serves. -/
def State.pcLc (s : State) (p : Nat) : Option Nat :=
  (List.range 60).find? (fun l => s.fld (Reg.MEM_PCMAP l) 0 6 == p)
/-- Pseudo-channel p is an available sprue. -/
def State.pcIsSprue (s : State) (p : Nat) : Bool := s.pcRole p == 1 && s.bit (Reg.MEM_PCSTAT p) 8
/-- The lowest available sprue of a stack, other than the target of the copy in progress. -/
def State.pcSprue (s : State) (stack : Nat) : Option Nat :=
  ((List.range 32).map (· + 32 * stack)).find? (fun p => s.pcIsSprue p && decide (s.memx.copy.map (·.2) ≠ some p))
/-- MEM_STAT[5:4] shows the stacks without a sprue. -/
def State.showSprues (s : State) : State :=
  s.each [0, 1] (fun t k => t.setBit Reg.MEM_STAT (4 + k)
    (!((List.range 32).any (fun j => t.pcIsSprue (32 * k + j)))))

/-- A memory fault about device address a (R491): the controller is the master. -/
def State.memFault (s : State) (i src level a access : Nat) : State :=
  s.report { sig := 7 * 256 + i, src := src, level := level, t := s.devTime, addr := a, master := 0x8000 + src, access := access }

/-- Pseudo-channel p joins the inlay queue, unless it is there, is being copied, or serves nothing (R321). -/
def State.pcQueue (s : State) (p : Nat) : State :=
  if s.memx.queue.contains p || s.memx.copy.map (·.1) == some p || (s.pcLc p).isNone then s
  else s.setMemx { s.memx with queue := s.memx.queue ++ [p] }

/-- A cause of R321 other than PCFAIL on pseudo-channel p: PCINLAY and an inlay, or SPARELOST where its stack has no
sprue and no inlay runs (R323, R324). -/
def State.pcCause (s : State) (p : Nat) : State :=
  if s.memx.queue.contains p || s.memx.copy.map (·.1) == some p || (s.pcLc p).isNone then s
  else if s.memx.copy.isSome || (s.pcSprue (p / 32)).isSome then (s.memFault 3 p 2 0 0).pcQueue p
  else s.memFault 5 p 4 0 0

/-! ## Errors (R318, R320, R321) -/

/-- A corrected error at device address a (R318); more than 64 within 10 s are a cause of R321. -/
def State.memCe (s : State) (a access : Nat) : State :=
  let p := s.pcOf a
  let ts := sget (fun _ => []) s.memx.ceT p
  let s1 := (((s.addSat (Reg.MEM_PCECC p) 0 16 1).memIrq 0).memFault 1 p 0 a access)
  let s2 := s1.setMemx { s1.memx with ceT := sset (fun _ => []) s1.memx.ceT p ((s.devTime :: ts).take 64) }
  if ts.length = 64 ∧ s.devTime ≤ ts.getLastD 0 + usTicks 10000000 then s2.pcCause p else s2

/-- An uncorrectable error at device address a: its sector is poisoned (R318); the second of its pseudo-channel is a cause
of R321. -/
def State.memUe (s : State) (a access : Nat) : State :=
  let p := s.pcOf a
  let n := sget (fun _ => 0) s.memx.ueN p + 1
  let s1 := ((((s.poison (a / 32)).addSat (Reg.MEM_PCECC p) 16 16 1).memIrq 1).memFault 2 p 1 a access)
  let s2 := s1.setMemx { s1.memx with ueN := sset (fun _ => 0) s1.memx.ueN p n }
  if n = 2 then s2.pcCause p else s2

/-- Device address a exists and its controller serves accesses. -/
def State.memServes (s : State) (a : Nat) : Bool :=
  decide (a < memEnd) && s.bit Reg.MEM_CTL 0 && s.memClk (s.pcOf a)

/-- MEM_CE (R318). -/
def execMemCe (a : BitVec 36) (dt : Nat) (s : State) : Res := s.alive fun s =>
  let s := s.pass dt
  .next (if s.memServes a.toNat then s.memCe a.toNat 0 else s)

/-- MEM_UE (R318, R319). -/
def execMemUe (a : BitVec 36) (dt : Nat) (s : State) : Res := s.alive fun s =>
  let s := s.pass dt
  .next (if s.memServes a.toNat then s.memUe a.toNat 0 else s)

/-- SCRUB (R320): the scrubber reads a sector; it finds nothing (0), a corrected (1) or an uncorrectable error. -/
def execScrub (sector : BitVec 31) (found : Fin 3) (dt : Nat) (s : State) : Res := s.alive fun s =>
  let s := s.pass dt
  let a := 32 * sector.toNat
  if s.memServes a && s.bit Reg.MEM_CTL 1 then
    .next (if found.val = 0 then s else if found.val = 1 then s.memCe a 5 else s.memUe a 5)
  else .next s

/-- MEM_CMD.CLRCNT (R353). -/
def State.memClr (s : State) : State :=
  let s1 := s.each (List.range 64) (fun t p => t.wr (Reg.MEM_PCECC p) 0#32)
  s1.each (List.range 16) (fun t k => t.wr (Reg.MEM_PARTVIOL k) 0#32)

/-- MEM_CLRCNT (R353): MEM_PCECC and MEM_PARTVIOL clear. -/
def execMemClrcnt (s : State) : Res := s.alive fun s => s.reach 0 Reg.MEM_CMD fun s => .next s.memClr

/-! ## The channel monitor and re-salting (R316, R317) -/

/-- MEM_CMD.RESALT (R317, R324). -/
def State.memResalt (s : State) : State :=
  let z := s.fld Reg.MEM_RESALTSEL 0 10
  let s := s.w1sSet Reg.MEM_CMD 2 s.memx.resalt.isSome
  if s.memx.copy.isSome || s.memx.resalt.isSome || decide (768 ≤ z) then s.memIrq 6
  else (s.setMemx { s.memx with resalt := some (z, s.fld Reg.MEM_RESALTSEL 16 12), resaltT := s.devTime }).setBit
    Reg.MEM_STAT 2 true

/-- Bench firmware answers IMBAL while it persists, and no re-salt and no inlay runs or waits: it re-salts the page that
MEM_MONSTAT names with a new salt, a free value (R317, log entry 140). -/
def State.fwResalt (s : State) : State :=
  if s.bit Reg.MEM_STAT 3 && s.fwDuty 3 && s.memx.resalt.isNone && s.memx.copy.isNone && s.memx.queue == [] then
    let r := s.free
    (r.2.wr Reg.MEM_RESALTSEL (w32 (r.2.fld Reg.MEM_MONSTAT 16 10 + r.1.toNat % 4096 * 65536))).memResalt
  else s

/-- Length of the monitor's window in ticks (R316, Table 11.12). -/
def State.monTicks (s : State) : Nat := usTicks (clampN 100 65535 (s.fld Reg.MEM_MONCFG 8 16))

/-- The monitor judges a window (R316): `bytes` are those each logical channel served, `page` the busiest hash page of the
busiest channel. -/
def State.monJudge (s : State) (bytes : List Nat) (page : Nat) : State :=
  let b := bytes.take 60
  let total := b.foldl (· + ·) 0
  let top := maxList b
  if s.fld Reg.MEM_MONCFG 0 8 * total < top * 60 * 16 then
    let lc := (List.range 60).find? (fun i => nth b i 0 == top) |>.getD 0
    let ratio := min 255 (top * 960 / total)
    let s1 := (s.wr Reg.MEM_MONSTAT (w32 (lc + ratio * 256 + page * 65536))).setBit Reg.MEM_STAT 3 true
    ((s1.memIrq 2).memFault 6 lc 0 0 0).fwResalt
  else s.setBit Reg.MEM_STAT 3 false

/-- MONITOR_WINDOW (R316): the window ends MEM_MONCFG.WINDOW µs after the one before it, and the next begins. -/
def execMonitorWindow (bytes : List Nat) (page : Fin 768) (dt : Nat) (s : State) : Res := s.alive fun s =>
  let s := s.pass dt
  .next (if s.bit Reg.MEM_CTL 0 && decide (s.memx.monT + s.monTicks ≤ s.devTime) then
      (s.setMemx { s.memx with monT := s.devTime }).monJudge bytes page.val
    else s)

/-- RESALT (R317, R324): the migration of a page begins, unless an inlay or another re-salt runs or the page does not
exist; then BADCFG. -/
def execResalt (s : State) : Res := s.alive fun s => s.reach 0 Reg.MEM_CMD fun s => .next s.memResalt

/-- RESALTDONE (R317): every set has been migrated, and the new salt enters MEM_SALT; firmware goes on with the next page
if IMBAL persists. What a dead channel held stays where it was (R323). -/
def execResaltdone (dt : Nat) (s : State) : Res := s.alive fun s =>
  let s := s.pass dt
  match s.memx.resalt with
  | some (z, new) =>
    if s.resaltSets < 4096 then .next s
    else
      let old := s.fld (Reg.MEM_SALT z) 0 12
      let dead := s.memx.dead.map (fun d =>
        if d.2.2.any (fun e => e.page == z) then d else (d.1, d.2.1, d.2.2 ++ [{ page := z, old := old }]))
      let s1 := (s.setMemx { s.memx with resalt := none, dead := dead }).wr (Reg.MEM_SALT z) (w32 new)
      .next ((((s1.setBit Reg.MEM_STAT 2 false).memIrq 4).w1sDone Reg.MEM_CMD 2 State.memResalt).fwResalt)
  | none => .next s

/-! ## Inlays (R321 to R324) -/

/-- A copying inlay from p to a sprue q begins (Table 11.2 step 2). -/
def State.pcCopy (s : State) (p q : Nat) : State :=
  ((((s.setMemx { s.memx with
    copy := some (p, q), copyT := s.devTime, queue := s.memx.queue.filter (· != p) }).setPcRole p 2).setBit Reg.MEM_STAT 1 true)).wr
    Reg.MEM_INLAYPROG 0x10000#32

/-- The copy that MEM_INLAYSEL names is one: FROM serves, TO is an available sprue of its stack. -/
def State.inlaySelOk (s : State) (p q : Nat) : Bool :=
  (s.pcLc p).isSome && decide (p / 32 = q / 32) && s.pcIsSprue q

/-- MEM_CMD.INLAY with MEM_INLAYSEL as it stands; BADCFG where a copy or a re-salt runs or the pair is none (R322). -/
def State.memInlay (s : State) : State :=
  let p := s.fld Reg.MEM_INLAYSEL 0 6
  let q := s.fld Reg.MEM_INLAYSEL 8 6
  let s := s.w1sSet Reg.MEM_CMD 1 s.memx.copy.isSome
  if s.memx.copy.isSome || s.memx.resalt.isSome || !s.inlaySelOk p q then s.memIrq 6 else s.pcCopy p q

/-- INLAY (R322): MEM_CMD.INLAY with MEM_INLAYSEL as it stands, or bench firmware's answer to the first cause that waits,
for which it writes MEM_INLAYSEL first (Table 11.2 step 2). -/
def execInlay (fw : Bool) (s : State) : Res := s.alive fun s =>
  if fw then
    match s.memx.queue with
    | p :: rest =>
      if s.memx.copy.isSome || s.memx.resalt.isSome || !s.fwDuty 3 then .next s
      else match s.pcSprue (p / 32) with
        | some q => .next ((s.wr Reg.MEM_INLAYSEL (w32 (p + q * 256))).pcCopy p q)
        | none => .next ((s.setMemx { s.memx with queue := rest }).memFault 5 p 4 0 0)
    | [] => .next s
  else s.reach 0 Reg.MEM_CMD fun s => .next s.memInlay

/-- MEM_PCMAP switches from p to q (Table 11.2 step 4, R323). -/
def State.pcSwitch (s : State) (p q : Nat) : State :=
  match s.pcLc p with
  | some l =>
    ((((s.setFld (Reg.MEM_PCMAP l) 0 6 q).setPcRole p 3).setFld (Reg.MEM_PCSTAT q) 2 6 l).setPcRole q 0).showSprues
  | none => s

/-- INLAYDONE (R322): all 768 MiB have been copied. -/
def execInlaydone (dt : Nat) (s : State) : Res := s.alive fun s =>
  let s := s.pass dt
  match s.memx.copy with
  | some (p, q) =>
    if s.inlayMib < 768 then .next s
    else
      let s1 := (s.pcSwitch p q).setMemx { s.memx with copy := none }
      .next ((((s1.wr Reg.MEM_INLAYPROG 768#32).setBit Reg.MEM_STAT 1 false).memIrq 3 |>.w1sDone Reg.MEM_CMD 1
        State.memInlay).fwResalt)
  | none => .next s

/-- Logical channel l goes to a poisoned sprue, but for the first `kept` bytes of it (R323, R324). A page under re-salt has
its migrated sets under the new salt (R317). -/
def State.lcDead (s : State) (l kept : Nat) : State :=
  let pages := match s.memx.resalt with
    | some (z, new) => [{ page := z, old := s.fld (Reg.MEM_SALT z) 0 12, ptr := s.resaltSets, new := new }]
    | none => []
  s.setMemx { s.memx with
    sect := s.memx.sect.filter (fun e => !(e.2 == 2 && s.lcOf (32 * e.1) == l && decide (kept ≤ hashOff (32 * e.1))))
    dead := s.memx.dead ++ [(l, kept, pages)] }

/-- PCFAIL (R323, R324): pseudo-channel p fails outright. A source under copy goes to its target, where the MiB copied so
far keep their data; any other in service to the lowest sprue of its stack; without one the fault is SPARELOST. A
sprue that fails is out of service, and a copy to it ends with its source back in the queue. R321 names two ways to fail and
no rule tells their effects apart. -/
def execPcfail (p : Fin 64) (_why : PcLoss) (dt : Nat) (s : State) : Res := s.alive fun s =>
  let s := s.pass dt
  let p := p.val
  match s.pcLc p with
  | some l =>
    let src := s.memx.copy.map (·.1) == some p
    let target := if src then s.memx.copy.map (·.2) else s.pcSprue (p / 32)
    let mib := s.inlayMib
    let kept := if src then mib * 2 ^ 20 else 0
    (match target with
    | some q =>
      let s1 := (s.lcDead l kept).pcSwitch p q
      let s2 := if src then ((s1.setMemx { s1.memx with copy := none }).wr Reg.MEM_INLAYPROG (w32 mib)).setBit Reg.MEM_STAT 1 false else s1
      .next (((s2.setMemx { s2.memx with queue := s2.memx.queue.filter (· != p) }).memIrq 5).memFault 4 p 2 0 0)
    | none => .next ((s.memIrq 5).memFault 5 p 4 0 0))
  | none =>
    let s1 := ((s.setBit (Reg.MEM_PCSTAT p) 8 false).memIrq 5).showSprues
    match s1.memx.copy with
    | some (a, q) =>
      if q = p then
        .next (((s1.setMemx { s1.memx with copy := none, queue := a :: s1.memx.queue }).setPcRole a 0).setBit Reg.MEM_STAT 1 false |>.wr Reg.MEM_INLAYPROG 0#32)
      else .next s1
    | none => .next s1

end Sys2Proof.Machine
end

