-- ==== Sys2Proof/Machine/CmdDlv.lean ====
section
/-!
DEFINITION. The commands of delivery, memory and DMA (Table 13.16): rings (R301 to R305), capture rings (R299, R306),
shares (R306), channels (R333, R338, R340, R343, R345).
-/
namespace Sys2Proof.Machine
open Sys2Proof

/-! ## Rings -/

/-- Tenant t holds DMA channel ch for use: it owns it, the crucible does not drive it, and nothing runs on it. -/
def State.chanFree (s : State) (t ch : Nat) : Bool :=
  s.owns t Part.dmach ch && !s.bit (Reg.DMA_CHOWN ch) 5 && s.chSt ch == Ch.idle

/-- The channel firmware gives a ring: kinds 0 to 3 on a record engine, images on a bulk engine (R332). -/
def State.ringChan (s : State) (t kind : Nat) : Option Nat :=
  (if kind = 4 then (List.range 384).map (· + 128) else List.range 128).find? (s.chanFree t)

/-- RECLEN of pipeline n's statistics records by its shadow (Table 7.4). -/
def State.recLen (s : State) (n : Nat) : Nat :=
  let cfg := s.rd (Reg.PIPE_COLS n + 0x78)
  let cols := s.rd (Reg.PIPE_COLS n)
  let np := ((s.pipeCam n).map (fun c => fmtPlanesOut (s.camFmt c))).getD 3
  (128 + (if bitOf cfg 0 then 1024 * np else 0) + (if bitOf cfg 1 then 4 * ((fldOf cols 16 16 + 15) / 16) * np else 0) + 63) / 64

/-- Cameras of tenant t that a ring takes records of. -/
def State.ringCams (s : State) (t : Nat) (all : Bool) (cam : Nat) : List Nat :=
  if all then s.owned t Part.cam 96 else [cam]

/-- The request of DLV_RING_SET breaks R301 or R305. -/
def State.ringBad (s : State) (c : Cmd) : Bool :=
  let kind := c.at 1 1
  let fl := c.at 3 1
  c.short 40 [(12, 4)] || decide (4 < kind) || decide (c.at 2 1 < 6 ∨ 20 < c.at 2 1) || decide (4 ≤ fl) ||
    decide (64 ≤ c.at 7 1) || decide (c.at 16 8 % 64 ≠ 0) || decide (c.at 24 8 % 8 ≠ 0) ||
    (kind == 4 && (decide (c.at 32 8 % 64 ≠ 0) || c.at 10 2 == 0)) ||
    (kind == 2 && (s.ringCams c.tenant (fl / 2 == 1) (c.at 4 1)).any (fun k =>
      (s.camPipes k).any (fun n => decide (c.at 5 1 < s.recLen n)))) || (kind == 2 && c.at 5 1 == 0)

/-- Set up and enable ring r of tenant t on channel ch. -/
def State.ringSet (s : State) (c : Cmd) (t r ch : Nat) : State :=
  let fl := c.at 3 1
  let cfg := 1 + c.at 1 1 * 2 + fl % 2 * 16 + c.at 4 1 % 128 * 32 + fl / 2 % 2 * 4096 + c.at 5 1 * 65536
  let s1 := (s.wr (Reg.DLV_RCFG t r) (w32 cfg)).wr64 (Reg.DLV_RBASE_LO t r) (c.at 16 8)
  let s2 := (s1.wr (Reg.DLV_RSIZE t r) (w32 (c.at 2 1))).wr64 (Reg.DLV_RWB_LO t r) (c.at 24 8)
  let s3 := (s2.wr (Reg.DLV_RPIDX t r) 0#32).wr (Reg.DLV_RCIDX t r) 0#32
  let s4 := s3.wr (Reg.DLV_RMOD t r) (w32 (c.at 6 1 + c.at 8 2 * 256 + c.at 7 1 * 2 ^ 24))
  let s5 := (s4.wr64 (Reg.DLV_RDBASE_LO t r) (c.at 32 8)).wr (Reg.DLV_RDSIZE t r) (w32 (c.at 10 2))
  ((s5.wr (Reg.DMA_CHOWN ch) (w32 (t + 48))).setRing t r { ch := ch }).ringShow t r

/-- DLV_RING_SET (0x0701, R301, R332): STATE while the ring is enabled. -/
def execDlvRingSet (f : Fin 16) (slot : Fin 64) (s : State) : Res := s.alive fun s =>
  s.onCmd f slot 0x0701 (fun c s =>
    let r := c.at 0 1
    let t := c.tenant
    let all := c.at 3 1 / 2 % 2 == 1
    let ch := s.ringChan t (c.at 1 1)
    s.cmdDo c [
      (s.ringBad c, St.badParam), (!all && s.foreign t Part.cam 96 (c.at 4 1), St.isolation),
      (decide (16 ≤ r) || (!all && decide (96 ≤ c.at 4 1)), St.noObject), (s.ringEn t r, St.state), (s.claimed 8, St.busy),
      (ch.isNone, St.capacity)]
      (fun s => (s.ringSet c t r (ch.getD 0), leBytes 2 (ch.getD 0))))

/-- DLV_RING_CLEAR (0x0702, Table 10.7). -/
def execDlvRingClear (f : Fin 16) (slot : Fin 64) (s : State) : Res := s.alive fun s =>
  s.onCmd f slot 0x0702 (fun c s =>
    s.cmdRun c [(c.short 1 [], St.badParam), (decide (16 ≤ c.at 0 1), St.noObject), (s.claimed 8, St.busy)]
      (fun s => if s.ringEn c.tenant (c.at 0 1) then s.ringOff c.tenant (c.at 0 1) true else s))

/-- DLV_STATUS (0x0706). -/
def execDlvStatus (f : Fin 16) (slot : Fin 64) (s : State) : Res := s.alive fun s =>
  s.onCmd f slot 0x0706 (fun c s =>
    let r := c.at 0 1
    let t := c.tenant
    s.cmdDo c [(c.short 1 [], St.badParam), (decide (16 ≤ r), St.noObject)] (fun s =>
      (s, s.regsBytes [Reg.DLV_RPIDX t r, Reg.DLV_RCIDX t r, Reg.DLV_RLOST t r, Reg.DLV_RSTAT t r, Reg.DLV_TDEFER t,
        Reg.DLV_TREFUSE t, Reg.DLV_TQ t])))

/-! ## Cameras -/

/-- Bytes of a capture ring of `slots` slots for camera k (Table 10.3), by its format and its first stripe's shadow. -/
def State.crBytes (s : State) (k slots : Nat) : Nat :=
  let rf := ((s.camPipes k).head?).elim 0 (fun n => s.fld (Reg.PIPE_OUT n) 2 2)
  slots * (512 + s.camBlkLines k * ringStride (s.camFmt k) rf)

/-- CAM_DELIVERY_SET (0x0703, R291, R299, R306). -/
def execCamDeliverySet (f : Fin 16) (slot : Fin 64) (s : State) : Res := s.alive fun s =>
  s.onCmd f slot 0x0703 (fun c s =>
    let k := c.at 0 1
    let img := c.at 1 1
    let slots := c.at 4 1
    let rf := ((s.camPipes k).head?).elim 0 (fun n => s.fld (Reg.PIPE_OUT n) 2 2)
    let base := s.devAddr c.tenant (c.at 8 8) (s.crBytes k slots)
    let moved := base != some (s.rd64 (Reg.CRU_CAMCRBASE_LO k)) || decide (slots ≠ s.fld (Reg.CRU_CAMCRCFG k) 0 8)
    s.cmdRun c (s.camRefusals c true ++ [
      (c.short 16 [(5, 3)] || decide (2 ≤ img) || decide (c.at 2 2 < 16 ∨ 4095 < c.at 2 2) || decide (slots < 2) ||
        decide (c.at 8 8 % 64 ≠ 0) || base.isNone, St.badParam),
      (s.claimed 5 || (moved && (s.cru k).slots.any (·.busy)), St.busy),
      (img == 1 && !s.imageOk c.tenant k (s.imageLoad k rf), St.capacity)])
      (fun s =>
        let s0 := s.setBench { s.bench with slackCams := s.bench.slackCams.filter (· != k) ++ [k] }
        let s1 := s0.wr (Reg.CRU_CAMCFG k) (w32 (c.at 2 2 + img * 65536))
        let s2 := (s1.wr64 (Reg.CRU_CAMCRBASE_LO k) (base.getD 0)).wr (Reg.CRU_CAMCRCFG k) (w32 slots)
        if moved then ((s2.setCru k { s2.cru k with slots := [] }).slotStat k) else s2))

/-- The kept slot of camera k that holds block q (R299). -/
def State.keptSlot (s : State) (k q : Nat) : Option CSlot := (s.cru k).slots.find? (fun x => x.kept && x.seq == q)

/-- DLV_BLOCK_FETCH (0x0704, R299, R307). -/
def execDlvBlockFetch (f : Fin 16) (slot : Fin 64) (s : State) : Res := s.alive fun s =>
  s.onCmd f slot 0x0704 (fun c s =>
    let k := c.at 0 1
    let r := c.at 1 1
    s.xferCmd c (s.camRefusals c false ++ [
      (c.short 8 [(2, 2)], St.badParam), (decide (16 ≤ r) || (s.keptSlot k (c.at 4 4)).isNone, St.noObject),
      (!(s.ringEn c.tenant r && s.ringKind c.tenant r == 4), St.state)]))

/-! ## Shares and memory -/

/-- DLV_SHARE_SET (0x0705, R306, R307). -/
def execDlvShareSet (f : Fin 16) (slot : Fin 64) (s : State) : Res := s.alive fun s =>
  s.onCmd f slot 0x0705 (fun c s =>
    let t := c.at 0 1
    let minbw := c.at 2 2
    let p := s.part t
    let p' := p.take 10 ++ leBytes 1 (c.at 1 1) ++ (p.drop 11).take 1 ++ leBytes 2 minbw ++ leBytes 1 (c.at 4 1) ++ p.drop 15
    let sum := if t = 0 then s.partSum 0 [] 12 2 + minbw else s.partSum t p' 12 2 + s.fld (Reg.DLV_TSHARE 0) 16 16
    s.cmdRun c [
      (c.short 5 [] || c.at 1 1 == 0 || c.at 4 1 == 0 || decide (64 < c.at 4 1) || decide (1000 < sum), St.badParam),
      (decide (16 ≤ t) || !s.tenantIs t, St.noObject)]
      (fun s =>
        let s1 := (s.wr (Reg.DLV_TSHARE t) (w32 (c.at 1 1 + minbw * 65536))).setFld (Reg.DLV_TQ t) 0 8 (c.at 4 1)
        if t = 0 then s1 else s1.setPart t p'))

/-- Logical channels in service: those whose pseudo-channel is not retired (Table 11.12). -/
def State.lcsUp (s : State) : Nat :=
  ((List.range 60).filter (fun l => s.pcRole (s.fld (Reg.MEM_PCMAP l) 0 6) != 3)).length

/-- MEM_STATUS (0x070B). -/
def execMemStatus (f : Fin 16) (slot : Fin 64) (s : State) : Res := s.alive fun s =>
  s.onCmd f slot 0x070B (fun c s =>
    let t := c.tenant
    s.cmdDo c [(c.short 0 [], St.badParam)] (fun s =>
      (s, leBytes 1 (s.rangeBase t / 2 ^ 30) ++ leBytes 1 (s.rangeSize t / 2 ^ 30) ++ leBytes 2 0 ++
        s.regsBytes [Reg.MEM_PARTVIOL t] ++ leBytes 2 s.lcsUp ++ leBytes 2 (s.lcsUp * 256 / 10))))

/-! ## Channels -/

/-- Refusals of a command to a DMA channel: outside the partition, or driven by the crucible (R405). -/
def State.chanRefusals (s : State) (c : Cmd) : List (Bool × Nat) :=
  let ch := c.at 0 2
  [(s.foreign c.tenant Part.dmach 512 ch || (decide (ch < 512) && s.bit (Reg.DMA_CHOWN ch) 5), St.isolation),
   (decide (512 ≤ ch), St.noObject)]

/-- A channel runs, or waits for a credit, an OWN bit or its turn. -/
def State.chBusy (s : State) (ch : Nat) : Bool := decide (Ch.ready ≤ s.chSt ch) && decide (s.chSt ch ≤ Ch.waitOwn)

/-- DMA_CHAN_SET (0x0707, R338, R340, R343). -/
def execDmaChanSet (f : Fin 16) (slot : Fin 64) (s : State) : Res := s.alive fun s =>
  s.onCmd f slot 0x0707 (fun c s =>
    let ch := c.at 0 2
    let t := c.tenant
    let pace := c.at 3 1
    let pch := c.at 4 2
    s.cmdRun c (s.chanRefusals c ++ [
      (c.short 32 [(12, 4)] || decide (32 ≤ c.at 2 1) || decide (2 < pace) || decide (512 ≤ pch) ||
        decide ((if t = 0 then 2048 else 64) ≤ c.at 6 2) || decide (2 ^ 24 ≤ c.at 8 4) || decide (c.at 16 8 % 64 ≠ 0) ||
        decide (c.at 24 8 % 8 ≠ 0), St.badParam),
      (pace == 2 && !s.owns t Part.dmach pch, St.isolation), (!s.dmaOn ch, St.state),
      (s.claimed 8 || s.chBusy ch, St.busy),
      (pace == 2 && closesCycle (s.routeEdges.filter (fun e => e.2 != ch + 256 || decide (e.1 < 256))) (pch + 256) (ch + 256),
        St.cycle)])
      (fun s =>
        let s1 := (s.wr (Reg.DMA_CHCFG ch) (w32 (c.at 2 1 + c.at 6 2 * 32))).setFld (Reg.DMA_CHOWN ch) 0 5 (t + 16)
        let s2 := (s1.wr (Reg.DMA_CHPACE ch) (w32 (pace + pch * 4))).wr (Reg.DMA_CHSTALL ch) (w32 (c.at 8 4))
        (s2.wr64 (Reg.DMA_CHHEAD_LO ch) (c.at 16 8)).wr64 (Reg.DMA_CHWB_LO ch) (c.at 24 8)))

/-- DMA_CHAN_LOAD (0x0708, R333): the shadow register set, then GO; BUSY while SHVALID is set. -/
def execDmaChanLoad (f : Fin 16) (slot : Fin 64) (s : State) : Res := s.alive fun s =>
  s.onCmd f slot 0x0708 (fun c s =>
    let ch := c.at 0 2
    s.cmdRun c (s.chanRefusals c ++ [
      (c.short 46 [(2, 6)], St.badParam), (!s.dmaOn ch, St.state), (s.claimed 8 || s.chShValid ch, St.busy)])
      (fun s =>
        let ws := (List.range 9).map (fun i => w32 (c.at (8 + 4 * i) 4)) ++ [w32 (c.at 44 2)]
        (s.wrList (Reg.DMA_CHCFG ch + 0x100) ws).chGoCmd ch))

/-- Bits of DMA_CHAN_CTL, and of one write of DMA_CHCMD: CLRCNT, CLRERR, STOP, START in this order. -/
def State.chCtl (s : State) (ch : Nat) (start stop clrerr clrcnt : Bool) : State :=
  let s1 := if clrcnt then s.chClrCnt ch else s
  let s2 := if clrerr then s1.chClrErr ch else s1
  let s3 := if stop then s2.chStopCmd ch else s2
  if start then s3.chStart ch else s3

/-- DMA_CHAN_CTL (0x0709, R345). -/
def execDmaChanCtl (f : Fin 16) (slot : Fin 64) (s : State) : Res := s.alive fun s =>
  s.onCmd f slot 0x0709 (fun c s =>
    let ch := c.at 0 2
    let v := w32 (c.at 2 1)
    s.cmdRun c (s.chanRefusals c ++ [
      (c.short 3 [] || decide (16 ≤ c.at 2 1), St.badParam), (!s.dmaOn ch, St.state), (s.claimed 8, St.busy)])
      (fun s => s.chCtl ch (bitOf v 0) (bitOf v 1) (bitOf v 2) (bitOf v 3)))

/-- DMA_CHAN_STATUS (0x070A). -/
def execDmaChanStatus (f : Fin 16) (slot : Fin 64) (s : State) : Res := s.alive fun s =>
  s.onCmd f slot 0x070A (fun c s =>
    let ch := c.at 0 2
    s.cmdDo c (s.chanRefusals c ++ [(c.short 2 [], St.badParam)]) (fun s =>
      (s, s.regsBytes [Reg.DMA_CHSTAT ch, Reg.DMA_CHDONE ch, Reg.DMA_CHCRED ch, Reg.DMA_CHCUR_LO ch,
        Reg.DMA_CHCUR_LO ch + 4])))

end Sys2Proof.Machine
end

