-- ==== Sys2Proof/Machine/Mailbox.lean ====
section
/-!
DEFINITION. The mailbox as commands pass through it (chapter 13): doorbells (R394), the start of commands (R396), the
writing of responses (R394, R397), and the response consumer index.
-/
namespace Sys2Proof.Machine
open Sys2Proof

/-- Bit `slot` of MBX_SLOTBUSY of function f. -/
def State.slotBusy (s : State) (f slot : Nat) : Bool := s.bit (Reg.MBX_SLOTBUSY_LO f + 4 * (slot / 32)) (slot % 32)
/-- Set bit `slot` of MBX_SLOTBUSY of function f. -/
def State.setSlotBusy (s : State) (f slot : Nat) (b : Bool) : State :=
  s.setBit (Reg.MBX_SLOTBUSY_LO f + 4 * (slot / 32)) (slot % 32) b

/-- A write of MBX_CMDDB (R394): the slot is held and its command waits; a held slot's doorbell is ignored and counted. -/
def State.cmddb (s : State) (f slot : Nat) : State :=
  if s.slotBusy f slot then s.addSat (Reg.MBX_ERR f) 0 16 1
  else
    let s1 := s.setSlotBusy f slot true
    s1.setBench { s1.bench with bells := s1.bench.bells ++ [(f, slot)] }

/-- MBX_CMDDB (R394). -/
def execMbxCmddb (f : Fin 16) (v : Word) (s : State) : Res := s.alive fun s => s.reach f.val (Reg.MBX_CMDDB 0) fun s =>
  .next (s.cmddb f.val (fldOf v 0 6))

/-! ## Starting commands (R396, R405, R407) -/

/-- Function f's first waiting command may start: nothing earlier on its objects waits, runs or stands in a transfer queue,
and its core is in service (R396, R389). -/
def State.mayStart (s : State) (f : Nat) : Bool :=
  match s.bench.bells.find? (fun b => b.1 == f) with
  | none => false
  | some b =>
    let c := s.readCmd b.1 b.2
    let before := s.bench.bells.takeWhile (fun x => !(x == b))
    (s.bench.inlay.map (·.1) != some c.core) && !s.bench.running.any (fun r => r.shares c) &&
      !(List.range 16).any (fun t => (s.xferQ t).any (fun x => x.cmd.shares c)) &&
      !before.any (fun x => (s.readCmd x.1 x.2).shares c)

/-- The function served next, round robin from the one after the last (R396). -/
def State.nextFn (s : State) : Option Nat :=
  ((List.range 16).map (fun i => (s.bench.last + 1 + i) % 16)).find? s.mayStart

/-- The refusals that hold for every command (R400, R405, R407, R409). -/
def State.startStatus (s : State) (c : Cmd) : Nat :=
  pickStatus [
    (!opListed c.op, St.badOpcode),
    (s.bit Reg.TWIN_STAT 7 && !opWhenFenced c.op, St.fenced),
    (decide (c.f ≠ 0) && decide (c.tenant ≠ c.f), St.isolation),
    (decide (c.f ≠ 0) && opPf0 c.op, St.isolation),
    (decide (c.f ≠ 0) && decide (s.part c.f = []) && !([0x0101, 0x0105, 0x0B01, 0x0801].contains c.op), St.isolation)]

/-- A command starts: it runs, or is answered at once where a refusal of every command holds. -/
def State.cmdStart (s : State) (f slot : Nat) : State :=
  let c := s.readCmd f slot
  let s1 := s.setBench { s.bench with
    bells := s.bench.bells.filter (fun b => !(b == (f, slot))), running := s.bench.running ++ [c], last := f }
  let st := s1.startStatus c
  if st = 0 then s1 else s1.answer c st []

/-- COMMAND_START (R396): the next function's first waiting command starts. -/
def execCommandStart (dt : Nat) (s : State) : Res := s.alive fun s =>
  let s := s.pass dt
  if s.fwServes then
    match s.nextFn with
    | some f =>
      (match s.bench.bells.find? (fun b => b.1 == f) with
      | some b => .next (s.cmdStart b.1 b.2)
      | none => .next s)
    | none => .next s
  else .next s

/-! ## Responses (R394, R397) -/

/-- Free response slots: PIDX - CIDX below 64. -/
def State.rspRoom (s : State) (f : Nat) : Bool :=
  decide ((s.rdN (Reg.MBX_RSPPIDX f) + 2 ^ 32 - s.rdN (Reg.MBX_RSPCIDX f)) % 2 ^ 32 < 64)

/-- The vector of a response or notice goes out (Table 13.3); a VF's VEC of 64 or more sends nothing. -/
def State.rspVec (s : State) (f : Nat) (r : Resp) : State :=
  let v := s.fld (Reg.MBX_CTL f) 0 11
  if (if r.notice then s.bit (Reg.MBX_CTL f) 17 else s.bit (Reg.MBX_CTL f) 16 && r.irq) && (f == 0 || decide (v < 64)) then
    s.sendVec f v
  else s

/-- Firmware writes a response: slot, index, write-back, busy bit, vector (R394 step 3). -/
def State.rspWrite (s : State) (f : Nat) (r : Resp) : State :=
  let p := s.rdN (Reg.MBX_RSPPIDX f)
  let s1 := s.wrBytes (Reg.MBX_RSP f (256 * (p % 64))) r.bytes
  let s2 := s1.addWrap (Reg.MBX_RSPPIDX f) 0 32 1
  let wb := s2.rd64 (Reg.MBX_RSPWB_LO f)
  let s3 := if wb % 2 = 1 then s2.hostWrite (wb / 8 * 8) (leBytes 4 (s2.rdN (Reg.MBX_RSPPIDX f))) else s2
  let s4 := match r.slot with
    | some k => s3.setSlotBusy f k false
    | none => s3
  s4.rspVec f r

/-- RESPONSE_WRITE (R397): the first held response of function f goes into a free slot. -/
def execResponseWrite (f : Fin 16) (dt : Nat) (s : State) : Res := s.alive fun s =>
  let s := s.pass dt
  let x := s.mbox f.val
  match x.held with
  | r :: rest =>
    if s.fwServes && s.rspRoom f.val then .next ((s.setMbox f.val { x with held := rest }).rspWrite f.val r) else .next s
  | [] => .next s

/-- A write of MBX_RSPCIDX that would pass MBX_RSPPIDX is ignored (Table 13.3). -/
def State.rspcidx (s : State) (f : Nat) (v : Word) : State :=
  let old := s.rdN (Reg.MBX_RSPCIDX f)
  if (v.toNat + 2 ^ 32 - old) % 2 ^ 32 ≤ (s.rdN (Reg.MBX_RSPPIDX f) + 2 ^ 32 - old) % 2 ^ 32 then s.wr (Reg.MBX_RSPCIDX f) v
  else s

/-- MBX_RSPCIDX_WRITE (R394). -/
def execMbxRspcidxWrite (f : Fin 16) (v : Word) (s : State) : Res := s.alive fun s => s.reach f.val (Reg.MBX_RSPCIDX 0) fun s =>
  .next (s.rspcidx f.val v)

end Sys2Proof.Machine
end

