-- ==== Sys2Proof/Machine/TwinOps.lean ====
section
/-!
DEFINITION. The shared operations of twin operation (chapter 14): presence of the partner, the change of state and role
(R429), the lead epoch (R426), stepping down, fencing, takeover and unpairing (R430, R439 to R443), and the steps of
pairing (R432).
-/
namespace Sys2Proof.Machine
open Sys2Proof

/-- Set bit i of TWIN_IRQ (source 315). -/
def State.twinIrq (s : State) (i : Nat) : State := s.irq Reg.TWIN_IRQ 315 i
/-- TWIN_CTL.EN and TWIN_STAT.FENCED and ARMED. -/
def State.twinEn (s : State) : Bool := s.bit Reg.TWIN_CTL 0 && s.clkOn 246
def State.twinFenced (s : State) : Bool := s.bit Reg.TWIN_STAT 7
def State.twinArmed (s : State) : Bool := s.bit Reg.TWIN_STAT 9
/-- TWIN_EPOCH. -/
def State.twinEpoch (s : State) : Nat := s.fld Reg.TWIN_EPOCH 0 16

/-! ## Presence (R420, R424) -/

/-- A sign seen last at t is present: within the last 1 µs. -/
def State.signNow (s : State) (t : Option Nat) : Bool := t.any (fun t => decide (s.devTime ≤ t + usTicks 1))
/-- A sign has been absent for 8 µs. -/
def State.signGone (s : State) (t : Option Nat) : Bool := t.all (fun t => decide (t + usTicks 8 ≤ s.devTime))
def State.hbNow (s : State) : Bool := s.signNow s.twin.hbT
def State.witNow (s : State) : Bool := s.signNow s.twin.witT
def State.hbGone (s : State) : Bool := s.signGone s.twin.hbT
def State.witGone (s : State) : Bool := s.signGone s.twin.witT

/-! ## Role and state -/

/-- The device sends ROLE 1 (R429). -/
def State.sendsFollow (s : State) : Bool := s.bit Reg.LINK_ROLE 16

/-- The TRIG_OUT pins go to high impedance, or follow TRG_PINCFG.OE again (R87). -/
def State.pinsHiz (s : State) (hiz : Bool) : State :=
  if s.trgHiz == hiz then s
  else
    let s1 := (if hiz then s.pinsFloat else s).setBit Reg.TRG_ROLE 0 hiz
    if hiz then s1 else s1.each (List.range 32) (fun t p => t.pinCfgWritten p false)

/-- The role that messages and heartbeats carry becomes ROLE 1 or ROLE 0; a change sends CLAIM copies (R169). -/
def State.sendRole (s : State) (follow : Bool) : State :=
  if s.sendsFollow == follow then s else (s.setBit Reg.LINK_ROLE 16 follow).sendClaim

/-- The device becomes LEAD: its epoch rises above every epoch known and travels to the cameras with CLAIM copies under ROLE
0 (R426, R169). -/
def State.twinLead (s : State) : State :=
  let e := min 0xFFFF (max s.twinEpoch (max s.twin.peerEpoch (maxList ((List.range 96).map (fun c => (s.cam c).epoch)))) + 1)
  let s1 := ((s.setFld Reg.TWIN_EPOCH 0 16 e).wr Reg.LINK_ROLE (w32 e)).sendClaim
  if 0xFF00 ≤ e ∧ s.twinEpoch < 0xFF00 then s1.fault 11 12 0 0 else s1

/-- The device enters a state with a role (R429): it shows both, sends ROLE 1 and floats its pins as a FOLLOW, prefers the
twin-recovered clock as a FOLLOW in PAIRING or PAIRED (R451), tells every function, and outside PAIRED lets go of the pages
and placements that wait (R434). -/
def State.twinSet (s : State) (st role : Nat) : State :=
  let st0 := s.twinState
  let r0 := s.twinRole
  let s1 := ((((s.noteGate 40).noteGate 41).setFld Reg.TWIN_STAT 0 3 st).setFld Reg.TWIN_STAT 3 2 role).sendRole (role == 1) |>.pinsHiz (role == 1)
  let s2 := if st0 = st then s1 else (s1.wr64 Reg.TWIN_CHGT_LO s1.devTime).twinIrq 0
  let s3 := if r0 = role then s2 else s2.twinIrq 1
  let s4 := if r0 ≠ role ∨ (st0 == 3) != (st == 3) then s3.produce 865 else s3
  let want := b2n (role == 1 && (st == 1 || st == 2))
  let s5 := if s4.tbPref = want then s4 else s4.tbPrefer want
  let s6 := if st0 = 2 ∧ st ≠ 2 then s5.itemsRelease else s5
  if st0 = st ∧ r0 = role then s6 else s6.noticeAll 0x0006 (leBytes 1 role ++ leBytes 1 st)

/-- A twin event is counted in TWIN_EVCNT: 0 takeovers, 8 partitions, 16 handovers, 24 step-downs. -/
def State.twinCount (s : State) (lo : Nat) : State := s.addSat Reg.TWIN_EVCNT lo 8 1

/-- The request is armed no longer. -/
def State.twinDisarm (s : State) : State := s.setBit Reg.TWIN_STAT 9 false

/-- A handover that is pending ends with a status for its command (Table 14.9). -/
def State.handoverDrop (s : State) (status : Nat) : State :=
  let k := s.twin.hoCmd
  ((s.setTwin { s.twin with th := none, hoLead := false, hoOk := false, hoCmd := none }).setBit Reg.TWIN_STAT 10 false).answerAt
    k status []

/-- Set FENCED for this device: its witness stops, its heartbeats and every MBX_STAT show it (R420, R442). -/
def State.twinFencedSet (s : State) (on : Bool) : State :=
  let s1 := (s.setBit Reg.TWIN_STAT 7 on).each (List.range 16) (fun t f => t.setBit (Reg.MBX_STAT f) 3 on)
  if on && s1.twin.alive then (s1.setTwin { s1.twin with alive := false }).emit (.alive false s1.devTime) else s1

/-- The device fences itself (R442): FENCED as FOLLOW at once, whatever pairing or handover was in progress. -/
def State.twinFence (s : State) : State :=
  let s1 := ((s.handoverDrop St.state).twinDisarm).twinFencedSet true
  (s1.setTwin { s1.twin with step := 0, rejoin := false }).twinSet 5 1

/-- The device steps down before a higher epoch (R430). -/
def State.twinSuperseded (s : State) : State := (((s.twinFence).twinCount 24).twinIrq 9).fault 11 10 0 2

/-- An epoch reaches a device that sends ROLE 0 (R430); a handover that the device itself started excepts it. -/
def State.epochSeen (s : State) (e : Nat) : State :=
  if s.twinEn && !s.sendsFollow && decide (s.twinEpoch < e) && !s.twin.hoLead then s.twinSuperseded else s

/-- The FOLLOW takes over (Table 14.7). -/
def State.takeover (s : State) : State :=
  let s1 := (s.fault 11 1 0 4).handoverDrop St.state
  let s2 := (s1.twinCount 0).setTwin { s1.twin with step := 0, rejoin := false }
  (s2.twinLead.pinsHiz false).twinSet 4 0

/-- The LEAD goes on alone. -/
def State.twinSolo (s : State) : State :=
  let s1 := s.handoverDrop St.state
  (s1.setTwin { s1.twin with step := 0, rejoin := false }).twinSet 4 0

/-- The pair is parted: both twins capture and deliver (Table 14.6). -/
def State.twinPart (s : State) : State :=
  let s1 := s.handoverDrop St.state
  ((s1.setTwin { s1.twin with step := 0, rejoin := false }).twinCount 8).twinSet 3 s.twinRole

/-! ## Pairing (R432, R433) -/

/-- Pairing is abandoned: the device returns to the state it held before, disarmed (R432). -/
def State.pairFail (s : State) : State :=
  let x := s.twin
  let s1 := (((s.setTwin { x with step := 0, rejoin := false }).twinDisarm).twinIrq 8).fault 11 11 0 0
  let s2 := if x.prevState = 5 then s1.twinFencedSet true else s1
  s2.twinSet x.prevState x.prevRole

/-- PAIRQ leaves (Table 14.1): serial number, VERSION, bench-state format, CFGDIG, EPOCH, role, FENCED. -/
def State.sendPairq (s : State) : State :=
  s.twinSend 2 0xD2 0 8 (leBytes 8 Config.serial.toNat ++ leBytes 4 s.bench.fw.version ++
    leBytes 2 (Config.stateFormat s.bench.fw.version).toNat ++ leBytes 8 (s.rd64 Reg.TWIN_CFGDIG_LO) ++ leBytes 2 s.twinEpoch ++
    leBytes 1 (b2n (s.twinRole == 1)) ++ leBytes 1 (b2n s.twinFenced))

/-- Pairing begins: PAIRING with a role, and the PAIRQ exchange (Table 14.4 step 1). `rejoin`: with the present epoch. -/
def State.pairBegin (s : State) (role : Nat) (rejoin : Bool) : State :=
  let s1 := ({ s with slew := {} } : State).setTwin { s.twin with
    step := 1, stepT := s.devTime, prevState := s.twinState, prevRole := s.twinRole, rejoin := rejoin, ts := none, joined := []
    tracksT := none, good := 0, seqs := [], lostHb := false, lostWit := false }
  ((s1.setBit Reg.TWIN_STAT 8 false).twinSet 1 role).sendPairq

/-- The role that this device takes in a pairing: TWIN_CTL.PAIRROLE where it is armed; a SOLO device that is not leads
(R433). -/
def State.pairRole (s : State) : Nat := if s.twinArmed then s.fld Reg.TWIN_CTL 2 1 else 0

/-- This device is ready to pair: armed, or SOLO with AUTOREJOIN set (R433). -/
def State.pairReady (s : State) : Bool :=
  s.twinEn && (s.twinArmed || (s.twinState == 4 && s.bit Reg.TWIN_CTL 1)) && (s.twinState == 0 || s.twinState == 4)

/-- Pairing begins once both devices are armed and the bond is ACTIVE. A partner that is PAIRING already is armed, or is a
SOLO device that needs no arming (R433). -/
def State.pairTry (s : State) : State :=
  if s.pairReady && (s.twin.peerArmed || s.twin.peerState == 1) && s.hbNow && (s.bond 96).active then
    s.pairBegin s.pairRole false
  else s

/-- Step 1 of a device that rejoins counts from the moment at which its partner too is armed (R432). -/
def State.pairAwait (s : State) : State :=
  if s.twinState = 1 ∧ s.twin.step = 1 ∧ s.twin.peerArmed = false ∧ s.twin.peerState ≠ 1 ∧ s.twin.rejoin = false then
    s.setTwin { s.twin with stepT := s.devTime }
  else s

/-- TWIN_PAIR can be taken: EN set, a device that is ALONE or SOLO, and an epoch below 0xFF00 (R426, R432). -/
def State.pairOpen (s : State) : Bool :=
  s.twinEn && (s.twinState == 0 || s.twinState == 4) && decide (s.twinEpoch < 0xFF00)

/-- TWIN_CMD.PAIR: the request is armed; a device armed as FOLLOW sends ROLE 1 and floats its pins from now on (R432). -/
def State.pairArm (s : State) : State :=
  if s.pairOpen then
    let s1 := s.setBit Reg.TWIN_STAT 9 true
    (if s1.pairRole = 1 then (s1.sendRole true).pinsHiz true else (s1.sendRole false).pinsHiz false).pairTry
  else s

/-- Step 6 is complete: every bound camera has joined and the tracks are copied; the devices are PAIRED. -/
def State.pairDone (s : State) : State :=
  if s.twinState = 1 ∧ s.twin.tracksT.isSome ∧
      (List.range 96).all (fun c => !(s.cam c).bound || s.twin.joined.contains c) then
    ((s.setTwin { s.twin with
      step := 0, rejoin := false, seqs := [], cfgRun := 0, nozOwn := [], nozPeer := [] }).twinDisarm).twinSet 2 s.twinRole
  else s

/-- Twin operation under Table 14.6: PAIRING from step 4 on, PAIRED or PARTITIONED. -/
def State.twinActs (s : State) : Bool :=
  (s.twinState == 1 && decide (4 ≤ s.twin.step)) || s.twinState == 2 || s.twinState == 3

/-- Table 14.6 for a twin from step 4 on, and R439 and Table 14.9 for a pairing before Ts. -/
def State.twinAbsence (s : State) : State :=
  if !s.twinEn then s
  else if s.hbGone && s.witGone then
    if s.twinActs then
      let s1 := (if s.twin.lostHb then s else s.twinIrq 2)
      let s2 := (if s.twin.lostWit then s1 else s1.twinIrq 3)
      let s3 := s2.setTwin { s2.twin with lostHb := true, lostWit := true }
      if s3.twinRole = 1 then s3.takeover else (s3.twinSolo).fault 11 2 0 2
    else if s.twinState = 1 then (if s.twinRole = 1 then s.twinFence else s.pairFail)
    else s
  else if s.hbGone && s.witNow && !s.twin.lostHb && s.twinActs then
    ((s.setTwin { s.twin with lostHb := true }).twinPart.twinIrq 2).fault 11 3 0 2
  else if s.witGone && s.hbNow && !s.twin.lostWit && s.twinActs then
    ((s.setTwin { s.twin with lostWit := true }).twinIrq 3).fault 11 4 0 0
  else s

/-- The partner has fenced itself (Table 14.6), or a request to do so is met (R442). -/
def State.peerFenced (s : State) : State :=
  let k := s.twin.fenceCmd
  let s1 := (s.setTwin { s.twin with fenceT := none, fenceCmd := none }).answerAt k St.ok []
  if s1.twinActs then (if s1.twinRole = 1 then s1.takeover else s1.twinSolo)
  else if s1.twinState = 1 then (if s1.twinRole = 1 then s1.twinFence else s1.pairFail)
  else s1

/-! ## Handover, fencing, unpairing (R441 to R443) -/

/-- A lane, pipeline or bench-core inlay runs (R441). -/
def State.anyInlay (s : State) : Bool :=
  s.bonds.any (fun e => e.2.sw.isSome) || s.pipes.any (fun e => e.2.loading) || s.bench.inlay.isSome

/-- A handover may start: a LEAD in PAIRED, with an epoch below 0xFF00 (R426, R441). -/
def State.handoverOpen (s : State) : Bool := s.paired && s.twinRole == 0 && decide (s.twinEpoch < 0xFF00) && s.twin.th.isNone

/-- A handover starts: the LEAD names Th, past the time in which the FOLLOW must confirm it. -/
def State.handoverStart (s : State) (cmd : Option (Nat × Nat)) : State :=
  let th := s.devTime + usTicks 1050
  ((s.setTwin { s.twin with
    th := some th, hoT := s.devTime, hoLead := true, hoOk := false, hoCmd := cmd }).setBit Reg.TWIN_STAT 10 true).twinCtrl
    (leBytes 1 4 ++ leBytes 8 th)

/-- This device asks its partner to fence itself (R442). -/
def State.fencePeer (s : State) (cmd : Option (Nat × Nat)) : State :=
  (s.setTwin { s.twin with fenceT := some s.devTime, fenceCmd := cmd }).twinCtrl (leBytes 1 3)

/-- A fenced device may rejoin: the heartbeat is present and the partner leads (R443). -/
def State.unfenceOpen (s : State) : Bool := s.twinFenced && s.hbNow && s.twin.peerRole == 0

/-- TWIN_UNFENCE: armed as FOLLOW, the device rejoins (R443, R433). -/
def State.twinUnfence (s : State) : State :=
  if s.unfenceOpen then
    (((s.twinFencedSet false).setBit Reg.TWIN_STAT 9 true).setFld Reg.TWIN_CTL 2 1 1).pairBegin 1 false
  else s

/-- The pair dissolves on this device (R443); `told`: the partner said so. -/
def State.twinUnpair (s : State) (told : Bool) : State :=
  let s1 := (s.handoverDrop St.state).twinDisarm
  let s2 := s1.setTwin { s1.twin with step := 0, rejoin := false }
  if s.twinFenced then (if told then s else (s2.twinFencedSet false).twinSet 0 2)
  else if s.twinRole = 1 then s2.twinFence
  else ((s2.twinSet 0 2).sendRole false).pinsHiz false

end Sys2Proof.Machine
end

