-- ==== Sys2Proof/Machine/Bench.lean ====
section
/-!
DEFINITION. Meanings of the bench (chapter 13): cores and restarts (R389 to R392), claims (R411), command transfers (R307,
R401), the maker's mark (R384), and firmware images (R413 to R416).
-/
namespace Sys2Proof.Machine
open Sys2Proof

/-! ## Cores (R389) -/

/-- Set bit i of BENCH_IRQ (source 319). -/
def State.benchIrq (s : State) (i : Nat) : State := s.irq Reg.BENCH_IRQ 319 i
/-- Core c is in service. -/
def State.coreUp (s : State) (c : Nat) : Bool := s.bit Reg.BENCH_STAT c
/-- BC4 waits as the sprue. -/
def State.bc4Free (s : State) : Bool := !s.bit Reg.BENCH_STAT 5 && !s.bench.failed.contains 4 && s.bench.inlay.isNone

/-- Show a bit of MBX_STAT in every function. -/
def State.mboxAll (s : State) (i : Nat) (on : Bool) : State :=
  s.each (List.range 16) (fun t f => t.setBit (Reg.MBX_STAT f) i on)

/-- The duty that core c carries: its own, or that of the core which BC4 replaces. -/
def State.coreDuty (s : State) (c : Nat) : Nat := if c = 4 then s.fld Reg.BENCH_STAT 6 2 else c

/-- A bench restart begins (R391): all cores reset, RESTART shows, a pairing in progress fails (Table 14.9), and what is
pending waits for its answer (R392). Cause 0 is the command, 1 a fault, 2 an update. -/
def State.benchRestart (s : State) (cause : Nat) : State :=
  let held := s.bench.bells.map (fun b => s.readCmd b.1 b.2)
  let s1 := if s.twinState = 1 then s.pairFail else s
  let s2 := s1.setBench { s1.bench with
    restart := some (cause, s1.devTime), inlay := none, bells := [], running := s1.bench.running ++ held }
  (s2.setBit Reg.BENCH_STAT 8 true).mboxAll 1 true

/-- Core c fails (R389): BC4 takes over, or the bench restarts with the cores that remain. -/
def State.coreFail (s : State) (c : Nat) : State :=
  if s.bench.failed.contains c then s
  else
    let s1 := (s.setBit Reg.BENCH_STAT c false).setBench { s.bench with failed := s.bench.failed ++ [c] }
    let left := ((List.range 5).filter (fun k => !s1.bench.failed.contains k)).length
    let s2 := if left = 1 then s1.fault 10 4 0 4 else s1
    if s2.bench.restart.isSome then s2
    else if c < 4 ∧ s.bc4Free ∧ s.coreUp c then s2.setBench { s2.bench with inlay := some (c, s2.devTime) }
    else if s.coreUp c then s2.benchRestart 1
    else s2

/-- WATCHDOG_MISS (R389): core c has missed its watchdog for 1 ms. -/
def execWatchdogMiss (c : Fin 5) (dt : Nat) (s : State) : Res := s.alive fun s =>
  let s0 := s.pass dt
  .next (if s0.coreUp c.val then s0.fault 10 1 c.val 2 else s0)

/-- LOCAL_MEMORY_UE (R389). -/
def execLocalMemoryUe (c : Fin 5) (dt : Nat) (s : State) : Res := s.alive fun s =>
  let s0 := s.pass dt
  .next (if s0.coreUp c.val then s0.fault 10 1 c.val 2 else s0)

/-- The bench is back in service: what waited for it goes on, rows, rings and re-salts (R390); inlays of pseudo-channels and
sprue self-tests have commands of their own. -/
def State.fwResume (s : State) : State :=
  ((s.each ((List.range 32).filter (fun b => (s.nbank b).waiting != [])) (fun t b => t.rowNext b)).ringsRebind).fwResalt

/-- CORE_INLAY_DONE (R389): BC4 serves the failed core's duties; the commands that ran there end with ABORTED_RESTART. -/
def execCoreInlayDone (dt : Nat) (s : State) : Res := s.alive fun s =>
  let s0 := s.pass dt
  .next (match s0.bench.inlay with
    | some (c, _) =>
      let gone := s0.bench.running.filter (fun x => x.core == c)
      let s1 := (s0.setBench { s0.bench with inlay := none }).waitersDrop (fun k => gone.any (fun x => (x.f, x.slot) == k))
      let s2 := s1.each gone (fun t x => t.answer x St.aborted [])
      ((((s2.setBit Reg.BENCH_STAT 4 true).setBit Reg.BENCH_STAT 5 true).setFld Reg.BENCH_STAT 6 2 c)).benchIrq 0 |>.fwResume
    | none => s0)

/-- BMEM_CE (R481): noted. -/
def execBmemCe (c : Fin 5) (dt : Nat) (s : State) : Res := s.alive fun s => .next ((s.pass dt).fault 10 3 c.val 0)

/-- BSHM_UE (R391): its reaction at L2 is a bench restart. -/
def execBshmUe (dt : Nat) (s : State) : Res := s.alive fun s => .next ((s.pass dt).fault 10 2 0 2)

/-- BENCH_CMD.RESTART: nothing where a restart runs (R415). -/
def State.restartCmd (s : State) : State :=
  if s.bench.restart.isSome then s.noteAgain Reg.BENCH_CMD 0 else s.benchRestart 0

/-- BENCH_RESTART (R391): BENCH_CMD.RESTART. -/
def execBenchRestart (s : State) : Res := s.alive fun s => s.reach 0 Reg.BENCH_CMD fun s =>
  .next s.restartCmd

/-! ## The end of a restart (R391, R392, R415) -/

/-- Slot B is active: as the boot record says, or, before this device wrote one, as the board delivers it (Table 17.3). -/
def State.bootB (s : State) : Bool := if s.bench.bootSeq = 0 then Config.flashSlot else s.bench.boot == 1

/-- What an image's header says (Table 13.20). -/
def imageInfo (b : List Byte) : FwInfo :=
  {
    version := leAt b 4 4, build := leAt b 8 4, date := leAt b 12 4, imageId := (b.drop 32).take 8
    keyIdx := leAt b 20 1, svn := leAt b 16 4 }

/-- The update succeeds (R415 step 5): the new image runs, the boot record names the other slot, the minimum SVN rises if
RAISESVN was set, and FW_ACTIVATE is answered. -/
def State.updateDone (s : State) (c : Cmd) (raise : Bool) : State :=
  let i := imageInfo (s.bench.staged.getD [])
  let s1 := s.setBench { s.bench with
    activate := none, prevVer := s.bench.fw.version, fw := i, boot := b2n (!s.bootB), bootSeq := s.bench.bootSeq + 1
    svnUp := if raise then max s.bench.svnUp i.svn else s.bench.svnUp }
  let s2 := if raise then s1.wr Reg.BENCH_SVNMIN (w32 (max (s1.rdN Reg.BENCH_SVNMIN) i.svn)) else s1
  ((s2.answer c St.ok (leBytes 4 i.version)).noticeAll 0x0004 (leBytes 4 i.version ++ leBytes 1 0)).benchIrq 2

/-- Every pending command but FW_ACTIVATE ends with ABORTED_RESTART, transfers in the queues too (R392). -/
def State.abortPending (s : State) : State :=
  let keep := s.bench.activate.map (fun a => (a.1.f, a.1.slot))
  let gone := s.bench.running.filter (fun c => some (c.f, c.slot) != keep)
  let s1 := s.waitersDrop (fun k => some k != keep)
  let s2 := s1.each gone (fun t c => t.answer c St.aborted [])
  s2.each (List.range 16) (fun t f =>
    if t.xferQ f = [] then t
    else ((t.xferQ f).foldl (fun u x => if x.cmd.interim then u.answer x.cmd St.aborted [] else u) t).putXferQ f [])

/-- Answers come before the notices that firmware holds (R392). -/
def State.answersFirst (s : State) : State :=
  s.each ((List.range 16).filter (fun f => (s.mbox f).held.any (·.notice))) (fun t f =>
    t.setMbox f { t.mbox f with held := (t.mbox f).held.filter (fun r => !r.notice) ++ (t.mbox f).held.filter (·.notice) })

/-- The new image is too late: the 200 ms of an activation have passed (R415). -/
def State.activateLate (s : State) : Bool := s.bench.activate.any (fun a => decide (a.2.2 + usTicks 200000 < s.devTime))

/-- RESTARTED (R392): firmware has rebuilt its state; a new image only within its 200 ms (R415). -/
def execRestarted (dt : Nat) (s : State) : Res := s.alive fun s =>
  let s0 := s.pass dt
  .next (match s0.bench.restart with
    | some (cause, _) =>
      if s0.activateLate then s0 else
      let s1 := s0.abortPending.answersFirst
      let s2 := (((s1.setBench { s1.bench with restart := none }).setBit Reg.BENCH_STAT 8 false).setBit Reg.BENCH_STAT 9
        false).mboxAll 1 false |>.mboxAll 2 false
      let s3 := (s2.addSat Reg.BENCH_RESTARTS 0 16 1).benchIrq 1
      let s4 := match s3.bench.activate with
        | some (c, raise, _) => s3.updateDone c raise
        | none => s3
      ((s4.noticeAll 0x0003 (leBytes 4 s4.bench.fw.version ++ leBytes 1 cause)).fwResume).w1sDone Reg.BENCH_CMD 0
        (fun t => t.benchRestart 0)
    | none => s0)

/-- ACTIVATE_TIMEOUT (R415): the new image has not come into service within 200 ms; the bench restarts with the previous
one. -/
def execActivateTimeout (dt : Nat) (s : State) : Res := s.alive fun s =>
  let s0 := s.pass dt
  .next (match s0.bench.activate with
    | some (c, _, t) =>
      if t + usTicks 200000 ≤ s0.devTime then
        let s1 := s0.setBench { s0.bench with activate := none, restart := some (2, s0.devTime) }
        ((s1.answer c St.timeout []).noticeAll 0x0004 (leBytes 4 s1.bench.fw.version ++ leBytes 1 1)).benchIrq 3
      else s0
    | none => s0)

/-! ## Claims (R411) -/

/-- The locks of unit u of BENCH_DWCLAIM. -/
def claimLocks (u : Nat) : List LockId :=
  match u with
  | 0 => [.pos]
  | 1 => [.trg]
  | 2 => [.evr]
  | 3 => [.lane]
  | 4 => [.link]
  | 5 => [.pipe]
  | 6 => [.assay]
  | 7 => [.noz]
  | 8 => (List.finRange 16).map .dma
  | 9 => [.mem]
  | 10 => [.twin]
  | 11 => [.clk]
  | 12 => [.pwr]
  | 13 => [.hostep]
  | _ => []

/-- The unit of BENCH_DWCLAIM that guards a lock; none for a lock that needs no claim. -/
def lockClaim : LockId → Option Nat
  | .pos => some 0
  | .trg => some 1
  | .evr => some 2
  | .lane => some 3
  | .link => some 4
  | .pipe => some 5
  | .assay => some 6
  | .noz => some 7
  | .dma _ => some 8
  | .mem => some 9
  | .twin => some 10
  | .clk => some 11
  | .pwr => some 12
  | .hostep => some 13
  | .bench => none
  | .touch => none
  | .glb => none

/-- The units that a command's group writes. -/
def opUnits (op : Nat) : List Nat :=
  match op / 256 with
  | 2 => [3, 4]
  | 3 => [5]
  | 4 => [0, 1, 2]
  | 5 => [6]
  | 6 => [7]
  | 7 => [5, 8, 9]
  | 8 => [10]
  | 10 => [11, 12]
  | _ => []

/-- A write of BENCH_DWCLAIM (R411): a REQ bit that clears takes its GRANT and closes the unit's lock. -/
def State.dwclaim (s : State) (v : Word) : State :=
  let old := s.rd Reg.BENCH_DWCLAIM
  let s1 := s.wr Reg.BENCH_DWCLAIM ((old &&& 0x3FFF0000#32) ||| (v &&& 0x3FFF#32))
  s1.each (List.range 14) (fun t u =>
    if bitOf v u then t
    else (t.setBit Reg.BENCH_DWCLAIM (16 + u) false).each (claimLocks u) (fun t l => t.setBit (lockReg l) 0 false))

/-- BENCH_DWCLAIM_WRITE (R411). -/
def execBenchDwclaimWrite (v : Word) (s : State) : Res := s.alive fun s => s.reach 0 Reg.BENCH_DWCLAIM fun s =>
  .next (s.rwl .bench (fun t => t.dwclaim v))

/-- GRANT (R411): firmware has no command in progress on the claimed unit. -/
def execGrant (u : Fin 14) (dt : Nat) (s : State) : Res := s.alive fun s =>
  let s0 := s.pass dt
  .next (if s0.bit Reg.BENCH_DWCLAIM u.val && s0.fwServes && !s0.bench.running.any (fun c => (opUnits c.op).contains u.val) then
      s0.setBit Reg.BENCH_DWCLAIM (16 + u.val) true
    else s0)

/-! ## Transfers that commands start (R307, R401) -/

/-- The head of tenant t's transfer queue ends with a status; the next one reaches the head. -/
def State.xferEnd (s : State) (t : Nat) (c : Cmd) (status : Nat) (payload : List Byte) : State :=
  match s.xferQ t with
  | [] => s
  | _ :: rest =>
    let q := match rest with
      | [] => []
      | y :: ys => { y with headT := some s.devTime } :: ys
    (s.putXferQ t q).answer c status payload

/-- Tracks of plane p in order. -/
def State.planeTracks (s : State) (p : Nat) : List Nat :=
  let lo := s.fld (Reg.NOZ_PLNLO p) 0 20
  (List.range (s.fld (Reg.NOZ_PLNHI p) 0 20 + 1 - lo)).map (· + lo)

/-- NOZ_SNAPSHOT: 12 bytes of every track of the plane go to host memory (R281). -/
def State.xferSnapshot (s : State) (t : Nat) (c : Cmd) : State :=
  let ts := s.planeTracks (c.at 0 1)
  let bs := ts.flatMap (fun k => (List.range 3).flatMap (fun w => leBytes 4 (s.rdN (Reg.NOZ_TRK k w))))
  match s.hostPut c.f (c.at 1 1 == 1) (c.at 16 8) bs with
  | some u => u.xferEnd t c St.ok (leBytes 4 ts.length)
  | none => (s.addSat Reg.HOSTEP_ATS 16 16 1).xferEnd t c St.transferFailed []

/-- NOZ_TRACK_LOAD: tracks from host bytes, with their MASK bits in the bitmap (R269, R281). -/
def State.xferLoad (s : State) (t : Nat) (c : Cmd) (host : List Byte) : State :=
  let n := c.at 8 4
  let s1 := s.each (List.range n) (fun u k =>
    let tr := c.at 4 4 + k
    let u1 := u.wrList (Reg.NOZ_TRK tr 0) ((List.range 3).map (fun w => w32 (leAt host (12 * k + 4 * w) 4)))
    u1.trkSetMask tr (leAt host (12 * k + 11) 1 / 128 == 1))
  (s1.recountAll).xferEnd t c St.ok []

/-- DLV_BLOCK_FETCH: the kept block goes to an image ring as an image record, and its slot is free (R299). It waits while the
ring's staging is full; a ring that is disabled by then takes nothing (STATE). -/
def State.xferFetch (s : State) (t : Nat) (c : Cmd) : State :=
  let k := c.at 0 1
  match s.keptSlot k (c.at 4 4) with
  | some x =>
    let stride := ringStride x.fmt x.rf
    let a := s.slotAddr k x.idx stride x.lines
    let rec' := (s.devRead a 512)
    let img := s.devRead (a + 512) (x.lines * stride)
    if !(s.ringEn t (c.at 1 1) && s.ringKind t (c.at 1 1) == 4) then s.xferEnd t c St.state []
    else if rec'.2 || img.2 then s.xferEnd t c St.transferFailed []
    else if 256 ≤ (s.ring t (c.at 1 1)).staged.length then s
    else
      let tag := rec'.1
      let desc := imageDesc k (leAt tag 32 4) (leAt tag 36 4) x.rf (fmtPlanesOut x.fmt) (leAt tag 48 1) x.lines
        (fmtWidth x.fmt) stride (leAt tag 16 6) (leAt tag 0 8)
      let r := s.stage t (c.at 1 1) k { bytes := desc, run := (tag.drop 64).take 256 ++ img.1 }
      (r.1.freeSlot k x.idx).xferEnd t c St.ok []
  | none => s.xferEnd t c St.noObject []

/-- FW_STAGE: the image goes into the bench region and replaces any image staged earlier (R415). -/
def State.xferStage (s : State) (t : Nat) (c : Cmd) (host : List Byte) : State :=
  (s.setBench { s.bench with staged := some host, verified := false }).xferEnd t c St.ok []

/-- TRANSFER_START (R307): the head of tenant t's queue moves its data and ends. `host.bytes` is what host memory delivers
to a transfer that reads it, `host.pages` the translations (page, translated page) that it asked for and got (R371); `fail`: its DMA
ends with HOSTERR, RANGE or POISON. -/
def execTransferStart (t : Fin 16) (host : HostRead) (fail : Bool) (dt : Nat) (s : State) : Res := s.alive fun s =>
  let s1 := s.pass dt
  .next (match s1.xferQ t.val with
    | x :: _ =>
      let c := x.cmd
      let s0 := s1.each host.pages (fun u p => u.atcPut c.f p.1.toNat p.2.toNat)
      if s1.bench.restart.isSome then s1
      else if fail then s0.xferEnd t.val c St.transferFailed []
      else if c.op = 0x0608 then s0.xferSnapshot t.val c
      else if c.op = 0x0704 then s0.xferFetch t.val c
      else if c.op = 0x0607 ∧ host.bytes.length = 12 * c.at 8 4 then s0.xferLoad t.val c host.bytes
      else if c.op = 0x0B02 ∧ host.bytes.length = c.at 16 4 then s0.xferStage t.val c host.bytes
      else s0
    | [] => s1)

/-- TRANSFER_TIMEOUT (R401): 10 s at the head of the queue. -/
def execTransferTimeout (t : Fin 16) (dt : Nat) (s : State) : Res := s.alive fun s =>
  let s0 := s.pass dt
  .next (match s0.xferQ t.val with
    | x :: _ =>
      if x.headT.any (fun h => decide (h + usTicks 10000000 ≤ s0.devTime)) then s0.xferEnd t.val x.cmd St.timeout [] else s0
    | [] => s0)

/-! ## The maker's mark (R384, R385) -/

/-- n bytes, padded with 0. -/
def padTo (n : Nat) (bs : List Byte) : List Byte := (bs ++ List.replicate n 0#8).take n

/-- The DEVICE section (Table 12.11). -/
def State.markDevice (s : State) : List Byte :=
  let part := [0x42#8, 0x51#8, 0x2D#8, 0x39#8, 0x36#8, 0x32#8, 0x34#8, 0x2D#8] ++ [if Config.partTemp then 0x49#8 else 0x43#8]
  padTo 16 part ++ leBytes 4 (s.rdN Reg.GLB_ID) ++ leBytes 8 Config.serial.toNat ++ leBytes 2 Config.vendorId.toNat ++
  leBytes 1 (b2n s.twinClk + 2 * b2n (s.twinState == 2) + 4 * b2n (s.twinRole == 0) + 8 * b2n (s.twinState == 3)) ++
  leBytes 1 (s.fld Reg.HOSTEP_VFMEMSZ 0 3) ++ List.replicate 32 0#8

/-- The FIRMWARE section (Table 12.12). -/
def State.markFirmware (s : State) : List Byte :=
  let i := s.bench.fw
  leBytes 4 i.version ++ leBytes 4 i.build ++ leBytes 4 i.date ++ padTo 8 i.imageId ++ leBytes 1 i.keyIdx ++
  leBytes 1 (if s.bench.restart.isSome then 2 else if s.bench.verified then 1 else 0) ++
  leBytes 2 (s.fld Reg.BENCH_RESTARTS 0 16) ++ leBytes 4 s.bench.prevVer ++ leBytes 4 0

/-- Objects of a map that tenant t owns. -/
def State.ownCount (s : State) (t o n : Nat) : Nat := (s.owned t o n).length
/-- A map of the objects that tenant t owns, as a number. -/
def State.ownMap (s : State) (t o n : Nat) : Nat := (s.owned t o n).foldl (fun a i => a + 2 ^ i) 0

/-- The entry of function f in the FUNCTIONS section (Table 12.13). -/
def State.markFunction (s : State) (f : Nat) : List Byte :=
  let on := s.tenantIs f
  let d0 := s.fld (Reg.HOSTEP_FNSTAT f) 0 2 == 0
  let num : Nat → Nat := fun n => if on then n else 0
  padTo 32 (leBytes 1 f ++ leBytes 1 (b2n (s.fnPresent f) + 2 * b2n on + 4 * b2n d0) ++
    leBytes 2 (if f = 0 then 2048 else 64) ++ leBytes 1 (leAt (s.part f) 8 1) ++ leBytes 1 (leAt (s.part f) 9 1) ++
    leBytes 1 (num (s.ownCount f Part.cam 96)) ++ leBytes 1 (num (s.ownCount f Part.pipe 104)) ++
    leBytes 2 (num (s.ownCount f Part.dmach 512)) ++ leBytes 2 (num (s.ownCount f Part.evch 256)) ++
    leBytes 1 (num (s.ownMap f Part.plane 8)) ++ leBytes 1 (num (s.ownMap f Part.axOwn 8)) ++
    leBytes 2 (num (s.ownMap f Part.view 16)) ++
    leBytes 1 ((List.range 16).filter (fun r => s.ringEn f r)).length ++ leBytes 1 0 ++
    leBytes 2 (s.fld (Reg.DLV_TSHARE f) 16 16))

/-- The entry of camera c in the CAMERAS section (Table 12.14). -/
def State.markCamera (s : State) (c : Nat) : List Byte :=
  let size := match s.posLane c 0 with
    | some n => s.fld (Reg.LANE_BOND n) 12 4
    | none => 0
  let spare := (s.bondLanes c).any (fun n => s.lanePos n == 15)
  let fmt := s.camFmt c
  leBytes 1 (if (s.cam c).bound then s.owner Part.cam c else 0xFF) ++
  leBytes 1 (size + 16 * b2n spare + 32 * b2n (s.fld (Reg.LINK_CAPREC c 0) 8 8 == 2) + 64 * b2n (s.camA1 c) +
    128 * b2n (s.bond c).active) ++
  leBytes 1 (((s.bondLanes c).headD 0) / 13) ++ leBytes 1 (fmtKind fmt) ++ leBytes 2 (fmtWidth fmt) ++ leBytes 2 0

/-- The CAMERAS section. -/
def State.markCameras (s : State) : List Byte :=
  [96#8, 8#8, 0x1F#8, 0x07#8, 0x20#8, 0x2F#8, 16#8, 8#8] ++ (List.range 96).flatMap s.markCamera

/-- The CAPACITY section (Table 12.14): what is in service, and the fixed counts of Table 1.1 and Table 1.4. -/
def State.markCapacity (s : State) : List Byte :=
  let bits : Nat → Nat → Nat := fun k lo => ((List.range 8).filter (fun i => s.bit k (lo + i))).length
  let pipes := ((List.range 104).filter (fun n => !s.pipeBit n 6 && n % 13 != 12)).length + bits Reg.PIPE_SPRUE 8
  let spp := bits Reg.PIPE_SPRUE 0
  let lanes := ((List.range 104).filter (fun n => n % 13 != 12 && s.laneSt n != 13)).length + bits Reg.LANE_SPRUE 16
  let spl := bits Reg.LANE_SPRUE 0
  ([pipes, spp, lanes, spl, 1048576, 8, 16, 8, 4096, 65536, 96, 256, 512, 44, 1000, 1024] : List Nat).flatMap (leBytes 4)

/-- A directory entry of the maker's mark. -/
def markDir (id off len : Nat) : List Byte := leBytes 2 id ++ leBytes 2 0x0100 ++ leBytes 4 off ++ leBytes 4 len ++ leBytes 4 0

/-- The whole table with a GEN (Table 12.10). -/
def State.markTable (s : State) (gen : Nat) : List Byte :=
  let secs := [s.markDevice, s.markFirmware, (List.range 16).flatMap s.markFunction, s.markCameras, s.markCapacity]
  let base := 64 + 16 * secs.length
  let offs := (List.range secs.length).map (fun i => base + ((secs.take i).map List.length).foldl (· + ·) 0)
  let len := base + (secs.map List.length).foldl (· + ·) 0
  let dir := (List.range secs.length).flatMap (fun i => markDir (i + 1) (nth offs i 0) (nth secs i []).length)
  let head : Nat → Nat → List Byte := fun g crc =>
    padTo 64 (leBytes 4 0x4D4D5142 ++ leBytes 2 0x0100 ++ leBytes 2 64 ++ leBytes 4 len ++ leBytes 4 g ++ leBytes 4 crc ++
      leBytes 2 secs.length)
  let body := dir ++ secs.flatMap id
  head gen (crc32 (head 0 0 ++ body)) ++ body

/-- Firmware rewrites the maker's mark; GEN rises at the start and at the end (Table 12.10). -/
def State.markRewrite (s : State) : State :=
  s.setHost { s.host with mark := s.markTable ((leAt s.host.mark 12 4 + 2) % 2 ^ 32) }

/-- MAKERS_MARK_REWRITE (R384): while the bench is in service. -/
def execMakersMarkRewrite (dt : Nat) (s : State) : Res := s.alive fun s =>
  let s0 := s.pass dt
  .next (if s0.fwServes then s0.markRewrite else s0)

/-! ## Firmware images (R413 to R417) -/

/-- FW_INFO (0x0B01). -/
def execFwInfo (f : Fin 16) (slot : Fin 64) (s : State) : Res := s.alive fun s =>
  s.onCmd f slot 0x0B01 (fun c s => s.cmdDo c [(c.short 0 [], St.badParam)] (fun s => (s, s.markFirmware)))

/-- An update is being activated. -/
def State.activating (s : State) : Bool := s.bench.activate.isSome
/-- FW_COMMIT or FW_ACTIVATE runs (Table 13.21). -/
def State.fwBusy (s : State) : Bool := s.activating || s.bench.running.any (fun c => c.op == 0x0B04 || c.op == 0x0B05)

/-- FW_STAGE (0x0B02, R415): a transfer of the tenant's queue. -/
def execFwStage (f : Fin 16) (slot : Fin 64) (s : State) : Res := s.alive fun s =>
  s.onCmd f slot 0x0B02 (fun c s =>
    s.xferCmd c [
      (c.short 20 [(1, 7)] || decide (2 ≤ c.at 0 1) || decide (2 ^ 24 < c.at 16 4), St.badParam),
      (s.fwBusy, St.busy)])

/-- The first check of R416 that an image fails, 0 for none. -/
def State.fwCheck (s : State) (b : List Byte) : Nat :=
  let k := leAt b 20 1
  let body := (b.drop 512).take (leAt b 24 4)
  let zero : Nat → Nat → Bool := fun o n => ((b.drop o).take n).all (· == 0#8)
  if leAt b 0 4 ≠ 0x57465142 ∨ !zero 21 3 ∨ !zero 80 48 ∨ !zero 320 192 ∨ b.length < leAt b 24 4 + 512 ∨ b.length < 512 then 1
  else if 4 ≤ k ∨ !s.bit Reg.BENCH_KEYS k ∨ s.bit Reg.BENCH_KEYS (4 + k) then 2
  else if Config.sha384 ((b.drop 128).take 96) ≠ Config.keyDigest k then 3
  else if !Config.sigOk ((b.drop 128).take 96) (b.take 128) ((b.drop 224).take 96) then 4
  else if leAt b 16 4 < s.rdN Reg.BENCH_SVNMIN then 5
  else if Config.sha384 body ≠ (b.drop 32).take 48 then 6
  else if (Config.stateFormat s.bench.fw.version).toNat < leAt b 28 2 ∨ leAt b 30 2 < (Config.stateFormat s.bench.fw.version).toNat
    then 7
  else 0

/-- FW_VERIFY (0x0B03, R416). -/
def execFwVerify (f : Fin 16) (slot : Fin 64) (s : State) : Res := s.alive fun s =>
  s.onCmd f slot 0x0B03 (fun c s =>
    let img := s.bench.staged.getD []
    let bad := s.fwCheck img
    let st := pickStatus [(!s.tenantIs c.tenant && c.f == 0, St.noObject), (c.short 0 [], St.badParam),
      (s.bench.staged.isNone, St.state), (s.fwBusy, St.busy)]
    if st ≠ 0 then s.answer c st []
    else if bad = 0 then
      (s.setBench { s.bench with verified := true }).answer c St.ok (leBytes 4 (leAt img 4 4) ++ leBytes 4 (leAt img 16 4))
    else if bad = 7 then s.answer c St.state []
    else s.answer c St.authFailed (leBytes 1 bad))

/-- FW_COMMIT (0x0B04, R415): the verified image goes into the inactive slot; the boot record stays. -/
def execFwCommit (f : Fin 16) (slot : Fin 64) (s : State) : Res := s.alive fun s =>
  s.onCmd f slot 0x0B04 (fun c s =>
    s.cmdDo c [(c.short 0 [], St.badParam), (!s.bench.verified, St.state), (s.activating, St.busy)] (fun s =>
      let img := s.bench.staged.getD []
      if !s.bootB then (s.setBench { s.bench with slotB := img }, leBytes 1 1)
      else (s.setBench { s.bench with slotA := img }, leBytes 1 0)))

/-- FW_ACTIVATE (0x0B05, R415): the bench restarts with the staged image; the answer follows at the end. -/
def execFwActivate (f : Fin 16) (slot : Fin 64) (s : State) : Res := s.alive fun s =>
  s.onCmd f slot 0x0B05 (fun c s =>
    if s.bench.activate.any (fun a => a.1.f == c.f && a.1.slot == c.slot) then s
    else
      let st := pickStatus [(!s.tenantIs c.tenant && c.f == 0, St.noObject),
        (c.short 1 [] || decide (2 ≤ c.at 0 1), St.badParam), (!s.bench.verified, St.state), (s.activating, St.busy)]
      if st ≠ 0 then s.answer c st []
      else
        let s1 := s.setBench { s.bench with activate := some (c, c.at 0 1 == 1, s.devTime) }
        ((s1.mboxAll 2 true).setBit Reg.BENCH_STAT 9 true).benchRestart 2)

end Sys2Proof.Machine
end

