-- ==== Sys2Proof/Machine/Clock.lean ====
section
/-!
DEFINITION. The rows of the clock unit and of the temper sequencer (chapter 15): references and the timebase (R450 to
R455), glitch-free multiplexers (R456 to R459), gating (R461), PLLs (R463), temper moves (R465, R467).
-/
namespace Sys2Proof.Machine
open Sys2Proof

/-! ## References and the timebase -/

/-- REFERENCE_LOSS (R450): reference 0 REF_IN, 1 the twin-recovered clock, 2 PCIE_REFCLK. -/
def execReferenceLoss (r : Fin 3) (dt : Nat) (s : State) : Res :=
  .next (
    if s.boot.mode = 0 ∧ 2 ≤ s.fld Reg.GLB_BOOTSTAT 0 4 then (s.pass dt).refLost r.val
    else if s.boot.mode = 3 ∨ s.boot.mode = 5 then s
    else s.setBit Reg.CLK_MON r.val false)

/-- Reference r has shown no loss for one full 4 µs window (R450). -/
def State.refQuiet (s : State) (r : Nat) : Bool := s.clk.lostT.all (fun e => e.1 != r || decide (e.2 + usTicks 4 ≤ s.devTime))

/-- REFERENCE_GOOD (R450, R454): the twin-recovered clock is never good while it does not exist. -/
def execReferenceGood (r : Fin 3) (dt : Nat) (s : State) : Res :=
  if s.boot.mode = 3 ∨ s.boot.mode = 5 then .next s
  else if s.boot.mode ≠ 0 then .next (if r.val = 1 then s else s.setBit Reg.CLK_MON r.val true)
  else
  let s := s.pass dt
  if (r.val = 1 ∧ !s.twinClk) ∨ s.refQuiet r.val = false then .next s
  else
    let s1 := (s.setBit Reg.CLK_MON r.val true).causeOff 12 (1 + r.val) r.val
    .next (if r.val = s1.tbPref ∧ s1.clk.holdT.isNone then s1.tbHold else s1)

/-- The switch to source r is done (Table 15.2 steps 3 and 4); a target lost meanwhile is handled now (R455). -/
def State.tbDone (s : State) (r t : Nat) (fallback : Bool) : State :=
  let s1 := ((s.setFld Reg.CLK_TBSTAT 0 1 r).setFld Reg.CLK_TBSTAT 1 2 0).setBit Reg.CLK_TBSTAT 4 true
  let s2 := (s1.setClk { s1.clk with sw := none, swCmd := none }).clkIrq 0
  let st := if usTicks 1000 < s.devTime - t ∧ !fallback then St.timeout else St.ok
  let s3 := s2.answerAt s.clk.swCmd st []
  if s3.refOk r then s3.tbHold else s3.tbLost (r == 0 || s3.twinClk)

/-- CLK_CMD.TBSWITCH switches to PREF, if PREF is good (R454). -/
def State.tbSwitch (s : State) : State :=
  let s := s.w1sSet Reg.CLK_CMD 0 (s.clk.sw.any (fun e => !e.2.2))
  if s.refOk s.tbPref && s.tbSrc != s.tbPref && s.clk.sw.isNone then s.tbBegin s.tbPref false else s

/-- TBPLL_RELOCK (R452, R455). -/
def execTbpllRelock (dt : Nat) (s : State) : Res := s.alive fun s =>
  let s := s.pass dt
  match s.clk.sw with
  | some (r, t, fb) => .next ((s.tbDone r t fb).w1sDone Reg.CLK_CMD 0 State.tbSwitch)
  | none => .next s

/-- HOLDOFF_END (R454): PREF has been good for 8 ms; the same test of both clocks as for a commanded switch (R457). -/
def execHoldoffEnd (dt : Nat) (s : State) : Res := s.alive fun s =>
  let s := s.pass dt
  match s.clk.holdT with
  | some t =>
    if t + usTicks 8000 ≤ s.devTime && s.bit Reg.CLK_TBSEL 1 && s.refOk s.tbPref && s.refOk s.tbSrc && s.clk.sw.isNone then
      .next ((s.tbBegin s.tbPref false).addSat Reg.CLK_SWCNT 8 8 1)
    else .next s
  | none => .next s

/-- TBSWITCH (R454). -/
def execTbswitch (s : State) : Res := s.alive fun s => s.reach 0 Reg.CLK_CMD fun s => .next s.tbSwitch

/-! ## Multiplexers -/

/-- A write of CLK_MUX(d): read-only for d = 0 and 1, ignored for a group with a bound pipeline (R449, R465). -/
def State.muxWrite (s : State) (d : Nat) (v : Word) : State :=
  let held := d ≤ 1 || (decide (d ≤ 9) && (groupPipes (d - 2)).any (fun n => s.bit (Reg.PIPE_BIND n) 0))
  if held || s.bit (Reg.CLK_MUXSTAT d) 1 then s
  else
    let s1 := s.wr (Reg.CLK_MUX d) (v &&& 1#32)
    if bitOf v 0 = s1.bit (Reg.CLK_MUXSTAT d) 0 then s1
    else (s1.setBit (Reg.CLK_MUXSTAT d) 1 true).setClk { s1.clk with
      mux := s1.clk.mux ++ [(d, b2n (bitOf v 0), s1.devTime)] }

/-- CLK_MUX_WRITE (R456). -/
def execClkMuxWrite (d : Fin 15) (v : Word) (s : State) : Res := s.alive fun s => s.reach 0 (Reg.CLK_MUX d.val) fun s =>
  .next (s.rwl .clk (fun t => t.muxWrite d.val v))

/-- The switch of domain clock d is over: the selection is in effect. -/
def State.muxDone (s : State) (d sel : Nat) : State :=
  ((s.setFld (Reg.CLK_MUXSTAT d) 0 1 sel).setBit (Reg.CLK_MUXSTAT d) 1 false).setClk { s.clk with
    mux := s.clk.mux.filter (fun e => e.1 != d) }

/-- The PLL of domain clock d (Table 15.1). -/
def clockPll (d : Nat) : Nat := if d ≤ 1 then 0 else if d ≤ 9 then d + 4 else d - 9

/-- Domain clock d runs as selected (Table 15.1): its PLL is locked, or its bypass clock is there. The system reference runs on
while TBPLL holds over (R449). -/
def State.clockRuns (s : State) (d sel : Nat) : Bool :=
  if sel = 1 then s.bit (Reg.CLK_PLLSTAT (clockPll d)) 0 else d != 12 || s.refOk 2

/-- MUX_SWITCH_DONE (R456): the switch needs a low phase of both clocks, so it does not complete while one has stopped. -/
def execMuxSwitchDone (d : Fin 15) (dt : Nat) (s : State) : Res := s.alive fun s =>
  let s := s.pass dt
  match s.clk.mux.find? (fun e => e.1 == d.val) with
  | some (_, sel, _) =>
    .next (if s.clockRuns d.val (s.fld (Reg.CLK_MUXSTAT d.val) 0 1) && s.clockRuns d.val sel then s.muxDone d.val sel else s)
  | none => .next s

/-- MUXHANG (R458): BUSY for 50 µs. -/
def execMuxhang (d : Fin 15) (dt : Nat) (s : State) : Res := s.alive fun s =>
  let s := s.pass dt
  match s.clk.mux.find? (fun e => e.1 == d.val) with
  | some (_, sel, t) =>
    if t + usTicks 50 ≤ s.devTime then
      let pg := decide (2 ≤ d.val) && decide (d.val ≤ 9)
      let s1 := (((s.muxDone d.val sel).setBit (Reg.CLK_MUXSTAT d.val) 2 true).addSat Reg.CLK_SWCNT 16 8 1).clkIrq 5
      let s2 := s1.fault 12 5 d.val (if pg then 1 else 4)
      .next (if pg then s2.each (groupPipes (d.val - 2)) (fun u n => u.pipeHold n) else s2)
    else .next s
  | none => .next s

/-- The domain clocks of PLL n (Table 15.1). -/
def pllClocks (n : Nat) : List Nat :=
  if n = 0 then [0, 1] else if n = 1 then [10] else if n = 2 then [11] else if n = 3 then [12] else if n = 4 then [13]
  else if n = 5 then [14] else [n - 4]

/-- PLLUNLOCK (R459): a PLL of a group that is off has no lock to lose; the domain clocks go to bypass on the forced path. With
HPLL the host link drops (R382). -/
def execPllunlock (n : Fin 14) (dt : Nat) (s : State) : Res := s.alive fun s =>
  let s := s.pass dt
  if 6 ≤ n.val ∧ !s.domOn (10 + n.val) then .next s
  else
  let s1 := (s.setBit (Reg.CLK_PLLSTAT n.val) 0 false).setBit Reg.CLK_MON (8 + n.val) false
  let s2 := (s1.each (pllClocks n.val) (fun t d => t.setBit (Reg.CLK_MUXSTAT d) 0 false)).clkIrq 4
  .next (if n.val = 3 then s2.linkDown
    else if 6 ≤ n.val then (s2.fault 12 4 n.val 2).groupIsolate (n.val - 6) else s2.fault 12 4 n.val 4)

/-! ## PLLs and gating -/

/-- A write of CLK_PLLCFG(n): n = 1 to 5; the others are read-only (R463). -/
def State.pllWrite (s : State) (n : Nat) (v : Word) : State :=
  if n = 0 ∨ 6 ≤ n then s
  else s.rwl .clk (fun t =>
    let m := fldOf v 0 12
    if m = t.fld (Reg.CLK_PLLCFG n) 0 12 then t
    else
      let t1 := (t.wr (Reg.CLK_PLLCFG n) (w32 m)).setBit (Reg.CLK_PLLSTAT n) 1 true
      t1.setClk { t1.clk with slew := t1.clk.slew.filter (fun e => e.1 != n) ++ [(n, m, t1.devTime)] })

/-- PLLCFG_WRITE (R463). -/
def execPllcfgWrite (n : Fin 14) (v : Word) (s : State) : Res :=
  s.alive fun s => s.reach 0 (Reg.CLK_PLLCFG n.val) fun s => .next (s.pllWrite n.val v)

/-- Ticks of a slew between two frequencies in MHz, at 100 MHz/µs (R463). -/
def slewTicks (a b : Nat) : Nat := 16 * ((a - b) + (b - a))

/-- SLEW_DONE (R463): CLK_PLLSTAT shows the new frequency once the slew has taken its time (log entry 145). -/
def execSlewDone (n : Fin 14) (dt : Nat) (s : State) : Res := s.alive fun s =>
  let s := s.pass dt
  match s.clk.slew.find? (fun e => e.1 == n.val) with
  | some (_, m, t) =>
    if s.devTime < t + slewTicks (s.fld (Reg.CLK_PLLSTAT n.val) 16 12) m then .next s
    else
    let s1 := (s.setFld (Reg.CLK_PLLSTAT n.val) 16 12 m).setBit (Reg.CLK_PLLSTAT n.val) 1 false
    .next (s1.setClk { s1.clk with slew := s1.clk.slew.filter (fun e => e.1 != n.val) })
  | none => .next s

/-- CLK_GATE_WRITE (R460, R461). -/
def execClkGateWrite (w : Fin 8) (v : Word) (s : State) : Res := s.alive fun s => s.reach 0 (Reg.CLK_GATE w.val) fun s =>
  .next (s.rwl .clk (fun t => t.gateWrite w.val v))

/-! ## The temper sequencer -/

/-- TPCFG_WRITE (R465). -/
def execTpcfgWrite (k : Fin 8) (v : Word) (s : State) : Res := s.alive fun s => s.reach 0 (Reg.CLK_TPCFG k.val) fun s =>
  .next (s.rwl .clk (fun t => t.tpWrite k.val v))

/-- TEMPER_STEP_DONE (R465): a ramp or a slew of group k's move has taken its time. -/
def execTemperStepDone (k : Fin 8) (dt : Nat) (s : State) : Res := s.alive fun s =>
  let s := s.pass dt
  match s.temperOf k.val with
  | some x => .next (if x.t + s.temperTicks x ≤ s.devTime then s.temperStep x else s)
  | none => .next s

/-- TEMPERTMO (R465): a move that has not ended within 50 µs ends where it is. -/
def execTempertmo (k : Fin 8) (dt : Nat) (s : State) : Res := s.alive fun s =>
  let s := s.pass dt
  match s.temperOf k.val with
  | some x =>
    if x.t0 + usTicks 50 ≤ s.devTime then
      .next ((s.fault 13 2 k.val 2).temperEnd k.val St.timeout)
    else .next s
  | none => .next s

/-- IVRFAULT (R467): the group is handled as after the loss of its PLL; a regulator that is off has no output to check. -/
def execIvrfault (k : Fin 8) (dt : Nat) (s : State) : Res := s.alive fun s =>
  let s := s.pass dt
  .next (if s.domOn (16 + k.val) then ((s.fault 13 1 k.val 2).pwrIrq 3).groupIsolate k.val else s)

end Sys2Proof.Machine
end

