-- ==== Sys2Proof/Machine/Power.lean ====
section
/-!
DEFINITION. The rows of the power unit (R468 to R473) and the mailbox commands of clocks and power (Table 13.18).
-/
namespace Sys2Proof.Machine
open Sys2Proof

/-! ## Domains -/

/-- A write of PWR_CTL(d).ON (R469, R470, R472). -/
def State.pwrCtl (s : State) (d : Nat) (on : Bool) : State :=
  if d = 0 ∨ d = 1 ∨ d = 3 then s
  else if on then (if (domPre d).all s.domOn then s.domRequest d true else s.pwrIrq 6)
  else if (domDeps d).any s.domOn then s.pwrIrq 6
  else s.domRequest d false

/-- PWR_CTL_WRITE (R470). -/
def execPwrCtlWrite (d : Fin 24) (v : Word) (s : State) : Res := s.alive fun s => s.reach 0 (Reg.PWR_CTL d.val) fun s =>
  .next (s.rwl .pwr (fun t => t.pwrCtl d.val (bitOf v 0)))

/-- After PF0's return to D0 firmware restores what domain d held: register words, clock enables, both banks of its
pipelines from their images; its lanes train again (R512). -/
def State.d3Restore (s : State) (d : Nat) : State :=
  let own := s.host.d3save.filter (fun e => domKey d e.1)
  if s.host.d3off ∨ s.host.d3save = [] ∨ d < 7 then s
  else
    let s1 := s.each own (fun t e => t.wr e.1 e.2)
    let s2 := s1.each ((List.range 247).filter (fun b => gateDom b == d)) (fun t b =>
      t.setBit (Reg.CLK_GATE (b / 32)) (b % 32) (s.host.d3save.any (fun e => e.1 == Reg.CLK_GATE (b / 32) && bitOf e.2 (b % 32))))
    let s3 := if 16 ≤ d then s2.each (groupPipes (d - 16)) (fun t n => t.loadImage n)
      else if 8 ≤ d then s2.each (groupPipes (d - 8)) (fun t n => t.laneWake n)
      else s2
    s3.setHost { s3.host with d3save := s3.host.d3save.filter (fun e => !domKey d e.1) }

/-- POWER_ON_DONE (R470): the domain that ramps is on, and the next request begins; `d.bad` are the pipelines of a group that
fail the self-test before it serves again (R35, R459). -/
def execPowerOnDone (d : DomainUp) (dt : Nat) (s : State) : Res := s.alive fun s =>
  let s := s.pass dt
  let bad := d.bad
  let d := d.d
  match s.pwr.ramp with
  | some (e, _) =>
    if e = d.val then
      let u := (s.setPwr { s.pwr with ramp := none }).domUp d.val
      let v := if 16 ≤ d.val then u.groupTest (d.val - 16) (fun n => bad.any (fun b => n == 13 * (d.val - 16) + b.val)) else u
      let s1 := (v.d3Restore d.val).pwrIrq 0
      .next (State.domNext 64 (s1.domAnswer d.val true St.ok))
    else .next s
  | none => .next s

/-- PWRTMO (R470): a domain not on within its time is left off. -/
def execPwrtmo (d : Fin 24) (dt : Nat) (s : State) : Res := s.alive fun s =>
  let s := s.pass dt
  match s.pwr.ramp with
  | some (e, t) =>
    if e = d.val ∧ t + usTicks (domLimit e) ≤ s.devTime then
      let s1 := (s.setPwr { s.pwr with ramp := none }).setFld (Reg.PWR_DSTAT e) 0 5 (8 + 16)
      let s2 := ((s1.setBit (Reg.PWR_CTL e) 0 false).pwrIrq 7).fault 13 3 e 2
      .next (State.domNext 64 (s2.domAnswer e true St.timeout))
    else .next s
  | none => .next s

/-- DRAINTMO (R471): writes still held 4 µs into the drain are discarded. -/
def execDraintmo (d : Fin 24) (n : Nat) (dt : Nat) (s : State) : Res := s.alive fun s =>
  let s := s.pass dt
  match s.pwr.drain with
  | some (e, t) =>
    if e = d.val ∧ t + usTicks 4 ≤ s.devTime then
      .next (((s.addSat Reg.PWR_DRAINCNT 0 32 n).pwrIrq 2).fault 13 4 e 1)
    else .next s
  | none => .next s

/-- What the loss of domain d's state ends beside it: the device is ALONE and drives its pins without PD_TWIN, bonds whose
lanes go are no longer ACTIVE, and causes of the domain's own sources are released (R471, R477). -/
def State.domGone (s : State) (d : Nat) : State :=
  let s1 := if d = 7 then ((s.twinFencedSet false).twinSet 0 2).bondDown 96
    else if 8 ≤ d ∧ d < 16 then s.each (groupPipes (d - 8)) (fun t n => match t.laneBond n with
      | some c => if c < 96 then t.bondDown c else t
      | none => t)
    else s
  let mine : Nat × Nat → Bool := fun x =>
    let k := x.1 / 256
    if d = 6 then k == 5
    else if d = 7 then k == 0 && decide (104 ≤ x.2)
    else if 8 ≤ d ∧ d < 16 then k == 0 && x.2 / 13 == d - 8 && decide (x.2 < 104)
    else if 16 ≤ d then x == (12 * 256 + 4, 6 + (d - 16)) || x == (13 * 256 + 1, d - 16)
    else false
  s1.each (s1.causes.filter mine) (fun t x => t.causeOff (x.1 / 256) (x.1 % 256) x.2)

/-- POWER_OFF_DONE (R471). -/
def execPowerOffDone (d : Fin 24) (dt : Nat) (s : State) : Res := s.alive fun s =>
  let s := s.pass dt
  match s.pwr.drain with
  | some (e, _) =>
    if e = d.val then
      let s1 := (((s.setPwr { s.pwr with drain := none }).domGone e).domDown e).pwrIrq 1
      .next (State.domNext 64 (s1.domAnswer e false St.ok))
    else .next s
  | none => .next s

/-- STOP_WAIT_END (R348): the channels have stopped, or 10 ms have passed. -/
def execStopWaitEnd (d : Fin 24) (dt : Nat) (s : State) : Res := s.alive fun s =>
  let s := s.pass dt
  match s.pwr.stopWait.find? (fun e => e.1 == d.val) with
  | some (_, t) =>
    .next (if s.domChans d.val = [] ∨ t + usTicks 10000 ≤ s.devTime then s.domOffGo d.val else s)
  | none => .next s

/-! ## Temperature -/

/-- Firmware raises the groups that THERMHOT lowered, once the device has stayed below WARN for 100 ms (R473). -/
def State.thermRaise (s : State) : State :=
  let l := s.pwr.lowered
  let s1 := s.setPwr { s.pwr with lowered := [], coolT := none }
  (s1.each l (fun t e => t.tpWrite e.1 (w32 e.2))).autoTemper

/-- The hottest reading v in 1/16 °C, from a sensor, and the thresholds of R473. -/
def State.tempTake (s : State) (v : Int) (sensor : Nat) : State :=
  let warn := 16 * (s.fld Reg.PWR_THERM 0 8 : Int)
  let hot := 16 * (s.fld Reg.PWR_THERM 8 8 : Int)
  let s1 := if warn ≤ v ∧ !s.pwr.warn then (s.faultState 13 5 sensor 0).pwrIrq 4 else s
  let s2 := if v < warn then s1.each (List.range 32) (fun t n => t.causeOff 13 5 n) else s1
  let s3 := if hot ≤ v ∧ !s2.pwr.hot then
      ((s2.faultState 13 6 sensor 2).pwrIrq 5).setPwr { s2.pwr with hot := true, hotT := s2.devTime } else s2
  let s4 := if v < warn ∧ s3.pwr.hot then
      (s3.each (List.range 32) (fun t n => t.causeOff 13 6 n)).setPwr { s3.pwr with hot := false } else s3
  let s5 := if 16 * 115 ≤ v then s4.faultState 13 7 sensor 4 else s4
  let cool := if warn ≤ v then none else if s5.pwr.coolT.isSome then s5.pwr.coolT else some s5.devTime
  let s6 := s5.setPwr { s5.pwr with warn := decide (warn ≤ v), coolT := cool }
  match cool with
  | some t => if s6.pwr.lowered ≠ [] ∧ !s6.pwr.hot ∧ t + usTicks 100000 ≤ s6.devTime then s6.thermRaise else s6
  | none => s6

/-- TEMP_SAMPLE (R473): every 100 µs, the hottest junction in 1/16 °C, its sensor, and the device power in 0.1 W. -/
def execTempSample (temp : BitVec 16) (sensor : Fin 32) (power : BitVec 16) (dt : Nat) (s : State) : Res :=
  if s.boot.mode ≠ 0 ∧ s.boot.mode ≠ 4 then .next s
  else
  let s := if s.boot.mode = 0 then s.pass dt else s
  if s.boot.mode = 0 ∧ s.pwr.tempT.any (fun t => decide (s.devTime < t + usTicks 100)) then .next s
  else
  let limit := 16 * (s.fld Reg.PWR_THERM 16 8 : Int)
  let fell := decide (limit ≤ sgn 16 (s.fld Reg.PWR_TEMP 0 16)) && decide (temp.toInt < limit)
  let s0 := if fell then s.wakeUp 1 else s
  let s1 := (s0.wr Reg.PWR_TEMP (w32 (temp.toNat + sensor.val * 65536))).wr Reg.PWR_POWER (w32 power.toNat)
  .next (if s1.boot.mode = 0 then (s1.setPwr { s1.pwr with tempT := some s1.devTime }).tempTake temp.toInt sensor.val else s1)

/-- THERMHOT_STEP (R473): every 1 ms each group above TP0 goes down by one point. -/
def execThermhotStep (dt : Nat) (s : State) : Res := s.alive fun s =>
  let s := s.pass dt
  if s.pwr.hot && decide (s.pwr.hotT + usTicks 1000 ≤ s.devTime) then
    let s1 := s.setPwr { s.pwr with hotT := s.devTime }
    .next (s1.each (List.range 8) (fun t k =>
      if t.tpPoint k = 0 then t
      else
        let t1 := if t.pwr.lowered.any (fun e => e.1 == k) then t
          else t.setPwr { t.pwr with lowered := t.pwr.lowered ++ [(k, t.tpTarget k)] }
        t1.tpWrite k (w32 (t1.tpPoint k - 1))))
  else .next s

/-! ## Commands (0x0Axx) -/

/-- CLK_STATUS (0x0A01). -/
def execClkStatus (f : Fin 16) (slot : Fin 64) (s : State) : Res := s.alive fun s =>
  s.onCmd f slot 0x0A01 (fun c s =>
    s.cmdDo c [(c.short 0 [], St.badParam)] (fun s =>
      (s, leBytes 1 s.tbSrc ++ (List.range 8).flatMap (fun k => leBytes 1 (s.tpPoint k)) ++
        leBytes 1 (b2n (s.refOk 0) + 2 * b2n (s.refOk 1) + 4 * s.fld Reg.CLK_TBSTAT 1 1))))

/-- TEMPER_SET (0x0A02, R465, R466, Table 15.7): answered when the group stands at its target. -/
def execTemperSet (f : Fin 16) (slot : Fin 64) (s : State) : Res := s.alive fun s =>
  s.onCmd f slot 0x0A02 (fun c s =>
    let k := c.at 0 1
    let auto := c.at 2 1 % 2 == 1
    let p := if auto then s.needPoint k else c.at 1 1
    if s.clk.temper.any (fun x => x.cmds.contains (c.f, c.slot)) then s
    else
      let st := pickStatus [
        (!s.tenantIs c.tenant && c.f == 0, St.noObject),
        (c.short 3 [] || decide (2 ≤ c.at 2 1) || (!auto && decide (5 < c.at 1 1)), St.badParam),
        (decide (8 ≤ k) || s.clk.iso.contains k, St.noObject), (s.pwr.hot || !s.domOn (16 + k), St.state),
        (s.claimed 11, St.busy), (decide (p < s.needPoint k), St.capacity)]
      if st ≠ 0 then s.answer c st []
      else
        let s1 := s.setBench { s.bench with auto := s.bench.auto.filter (· != k) ++ (if auto then [k] else []) }
        let s2 := s1.tpWrite k (w32 p)
        if (s2.temperOf k).isSome then
          s2.setClk { s2.clk with
            temper := s2.clk.temper.map (fun (x : Temper) =>
            if x.k = k then { x with cmds := x.cmds ++ [(c.f, c.slot)] } else x) }
        else s2.answer c St.ok [])

/-- PWR_DOMAIN (0x0A03, R348, R469, R471, R472): answered when the domain is on, or off. -/
def execPwrDomain (f : Fin 16) (slot : Fin 64) (s : State) : Res := s.alive fun s =>
  s.onCmd f slot 0x0A03 (fun c s =>
    let d := c.at 0 1
    let on := c.at 1 1 == 1
    let deps := (domDeps d).filter s.domOn
    if s.pwr.cmds.any (fun x => x.2.2 == (c.f, c.slot)) then s
    else
      let st := pickStatus [
        (!s.tenantIs c.tenant && c.f == 0, St.noObject),
        (c.short 2 [] || decide (2 ≤ c.at 1 1) || d == 0 || d == 1 || d == 3, St.badParam), (decide (24 ≤ d), St.noObject),
        (if on then !(domPre d).all s.domOn else deps != [] && (!c.force || deps.contains 3), St.state),
        (s.claimed 12 || (!on && !c.force && s.domOn d && s.domBound d), St.busy)]
      if st ≠ 0 then s.answer c st []
      else if s.domOn d = on && !s.pwr.ramp.any (fun e => e.1 == d) && !s.pwr.drain.any (fun e => e.1 == d) then s.answer c St.ok []
      else
        let s1 := s.setPwr { s.pwr with cmds := s.pwr.cmds ++ [(d, on, c.f, c.slot)] }
        if on then s1.domRequest d true else s1.domOffCmd d)

/-- CLK_SOURCE (0x0A04, R451, R455): answered when the timebase runs on the source, or at once where no switch is due. -/
def execClkSource (f : Fin 16) (slot : Fin 64) (s : State) : Res := s.alive fun s =>
  s.onCmd f slot 0x0A04 (fun c s =>
    if s.clk.swCmd = some (c.f, c.slot) then s
    else
      let st := pickStatus [
        (!s.tenantIs c.tenant && c.f == 0, St.noObject), (c.short 1 [] || decide (2 ≤ c.at 0 1), St.badParam),
        (s.claimed 11 || s.bit Reg.CLK_TBSTAT 1, St.busy)]
      if st ≠ 0 then s.answer c st []
      else
        let s1 := s.tbPrefer (c.at 0 1)
        if s1.clk.sw.isSome then s1.setClk { s1.clk with swCmd := some (c.f, c.slot) } else s1.answer c St.ok [])

/-- PWR_STATUS (0x0A05). -/
def execPwrStatus (f : Fin 16) (slot : Fin 64) (s : State) : Res := s.alive fun s =>
  s.onCmd f slot 0x0A05 (fun c s =>
    s.cmdDo c [(c.short 0 [], St.badParam)] (fun s =>
      (s, leBytes 3 (s.fld Reg.PWR_ON 0 24) ++ leBytes 1 0 ++ leBytes 2 (s.fld Reg.PWR_TEMP 0 16) ++
        leBytes 2 (s.fld Reg.PWR_POWER 0 16))))

end Sys2Proof.Machine
end

