-- ==== Sys2Proof/Machine/BootOps.lean ====
section
/-!
DEFINITION. The shared operations of start-up, reset and quench (chapter 17): what a device reset keeps (R503), the
reset itself, a quench (R514, R515), the flash (R507), and what each step of the start-up does (Table 17.2).
-/
namespace Sys2Proof.Machine
open Sys2Proof

/-! ## What a device reset keeps (R498, R503) -/

/-- GLB_BOOTSTAT.STAGE and ERROR. -/
def State.bootStage (s : State) : Nat := s.fld Reg.GLB_BOOTSTAT 0 4
def State.bootError (s : State) : Nat := s.fld Reg.GLB_BOOTSTAT 4 4
/-- The device is out of reset, powered and not quenched. -/
def State.awake (s : State) : Bool := s.boot.mode == 0

/-- The register at key k lies in PD_AON and keeps its value: the touchstone's record store and kept registers (R498),
GLB_RSTCAUSE and GLB_BOOTTIME. -/
def keptKey (k : Nat) : Bool :=
  (decide (Reg.TOUCH_REC 0 0 ≤ k) && decide (k ≤ Reg.TOUCH_REC 255 15)) ||
  [Reg.TOUCH_RECWR, Reg.TOUCH_RECRD, Reg.TOUCH_RECLOST, Reg.TOUCH_L4SEQ, Reg.GLB_RSTCAUSE, Reg.GLB_BOOTTIME].contains k ||
  (List.range 16).any (fun c => k == Reg.TOUCH_RECOV c)

/-- Serial flash and one-time-programmable storage stay as they are. -/
def BenchX.flash (b : BenchX) : BenchX :=
  { slotA := b.slotA, slotB := b.slotB, boot := b.boot, bootSeq := b.bootSeq, svnUp := b.svnUp }

/-- The windows of open records close with the touchstone's other state; the records themselves stay (R498). -/
def State.openRecsClosed (s : State) : State :=
  s.each s.touch.opens (fun t o => if t.rdN (Reg.TOUCH_REC o.seq 3) = o.seq then t.setBit (Reg.TOUCH_REC o.seq 1) 18 false else t)

/-- Every register and unit record at its reset value, but what the part's always-on domain keeps: `aon` says whether
that domain keeps its state. Host memory, the board's flash and what was sent stay. -/
def State.cleared (s : State) (aon : Bool) : State :=
  let s1 : State := {
    pending := s.pending, bootGen := s.bootGen + 1, freeIdx := s.freeIdx, hostMem := s.hostMem, out := s.out
    regs := if aon then skeep keptKey s.openRecsClosed.regs else []
    bench := s.bench.flash, boot := { perst := s.boot.perst, ir := s.boot.ir, addr := s.boot.addr, data := s.boot.data } }
  let s2 := if s.bench.svnUp = 0 then s1 else s1.wr Reg.BENCH_SVNMIN (w32 (max (s1.rdN Reg.BENCH_SVNMIN) s.bench.svnUp))
  if aon then (s2.setFld Reg.CLK_MON 0 3 (s.fld Reg.CLK_MON 0 3)).setFld Reg.GLB_BOOTSTAT 14 2 (s.fld Reg.GLB_BOOTSTAT 14 2)
  else s2

/-- The output pins take their states of Table 17.4: TRIG_OUT floats, the witness goes low (R511). -/
def State.pinsIdle (s : State) : State :=
  let s1 := s.pinsFloat
  if s1.twin.alive then s1.emit (.alive false s1.devTime) else s1

/-- A device reset through the source of a CAUSE (R502, R503): everything but the always-on domain is as after reset,
and the device is held in a mode of BootX. -/
def State.deviceReset (s : State) (cause mode : Nat) : State :=
  let s1 := (s.pinsIdle).cleared true
  let s2 := (s1.setFld Reg.GLB_RSTCAUSE 0 4 cause).addWrap Reg.GLB_RSTCAUSE 16 16 1
  s2.setBoot { s2.boot with mode := mode, t := 0, tR := 0 }

/-- A quench request (R514, R515): ignored during a reset, in stages 1 and 2 (0 before them), and in a quench. -/
def State.quench (s : State) (qsrc : Bool) : State :=
  if s.awake && decide (3 ≤ s.bootStage) then
    let s1 := ((s.pinsIdle).setBit Reg.GLB_RSTCAUSE 4 true).setBit Reg.GLB_RSTCAUSE 5 qsrc
    s1.setBoot { s1.boot with mode := 3, t := s1.devTime }
  else s

/-! ## L4 (R484, R510) -/

/-- An L4 reaction's last step: a quench where GLB_CTL.QONL4 is set, else the reset through a CAUSE; a start-up that ends
so is counted, and the third in a row stops the device with ERROR 2 (R510). -/
def State.l4Reset (s : State) (cause : Nat) : State :=
  if s.bit Reg.GLB_CTL 0 then s.quench true
  else if s.bootError = 2 then s
  else if s.bootStage < 10 then
    let n := min 3 (s.fld Reg.GLB_BOOTSTAT 14 2 + 1)
    let s1 := s.setFld Reg.GLB_BOOTSTAT 14 2 n
    if n = 3 then s1.setFld Reg.GLB_BOOTSTAT 4 4 2
    else (s1.deviceReset cause 2).setBit Reg.TOUCH_IRQ 3 true
  else (s.deviceReset cause 2).setBit Reg.TOUCH_IRQ 3 true

/-! ## Flash and images (R413, R507, R508) -/

/-- The image in slot b of the flash: what FW_COMMIT wrote, or what the board delivered. -/
def State.flashSlot (s : State) (b : Bool) : List Byte :=
  let x := if b then s.bench.slotB else s.bench.slotA
  if x = [] then Config.flashImage b else x

/-- The boot ROM's checks 1 to 6 of R416; 0 for none that fails. -/
def State.bootCheck (s : State) (img : List Byte) : Nat := if s.fwCheck img = 7 then 0 else s.fwCheck img

/-- The boot ROM runs an image: the bench firmware it holds. -/
def State.runImage (s : State) (img : List Byte) : State := s.setBench { s.bench with fw := imageInfo img }

/-- Step 7 (R508): the active slot, else the other, else ERROR 1. -/
def State.bootImage (s : State) : State :=
  let b := s.bootB
  let c := s.bootCheck (s.flashSlot b)
  if c = 0 then (s.runImage (s.flashSlot b)).setBit Reg.GLB_BOOTSTAT 8 b
  else
    let s1 := s.setFld Reg.GLB_BOOTSTAT 11 3 c
    if s1.bootCheck (s1.flashSlot !b) = 0 then
      ((s1.runImage (s1.flashSlot !b)).setBit Reg.GLB_BOOTSTAT 8 !b).setBit Reg.GLB_BOOTSTAT 9 true
    else s1.setFld Reg.GLB_BOOTSTAT 4 4 1

/-! ## The steps (Table 17.2) -/

/-- PLL n locks at its nominal point and its domain clocks leave bypass (R449). -/
def State.pllUp (s : State) (n : Nat) : State :=
  let s1 := (s.wr (Reg.CLK_PLLSTAT n) (w32 (1 + pllNominal n * 65536))).setBit Reg.CLK_MON (8 + n) true
  s1.each (pllClocks n) (fun t d => (t.wr (Reg.CLK_MUX d) 1#32).setBit (Reg.CLK_MUXSTAT d) 0 true)

/-- The start-up turns domain d on. -/
def State.domBoot (s : State) (d : Nat) : State := (s.domUp d).pwrIrq 0

/-- Clock enable b is set. -/
def State.gateOn (s : State) (b : Nat) : State := s.setBit (Reg.CLK_GATE (b / 32)) (b % 32) true

/-- Step 5: Subsystem IDs and n from the board block; a block that fails its CRC gives zeros and ERROR 3 (R507). -/
def State.bootBoard (s : State) : State :=
  let b := Config.boardBlock
  if crc32 (b.take 8) = leAt b 8 4 ∧ 12 ≤ b.length then
    (s.setHost { s.host with subsys := leAt b 0 4 }).setFld Reg.HOSTEP_VFMEMSZ 0 3 (leAt b 4 1)
  else s.setFld Reg.GLB_BOOTSTAT 4 4 3

/-- Step 6 on one stack: logical channels go onto the first 30 pseudo-channels, failed ones onto a sprue that passed, the
lowest first (R311); a failed sprue is noted, and a failure that finds none is an L4 fault. -/
def State.bootStack (s : State) (k : Nat) (bad : List Nat) : State :=
  let good : Nat → Bool := fun p => !bad.contains p
  let fails := ((List.range 30).map (· + 32 * k)).filter (fun p => !good p)
  let spare := [32 * k + 30, 32 * k + 31].filter good
  let s1 := s.each (List.range 30) (fun t j =>
    let p := 32 * k + j
    let l := 30 * k + j
    if good p then (t.wr (Reg.MEM_PCMAP l) (w32 p)).wr (Reg.MEM_PCSTAT p) (w32 (4 * l))
    else
      let t1 := t.wr (Reg.MEM_PCSTAT p) (w32 (3 + 4 * l))
      match spare[fails.findIdx (· == p)]? with
      | some q => (t1.wr (Reg.MEM_PCMAP l) (w32 q)).wr (Reg.MEM_PCSTAT q) (w32 (4 * l + 256))
      | none => t1.memFault 5 p 4 0 0)
  s1.each [32 * k + 30, 32 * k + 31] (fun t q =>
    if !good q then (t.wr (Reg.MEM_PCSTAT q) 1#32).memFault 8 q 0 0 0
    else if spare.findIdx (· == q) < fails.length then t
    else t.wr (Reg.MEM_PCSTAT q) 0x101#32)

/-- Step 8: the cores that firmware runs on, the capture domains and the groups' clocks; every other unit enable stays
clear. -/
def State.bootDomains (s : State) : State :=
  let s0 := s.each [225, 226, 227] (fun t b => t.gateOn b)
  let s1 := (List.range 18).foldl (fun t j => t.domBoot (6 + j)) s0
  s1.each (List.range 8) (fun t k =>
    ((t.setBit Reg.CLK_MON (14 + k) true).wr (Reg.CLK_MUX (2 + k)) 1#32).setBit (Reg.CLK_MUXSTAT (2 + k)) 0 true)

/-- The enables that firmware sets as it turns to the units of step 9 (log entry 14), and the addresses of its tables in
the bench region (Tables 8.17 and 9.11, log entry 138); the DMA engines are enabled (log entry 141). -/
def State.bootGates (s : State) : State :=
  let s1 := (s.each (List.range 247) (fun t b => t.gateOn b)).setBit Reg.CRU_STAT 0 true
  let s2 := s1.each (List.range 16) (fun t e => t.setBit (Reg.DMA_ENGCTL e) 0 true)
  (s2.wr64 Reg.ASY_PGTAB_LO (0xB00000000 + 64 * Config.pageTable.toNat)).wr64 Reg.NOZ_SQBASE_LO
    (0xB20000000 + 64 * Config.sumQueue.toNat)

/-- Row r of bank b failed its self-test: a spare serves it, or it is isolated. -/
def State.bootRow (s : State) (b r : Nat) : State :=
  match s.spareRow b with
  | some i => (s.rowBegin b r i false).rowServe b { row := r, spare := i, copy := false }
  | none => s.rowIsolate b r r

/-- Step 9 (R35): the units that fail, as (kind, index): 0 lane, 1 pipeline, 2 nozzle row (bank * 264 + row), 3 bench
core. A failed sprue is unavailable and noted; a failed lane is inlaid once its camera is bound (R143). -/
def State.bootTest (s : State) (bad : List (Nat × Nat)) : State :=
  let hit : Nat → Nat → Bool := fun k i => bad.contains (k, i)
  let s1 := s.each (List.range 8) (fun t k =>
    (if hit 0 (13 * k + 12) then t.spareFailed (13 * k + 12) else t.setBit Reg.LANE_SPRUE k true).groupTest k (hit 1))
  let s2 := s1.each ((List.range 104).filter (fun n => n % 13 != 12 && hit 0 n)) (fun t n =>
    t.setLane n { t.lane n with testFail := true })
  let s3 := s2.each (List.range 32) (fun t b =>
    let t1 := t.each (List.range 8) (fun u i =>
      if hit 2 (b * 264 + 256 + i) then u.fault 4 6 (b * 264 + 256 + i) 0 else u.setBit (Reg.NOZ_BANK b) (8 + i) true)
    t1.each ((List.range 256).filter (fun r => hit 2 (b * 264 + r))) (fun u r => u.bootRow b r))
  let fails := (List.range 5).filter (hit 3)
  let s4 := s3.setBench { s3.bench with failed := fails }
  let s5 := s4.each (fails.filter (fun c => c < 4)) (fun t c => t.setBit Reg.BENCH_STAT c false)
  let s6 := if hit 3 4 then s5.fault 10 6 4 0
    else match fails.head? with
      | some c => ((s5.setBit Reg.BENCH_STAT 4 true).setBit Reg.BENCH_STAT 5 true).setFld Reg.BENCH_STAT 6 2 c
      | none => s5
  if 4 ≤ fails.length then s6.fault 10 4 0 4 else s6

/-- Step 10 (R505): READY in every function, the maker's mark, GLB_BOOTTIME; VFs have no tenant yet. PF0's D3hot that
waited takes place after it (Table 17.8). -/
def State.bootReady (s : State) : State :=
  let s1 := (s.mboxAll 0 true).each ((List.range 15).map (· + 1)) (fun t f => t.setBit (Reg.MBX_STAT f) 4 true)
  let s2 := (s1.setFld Reg.GLB_BOOTTIME 0 20 ((s.boot.tR + s.devTime) / usTicks 1000)).setFld Reg.GLB_BOOTSTAT 14 2 0
  s2.markRewrite.fwResume

/-- The start-up step that ends stage st. -/
def State.bootStep (s : State) (st : Nat) (bad : List (Nat × Nat)) : State :=
  match st with
  | 0 => s
  | 1 => (({ s with devTime := 0 } : State).setBoot { s.boot with tR := s.boot.tR + s.devTime }).pllUp 0
  | 2 => (s.domBoot 1).pllUp 3
  | 3 => ((((((s.pllUp 1).pllUp 2).pllUp 5).domBoot 2).domBoot 3).setBit (Reg.PWR_CTL 2) 0 true).gateOn 224
  | 4 => s.bootBoard
  | 5 =>
    let s1 := ((((s.pllUp 4).domBoot 4).domBoot 5).gateOn 229).gateOn 230
    let pcs := (bad.filter (fun e => e.1 == 4)).map (·.2)
    let s2 := (((s1.bootStack 0 pcs).bootStack 1 pcs).showSprues).setBit Reg.MEM_CTL 0 true
    s2.setMemx { s2.memx with monT := s2.devTime }
  | 6 => s.bootImage
  | 7 => s.bootDomains
  | 8 => s.bootGates.bootTest bad
  | _ => s.bootReady

end Sys2Proof.Machine
end

