-- ==== Sys2Proof/Machine/HostOps.lean ====
section
/-!
DEFINITION. The shared operations of the host endpoint (chapter 12): which functions answer (R363), refusals and errors
(Table 12.7), pending vectors (R366), function-level reset (R376 to R378), and PF0's D3hot (R379, R512).
-/
namespace Sys2Proof.Machine
open Sys2Proof

/-! ## Pending vectors (R366) -/

/-- Vectors of function f. -/
def vecCount (f : Nat) : Nat := if f = 0 then 2048 else 64
/-- Vector v of function f, if pending and no longer masked, is sent once. -/
def State.vecFlush (s : State) (f v : Nat) : State :=
  if s.bit (Reg.HOSTEP_FNSTAT f) 4 && !s.bit (Reg.HOSTEP_FNSTAT f) 5 && s.bit (Reg.PBA f (v / 32)) (v % 32) &&
      !s.bit (Reg.MSIX f v 3) 0 then
    (s.setBit (Reg.PBA f (v / 32)) (v % 32) false).emit (.msix f v)
  else s
/-- Every pending vector of function f whose masks are clear is sent. -/
def State.vecsFlush (s : State) (f : Nat) : State :=
  s.each ((List.range (vecCount f)).filter (fun v => s.bit (Reg.PBA f (v / 32)) (v % 32))) (fun t v => t.vecFlush f v)

/-! ## Function-level reset (R376 to R378) -/

/-- Firmware abandons what function f has pending, without a response (Table 12.8 step 4). -/
def State.fnAbandon (s : State) (f : Nat) : State :=
  let s1 := s.waitersDrop (fun k => k.1 == f)
  let s2 := s1.setBench { s1.bench with
    running := s1.bench.running.filter (fun c => c.f != f), bells := s1.bench.bells.filter (fun b => b.1 != f) }
  s2.each (List.range 16) (fun t q =>
    if (t.xferQ q).any (fun x => x.cmd.f == f) then t.setXferQ q ((t.xferQ q).filter (fun x => x.cmd.f != f)) else t)

/-- An FLR of function f begins (Table 12.8 steps 1 to 3), with the tenant reset that firmware completes (step 4). -/
def State.flrBegin (s : State) (f : Nat) : State :=
  if s.fnFlr f then s
  else
    let s1 := s.setHost { s.host with
      flr := s.host.flr ++ [(f, s.devTime)], atc := s.host.atc.filter (fun e => e.1 != f)
      inv := s.host.inv.filter (fun e => e.1 != f) }
    let s2 := (((s1.setBit Reg.HOSTEP_FLRSTAT f true).setBit (Reg.HOSTEP_FNSTAT f) 7 true).epIrq 3).setBit
      (Reg.HOSTEP_FNSTAT f) 4 false
    let s3 := { s2 with regs := skeep (fun k => !(decide (Reg.PBA f 0 ≤ k) && decide (k < Reg.PBA f 64))) s2.regs }
    let s4 := s3.fnAbandon f
    if s4.tenantIs f then s4.tenantReset f 2 [] else s4

/-- Every VF is removed as if by FLR (R365). -/
def State.vfsRemove (s : State) : State :=
  let fs := (List.range 16).filter (fun f => f != 0 && s.fnPresent f)
  (s.each fs (fun t f => t.flrBegin f)).setHost { (s.each fs (fun t f => t.flrBegin f)).host with vfEn := false }

/-- An FLR: one of PF0 clears VF Enable, so every VF goes with it (R378). -/
def State.flrStart (s : State) (f : Nat) : State :=
  if f = 0 then (s.vfsRemove).flrBegin 0 else s.flrBegin f

/-- The register at key k belongs to function f (R376): MSI-X table and pending bits, mailbox block but for the status
that firmware shows there, delivery registers, and for PF0 the IRQ_ROUTE entries. -/
def fnKey (f k : Nat) : Bool :=
  (decide (Reg.fnBase f + 0x10000 ≤ k) && decide (k < Reg.fnBase f + 0x20000) && k != Reg.MBX_STAT f) ||
  (decide (Reg.fnBase f + 0x20000 ≤ k) && decide (k < Reg.fnBase f + 0x28100)) ||
  (decide (Reg.fnBase f + 0x30000 ≤ k) && decide (k < Reg.fnBase f + 0x40000)) ||
  (f == 0 && decide (Reg.IRQ_ROUTE 0 ≤ k) && decide (k ≤ Reg.IRQ_ROUTE 319))

/-- An FLR ends (Table 12.8 step 5): the function's registers are as after reset, and it accepts requests. Its FAULT mask
is whole again (R408). -/
def State.flrEnd (s : State) (f : Nat) : State :=
  let s1 := { s with regs := skeep (fun k => !fnKey f k) s.regs }
  let s2 := (s1.wr (Reg.HOSTEP_FNSTAT f) 0#32).setHost { s1.host with
    flr := s1.host.flr.filter (fun e => e.1 != f)
    numVfs := if f = 0 then 0 else s1.host.numVfs, ctl := if f = 0 then 0 else s1.host.ctl
    cto := if f = 0 then 0 else s1.host.cto }
  let s3 := (s2.setMbox f { faults := (s2.mbox f).faults }).each (List.range 16) (fun t r => t.setRing f r {})
  ((s3.setBit Reg.HOSTEP_FLRSTAT f false).addWrap Reg.HOSTEP_FLRCNT 0 32 1).epIrq 4

/-! ## D3hot of PF0 (R512) -/

/-- Words that firmware keeps of the capture domains: what a host or a binding configured there, and the clock enables. -/
def State.d3Words (s : State) : List (Nat × Word) :=
  s.regs.filter (fun e =>
    ((List.range 17).any (fun j => domKey (7 + j) e.1) && (match Reg.rowAt e.1 with
      | some r => r.rw + r.rwl != 0
      | none => false)) ||
    (decide (Reg.LANE_CTLA 0 ≤ e.1) && decide (e.1 ≤ Reg.LANE_CTLA 103) && e.1 % 0x1000 == 4) ||
    (decide (Reg.CLK_GATE 0 ≤ e.1) && decide (e.1 ≤ Reg.CLK_GATE 7)))

/-- Firmware silences capture (R512): generators, lists and pipelines stop, a paired twin fences itself, and the capture
domains go off with force, groups before lanes. -/
def State.d3Silence (s : State) : State :=
  let s1 := s.each (List.range 96) (fun t g => t.tsStop g)
  let s2 := s1.each (List.range 64) (fun t l => t.clCtlWrite l (t.rd (Reg.TRG_CLCTL l) &&& ~~~ 1#32))
  let s3 := s2.each (List.range 104) (fun t n => if t.pipeEn n then t.pipeCtl n (t.rd (Reg.PIPE_CTL n) &&& ~~~ 1#32) else t)
  let paired := s3.twinState == 1 || s3.twinState == 2 || s3.twinState == 3
  let s4 := if paired then s3.twinFence else s3
  let s5 := s4.setHost { s4.host with d3off := true, d3save := s4.d3Words, d3wait := false }
  s5.each (((List.range 17).map (fun j => 23 - j)).filter s5.domOn) (fun t d => t.domOffCmd d)

/-- PF0 returns to D0 (R379, R512): firmware powers the capture domains back, one after the other. -/
def State.d3Wake (s : State) : State :=
  if s.host.d3off then
    let s1 := s.setHost { s.host with d3off := false }
    s1.each ((List.range 17).map (· + 7)) (fun t d => t.domRequest d true)
  else s.setHost { s.host with d3wait := false }

/-- A host request ends the idle time of the link, which leaves L1: PM shows L0, or L0p at less than the trained width. -/
def State.linkWake (s : State) : State :=
  let s := { s with idleT := s.devTime }
  if 2 ≤ s.fld Reg.HOSTEP_LINK 15 2 then
    s.setFld Reg.HOSTEP_LINK 15 2 (b2n (decide (s.fld Reg.HOSTEP_LINK 8 5 < s.fld Reg.HOSTEP_LINK 3 5)))
  else s

end Sys2Proof.Machine
end

