-- ==== Sys2Proof/Machine/BusOps.lean ====
section
/-!
DEFINITION. The shared operations of a register access: the unit at an offset (Tables 19.1, 16.12), whether it can be
reached (R363, R461), the memories behind windows, the value a register reads as, and the high-word latch (R5).
-/
namespace Sys2Proof.Machine
open Sys2Proof

/-! ## Windows -/

/-- Array windows of PF0 BAR0 and where they end (R362): compare memory, LINK_FMTMEM, a pipeline's two table windows, the
track window, and the mailbox slots. -/
def arrayEnd (a : Nat) : Option Nat :=
  if 0x10000 ≤ a ∧ a < 0x18000 then some 0x18000
  else if 0x580000 ≤ a ∧ a < 0x600000 then some 0x600000
  else if 0xA80000 ≤ a ∧ a < 0xAE0000 then some 0xAE0000
  else if 0xC00000 ≤ a ∧ a < 0xDA0000 ∧ 0x1000 ≤ a % 0x4000 ∧ a % 0x4000 < 0x2000 then some (a / 0x4000 * 0x4000 + 0x2000)
  else if 0xC00000 ≤ a ∧ a < 0xDA0000 ∧ 0x3000 ≤ a % 0x4000 then some (a / 0x4000 * 0x4000 + 0x4000)
  else if 0x1400000 ≤ a ∧ a < 0x2000000 then some 0x2000000
  else none

/-- The word behind a window that shows a memory through a page register (R101, R228, Table 8.14): its key, and whether
it is the active bank's, which is read-only. -/
def State.winKey (s : State) (a : Nat) : Option (Nat × Bool) :=
  if 0x580000 ≤ a ∧ a < 0x600000 then
    some (Reg.CMEM 0 0 + (if s.bit Reg.TRG_CMEMPAGE 0 then 0x80000 else 0) + (a - 0x580000), false)
  else if 0xC00000 ≤ a ∧ a < 0xDA0000 ∧ a % 0x4000 / 0x1000 % 2 = 1 then
    let n := (a - 0xC00000) / 0x4000
    if a % 0x4000 < 0x2000 then
      let sel := s.rd (Reg.PIPE_TBLSEL n)
      let bank := if bitOf sel 2 then s.pipeBank n else 1 - s.pipeBank n
      if fldOf sel 0 2 = 3 ∨ 11 < fldOf sel 4 4 then none
      else some (Reg.PTAB n bank (fldOf sel 0 2) (fldOf sel 4 4 * 0x1000 + a % 0x1000), bitOf sel 2)
    else
      let sel := s.rd (Reg.ASY_TBLSEL n)
      let bank := if bitOf sel 0 then s.pipeBank n else 1 - s.pipeBank n
      if 11 < fldOf sel 4 4 then none
      else some (Reg.ATAB n bank (fldOf sel 4 4 * 0x1000 + a % 0x1000), bitOf sel 0)
  else none

/-- Offset a lies in a window that shows a memory. -/
def paged (a : Nat) : Bool :=
  decide (0x580000 ≤ a ∧ a < 0x600000) || decide (0xC00000 ≤ a ∧ a < 0xDA0000 ∧ a % 0x4000 / 0x1000 % 2 = 1)

/-! ## Reads -/

/-- The line cache bytes that pipeline n's shadow needs (R190, Table 7.7). -/
def State.cacheReq (s : State) (n : Nat) : Nat :=
  cacheNeed (s.shadowBank n) (s.rd (Reg.PIPE_BIND n)) (s.camFmt (s.fld (Reg.PIPE_BIND n) 1 7))

/-- LANE_RXEQ0 and LANE_RXEQ1 while the receiver adapts: values that the spec leaves open (R130); an Alaol-1 receiver is
fixed (R149); a LANE_CMD bit reads 1 while its action waits for an inlay (Table 0.3, R144). -/
def State.liveLane (s : State) (a : Nat) : Option Word :=
  let n := (a - 0x800000) / 0x1000
  let o := a % 0x1000
  let st := s.laneSt n
  let ovr := s.rd (Reg.LANE_EQOVR n)
  let free : Word := (Config.freeRead a (if bitOf ovr 0 then 0 else s.devTime)).setWidth 32
  if o = 8 then (let d := (s.lane n).deferred; some (w32 (b2n (d % 2 == 1 || decide (4 ≤ d)) + 2 * (d / 2 % 2))))
  else if o = 0x30 ∧ 3 ≤ st then
    (let ctle := if s.laneA1 n ∨ bitOf ovr 0 then fldOf ovr 1 4 else fldOf free 0 4
     some (w32 (ctle + (if st = 4 then s.fld a 8 16 else fldOf free 8 16) * 2 ^ 8)))
  else if o = 0x34 ∧ 3 ≤ st then some (if s.laneA1 n ∨ bitOf ovr 5 then 0#32 else free &&& 0x3FFFFFFF#32)
  else none

/-- The value of the register at key k that hardware forms as it is read. -/
def State.liveVal (s : State) (k : Nat) : Option Word :=
  let a := k % 0x10000000
  if a < 0x10000 then
    (if a = Reg.GLB_DEVTIME_LO then some (w32 s.devTime)
     else if a = Reg.GLB_DEVTIME_HI then some (w32 (s.devTime / 2 ^ 32)) else none)
  else if 0x401000 ≤ a ∧ a < 0x403000 ∧ a % 0x400 = 0xC then
    (let x := s.axis ((a - 0x401000) / 0x400)
     some (putFld (s.rd a) 2 1 (b2n (x.waiting || x.frame.isSome))))
  else if 0x510000 ≤ a ∧ a < 0x516000 ∧ a % 0x100 = 8 then
    (let g := (a - 0x510000) / 0x100
     some (w32 (2 * b2n (s.gen g).stopping + 4 * b2n (s.bit (Reg.TRG_TSSTAT g) 1))))
  else if a < 0x620000 then none
  else if a < 0x621000 then
    (let i := (a - 0x620000) / 4
     if i < 32 then some ((s.rd a &&& ~~~ 0x1FF#32) ||| w32 (s.fld (Reg.TRG_PINCFG i) 3 8 + 256 * s.fld (Reg.TRG_PINCFG i) 2 1))
     else none)
  else if 0x800000 ≤ a ∧ a < 0x868000 then s.liveLane a
  else if a = Reg.ASY_RSCMD then some (w32 (s.fld Reg.ASY_RSSTAT 0 8))
  else if 0xC00000 ≤ a ∧ a < 0xDA0000 ∧ a % 0x4000 = 8 then some (w32 (b2n (s.pipeBit ((a - 0xC00000) / 0x4000) 2)))
  else if 0xC00000 ≤ a ∧ a < 0xDA0000 ∧ a % 0x4000 = 0x2000 then
    (let n := (a - 0xC00000) / 0x4000
     some (putFld (putFld (s.rd a) 0 1 (b2n (s.pipeRun n && s.bit (Reg.act (Reg.PIPE_COLS n) + 0x7C) 0))) 5 1
       (b2n (s.pipeBit n 5))))
  else if 0xC00000 ≤ a ∧ a < 0xDA0000 ∧ a % 0x4000 = 0x1C then some (w32 (s.cacheReq ((a - 0xC00000) / 0x4000) % 2 ^ 19))
  else if 0x1400000 ≤ a ∧ a < 0x2000000 then (s.noz.latch.find? (fun e => e.1 == a)).map (·.2)
  else if 0x1001000 ≤ a ∧ a < 0x1001200 ∧ a % 0x40 = 0x28 then
    some (w32 (b2n (s.noz.commits.contains ((a - 0x1001000) / 0x40))))
  else if a = Reg.MEM_INLAYPROG then
    (if s.memx.copy.isSome then some (w32 (s.inlayMib + 65536)) else none)
  else if a = Reg.MEM_RESALTPROG then some (w32 (s.resaltSets % 4096))
  else if a = Reg.MEM_CMD then some (w32 (2 * b2n s.memx.copy.isSome + 4 * b2n s.memx.resalt.isSome))
  else if 0x2001000 ≤ a ∧ a < 0x2100000 ∧ a % 0x10000 / 0x1000 ≥ 1 ∧ a % 0x400 = 8 then
    (let ch := (a - 0x2000000) / 0x10000 * 32 + (a % 0x10000 - 0x1000) / 0x400
     if ch < 512 ∧ a = Reg.DMA_CHCMD ch then
       some (w32 (2 * b2n (s.chan ch).stopping + 4 * s.fld (Reg.DMA_CHSTAT ch) 8 1))
     else none)
  else if a = Reg.BENCH_CMD then some (w32 (b2n s.bench.restart.isSome))
  else if a = Reg.TWIN_CMD then
    some (w32 (b2n (s.bit Reg.TWIN_STAT 9 || s.twin.step != 0) + 4 * b2n s.twin.fenceT.isSome +
      16 * b2n (s.twin.th.isSome && s.twin.hoLead)))
  else if a = Reg.CLK_CMD then some (w32 (b2n (s.clk.sw.any (fun e => !e.2.2))))
  else if a = Reg.TWIN_STAT then some (putFld (s.rd a) 5 2 (b2n s.witNow + 2 * b2n s.hbNow))
  else if Reg.BENCH_WDOG 0 ≤ a ∧ a ≤ Reg.BENCH_WDOG 4 then
    (if s.bit Reg.BENCH_STAT ((a - Reg.BENCH_WDOG 0) / 4) then
      some (w32 (s.devTime - (Config.freeRead a s.devTime).toNat % 160001)) else none)
  else if Reg.HOSTEP_FNSTAT 0 ≤ a ∧ a ≤ Reg.HOSTEP_FNSTAT 15 then
    some (putFld (s.rd a) 8 1 (b2n (s.tenantIs ((a - Reg.HOSTEP_FNSTAT 0) / 4))))
  else none

/-- The word at key k of the register space: reserved offsets and write-only bits read 0 (R6, R363, Table 0.3). -/
def State.busVal (s : State) (k : Nat) : Word :=
  let a := k % 0x10000000
  if paged a then (match s.winKey a with
    | some w => s.rd w.1
    | none => 0#32)
  else match s.liveVal k with
    | some v => v
    | none => if (Reg.rowAt a).isSome then s.rd k else 0#32

/-- The low registers of 64-bit quantities (R5, names with _LO). -/
def loRows : List Reg.Row := [
  ⟨0x8, 0x4, 1, 0x4, 1, 0, 0, 0, 0⟩,
  ⟨0x18004, 0x4, 1, 0x4, 1, 0, 0, 0, 0⟩,
  ⟨0x18028, 0x4, 1, 0x4, 1, 0, 0, 0, 0⟩,
  ⟨0x30004, 0x40, 16, 0x40, 1, 0, 0, 0, 0⟩,
  ⟨0x30010, 0x40, 16, 0x40, 1, 0, 0, 0, 0⟩,
  ⟨0x30024, 0x40, 16, 0x40, 1, 0, 0, 0, 0⟩,
  ⟨0x30410, 0x4, 1, 0x4, 1, 0, 0, 0, 0⟩,
  ⟨0x100200, 0x20, 4, 0x20, 1, 0, 0, 0, 0⟩,
  ⟨0x10020C, 0x20, 4, 0x20, 1, 0, 0, 0, 0⟩,
  ⟨0x400008, 0x4, 1, 0x4, 1, 0, 0, 0, 0⟩,
  ⟨0x401020, 0x400, 8, 0x400, 1, 0, 0, 0, 0⟩,
  ⟨0x401028, 0x400, 8, 0x400, 1, 0, 0, 0, 0⟩,
  ⟨0x401038, 0x400, 8, 0x400, 1, 0, 0, 0, 0⟩,
  ⟨0x401060, 0x400, 8, 0x400, 1, 0, 0, 0, 0⟩,
  ⟨0x401068, 0x400, 8, 0x400, 1, 0, 0, 0, 0⟩,
  ⟨0x401070, 0x400, 8, 0x400, 1, 0, 0, 0, 0⟩,
  ⟨0x4010B4, 0x400, 8, 0x400, 1, 0, 0, 0, 0⟩,
  ⟨0x4010C8, 0x400, 8, 0x400, 1, 0, 0, 0, 0⟩,
  ⟨0x4010D0, 0x400, 8, 0x400, 1, 0, 0, 0, 0⟩,
  ⟨0x510018, 0x100, 96, 0x100, 1, 0, 0, 0, 0⟩,
  ⟨0x510034, 0x100, 96, 0x100, 1, 0, 0, 0, 0⟩,
  ⟨0x531008, 0x40, 16, 0x40, 1, 0, 0, 0, 0⟩,
  ⟨0x531010, 0x40, 16, 0x40, 1, 0, 0, 0, 0⟩,
  ⟨0xA10018, 0x100, 96, 0x100, 1, 0, 0, 0, 0⟩,
  ⟨0xDC100C, 0x40, 96, 0x40, 1, 0, 0, 0, 0⟩,
  ⟨0xDC1024, 0x40, 96, 0x40, 1, 0, 0, 0, 0⟩,
  ⟨0xE0000C, 0x4, 1, 0x4, 1, 0, 0, 0, 0⟩,
  ⟨0x1000040, 0x4, 1, 0x4, 1, 0, 0, 0, 0⟩,
  ⟨0x200000C, 0x10000, 16, 0x10000, 1, 0, 0, 0, 0⟩,
  ⟨0x2001020, 0x10000, 16, 0x400, 32, 0, 0, 0, 0⟩,
  ⟨0x2001028, 0x10000, 16, 0x400, 32, 0, 0, 0, 0⟩,
  ⟨0x2001030, 0x10000, 16, 0x400, 32, 0, 0, 0, 0⟩,
  ⟨0x2001100, 0x10000, 16, 0x400, 32, 0, 0, 0, 0⟩,
  ⟨0x2001108, 0x10000, 16, 0x400, 32, 0, 0, 0, 0⟩,
  ⟨0x2001118, 0x10000, 16, 0x400, 32, 0, 0, 0, 0⟩,
  ⟨0x2001200, 0x10000, 16, 0x400, 32, 0, 0, 0, 0⟩,
  ⟨0x2001208, 0x10000, 16, 0x400, 32, 0, 0, 0, 0⟩,
  ⟨0x2001218, 0x10000, 16, 0x400, 32, 0, 0, 0, 0⟩,
  ⟨0x2200040, 0x4, 1, 0x4, 1, 0, 0, 0, 0⟩,
  ⟨0x2200048, 0x4, 1, 0x4, 1, 0, 0, 0, 0⟩,
  ⟨0x2200050, 0x4, 1, 0x4, 1, 0, 0, 0, 0⟩,
  ⟨0x2200060, 0x4, 1, 0x4, 1, 0, 0, 0, 0⟩]

/-- Offset a is a low register. -/
def isLow (a : Nat) : Bool := loRows.any (fun r => r.hit a)

/-- A 32-bit read of the register at key k: its value, and the high word latched by a read of a low register. A high
register reads as latched until the next read of its low register or a write to it, and as it stands before any such read;
one latch serves all requesters (R5, log entry 107). -/
def State.busRead32 (s : State) (k : Nat) : Word × State :=
  let a := k % 0x10000000
  if isLow a then (s.busVal k, { s with hiLatch := s.hiLatch.filter (fun e => e.1 != k) ++ [(k, s.busVal (k + 4))] })
  else if 4 ≤ a ∧ isLow (a - 4) then
    (match s.hiLatch.find? (fun e => e.1 == k - 4) with
     | some e => (e.2, s)
     | none => (s.busVal k, s))
  else (s.busVal k, s)

end Sys2Proof.Machine
end

