-- ==== Sys2Proof/Machine/Boot.lean ====
section
/-!
DEFINITION. Meanings of the rows of chapter 17 and of the supply (R524): reset sources, start-up, the recovery image,
quench and the test port.
-/
namespace Sys2Proof.Machine
open Sys2Proof

/-! ## Reset sources (R502, R503, R524) -/

/-- The state held for the reset pin: while it is low the device stays in reset. -/
def State.holdMode (s : State) : Nat := if s.boot.perst then 1 else 0

/-- POR (R502): everything is reset, PD_AON included; CAUSE reads 0 and no reset has been counted. -/
def execPor (s : State) : Res :=
  let s1 := (s.pinsIdle).cleared false
  .next (s1.setBoot { s1.boot with mode := s1.holdMode, ir := 2, addr := 0, data := 0 })

/-- PERST_ASSERT (R502): PCIE_PERST_N goes low; the device is held in reset while it has main power. -/
def execPerstAssert (s : State) : Res :=
  let s1 := s.setBoot { s.boot with perst := true }
  .next (if 4 ≤ s1.boot.mode then s1 else s1.deviceReset 1 1)

/-- PERST_RELEASE (R505): start-up begins. -/
def execPerstRelease (s : State) : Res :=
  let s1 := s.setBoot { s.boot with perst := false }
  .next (if s1.boot.mode = 1 then s1.setBoot { s1.boot with mode := 0 } else s1)

/-- A write of GLB_RESET: the key resets the device (R502), but not one that R510 has stopped. -/
def State.glbReset (s : State) (v : Word) : State := if v = 0xD1E5#32 ∧ s.bootError ≠ 2 then s.deviceReset 5 2 else s

/-- GLB_RESET (R502): the key resets the device. -/
def execGlbReset (v : Word) (s : State) : Res := s.alive fun s => s.reach 0 Reg.GLB_RESET fun s => .next (s.glbReset v)

/-- INTERNAL_RESET_END (R503): 10 µs after an internal reset the start-up begins. -/
def execInternalResetEnd (dt : Nat) (s : State) : Res :=
  let s1 := s.pass dt
  .next (
    if s.boot.mode = 2 then
      (if s1.boot.t + usTicks 10 ≤ s1.devTime then ({ s1 with devTime := 0 } : State).setBoot { s1.boot with mode := 0 } else s1)
    else if s.boot.mode = 0 then s1
    else s)

/-- MAIN_POWER_LOSS (R513, R524): only PD_AON runs on. It keeps the temperature monitor, and, where the host enabled PME,
the wake sources. -/
def execMainPowerLoss (s : State) : Res :=
  let s1 := (s.pinsIdle).cleared true
  let s2 := (s1.wr Reg.PWR_THERM (s.rd Reg.PWR_THERM)).wr Reg.PWR_TEMP (s.rd Reg.PWR_TEMP)
  .next (if s.boot.mode = 5 ∨ s.boot.mode = 4 then s
    else s2.setBoot { s2.boot with
      mode := 4, wake := if s.host.ctl / 8 % 2 = 1 then s.fld Reg.HOSTEP_WAKECFG 0 2 else 0 })

/-- MAIN_POWER_RETURN (R513, R524): a device reset with CAUSE 6; HOSTEP_WAKESTAT names what woke the device. -/
def execMainPowerReturn (s : State) : Res :=
  .next (if s.boot.mode = 4 then (s.deviceReset 6 s.holdMode).wr Reg.HOSTEP_WAKESTAT (w32 s.boot.woke) else s)

/-- ALWAYS_ON_RAIL_LOSS (R524): the device is held in POR; nothing is kept. -/
def execAlwaysOnRailLoss (s : State) : Res :=
  let s1 := (s.pinsIdle).cleared false
  .next (s1.setBoot { s1.boot with mode := 5, ir := 2, addr := 0, data := 0 })

/-! ## Start-up (R505, R509) -/

/-- The start-up can leave its stage: nothing stopped it (R508, R510), and stage WAITREF has its reference (R504). -/
def State.stageOpen (s : State) : Bool :=
  s.awake && decide (s.bootStage < 10) && s.bootError != 2 && !(s.bootStage == 7 && s.bootError == 1) &&
  (s.bootStage != 1 || s.refOk 0)

/-- STARTUP_STAGE (R505, Table 17.2): the step that ends the present stage is done; `bad` names the units that fail their
self-test in it. -/
def execStartupStage (bad : List (Fin 5 × Nat)) (dt : Nat) (s : State) : Res := s.alive fun s =>
  let s1 := s.pass dt
  .next (
    if s1.stageOpen then
      let st := s1.bootStage
      let s2 := s1.bootStep st (bad.map (fun e => (e.1.val, e.2)))
      let s3 := if s2.awake then s2.setFld Reg.GLB_BOOTSTAT 0 4 (st + 1) else s2
      if s3.awake && st == 9 && s3.host.d3wait then s3.d3Silence else s3
    else s1)

/-- GLB_BOOTCMD.LOADMEM (R509): the image in BAR2 runs where the start-up waits for one and it passes its checks. -/
def State.loadmem (s : State) : State :=
  let img := (s.devRead 0 (s.fld Reg.GLB_RECOVLEN 0 25)).1
  if s.awake && s.bootStage == 7 && s.bootError == 1 && s.bootCheck img == 0 then
    ((s.runImage img).setFld Reg.GLB_BOOTSTAT 4 4 0).setBit Reg.GLB_BOOTSTAT 10 true
  else s

/-- LOADMEM (R509): in stage 7 with ERROR 1, the image at BAR2 offset 0 is authenticated and runs. -/
def execLoadmem (s : State) : Res := s.alive fun s => s.reach 0 Reg.GLB_BOOTCMD fun s => .next s.loadmem

/-! ## Quench (R514) -/

/-- QUENCH_N (R514): low for dt ticks; at least 40 ns request a quench while GLB_CTL.QPINEN is set. -/
def execQuenchN (dt : Nat) (s : State) : Res :=
  let takes := decide (3 ≤ s.bootStage) && s.bit Reg.GLB_CTL 1 && decide (64 ≤ dt)
  .next (if !s.awake then s else if takes then (s.pass 64).quench false else s.pass dt)

/-- A write of GLB_QUENCH: the key requests a quench (R514). -/
def State.glbQuench (s : State) (v : Word) : State := if v = 0xC0DA#32 then s.quench true else s

/-- GLB_QUENCH (R514): the key requests a quench. -/
def execGlbQuench (v : Word) (s : State) : Res := s.alive fun s => s.reach 0 Reg.GLB_QUENCH fun s => .next (s.glbQuench v)

/-! ## The test port (R516, R517) -/

/-- TRST_N (R502): only the test port is reset. -/
def execTrstN (s : State) : Res := .next (s.setBoot { s.boot with ir := 2, addr := 0, data := 0 })

/-- TAP_INSTRUCTION (R516): an instruction is updated and its data register `dr` shifted in. QUENCH requests a quench,
and which QSRC it shows is left open; READADDR answers only in a quench. -/
def execTapInstruction (ir : BitVec 8) (dr : BitVec 40) (s : State) : Res :=
  let s1 := s.setBoot { s.boot with ir := ir.toNat }
  .next (
    if s.boot.mode = 5 then s
    else match ir.toNat with
    | 0x02 => s1.emit (.tap 32 (Config.revIndex.toNat * 2 ^ 28 + 0x9624 * 2 ^ 12 + Config.jtagMaker.toNat * 2 + 1))
    | 0x20 => (s1.free.2).quench (s1.free.1.getLsbD 0)
    | 0x21 => if s1.boot.mode = 3 then s1.setBoot { s1.boot with addr := dr } else s1
    | _ => s1)

/-- The power domain of an offset of PF0 BAR0 (Table 15.5). -/
def busDomain (a : Nat) : Nat :=
  match busUnit a with
  | 3 | 4 | 5 => 0
  | 0 | 2 | 18 => 1
  | 1 | 17 => 3
  | 6 | 7 => 6
  | 9 => if a < 0x868000 then 8 + (a - 0x800000) / 0x1000 / 13 else 2
  | 11 => if 0xC00000 ≤ a ∧ a < 0xDA0000 then 16 + (a - 0xC00000) / 0x4000 / 13 else 2
  | 16 => 7
  | _ => 2

/-- Two words of the register space as READDATA shows them: a domain that is off reads 0 with check bits 0xFF. -/
def State.probeReg (s : State) (a : Nat) : Nat :=
  if s.domOn (busDomain a) || busDomain a == 0 then (s.busVal a).toNat + (s.busVal (a + 4)).toNat * 2 ^ 32 else 0xFF * 2 ^ 64

/-- Keys of two successive words of a memory. -/
def State.probePair (s : State) (k : Nat) : Option Nat := some ((s.rd k).toNat + (s.rd (k + 4)).toNat * 2 ^ 32)

/-- Word w of row r of bank b of the track memory: 128 tracks of three words each. -/
def State.probeTrack (s : State) (b w : Nat) : Option Nat :=
  let row := w / 192
  let at' : Nat → Nat := fun i => (s.rd (Reg.NOZ_TRK (32 * (128 * row + i / 3) + b) (i % 3))).toNat
  let i := 2 * (w % 192)
  if row < 256 then some (at' i + at' (i + 1) * 2 ^ 32) else none

/-- A word of an SRAM array (Table 11.4): its domain, its instances, 64-bit words of an instance, and its content where
the layout is known. -/
def State.probeArray (s : State) (row inst w : Nat) : Option (Nat × Nat × Nat × Option Nat) :=
  match row with
  | 0 => some (16 + inst / 13, 104, 40960, none)
  | 1 => some (16 + inst / 13, 104, 14336, none)
  | 2 => some (16 + inst / 13, 104, 20480, none)
  | 3 => some (2, 8, 6144, s.probePair (Reg.RSET inst (8 * w)))
  | 4 => some (2, 32, 50688, s.probeTrack inst w)
  | 5 => some (2, 1, 8192, s.probePair (Reg.NOZ_SEG 0 0 + 8 * w))
  | 6 => some (6, 1, 131072, s.probePair (Reg.CMEM 0 0 + 8 * w))
  | 7 => some (3, 1, 524288, none)
  | 8 => some (3, 5, 32768, none)
  | 9 => some (3, 16, 4096, s.probePair (Reg.MBX_SLOT inst (8 * w)))
  | 10 => some (2, 16, 16384, none)
  | _ => none

/-- The 72 bits that READDATA captures at an address, and the state with the free values drawn: check bits, arrays and
chains whose layout the spec does not give. -/
def State.probe (s : State) (addr : Nat) : Nat × State :=
  let space := addr / 2 ^ 36
  let word := addr % 2 ^ 36
  let f := s.free
  if space = 0 ∨ space = 3 then (if 8 * word < 0x4000000 then s.probeReg (8 * word) else 0, s)
  else if space = 1 then
    match s.probeArray (word / 2 ^ 30) (word / 2 ^ 22 % 256) (word % 2 ^ 22) with
    | none => (0, s)
    | some (d, n, len, v) =>
      if n ≤ word / 2 ^ 22 % 256 ∨ len ≤ word % 2 ^ 22 then (0, s)
      else if !s.domOn d then (0xFF * 2 ^ 64, s)
      else match v with
        | some v => (v + f.1.toNat % 256 * 2 ^ 64, f.2)
        | none => (f.1.toNat + f.2.free.1.toNat % 256 * 2 ^ 64, f.2.free.2)
  else if space = 2 then (f.1.toNat + f.2.free.1.toNat % 256 * 2 ^ 64, f.2.free.2)
  else (0, s)

/-- READDATA (R517): one Capture-DR in a quench; the word field of READADDR then counts on. -/
def execReaddata (s : State) : Res :=
  .next (
    if s.boot.mode = 3 ∧ s.boot.ir = 0x22 then
      let r := s.probe s.boot.addr.toNat
      let a := s.boot.addr.toNat
      (r.2.setBoot { r.2.boot with
        addr := BitVec.ofNat 40 (a / 2 ^ 36 * 2 ^ 36 + (a + 1) % 2 ^ 36), data := BitVec.ofNat 72 r.1 }).emit (.tap 72 r.1)
    else s)

end Sys2Proof.Machine
end

