-- ==== Sys2Proof/Machine/HostEp.lean ====
section
/-!
DEFINITION. The meanings of the host endpoint's commands (chapter 12): device memory through BAR2, completions and
translations of device reads, function-level reset, SR-IOV, MSI-X masks, power states, link states and errors.
-/
namespace Sys2Proof.Machine
open Sys2Proof

/-! ## BAR2 (R359, R375) -/

/-- Runs of enabled bytes of a write: offset and bytes of each. -/
def enabledRuns : List (Option Byte) → Nat → List (Nat × List Byte)
  | [], _ => []
  | none :: r, i => enabledRuns r (i + 1)
  | some b :: r, i =>
    match enabledRuns r (i + 1) with
    | (j, bs) :: t => if j = i + 1 then (i, b :: bs) :: t else (i, [b]) :: (j, bs) :: t
    | [] => [(i, [b])]

/-- The controllers serve device memory: started, and both stacks clocked and powered (R363). -/
def State.memUp (s : State) : Bool :=
  s.bit Reg.MEM_CTL 0 && s.clkOn 229 && s.clkOn 230 && s.domOn 4 && s.domOn 5

/-- An access of function f outside its range: counted and noted; a read completes with Completer Abort (R359). -/
def State.bar2Outside (s : State) (f off : Nat) (write : Bool) : State :=
  let s1 := (s.partViol f).report {
    sig := 0x707, src := f, level := 0, t := s.devTime, addr := off, master := f, access := b2n write }
  if write then s1 else s1.sendCa f off

/-- A write of function f at offset off: enabled bytes are stored; a poisoned write poisons every sector it covers
(R375). -/
def State.bar2Write (s : State) (f off : Nat) (data : List (Option Byte)) (poison : Bool) : State :=
  let s0 := if poison then s.epCor 3 f off 1 else s
  match s0.devAddr f off data.length with
  | none => s0.bar2Outside f off true
  | some a =>
    s0.each (enabledRuns data 0) (fun t r => if poison then t.devWritePoison (a + r.1) r.2 else t.devWrite (a + r.1) r.2)

/-- A read of n bytes by function f at offset off. -/
def State.bar2Read (s : State) (f off n : Nat) : State :=
  match s.devAddr f off n with
  | none => s.bar2Outside f off false
  | some a => s.emit (.bar2 f off (s.devRead a n).1 (s.devRead a n).2)

/-- BAR2_ACCESS (R359, R362, R363): a write with byte enables, or a read of len bytes. -/
def execBar2Access (f : Fin 16) (off : BitVec 36) (len : Nat) (data : Option (List (Option Byte))) (poison : Bool) (s : State) :
    Res := s.alive fun s =>
  let f := f.val
  let off := off.toNat
  let s1 := s.linkWake
  .next (
    if !s1.fnOk f then (if data.isSome then s1 else s1.sendUr f off)
    else if !s1.memUp then s1.gatedHost f off 15 data.isSome
    else match data with
      | some d => s1.bar2Write f off d poison
      | none => s1.bar2Read f off len)

/-! ## Device reads (R371, R373, R375) -/

/-- A completion that matches no outstanding read (R373). -/
def State.unexp (s : State) (f : Nat) : State := s.epUnc 7 f 0 0 0

/-- READ_COMPLETION (R375, R373): bytes for the host read that channel ch waits for; a failed one ends its descriptor
with HOSTERR. -/
def execReadCompletion (ch : Fin 512) (data : List Byte) (poison fail : Bool) (dt : Nat) (s : State) : Res :=
  s.alive fun s =>
  let s := s.pass dt
  let ch := ch.val
  let x := s.chan ch
  let f := s.chTenant ch
  if x.want ≠ 1 then .next (s.unexp f)
  else if fail then .next (s.chComplete ch 4)
  else
    let s1 := if poison then s.epCor 3 f 0 0 else s
    let s2 := s1.setChan ch { s1.chan ch with
      buf := x.buf ++ data, bufPoison := x.bufPoison || poison, want := 0 }
    .next (s2.showReads.chGo ch)

/-- UNEXPCPL (R373). -/
def execUnexpcpl (f : Fin 16) (dt : Nat) (s : State) : Res := s.alive fun s => .next ((s.pass dt).unexp f.val)

/-- The completion timeout in µs for a Device Control 2 value (Table 12.6). -/
def ctoLimit (v : Nat) : Nat :=
  if v = 1 then 80 else if v = 2 then 8000 else if v = 6 then 160000 else if v = 9 then 700000 else if v = 10 then 2800000
  else if v = 13 then 10000000 else if v = 14 then 50000000 else 40000

/-- CTO (R373): the host read that channel ch waits for has run out of time. -/
def execCto (ch : Fin 512) (dt : Nat) (s : State) : Res := s.alive fun s =>
  let s := s.pass dt
  let ch := ch.val
  let x := s.chan ch
  if x.want = 1 ∧ x.wantT + usTicks (ctoLimit s.host.cto) ≤ s.devTime then
    let s1 := ((s.addSat Reg.HOSTEP_CTOCNT 0 32 1).epIrq 5).epUnc 4 (s.chTenant ch) 1 0 0
    .next (s1.chComplete ch 4)
  else .next s

/-- TRANSLATION_COMPLETION (R371): the translation that channel ch waits for; a failed or denied one ends its descriptor
with HOSTERR. -/
def execTranslationCompletion (ch : Fin 512) (page dst : BitVec 52) (ok : Bool) (dt : Nat) (s : State) : Res :=
  s.alive fun s =>
  let s := s.pass dt
  let ch := ch.val
  let x := s.chan ch
  if x.want ≠ 2 then .next s
  else if ok then
    let s1 := s.atcPut (s.chTenant ch) page.toNat dst.toNat
    .next ((s1.setChan ch { x with want := 0 }).chGo ch)
  else .next (let s1 := s.addSat Reg.HOSTEP_ATS 16 16 1
    if x.desc.isSome then s1.chComplete ch 4 else s1.chLost ch 4)

/-- INVALIDATE_REQUEST (R372): function f stops using the translations of n pages from `first` on. A function under FLR
holds none, and the request completes at once (Table 12.16). -/
def execInvalidateRequest (f : Fin 16) (first : BitVec 52) (n : Nat) (tag : Fin 32) (dt : Nat) (s : State) : Res :=
  s.alive fun s =>
  let s := s.pass dt
  let hit : Nat × Nat × Nat → Bool := fun e =>
    e.1 == f.val && decide (first.toNat ≤ e.2.1) && decide (e.2.1 < first.toNat + n)
  .next (if s.fnFlr f.val then (s.addWrap Reg.HOSTEP_ATS 0 16 1).emit (.invCpl f.val tag.val)
    else s.setHost { s.host with
      atc := s.host.atc.filter (fun e => !hit e), inv := s.host.inv ++ [(f.val, tag.val)] })

/-- INVALIDATE_COMPLETION (R372): the oldest invalidation completes. -/
def execInvalidateCompletion (dt : Nat) (s : State) : Res := s.alive fun s =>
  let s := s.pass dt
  match s.host.inv with
  | (f, tag) :: rest =>
    .next (((s.setHost { s.host with inv := rest }).addWrap Reg.HOSTEP_ATS 0 16 1).emit (.invCpl f tag))
  | [] => .next s

/-! ## Function-level reset and SR-IOV -/

/-- FLR (R377): one already in progress takes it in. -/
def execFlr (f : Fin 16) (dt : Nat) (s : State) : Res := s.alive fun s =>
  let s := s.pass dt
  .next (if s.fnPresent f.val && !s.fnFlr f.val then s.flrStart f.val else s)

/-- FLRDONE (R377): not while the data link is down (Table 12.16). -/
def execFlrdone (f : Fin 16) (dt : Nat) (s : State) : Res := s.alive fun s =>
  let s := s.pass dt
  match s.host.flr.find? (fun e => e.1 == f.val) with
  | some (_, t) => .next (if t + usTicks 10000 ≤ s.devTime ∧ s.bit Reg.HOSTEP_LINK 14 then s.flrEnd f.val else s)
  | none => .next s

/-- NUMVFS_WRITE (R364). -/
def execNumvfsWrite (n : BitVec 16) (s : State) : Res := s.alive fun s =>
  .next (if s.host.vfEn then s else s.setHost { s.host with numVfs := min 15 n.toNat })

/-- VF_ENABLE (R365). -/
def execVfEnable (on : Bool) (s : State) : Res := s.alive fun s =>
  .next (if on then s.setHost { s.host with vfEn := true } else if s.host.vfEn then s.vfsRemove else s)

/-- MSIX_UNMASK (R366): function f's MSI-X Enable and Function Mask are written; pending vectors that no mask holds go out
once. -/
def execMsixUnmask (f : Fin 16) (enable fmask : Bool) (s : State) : Res := s.alive fun s =>
  .next (((s.setBit (Reg.HOSTEP_FNSTAT f.val) 4 enable).setBit (Reg.HOSTEP_FNSTAT f.val) 5 fmask).vecsFlush f.val)

/-! ## The link (R380 to R382, R387) -/

/-- LINKDOWN (R382). -/
def execLinkdown (dt : Nat) (s : State) : Res := s.alive fun s => .next (s.pass dt).linkDown

/-- LINKUP (R387): the data link comes up with what training found; the host then configures the functions: `cfg` gives
bits [6:2] of HOSTEP_FNSTAT of each, `ctl` what PF0's capabilities enable (HostX.ctl), `cto` its completion timeout. -/
def execLinkup (speed : Fin 7) (width : Fin 17) (flit : Bool) (cfg : List (Fin 16 × BitVec 5)) (ctl : BitVec 4)
    (cto : BitVec 4) (dt : Nat) (s : State) : Res := s.alive fun s =>
  let s := s.pass dt
  if s.bit Reg.HOSTEP_LINK 14 || !s.domOn 1 then .next s
  else
    let v := speed.val + width.val * 8 + width.val * 256 + b2n flit * 8192 + 16384
    let s1 := ((s.wr Reg.HOSTEP_LINK (w32 v)).epIrq 1).setHost { s.host with ctl := ctl.toNat, cto := cto.toNat }
    let s2 := s1.each cfg (fun t e => (t.setFld (Reg.HOSTEP_FNSTAT e.1.val) 2 5 e.2.toNat).vecsFlush e.1.val)
    .next (if speed.val < 6 ∨ width.val < 16 then (s2.epIrq 2).epFault 11 0 0 0 0 else s2)

/-- ASPM_L1 (R380): the link has been idle for HOSTEP_L1IDLE µs. -/
def execAspmL1 (dt : Nat) (s : State) : Res := s.alive fun s =>
  let s := s.pass dt
  .next (
    if s.host.ctl % 2 = 1 ∧ s.bit Reg.HOSTEP_CTL 1 ∧ s.bit Reg.HOSTEP_LINK 14 ∧ s.linkIdle ∧
        s.idleT + usTicks (s.fld Reg.HOSTEP_L1IDLE 0 16) ≤ s.devTime then
      s.setFld Reg.HOSTEP_LINK 15 2 (if s.host.ctl / 2 % 2 = 1 then 3 else 2)
    else s)

/-- The sum of the tenants' MINBW in 0.1 GB/s (R306, R381). -/
def State.minbwSum (s : State) : Nat := ((List.range 16).map (fun t => if s.tenantIs t then s.fld (Reg.DLV_TSHARE t) 16 16 else 0)).foldl (· + ·) 0

/-- L0p may act: enabled in configuration space and by L0PAUTO, on a link that is up (R381). -/
def State.l0pOn (s : State) : Bool := s.host.ctl / 4 % 2 == 1 && s.bit Reg.HOSTEP_CTL 0 && s.bit Reg.HOSTEP_LINK 14

/-- The active width becomes w. -/
def State.l0pSet (s : State) (w : Nat) : State :=
  let s1 := s.setFld Reg.HOSTEP_LINK 8 5 w
  (s1.setFld Reg.HOSTEP_LINK 15 2 (b2n (decide (w < s1.fld Reg.HOSTEP_LINK 3 5)))).epIrq 9

/-- n bytes in t µs stay below p percent of the payload of a link of width w: 108.6 GB/s at x16, in proportion (R370,
R381). -/
def payloadBelow (n t p w : Nat) : Bool := decide (n * 1600 < p * 108600 * w * t)
/-- n bytes in t µs exceed p percent of the payload of a link of width w. -/
def payloadAbove (n t p w : Nat) : Bool := decide (p * 108600 * w * t < n * 1600)

/-- L0P_NARROW (R381): the width halves, never below MINW nor below what carries the MINBW sum, when the traffic of the
last HOSTEP_L0PWIN µs, x.tx and x.rx bytes, stayed below NARROW percent of the narrower width's payload. -/
def execL0pNarrow (x : LinkLoad) (s : State) : Res := s.alive fun s =>
  let s := s.pass x.dt
  let w := s.fld Reg.HOSTEP_LINK 8 5 / 2
  let minw := 16 / 2 ^ min 4 (s.fld Reg.HOSTEP_L0PCFG 0 3)
  .next (if s.l0pOn && decide (1 ≤ w) && decide (minw ≤ w) && decide (16 * s.minbwSum ≤ 1086 * w) &&
      payloadBelow (max x.tx x.rx) (max 10 (s.fld Reg.HOSTEP_L0PWIN 0 16)) (s.fld Reg.HOSTEP_L0PCFG 3 7) w then
    (s.l0pSet w).addWrap Reg.HOSTEP_L0PCNT 0 16 1 else s)

/-- L0P_WIDEN (R381): the width doubles when the traffic of some 10 µs, x.tx and x.rx bytes, exceeds WIDEN percent of the
current width's payload in a direction. -/
def execL0pWiden (x : LinkLoad) (s : State) : Res := s.alive fun s =>
  let s := s.pass x.dt
  let w := 2 * s.fld Reg.HOSTEP_LINK 8 5
  .next (if s.l0pOn && decide (w ≤ s.fld Reg.HOSTEP_LINK 3 5) && decide (0 < w) &&
      payloadAbove (max x.tx x.rx) 10 (s.fld Reg.HOSTEP_L0PCFG 10 7) (w / 2) then
    (s.l0pSet w).addWrap Reg.HOSTEP_L0PCNT 16 16 1 else s)

/-! ## Power states (R379, R512) -/

/-- D3HOT_ENTRY (R379): the tenant's channels stop at a descriptor boundary; for PF0 those of every VF too, and firmware
silences capture, once the device is READY (Table 17.8). -/
def execD3hotEntry (f : Fin 16) (dt : Nat) (s : State) : Res := s.alive fun s =>
  let s := s.pass dt
  let f := f.val
  if !s.fnPresent f || s.fld (Reg.HOSTEP_FNSTAT f) 0 2 == 3 then .next s
  else
    let s1 := s.setFld (Reg.HOSTEP_FNSTAT f) 0 2 3
    if f = 0 then
      let s2 := s1.each (List.range 16) (fun t g => t.chansStop g)
      .next (if s2.bootStage < 10 then s2.setHost { s2.host with d3wait := true } else s2.d3Silence)
    else .next (s1.chansStop f)

/-- D0_RETURN (R379): the function's state is as it was; for PF0 firmware restores the capture domains. -/
def execD0Return (f : Fin 16) (dt : Nat) (s : State) : Res := s.alive fun s =>
  let s := s.pass dt
  let f := f.val
  if s.fld (Reg.HOSTEP_FNSTAT f) 0 2 = 3 then
    let s1 := s.setFld (Reg.HOSTEP_FNSTAT f) 0 2 0
    .next (if f = 0 then s1.d3Wake else s1)
  else .next s

/-! ## Errors (R374) -/

/-- HBUF_UE: an uncorrectable error in the endpoint buffers reacts at L4. -/
def execHbufUe (f : Fin 16) (dt : Nat) (s : State) : Res := s.alive fun s => .next ((s.pass dt).epUnc 9 f.val 4 0 0)
/-- HBUF_CE: a corrected one is noted. -/
def execHbufCe (f : Fin 16) (dt : Nat) (s : State) : Res := s.alive fun s => .next ((s.pass dt).epCor 2 f.val 0 0)
/-- LINKCE: a correctable error of the link layer is noted. -/
def execLinkce (dt : Nat) (s : State) : Res := s.alive fun s => .next ((s.pass dt).epCor 1 0 0 0)
/-- LINKPROT: a protocol violation of the link partner is logged as fatal and noted. -/
def execLinkprot (dt : Nat) (s : State) : Res := s.alive fun s => .next ((s.pass dt).epUnc 8 0 0 0 0)

end Sys2Proof.Machine
end

