-- ==== Sys2Proof/Machine/TouchOps.lean ====
section
/-!
DEFINITION. The shared operations of the touchstone (chapter 16): the catalogue of signatures and sources (Table 16.1),
the record store (Table 16.7), joining and windows (R479), levels and reactions (R482 to R487), captures and arrays
(R491, R492), acknowledgement (R486) and recovery (R488).
-/
namespace Sys2Proof.Machine
open Sys2Proof

/-! ## The catalogue (Table 16.1) -/

/-- Signatures of class c. -/
def sigCount (c : Nat) : Nat := nth [9, 8, 6, 7, 6, 9, 4, 8, 7, 12, 6, 12, 5, 7, 9] c 0

/-- One more than the greatest source index of signature i of class c (Tables 16.1, 16.2). -/
def sigSources (c i : Nat) : Nat :=
  if c = 0 then 104
  else if c = 1 then 96
  else if c = 2 ∨ c = 3 then 104
  else if c = 4 then (if i = 4 then 4096 else if i = 5 then 1 else 8448)
  else if c = 5 then 8
  else if c = 6 then 160
  else if c = 7 then (if i = 6 then 60 else if i = 7 then 16 else 64)
  else if c = 8 then (if i = 7 then 1 else if i = 5 ∨ i = 6 then 481 else 512)
  else if c = 9 then 16
  else if c = 10 then (if i = 2 ∨ i = 4 then 1 else 5)
  else if c = 11 then (if i = 5 ∨ i = 9 then 8 else if i = 7 then 96 else 1)
  else if c = 12 then (if i = 4 then 14 else if i = 5 then 15 else i)
  else if c = 13 then (if i ≤ 2 then 8 else if i ≤ 4 then 24 else 32)
  else if i = 1 ∨ i = 9 then 19
  else if i = 2 then 64
  else if i = 3 ∨ i = 7 then 96
  else if i = 5 then 1665
  else if i = 6 then 104
  else 8

/-- Source index src of signature i of class c exists. A SPAREFAIL source is a sprue unit, BUF_CE and BUF_UE name channel
32e, REFLOST, TWCLKLOST and PCIREFLOST have one source each. -/
def srcExists (c i src : Nat) : Bool :=
  decide (src < sigSources c i) &&
  (if (c = 0 ∧ i = 8) ∨ (c = 2 ∧ i = 6) then src % 13 == 12
   else if c = 4 ∧ i = 6 then decide (256 ≤ src % 264)
   else if c = 8 ∧ (i = 5 ∨ i = 6) then src % 32 == 0
   else if c = 10 ∧ i = 6 then src == 4
   else if c = 12 ∧ i ≤ 3 then src + 1 == i
   else if c = 14 ∧ i = 5 then decide (src < 866) || decide (1024 ≤ src)
   else true)

/-- MAPSHIFT of a signature (R479). -/
def mapShift (c i : Nat) : Nat :=
  ((List.range 8).find? (fun k => decide ((sigSources c i - 1) / 2 ^ k < 128))).getD 7

/-- Class c is an array class (R492). -/
def arrayClass (c : Nat) : Bool := [0, 2, 3, 4, 6].contains c

/-- The capture that a signature feeds (R491). -/
def captureOf (c i : Nat) : Option Nat :=
  if c = 9 then some 0 else if c = 8 ∨ (c = 14 ∧ i = 9) then some 1 else if c = 7 then some 2
  else if c = 10 then some 3 else none

/-! ## Class state (R485) -/

/-- TOUCH_IRQ bit i (source 314). -/
def State.touchIrq (s : State) (i : Nat) : State := s.irq Reg.TOUCH_IRQ 314 i
/-- UNACK and LEVEL of class c. -/
def State.clsUnack (s : State) (c : Nat) : Bool := s.bit (Reg.TOUCH_CLSSTAT c) 4
def State.clsLevel (s : State) (c : Nat) : Nat := s.fld (Reg.TOUCH_CLSSTAT c) 0 3
/-- Set ACTIVE of class c, or clear it; TOUCH_STAT shows it. -/
def State.clsActive (s : State) (c : Nat) (b : Bool) : State :=
  (s.setBit (Reg.TOUCH_CLSSTAT c) 3 b).setBit Reg.TOUCH_STAT c b
def State.setUnack (s : State) (c : Nat) (b : Bool) : State :=
  (s.setBit (Reg.TOUCH_CLSSTAT c) 4 b).setBit Reg.TOUCH_STAT (16 + c) b
/-- ESCMAX of class c: 5 to 7 act as 4. -/
def State.escMax (s : State) (c : Nat) : Nat := min 4 (s.fld (Reg.TOUCH_CLSCFG c) 24 3)
/-- QUIET of class c in ticks (R488). -/
def State.quiet (s : State) (c : Nat) : Nat := usTicks (clampN 1000 10000000 (s.fld (Reg.TOUCH_CLSCFG c) 0 24))

/-- Acknowledge class c (R486, R492). -/
def State.clsAck (s : State) (c : Nat) : State :=
  let s1 := (s.setUnack c false).setFld (Reg.TOUCH_CLSSTAT c) 0 3 0
  s1.wr (Reg.TOUCH_ARRAY c) 0#32

/-- The effective level of a new record that is not SECONDARY (R487). -/
def State.effLevel (s : State) (c b : Nat) : Nat :=
  if s.clsUnack c then max b (min (s.escMax c) (s.clsLevel c + 1)) else b

/-! ## Records (Table 16.7) -/

/-- Words of the record numbered n, if the store still holds it. -/
def State.recHeld (s : State) (n : Nat) : Bool := s.rdN (Reg.TOUCH_REC n 3) == n

/-- The window of an open record closes (R479). -/
def State.recClosed (s : State) (o : OpenRec) : State :=
  let s1 := if s.recHeld o.seq then s.setBit (Reg.TOUCH_REC o.seq 1) 18 false else s
  let c := o.sig / 256
  s1.setTouch { s1.touch with
    opens := s1.touch.opens.filter (fun x => x.seq != o.seq)
    lastClose := sset (fun _ => 0) s1.touch.lastClose c (o.t + usTicks 2) }

/-- Every window that is due at t closes, but one that a report made before its close has yet to join. -/
def State.recsClose (s : State) (t : Nat) : State :=
  s.each (s.touch.opens.filter (fun o => decide (o.t + usTicks 2 ≤ t) &&
    !s.reports.any (fun r => r.sig == o.sig && decide (r.t < o.t + usTicks 2)))) (fun u o => u.recClosed o)

/-- Set the bit of a source in the MAP of record n. -/
def State.recMap (s : State) (n : Nat) (r : Report) : State :=
  let b := r.src / 2 ^ mapShift (r.sig / 256) (r.sig % 256)
  s.setBit (Reg.TOUCH_REC n (4 + b / 32)) (b % 32) true

/-- A report joins open record n (R479): COUNT, MAP, TLAST, OVF, CAUSE and FORCED. -/
def State.recJoin (s : State) (n : Nat) (r : Report) : State :=
  let s1 := (s.addSat (Reg.TOUCH_REC n 2) 0 32 1).recMap n r
  let s2 := if s1.fld (Reg.TOUCH_REC n 1) 0 16 = r.src then s1 else s1.setBit (Reg.TOUCH_REC n 1) 16 true
  let s3 := (s2.setBit (Reg.TOUCH_REC n 1) 19 (s2.causes.any (fun x => x.1 == r.sig))).wr64 (Reg.TOUCH_REC n 14) r.t
  let s4 := if r.forced then s3.setBit (Reg.TOUCH_REC n 0) 15 true else s3
  { s4 with expls := s4.expls.map (fun (e : Expl) => if e.seq = n ∧ e.stateType = false then { e with tEnd := r.t } else e) }

/-- The master a report names: where its unit gave none, the function, the channel or the bench core that is its
source. -/
def Report.from (r : Report) : Nat :=
  if r.sig / 256 = 9 ∧ r.master = 0 then r.src else if r.sig / 256 = 8 ∧ r.sig ≠ 0x807 ∧ r.master = 0 then 0x1000 + r.src else if r.sig / 256 = 10 ∧ r.master = 0 then 0x2000 + r.src else r.master

/-- The first error of a capture, or one more after it (R491). -/
def State.capture (s : State) (k : Nat) (r : Report) : State :=
  if s.bit (Reg.TOUCH_FECSTAT k) 0 then (s.setBit (Reg.TOUCH_FECSTAT k) 1 true).addSat (Reg.TOUCH_FECSTAT k) 16 16 1
  else
    let info := r.from + r.access * 2 ^ 16 + r.sig / 256 * 2 ^ 20 + r.sig % 256 * 2 ^ 24
    ((((s.wr64 (Reg.TOUCH_FECADDR_LO k) r.addr).wr (Reg.TOUCH_FECINFO k) (w32 info)).wr64 (Reg.TOUCH_FECT_LO k) r.t)).setBit
      (Reg.TOUCH_FECSTAT k) 0 true

/-- The first source of an array class, or another one after it (R492). -/
def State.arrayNote (s : State) (c src : Nat) : State :=
  if !arrayClass c then s
  else if s.bit (Reg.TOUCH_ARRAY c) 16 then
    (if s.fld (Reg.TOUCH_ARRAY c) 0 16 = src then s else s.setBit (Reg.TOUCH_ARRAY c) 17 true)
  else (s.setFld (Reg.TOUCH_ARRAY c) 0 16 src).setBit (Reg.TOUCH_ARRAY c) 16 true

/-- Source src of class c is out of service already, so that an escalation does no more to it (Table 16.9). -/
def State.outAlready (s : State) (c src : Nat) : Bool :=
  if c = 0 then s.laneSt src == 13
  else if c = 2 ∨ c = 3 then s.bit (Reg.PIPE_STAT src) 6
  else if c = 4 then (s.logicalRow (src / 264) (src % 264)).all (fun r => (s.nbank (src / 264)).lost.contains r)
  else if c = 10 then s.bench.failed.contains src
  else false

/-- A reaction at L2 isolates or inlays a source of this signature (Table 16.3). -/
def isolates (c i : Nat) : Bool :=
  [0, 2, 3, 10].contains c || (c == 4 && i != 4 && i != 5) || (c == 7 && i != 6 && i != 7) || (c == 12 && i == 4) ||
    (c == 13 && i == 1)

/-- The reaction of a new record isolates or inlays its source: by the signature's own action, or by escalation to L2 (R482). -/
def State.recIsol (s : State) (r : Report) (b e : Nat) : Bool :=
  isolates (r.sig / 256) (r.sig % 256) && ((b == 2 && decide (2 ≤ e)) || (b != 2 && !s.outAlready (r.sig / 256) r.src &&
    (e == 2 || (e == 3 && (s.srcOwner r.sig r.src).isNone))))

/-- Write the words of a new record (Table 16.7): b its base level, e its effective level, x what explains it. -/
def State.recWrite (s : State) (n : Nat) (r : Report) (b e : Nat) (x : Option Expl) (lost : Bool) : State :=
  let c := r.sig / 256
  let i := r.sig % 256
  let w0 := c + e * 2 ^ 8 + b * 2 ^ 11 + b2n x.isSome * 2 ^ 14 + b2n r.forced * 2 ^ 15 + r.sig * 2 ^ 16
  let fl := b2n (decide (b < e)) * 2 + 4 + b2n (s.hasCause c i r.src) * 8 + b2n (captureOf c i).isSome * 16 +
    b2n lost * 32 + b2n (s.recIsol r b e) * 64
  let w1 := r.src + fl * 2 ^ 16 + (mapShift c i + (s.srcOwner r.sig r.src).getD 0 * 16) * 2 ^ 24
  let (ec, es) := match x with
    | some y => (y.sig / 256 + 128, y.seq)
    | none => (0, 0)
  let s1 := ((s.wr (Reg.TOUCH_REC n 0) (w32 w0)).wr (Reg.TOUCH_REC n 1) (w32 w1)).wr (Reg.TOUCH_REC n 2) 1#32
  let s2 := (s1.wr (Reg.TOUCH_REC n 3) (w32 n)).wrList (Reg.TOUCH_REC n 4) [0#32, 0#32, 0#32, 0#32]
  let s3 := ((s2.recMap n r).wr64 (Reg.TOUCH_REC n 8) r.t).wr64 (Reg.TOUCH_REC n 10) r.addr
  let s4 := (s3.wr (Reg.TOUCH_REC n 12) (w32 (r.from + r.access * 2 ^ 16 + ec * 2 ^ 24))).wr (Reg.TOUCH_REC n 13) (w32 es)
  s4.wr64 (Reg.TOUCH_REC n 14) r.t

/-! ## Reactions (R482 to R484, Table 16.3) -/

/-- A pipeline inlay, or isolation where its group's sprue is not to be had (R31, R33, R494). -/
def State.pipeInlay (s : State) (n : Nat) (forced : Bool) : State :=
  let k := n / 13
  let m := 13 * k + 12
  if s.bit (Reg.PIPE_STAT n) 6 then s
  else if n ≠ m ∧ s.bit Reg.PIPE_SPRUE k ∧ !s.bit Reg.PIPE_SPRUE (8 + k) then s.inlayStart n m forced
  else (s.pipeIsolate n).pipeWithdraw n

/-- The inlay of lane n, or isolation and mute, by escalation. -/
def State.laneInlay (s : State) (n : Nat) : State :=
  if s.laneSt n = 13 then s
  else match s.laneBond n with
    | none => s.laneIsolate n
    | some c =>
      if s.lanePos n = 15 then s.laneIsolate n
      else match (s.bond c).sw with
        | some w => s.laneFailedInInlay c n w 0
        | none => match s.bondSpare c with
          | some sp => (s.openLoss c false).startSwitch c (s.lanePos n) n sp false
          | none => (s.openLoss c false).laneLose n

/-- DMA channel ch halts and keeps its LASTST. -/
def State.chEscalate (s : State) (ch : Nat) : State :=
  if s.chSt ch = Ch.halted then s else ((s.engineFree ch).setChan ch { addr := (s.chan ch).addr }).chHalt ch

/-- The generic L2 action on a source (Table 16.3). -/
def State.reactL2 (s : State) (c i src : Nat) (forced : Bool) : State :=
  if c = 0 then s.laneInlay src
  else if c = 1 then s.bondMute src
  else if c = 2 ∨ c = 3 then s.pipeInlay src forced
  else if c = 4 then
    (if i = 4 ∨ i = 5 then s
    else match s.logicalRow (src / 264) (src % 264) with
      | some r => s.rowNeeds (src / 264) r
      | none => s)
  else if c = 5 then s.axEnterHold src
  else if c = 6 then
    (if src < 96 then s.tsStop src else s.clCtlWrite (src - 96) (s.rd (Reg.TRG_CLCTL (src - 96)) &&& ~~~ 1#32))
  else if c = 7 then (if i = 6 ∨ i = 7 then s else s.pcQueue src)
  else if c = 8 then (if i = 7 then s else s.chEscalate src)
  else if c = 9 then s.chansHostErr src
  else if c = 10 then s.coreFail src
  else s

/-- What a unit leaves to its record at L2: pipeline inlay (R494), axis HOLD (R65), bench-core inlay and restart (R389,
R391). The other signatures' own actions take place at their detection. -/
def State.reactOwn (s : State) (c i src : Nat) (forced : Bool) : State :=
  if c = 2 ∨ c = 3 then s.pipeInlay src forced
  else if c = 5 then s.axEnterHold src
  else if c = 10 ∧ i = 1 then s.coreFail src
  else if c = 10 ∧ i = 2 then s.benchRestart 1
  else s

/-- The reset source of an L4 reaction (R484). -/
def l4Cause (sig : Nat) : Nat :=
  if sig = 0xC01 ∨ sig = 0xC02 ∨ sig = 0xD07 then 3 else if sig = 0x90A then 2 else 4

/-- An L4 reaction (R431, R484): LEADLOST has its takeover; a class-11 fault that came to L4 by escalation fences a
FOLLOW; any other fences a twin first, then TOUCH_L4SEQ and the reset. -/
def State.reactL4 (s : State) (sig b n : Nat) : State :=
  let paired := s.twinState == 1 || s.twinState == 2 || s.twinState == 3
  if sig = 0xB01 then s
  else if sig / 256 = 11 ∧ b < 4 then (if s.twinRole = 1 then s.twinFence else s)
  else
    let s1 := if paired then s.twinFence else s
    (s1.wr Reg.TOUCH_L4SEQ (w32 (n % 2 ^ 31 + 2 ^ 31))).l4Reset (l4Cause sig)

/-- The generic action of an effective level above the base level (Table 16.3). -/
def State.reactGeneric (s : State) (r : Report) (b e n : Nat) : State :=
  if e = 4 then s.reactL4 r.sig b n
  else if e = 3 then
    match s.srcOwner r.sig r.src with
    | some t => s.tenantReset t 1 []
    | none => s.reactL2 (r.sig / 256) (r.sig % 256) r.src r.forced
  else if e = 2 then s.reactL2 (r.sig / 256) (r.sig % 256) r.src r.forced
  else s

/-- The reaction of a report at effective level e, base level b, in record n (R482): what its signature leaves to the record,
and, where escalation has raised the level or its base level is above L2, the generic action on top. -/
def State.react (s : State) (r : Report) (b e n : Nat) : State :=
  let s1 := if b = 2 ∧ 2 ≤ e then s.reactOwn (r.sig / 256) (r.sig % 256) r.src r.forced else s
  if b < e ∨ 3 ≤ e then s1.reactGeneric r b e n else s1

/-! ## The arrival of a report (R478 to R480, R485, R487, R489) -/

/-- The source of a SECONDARY record whose cause is present waits for the explaining cause to end (R490). -/
def State.secondNote (s : State) (r : Report) (b seq : Nat) : State :=
  if stateTypeSig r.sig && s.hasCause (r.sig / 256) (r.sig % 256) r.src then
    s.setTouch { s.touch with
      second := s.touch.second.filter (fun e => !(e.1 == r.sig && e.2.1 == r.src)) ++ [(r.sig, r.src, b, seq)] }
  else s

/-- A report joins record n with its level. -/
def State.reportJoin (s : State) (n : Nat) (r : Report) : State :=
  let b := s.fld (Reg.TOUCH_REC n 0) 11 3
  let e := s.fld (Reg.TOUCH_REC n 0) 8 3
  let s1 := s.recJoin n r
  let s2 := if s1.bit (Reg.TOUCH_REC n 0) 14 then s1.secondNote r b (s1.rdN (Reg.TOUCH_REC n 13)) else s1
  let s3 := match captureOf (r.sig / 256) (r.sig % 256) with
    | some k => s2.capture k r
    | none => s2
  s3.react r b e n

/-- The record of a new explaining fault is kept in mind (Table 16.5); those that explain no more are forgotten. -/
def State.explNote (s : State) (r : Report) (n : Nat) : State :=
  let live := s.expls.filter (s.explLive s.devTime)
  if r.sig / 256 = 12 ∨ r.sig / 256 = 5 then
    { s with
      expls := live ++ [{
        sig := r.sig, src := r.src, level := r.level, seq := n, tEnd := r.t, stateType := stateTypeSig r.sig }] }
  else { s with expls := live }

/-- TOUCH_RECWR moves on; a record that overwrites one not yet read is counted (R478). -/
def State.recNext (s : State) : State × Nat × Bool :=
  let n := s.rdN Reg.TOUCH_RECWR
  let lost := decide (256 ≤ (n + 2 ^ 32 - s.rdN Reg.TOUCH_RECRD) % 2 ^ 32)
  let s1 := s.wr Reg.TOUCH_RECWR (w32 (n + 1))
  if lost then ((s1.addSat Reg.TOUCH_RECLOST 0 32 1).touchIrq 5, n, true) else (s1, n, false)

/-- A report opens a new record, and its reaction begins (R478, R485, R487, R489). -/
def State.reportNew (s : State) (r : Report) : State :=
  let c := r.sig / 256
  let i := r.sig % 256
  let b := r.level
  let x := s.explainedBy r.t c r.src
  let e := if x.isSome then min b 1 else s.effLevel c b
  let (s1, n, lost) := s.recNext
  let s2 := (s1.recWrite n r b e x lost).setTouch { s1.touch with opens := s1.touch.opens ++ [{ seq := n, sig := r.sig, t := r.t }] }
  let s3 := ((s2.clsActive c true).setFld (Reg.TOUCH_CLSSTAT c) 16 16 n).touchIrq 0
  let s4 := if x.isSome then s3
    else (s3.setUnack c true).setFld (Reg.TOUCH_CLSSTAT c) 0 3 (if s3.clsUnack c then max (s3.clsLevel c) e else e)
  let s5 := if b < e then s4.touchIrq 1 else s4
  let s6 := match captureOf c i with
    | some k => s5.capture k r
    | none => s5
  let s7 := (s6.arrayNote c r.src).explNote r n
  let s8 := match x with
    | some y => s7.secondNote r b y.seq
    | none => s7
  s8.react r b e n

/-- A report reaches the touchstone: windows due by then close, and it joins a record or opens one. -/
def State.reportIn (s : State) (r : Report) : State :=
  let s1 := s.recsClose r.t
  match s1.touch.opens.find? (fun o => o.sig == r.sig && decide (r.t < o.t + usTicks 2)) with
  | some o => if s1.recHeld o.seq then s1.reportJoin o.seq r else s1.reportNew r
  | none => s1.reportNew r

/-- Of the reports detected in one tick, those of class 12 and then of class 5 come first, so that what they explain is
SECONDARY, and of one signature the lowest source (Table 16.9). -/
def reportRank (r : Report) : Nat := if r.sig / 256 = 12 then 0 else if r.sig / 256 = 5 then 1 else 2
def pickReport (l : List Report) : Option Report :=
  match l with
  | [] => none
  | h :: _ =>
    let now := l.filter (fun r => r.t == h.t)
    let best := now.foldl (fun a r => if reportRank r < reportRank a then r else a) h
    some ((now.filter (fun r => r.sig == best.sig)).foldl (fun a r => if r.src < a.src then r else a) best)

/-! ## Recovery (R488) -/

/-- Class c is at rest: no window of its records is open, no cause is present, and QUIET has passed since the later of the
last close and the last end of a cause. -/
def State.clsQuiet (s : State) (c : Nat) : Bool :=
  let t := max (sget (fun _ => 0) s.touch.lastClose c) (sget (fun _ => 0) s.touch.lastCause c)
  s.bit (Reg.TOUCH_CLSSTAT c) 3 && !s.touch.opens.any (fun o => o.sig / 256 == c) &&
    !s.reports.any (fun r => r.sig / 256 == c) && !s.causes.any (fun x => x.1 / 256 == c) && decide (t + s.quiet c ≤ s.devTime)

/-- Class c recovers. -/
def State.clsRecover (s : State) (c : Nat) : State :=
  let s1 := ((s.clsAck c).clsActive c false).addSat (Reg.TOUCH_RECOV c) 0 16 1
  let s2 := s1.touchIrq 4
  if c = 5 then s2.each (List.range 8) (fun t n => t.axLeaveHold n) else s2

end Sys2Proof.Machine
end

