-- ==== Sys2Proof/Machine/Twin.lean ====
section
/-!
DEFINITION. Meanings of twin operation (chapter 14): witness and heartbeat, time rounds, pairing, the exchanges of Table
14.5, handover and fencing, TWIN_CMD, and the 0x08xx commands (Table 13.17).
-/
namespace Sys2Proof.Machine
open Sys2Proof

/-! ## Witness and heartbeat (R420, R424) -/

/-- WITNESS_TOGGLE (R420): every 250 ns, while EN is set and the device is not FENCED. -/
def execWitnessToggle (dt : Nat) (s : State) : Res := s.alive fun s =>
  let s0 := s.pass dt
  .next (if s0.twinEn && !s0.twinFenced && decide (s0.twin.tAlive + 400 ≤ s0.devTime) then
      (s0.setTwin { s0.twin with alive := !s0.twin.alive, tAlive := s0.devTime }).emit (.alive (!s0.twin.alive) s0.devTime)
    else s0)

/-- WITNESS_EDGE (R420). -/
def execWitnessEdge (dt : Nat) (s : State) : Res :=
  let s0 := s.pass dt
  .next (
    if s.boot.mode = 4 then s.wakeUp 0
    else if s.boot.mode = 0 then (s0.setTwin { s0.twin with witT := some s0.devTime, lostWit := false }).wakeUp 0
    else s)

/-- WITNESS_ABSENT (R439). -/
def execWitnessAbsent (dt : Nat) (s : State) : Res := s.alive fun s => .next (s.pass dt).twinAbsence

/-- HEARTBEAT_ABSENT (R439). -/
def execHeartbeatAbsent (dt : Nat) (s : State) : Res := s.alive fun s => .next (s.pass dt).twinAbsence

/-- The 64 bytes of a THEART payload but its check word (Table 14.2). -/
def State.heartData (s : State) : List Byte :=
  leBytes 4 s.twin.seq ++ leBytes 1 s.twinState ++ leBytes 1 s.twinRole ++ leBytes 2 s.twinEpoch ++
  leBytes 1 (b2n s.twinFenced + 2 * b2n s.twinArmed + 4 * b2n (s.bit Reg.TWIN_STAT 10) + 8 * b2n (s.bit Reg.TWIN_STAT 8)) ++
  leBytes 1 ((List.range 8).filter (fun n => s.bit Reg.TWIN_LANES n)).length ++ leBytes 2 0 ++
  (List.range 8).flatMap (fun n => leBytes 6 (if s.axEn n then (s.axPos n).toNat else 0))

/-- In PAIRED the own configuration digest leaves every 100 ms (Table 14.5). -/
def State.cfgDigSend (s : State) : State :=
  if s.paired && decide (s.twin.cfgT + usTicks 100000 ≤ s.devTime) then
    (s.setTwin { s.twin with cfgT := s.devTime }).twinCtrl (leBytes 1 11 ++ leBytes 8 (s.rd64 Reg.TWIN_CFGDIG_LO))
  else s

/-- THEART_SEND (R424): one heartbeat each µs on every ACTIVE TW lane. -/
def execTheartSend (dt : Nat) (s : State) : Res := s.alive fun s =>
  let s0 := s.pass dt
  .next (if s0.twinEn && decide (s0.twin.tSeq + usTicks 1 ≤ s0.devTime) then
      let d := s0.heartData
      let s1 := s0.twinSend 0 0xD0 0 8 d
      (s1.setTwin { s1.twin with seq := (s1.twin.seq + 1) % 2 ^ 32, tSeq := s1.devTime }).cfgDigSend
    else s0)

/-- P_pub of both twins on one axis (R67): four heartbeats in a row beyond POS_AXTWTOL raise TWINPOS. The test runs in PAIRED (Table 14.5). -/
def State.twinPos (s : State) (n : Nat) (p : Posn) : State :=
  if s.axEn n && decide (s.twinState = 2) then
    let x := s.axis n
    if s.rdN (Reg.POS_AXTWTOL n) < (posDiff (s.axPos n) p).natAbs then
      let s1 := s.setAxis n { x with twinRun := x.twinRun + 1 }
      if x.twinRun + 1 = 4 then (s1.setBit (Reg.POS_AXSTAT n) 7 true).fault 5 9 n 0 else s1
    else (s.setAxis n { x with twinRun := 0 }).setBit (Reg.POS_AXSTAT n) 7 false
  else s

/-- How far a heartbeat's SEQ is ahead of the last one; none before the first. -/
def State.hbAhead (s : State) (seq : Nat) : Option Nat := s.twin.hbSeq.map (fun q => (seq + 2 ^ 32 - q) % 2 ^ 32)

/-- A SEQ not seen before (R424): one ahead of the last; after an absence any other one, since the partner may have been reset
(log entry 144). -/
def State.hbNew (s : State) (seq : Nat) : Bool :=
  (s.hbAhead seq).all (fun k => decide (0 < k) && (decide (k < 2 ^ 31) || !s.hbNow))

/-- The first valid copy of a heartbeat (R424). -/
def State.heartIn (s : State) (d : List Byte) : State :=
  let seq := leAt d 0 4
  let fl := leAt d 8 1
  let k := (s.hbAhead seq).getD 1
  let miss := if k < 2 ^ 31 then k - 1 else 0
  let since := if s.hbNow then s.twin.hbSince else some s.devTime
  let s1 := (s.addSat Reg.TWIN_HBMISS 0 32 miss).setTwin { s.twin with
    hbT := some s.devTime, hbSeq := some seq, hbSince := since, lostHb := false, peerState := leAt d 4 1
    peerRole := leAt d 5 1, peerEpoch := leAt d 6 2, peerArmed := fl / 2 % 2 == 1 }
  let s2 := s1.setBit Reg.TWIN_STAT 11 (fl % 2 == 1)
  let s3 := s2.each (List.range 8) (fun t n => t.twinPos n (posn (leAt d (12 + 6 * n) 6)))
  let s4 := s3.epochSeen s3.twin.peerEpoch
  let s5 := if fl % 2 = 1 then s4.peerFenced else s4
  s5.pairAwait.pairTry.pairDone

/-- THEART (R424): a copy arrives on a lane. It counts when the lane is ACTIVE, its HCRC and its check word pass, and its SEQ
is new. -/
def execTheart (lane : Fin 8) (rx : LaneRx) (dt : Nat) (s : State) : Res := s.alive fun s =>
  let n := 104 + lane.val
  let bs := laneBlks rx
  let s0 := (s.pass dt).each bs (fun t b => t.blkCount n b)
  .next (match pktHeader bs with
  | none => s0
  | some (h, rest) =>
    let d := pktData 8 rest
    let p : Packet := { hdr := h, data := d.1, cut := d.2 }
    if s0.twinEn && s0.laneSt n == 6 && pktHdrOk p 0xD0 && pktWhole p 8 && s0.hbNew (leAt p.data 0 4) then s0.heartIn p.data
    else s0)

/-! ## Time rounds (R427, R428) -/

/-- The middle one of a list of numbers, the lower of two. -/
def median (l : List Int) : Option Int :=
  let k := (l.length - 1) / 2
  l.find? (fun x => decide ((l.filter (fun y => decide (y < x))).length ≤ k) &&
    decide (k < (l.filter (fun y => decide (y ≤ x))).length))

/-- The median OFS of the dual-homed cameras that hold TIMEOK (R428). -/
def State.camsOfs (s : State) : Option Int :=
  median (((List.range 96).filter (fun c => (s.bond c).active && s.fld (Reg.LINK_CAPREC c 0) 8 8 == 2 &&
    s.bit (Reg.LINK_CAMSTAT c) 2)).map (fun c => sgn 64 (s.rd64 (Reg.LINK_CAMOFS_LO c))))

/-- The device absorbs an offset, in sixteenths of a tick, by slewing its device time (R427). -/
def State.slewBy (s : State) (ofs : Int) : State := { s with slew := { s.slew with left := ofs } }

/-- A round has been completed on the twin link: OFS and DLY of R166 from its four stamps. -/
def State.twinRound (s : State) (ofs dly : Int) : State :=
  let s1 := (s.wr Reg.TWIN_TOFS (w32 (low 32 ofs))).setFld Reg.TWIN_TDLY 0 24 (low 24 dly)
  let bad := decide (s1.fld Reg.TWIN_TLIM 0 16 < ofs.natAbs)
  let s2 := if bad then ((s1.setBit Reg.TWIN_STAT 8 false).twinIrq 6).fault 11 6 0 1 else s1.setBit Reg.TWIN_STAT 8 true
  let s3 := (if s2.twinRole = 1 then s2.slewBy ofs else s2).setTwin { s2.twin with
    good := if bad then 0 else s2.twin.good + 1 }
  if s3.twinState = 1 ∧ s3.twin.step < 4 then
    if 2 ≤ s3.twin.step ∧ 2 ≤ s3.twin.good then
      if s3.twin.step = 2 then
        let ts := s3.devTime + usTicks 100
        let s4 := s3.setTwin { s3.twin with step := 3 }
        if s4.twinRole = 0 then
          (s4.setTwin { s4.twin with ts := some ts }).twinCtrl (leBytes 1 9 ++ leBytes 8 ts)
        else s4
      else s3
    else if s3.twin.stepT + usTicks 30000 < s3.devTime then s3.pairFail
    else s3
  else s3

/-- A time round is due where this device starts it: 100 µs after the last one (R427). -/
def State.roundDue (s : State) : Bool := s.twin.roundT.all (fun t => decide (t + usTicks 100 ≤ s.devTime))

/-- TWIN_TIME_ROUND (R427, R428): t1 to t4 are the stamps of the LEAD's round, t1 and t4 on the LEAD. The FOLLOW of a parted
pair follows its cameras instead. -/
def execTwinTimeRound (t1 t2 t3 t4 : BitVec 64) (dt : Nat) (s : State) : Res := s.alive fun s =>
  let s0 := s.pass dt
  .next (if !s0.twinEn || (s0.twinRole == 0 || s0.twinState == 3) && !s0.roundDue then s0
    else if s0.twinState = 1 ∨ s0.twinState = 2 then
      let a := sgn 64 (t2 - t1).toNat
      let b := sgn 64 (t4 - t3).toNat
      let seq := s0.twin.roundSeq
      let ofs := 8 * (a - b)
      let dly := 8 * (a + b)
      let s1 := s0.setTwin { s0.twin with roundSeq := (seq + 1) % 2 ^ 32, roundT := some s0.devTime }
      let s2 := if s0.twinRole = 0 then
          (s1.twinSend 1 0x92 0 2 (leBytes 4 seq ++ leBytes 8 t1.toNat)).twinSend 1 0x94 0 3
            (leBytes 4 seq ++ leBytes 8 (low 64 ofs) ++ leBytes 4 (low 32 dly))
        else s1.twinSend 1 0x93 0 3 (leBytes 4 seq ++ leBytes 8 t2.toNat ++ leBytes 8 t3.toNat)
      s2.twinRound ofs dly
    else if s0.twinState = 3 ∧ s0.twinRole = 1 then
      match s0.camsOfs with
      | some o => (s0.setTwin { s0.twin with roundT := some s0.devTime }).slewBy (-o)
      | none => s0
    else s0)

/-! ## Pairing (R432, R433) -/

/-- The checks of step 1 (Table 14.4). -/
def State.pairqOk (s : State) (version : Word) (peerDig ownDig : BitVec 64) (epoch : BitVec 16) (follow fenced : Bool) : Bool :=
  version.toNat == s.bench.fw.version && follow != (s.twinRole == 1) && peerDig == ownDig && !fenced && !s.twinFenced &&
  decide (epoch.toNat < 0xFF00) && decide (s.twinEpoch < 0xFF00) && decide (s.devTime ≤ s.twin.stepT + usTicks 1000)

/-- PAIRQ (R432): the partner's answer to step 1; a device that is ready and has not begun begins. -/
def execPairq (serial : BitVec 64) (version : Word) (peerDig ownDig : BitVec 64) (epoch : BitVec 16) (follow fenced : Bool)
    (dt : Nat) (s : State) : Res := s.alive fun s =>
  let s0 := s.pass dt
  let s1 := if s0.twinState ≠ 1 then s0.pairTry else s0
  .next (if s1.twinState = 1 ∧ s1.twin.step = 1 then
      let s2 := ((s1.wr64 Reg.TWIN_PEERSER_LO serial.toNat).wr Reg.TWIN_PEERVER version).wr64 Reg.TWIN_PEERCFG_LO peerDig.toNat
      let s3 := (s2.wr64 Reg.TWIN_CFGDIG_LO ownDig.toNat).setTwin { s2.twin with peerEpoch := epoch.toNat }
      if s3.pairqOk version peerDig ownDig epoch follow fenced then
        let s4 := s3.setTwin { s3.twin with step := 2, good := 0 }
        if s4.twinRole = 0 && !s4.twin.rejoin then s4.twinLead else s4
      else s3.pairFail
    else s1)

/-- The FOLLOW adopts the LEAD's position on an enabled axis, as an apply with JUMP (Table 14.4 step 4, R70). -/
def State.axAdopt (s : State) (n : Nat) (p h : Posn) : State :=
  if s.axEn n then
    let x := s.axis n
    let s1 := s.setAxis n { x with
      m := p, tM := s.devTime, tChange := s.devTime, far := p, refR := p, ofs := x.ofs + (p - x.m) }
    (((s1.wrPos (Reg.POS_AXPOS_LO n) p).wrPos (Reg.POS_AXHWM_LO n) h).axIrq n 10).axJumped n
  else s

/-- It adopts the accumulator, index and run state of a generator; one that starts to run takes a run of its own. -/
def State.genAdopt (s : State) (g : Nat) (acc : Posn) (accf idx : Word) (run : Bool) : State :=
  let s1 := if run && !s.genRun g then s.genStart g acc 0 false s.devTime else if !run && s.genRun g then s.genEnd g else s
  let s2 := ((s1.wrPos (Reg.TRG_TSACC_LO g) acc).wr (Reg.TRG_TSACCF g) accf).wr (Reg.TRG_TSIDX g) idx
  (s2.genUnsched g).genSched g

/-- It adopts the read pointer of a list. -/
def State.listAdopt (s : State) (l rd : Nat) : State :=
  let s1 := (s.setFld (Reg.TRG_CLRD l) 0 16 (rd % s.clSize l)).setClist l { s.clist l with loaded := false }
  (s1.clStat l).clLoad l

/-- It adopts a placement of a view, unless its own queue holds it. -/
def State.placeAdopt (s : State) (v k : Nat) (page : Word) (pstart : Posn) : State :=
  if (s.view v).places.any (fun p => p.page == page.toNat && p.pstart == pstart) then s
  else
    let s1 := ((s.wr (Reg.ASY_PLQ v k 0) page).wr (Reg.ASY_PLQ v k 1) (w32 pstart.toNat)).setFld (Reg.ASY_PLQ v k 2) 0 16
      (pstart.toNat / 2 ^ 32)
    s1.placeIn v k none

/-- It adopts a READY page: its own copy of the page, loaded by the same command, counts as READY. -/
def State.readyAdopt (s : State) (t page : Nat) : State :=
  match s.pages.find? (fun e => e.2 == t + 1 && pgId (s.pageDesc e.1) == page) with
  | some e => s.pageReadySet e.1 true
  | none => s

/-- What the FOLLOW adopts at Ts (Table 14.4 step 4). -/
def State.snapAdopt (s : State) (m : TwinSnap) : State :=
  let s1 := s.each m.axes (fun t e => t.axAdopt e.1.val e.2.1 e.2.2)
  let s2 := s1.each m.gens (fun t e => t.genAdopt e.1.val e.2.1 e.2.2.1 e.2.2.2.1 e.2.2.2.2)
  let s3 := s2.each m.lists (fun t e => t.listAdopt e.1.val e.2.toNat)
  let s4 := s3.each m.views (fun t e => t.wr (Reg.ASY_VG e.1.val) e.2)
  let s5 := s4.each m.ready (fun t e => t.readyAdopt e.1.val e.2.toNat)
  let s6 := s5.each m.places (fun t e => t.placeAdopt e.1.val e.2.1.val e.2.2.1 e.2.2.2)
  s6.setTwin { s6.twin with seqs := m.seqs.map (fun e => (e.1.val, e.2.toNat)) }

/-- What the LEAD sends of its snapshot: axes, running generators, enabled lists, enabled views, cameras. -/
def State.snapBytes (s : State) : List Byte :=
  ((List.range 8).filter s.axEn).flatMap (fun n => leBytes 1 n ++ leBytes 6 (s.axPos n).toNat ++ leBytes 6 (s.axHwm n).toNat) ++
  ((List.range 96).filter s.genRun).flatMap (fun g => leBytes 1 g ++ leBytes 8 (s.rd64 (Reg.TRG_TSACC_LO g)) ++
    leBytes 4 (s.rdN (Reg.TRG_TSACCF g)) ++ leBytes 4 (s.rdN (Reg.TRG_TSIDX g))) ++
  ((List.range 64).filter s.clEn).flatMap (fun l => leBytes 1 l ++ leBytes 2 (s.clRd l)) ++
  ((List.range 16).filter (fun v => s.bit (Reg.ASY_VCTL v) 0)).flatMap (fun v => leBytes 1 v ++ leBytes 4 (s.rdN (Reg.ASY_VG v))) ++
  ((List.range 96).filter (fun c => (s.cam c).bound)).flatMap (fun c => leBytes 1 c ++ leBytes 4 (s.rdN (Reg.CRU_CAMBLKSEQ c)))

/-- The LEAD's copy of the tracks of every enabled plane leaves over BULK (Table 14.4 step 5). -/
def State.tracksSend (s : State) : State :=
  s.each ((List.range 8).filter s.planeEn) (fun t p =>
    let lo := s.fld (Reg.NOZ_PLNLO p) 0 20
    t.twinBulk (leBytes 4 lo ++ (List.range (s.fld (Reg.NOZ_PLNHI p) 0 20 + 1 - lo)).flatMap (fun k => s.trackBytes (lo + k))))

/-- PAIRING_TS (R432): Ts arrives. -/
def execPairingTs (m : TwinSnap) (dt : Nat) (s : State) : Res := s.alive fun s =>
  let s0 := s.pass dt
  .next (match s0.twin.ts with
    | some ts =>
      if s0.twinState = 1 ∧ s0.twin.step = 3 ∧ ts ≤ s0.devTime then
        let s1 := s0.setTwin { s0.twin with step := 4, stepT := s0.devTime }
        let s2 := if s1.twinRole = 1 then s1.snapAdopt m else (s1.twinCtrl (leBytes 1 10 ++ s1.snapBytes)).tracksSend
        let planes := (List.range 8).any s2.planeEn
        (s2.setTwin { s2.twin with
          tracksT := if s2.twinRole = 0 || !planes then some s2.devTime else none }).pairDone
      else s0
    | none => s0)

/-! ## Exchanges (Table 14.5) -/

/-- A run of track copies of 12 bytes from track t on (R432, R437). -/
def State.tracksPut (s : State) (t : Nat) (bs : List Byte) : State :=
  s.each (List.range (bs.length / 12)) (fun u k =>
    if t + k < 1048576 then
      u.wrList (Reg.NOZ_TRK (t + k) 0) ((List.range 3).map (fun w => w32 (leAt bs (12 * k + 4 * w) 4)))
    else u)

/-- BULK (R432 step 5, R437): track copies for a pairing FOLLOW, or a partner's request for a row. -/
def execBulk (m : BulkMsg) (dt : Nat) (s : State) : Res := s.alive fun s =>
  let s0 := s.pass dt
  .next (match m with
    | .tracks first bytes last =>
      if s0.twinState = 1 ∧ s0.twinRole = 1 ∧ 4 ≤ s0.twin.step then
        let s1 := s0.tracksPut first.toNat bytes
        if last then ((s1.recountAll).setTwin { s1.twin with tracksT := some s1.devTime }).pairDone else s1
      else s0
    | .request b row =>
      if s0.paired then
        s0.twinBulk (((List.range 128).map (trackAt b.val row.val)).flatMap s0.trackBytes)
      else s0)

/-- An item as the unit keeps it. -/
def itemOf (x : TwinNamed) : TwinItem := { kind := x.kind.val, a := x.a.val, page := x.page.toNat, pstart := x.pstart }

/-- The LEAD's g of a view arrives (R435): the FOLLOW uses it, and compares its own. -/
def State.viewGIn (s : State) (v : Nat) (g : Word) : State :=
  let own := sget (fun _ => 0#32) s.twin.ownG v
  let far := fun (lo : Nat) => decide (1 < (sgn 16 (fldOf own lo 16) - sgn 16 (fldOf g lo 16)).natAbs)
  let s1 := if s.twin.ownG.any (fun e => e.1 == v) && (far 0 || far 16) then s.addSat Reg.TWIN_DIFF 16 16 1 else s
  let s2 := s1.wr (Reg.ASY_VG v) g
  match (s2.view v).pgs.getLast? with
  | some e => s2.gPages v e.num (sgn 16 (fldOf g 0 16), sgn 16 (fldOf g 16 16))
  | none => s2

/-- A configuration digest of the partner, beside the own one (Table 14.5). -/
def State.cfgDigIn (s : State) (own peer : Nat) : State :=
  let s1 := (s.wr64 Reg.TWIN_CFGDIG_LO own).wr64 Reg.TWIN_PEERCFG_LO peer
  s1.setTwin { s1.twin with cfgRun := if own = peer then 0 else s1.twin.cfgRun + 1 }

/-- CTRL (R423): a CTRL packet from the partner. -/
def execCtrl (m : CtrlMsg) (dt : Nat) (s : State) : Res := s.alive fun s =>
  let s0 := s.pass dt
  .next (if !s0.twinEn then s0 else match m with
    | .held x => if s0.paired then s0.itemPeer (itemOf x) else s0
    | .activate x act =>
      if s0.paired && s0.twinRole == 1 then
        match s0.twin.items.find? (fun y => y.same (itemOf x)) with
        | some y => s0.itemAct y act
        | none => s0
      else s0
    | .viewG v g => if s0.paired && s0.twinRole == 1 then s0.viewGIn v.val g else s0
    | .snapshotAt ts =>
      if s0.twinState = 1 ∧ s0.twinRole = 1 ∧ s0.twin.step = 3 then s0.setTwin { s0.twin with ts := some ts.toNat } else s0
    | .fence => if s0.twinFenced then s0 else s0.twinFence
    | .handover th =>
      if s0.paired && s0.twinRole == 1 then
        if s0.anyInlay then s0.twinCtrl (leBytes 1 6)
        else
          ((s0.setTwin { s0.twin with th := some th.toNat, hoLead := false }).setBit Reg.TWIN_STAT 10 true).twinCtrl
            (leBytes 1 5)
      else s0
    | .handoverOk => if s0.twin.hoLead then s0.setTwin { s0.twin with hoOk := true } else s0
    | .handoverBusy => if s0.twin.hoLead then s0.handoverDrop St.busy else s0
    | .handoverOff => if s0.twinRole = 1 then s0.handoverDrop St.state else s0
    | .unpair => s0.twinUnpair true
    | .cfgdig own peer => s0.cfgDigIn own.toNat peer.toNat)

/-- A digest whose own tag has left, which is late, or is still to come (R300, R436). -/
def State.digestLate (s : State) (c seq dig : Nat) : State :=
  match takeFirst (fun (e : Nat × Nat × Nat) => e.1 == c && e.2.1 == seq) s.twin.ownDig with
  | (some e, left) => ((s.setTwin { s.twin with ownDig := left }).addSat Reg.TWIN_DIGERR 16 16 1).digestCmp c e.2.2 dig
  | (none, _) => s.setTwin { s.twin with peerDig := s.twin.peerDig ++ [(c, seq, dig)] }

/-- A partner's block digest (R300, R436): it releases the tag that waits for it, is late, or waits for the own tag. -/
def State.digestIn (s : State) (c seq dig : Nat) : State :=
  match (s.cru c).blocks with
  | b :: _ =>
    match b.tag with
    | some tag =>
      if b.seq = seq then (s.digestCmp c b.digest dig).tagOut c b tag b.map b.stats false else s.digestLate c seq dig
    | none => s.digestLate c seq dig
  | [] => s.digestLate c seq dig

/-- DIGEST (R436). -/
def execDigest (c : Fin 96) (seq : Word) (dig : BitVec 64) (dt : Nat) (s : State) : Res := s.alive fun s =>
  let s0 := s.pass dt
  .next (if s0.paired || (s0.twinState == 1 && s0.twin.joined.contains c.val) then
      s0.digestIn c.val seq.toNat dig.toNat else s0)

/-- NOZDELTA (R437): matched with the own change of the same track to the same STATE, now or later. -/
def execNozdelta (t : BitVec 20) (state : Fin 8) (_count : BitVec 24) (dt : Nat) (s : State) : Res := s.alive fun s =>
  let s0 := s.pass dt
  .next (if s0.paired then
      match takeFirst (fun (e : Nat × Nat × Nat) => e.1 == t.toNat && e.2.1 == state.val) s0.twin.nozOwn with
      | (some _, left) => s0.setTwin { s0.twin with nozOwn := left }
      | (none, _) => s0.setTwin { s0.twin with nozPeer := s0.twin.nozPeer ++ [(t.toNat, state.val, s0.devTime)] }
    else s0)

/-- The plane of a track, 0 for a track of none. -/
def State.trackPlane (s : State) (t : Nat) : Nat := ((List.range 8).find? (fun p => s.inPlane p t)).getD 0

/-- NOZDIFF (R437): deltas that no own change has matched within 1 s, but for those of the first second after the copy of
step 5 (R432). -/
def execNozdiff (dt : Nat) (s : State) : Res := s.alive fun s =>
  let s0 := s.pass dt
  let old := fun (e : Nat × Nat × Nat) => decide (e.2.2 + usTicks 1000000 ≤ s0.devTime)
  let x := s0.twin
  let s1 := s0.setTwin { x with nozPeer := x.nozPeer.filter (fun e => !old e), nozOwn := x.nozOwn.filter (fun e => !old e) }
  .next (s1.each (x.nozPeer.filter (fun e => old e &&
      x.tracksT.all (fun t => decide (t + usTicks 1000000 ≤ e.2.2)))) (fun t e =>
    ((t.addSat Reg.TWIN_DIFF 0 16 1).twinIrq 10).fault 11 9 (t.trackPlane e.1) 0))

/-- CFGDIFF (Table 14.5, R434): ten digests apart in a row, or a page or placement that one twin has held alone for more
than 1 s. -/
def execCfgdiff (dt : Nat) (s : State) : Res := s.alive fun s =>
  let s0 := s.pass dt
  let alone := fun (x : TwinItem) => !x.told && x.act.isNone && (match x.own, x.peer with
    | some t, none => decide (t + usTicks 1000000 < s0.devTime)
    | none, some t => decide (t + usTicks 1000000 < s0.devTime)
    | _, _ => false)
  let n := (s0.twin.items.filter alone).length + b2n (decide (10 ≤ s0.twin.cfgRun))
  .next (if s0.paired ∧ 0 < n then
      let s1 := s0.setTwin { s0.twin with
        items := s0.twin.items.map (fun (x : TwinItem) => if alone x then { x with told := true } else x)
        cfgRun := if 10 ≤ s0.twin.cfgRun then 0 else s0.twin.cfgRun }
      (s1.twinIrq 5).each (List.range n) (fun t _ => t.fault 11 8 0 0)
    else s0)

/-- REJOIN (R433): in PARTITIONED the heartbeat has been present for 100 µs. -/
def execRejoin (dt : Nat) (s : State) : Res := s.alive fun s =>
  let s0 := s.pass dt
  .next (if s0.twinEn && s0.twinState == 3 && s0.hbNow &&
      s0.twin.hbSince.any (fun t => decide (t + usTicks 100 ≤ s0.devTime)) then s0.pairBegin s0.twinRole true else s0)

/-! ## Handover (R441) -/

/-- HANDOVER_INSTANT (R441): Th arrives. The FOLLOW leads; the former LEAD releases its pins. -/
def execHandoverInstant (dt : Nat) (s : State) : Res := s.alive fun s =>
  let s0 := s.pass dt
  .next (match s0.twin.th with
    | some th =>
      if s0.paired ∧ th ≤ s0.devTime then
        if s0.twinRole = 1 then
          let s1 := (s0.setTwin { s0.twin with th := none }).setBit Reg.TWIN_STAT 10 false
          ((s1.twinCount 16).twinLead.pinsHiz false).twinSet 2 0
        else if s0.twin.hoOk then s0.pinsHiz true
        else s0
      else s0
    | none => s0)

/-- HANDOVER_END (R441): Th + 2 µs; the former LEAD sends ROLE 1 and is FOLLOW, and the command is answered. -/
def execHandoverEnd (dt : Nat) (s : State) : Res := s.alive fun s =>
  let s0 := s.pass dt
  .next (match s0.twin.th with
    | some th =>
      if s0.paired && s0.twinRole == 0 && s0.twin.hoOk && decide (th + usTicks 2 ≤ s0.devTime) then
        ((s0.handoverDrop St.ok).twinCount 16).twinSet 2 1
      else s0
    | none => s0)

/-- HANDOVER_TIMEOUT (R441): no confirmation within 1 ms; nothing changes. -/
def execHandoverTimeout (dt : Nat) (s : State) : Res := s.alive fun s =>
  let s0 := s.pass dt
  .next (if s0.twin.hoLead && !s0.twin.hoOk && decide (s0.twin.hoT + usTicks 1000 ≤ s0.devTime) then
      (s0.handoverDrop St.timeout).twinCtrl (leBytes 1 8)
    else s0)

/-- FENCE_PEER_TIMEOUT (R442): no fenced heartbeat within 1 ms. -/
def execFencePeerTimeout (dt : Nat) (s : State) : Res := s.alive fun s =>
  let s0 := s.pass dt
  .next (match s0.twin.fenceT with
    | some t =>
      if t + usTicks 1000 ≤ s0.devTime then
        (s0.setTwin { s0.twin with fenceT := none, fenceCmd := none }).answerAt s0.twin.fenceCmd St.timeout []
      else s0
    | none => s0)

/-! ## TWIN_CMD (Table 14.11) -/

/-- What the bits of TWIN_CMD start: FENCE, FENCEPEER while the partner can be told, HANDOVER under its conditions, CLRCNT. -/
def State.fenceCmd (s : State) : State := if s.twinFenced then s else s.twinFence
def State.fencepeerCmd (s : State) : State := if s.hbNow then s.fencePeer none else s
def State.handoverCmd (s : State) : State := if s.handoverOpen && !s.anyInlay then s.handoverStart none else s
def State.twinClr (s : State) : State :=
  (((s.wr Reg.TWIN_HBMISS 0#32).wr Reg.TWIN_DIGCMP 0#32).wr Reg.TWIN_DIGERR 0#32).wr Reg.TWIN_DIFF 0#32

/-- TWIN_CMD.PAIR (R432). -/
def execTwinCmdPair (s : State) : Res := s.alive fun s => s.reach 0 Reg.TWIN_CMD fun s => .next s.pairArm
/-- TWIN_CMD.FENCE (R442). -/
def execTwinCmdFence (s : State) : Res := s.alive fun s => s.reach 0 Reg.TWIN_CMD fun s =>
  .next s.fenceCmd
/-- TWIN_CMD.FENCEPEER (R442). -/
def execTwinCmdFencepeer (s : State) : Res := s.alive fun s => s.reach 0 Reg.TWIN_CMD fun s =>
  .next s.fencepeerCmd
/-- TWIN_CMD.UNFENCE (R443). -/
def execTwinCmdUnfence (s : State) : Res := s.alive fun s => s.reach 0 Reg.TWIN_CMD fun s => .next s.twinUnfence
/-- TWIN_CMD.HANDOVER (R441). -/
def execTwinCmdHandover (s : State) : Res := s.alive fun s => s.reach 0 Reg.TWIN_CMD fun s =>
  .next s.handoverCmd

/-- This device's unpairing tells the partner when the heartbeat is present (R443). -/
def State.unpairHere (s : State) : State :=
  (if s.hbNow then s.twinCtrl (leBytes 1 7) else s).twinUnpair false
/-- TWIN_CMD.UNPAIR (R443). -/
def execTwinCmdUnpair (s : State) : Res := s.alive fun s => s.reach 0 Reg.TWIN_CMD fun s => .next s.unpairHere

/-- TWIN_CMD.CLRCNT (R447): clears 0x020 to 0x02C. -/
def execTwinClrcnt (s : State) : Res := s.alive fun s => s.reach 0 Reg.TWIN_CMD fun s =>
  .next s.twinClr

/-! ## Commands 0x08xx (Table 13.17) -/

/-- TWIN_STATUS (0x0801). -/
def execTwinStatus (f : Fin 16) (slot : Fin 64) (s : State) : Res := s.alive fun s =>
  s.onCmd f slot 0x0801 (fun c s => s.cmdDo c [(c.short 0 [], St.badParam)] (fun s =>
    (s, leBytes 1 s.twinState ++ leBytes 1 s.twinRole ++ leBytes 2 s.twinEpoch ++ leBytes 4 (s.rdN Reg.TWIN_HBMISS) ++
      leBytes 4 (s.fld Reg.TWIN_DIGERR 0 16) ++ leBytes 1 (b2n s.witNow + 2 * b2n s.hbNow + 4 * b2n s.twinFenced))))

/-- TWIN_PAIR (0x0802, R432): PAIRROLE and the request; answered once armed. -/
def execTwinPair (f : Fin 16) (slot : Fin 64) (s : State) : Res := s.alive fun s =>
  s.onCmd f slot 0x0802 (fun c s => s.cmdRun c [
    (c.short 1 [] || decide (1 < c.at 0 1), St.badParam), (!s.pairOpen, St.state), (s.claimed 10, St.busy)]
    (fun s => (s.setFld Reg.TWIN_CTL 2 1 (c.at 0 1)).pairArm))

/-- TWIN_FENCE (0x0803, R442): this device, or the partner. -/
def execTwinFence (f : Fin 16) (slot : Fin 64) (s : State) : Res := s.alive fun s =>
  s.onCmd f slot 0x0803 (fun c s =>
    let w := c.at 0 1
    if s.twin.fenceCmd = some (c.f, c.slot) then s
    else if w = 1 ∧ !c.short 1 [] ∧ s.hbNow ∧ !s.claimed 10 ∧ s.twin.fenceT.isNone ∧ (s.tenantIs c.tenant ∨ c.f ≠ 0) then
      s.fencePeer (some (c.f, c.slot))
    else s.cmdRun c [
      (c.short 1 [] || decide (1 < w), St.badParam), (decide (w = 1) && !s.hbNow, St.state),
      (s.claimed 10 || (decide (w = 1) && s.twin.fenceT.isSome), St.busy)]
      (fun s => if s.twinFenced then s else s.twinFence))

/-- TWIN_UNFENCE (0x0804, R443). -/
def execTwinUnfence (f : Fin 16) (slot : Fin 64) (s : State) : Res := s.alive fun s =>
  s.onCmd f slot 0x0804 (fun c s => s.cmdRun c [
    (c.short 0 [], St.badParam), (!s.unfenceOpen, St.state), (s.claimed 10, St.busy)] (fun s => s.twinUnfence))

/-- TWIN_HANDOVER (0x0805, R441). -/
def execTwinHandover (f : Fin 16) (slot : Fin 64) (s : State) : Res := s.alive fun s =>
  s.onCmd f slot 0x0805 (fun c s =>
    if s.twin.hoCmd = some (c.f, c.slot) then s
    else
      let st := pickStatus [(!s.tenantIs c.tenant && c.f == 0, St.noObject), (c.short 0 [], St.badParam),
        (!s.handoverOpen, St.state), (s.anyInlay || s.claimed 10, St.busy)]
      if st = 0 then s.handoverStart (some (c.f, c.slot)) else s.answer c st [])

/-- TWIN_UNPAIR (0x0806, R443). -/
def execTwinUnpair (f : Fin 16) (slot : Fin 64) (s : State) : Res := s.alive fun s =>
  s.onCmd f slot 0x0806 (fun c s => s.cmdRun c [
    (c.short 0 [], St.badParam), (s.claimed 10, St.busy)] (fun s => s.unpairHere))

end Sys2Proof.Machine
end

