-- ==== Sys2Proof/Machine/ForceOps.lean ====
section
/-!
DEFINITION. Forced faults (R493): what the unit of each source does when its force input is driven once, and the report
that follows exactly as on a real fault.
-/
namespace Sys2Proof.Machine
open Sys2Proof

/-- The state that a meaning answers, or the state before where it stops. -/
def Res.after (r : Res) (s : State) : State :=
  match r with
  | .next t => t
  | _ => s

/-- The base level of signature i of class c from a source, for a detector that gives no other (Tables 2.4 to 16.2). -/
def State.baseLevel (s : State) (c i src : Nat) : Nat :=
  let row := nth [
    [2, 2, 2, 0, 0, 0, 0, 0, 2], [0, 0, 0, 0, 0, 1, 0, 1], [0, 0, 0, 2, 2, 0], [0, 2, 2, 0, 0, 0, 0], [0, 2, 2, 1, 0, 0],
    [2, 2, 2, 1, 2, 2, 0, 0, 0], [0, 3, 0, 0], [0, 1, 2, 2, 4, 0, 0, 0], [2, 1, 1, 0, 0, 2, 4],
    [0, 0, 0, 1, 0, 0, 0, 0, 4, 4, 0, 0], [2, 2, 0, 4, 0, 0], [4, 2, 2, 0, 1, 1, 0, 0, 0, 2, 0, 0], [0, 0, 0, 4, 4],
    [2, 2, 2, 1, 0, 2, 4], [0, 0, 0, 0, 3, 0, 0, 0, 0]] c []
  if c = 0 ∧ i = 2 then s.laneLevel src 2
  else if c = 12 ∧ i = 4 ∧ 6 ≤ src then 2
  else if c = 12 ∧ i = 5 ∧ 2 ≤ src ∧ src < 10 then 1
  else nth row (i - 1) 0

/-- Class 0. -/
def State.forceLane (s : State) (i n : Nat) : State :=
  let st := s.laneSt n
  if i = 1 then s.laneLos n
  else if i = 2 then (if 3 ≤ st ∧ st ≤ 8 then s.laneLol n else if st = 12 then (s.laneIrq n 3).a1Lost n 2 else s)
  else if i = 3 then (if st = 6 ∨ st = 7 then s.laneFault n 3 else s)
  else if i = 4 then (if 1 ≤ st ∧ st ≤ 5 then s.laneRefused n else s)
  else if i = 5 then (if st = 5 then (s.setLane n { s.lane n with badMap := true }) else s)
  else if i = 6 then
    match s.laneBond n with
    | some c => if st = 5 then s.bondAttemptFails c else s
    | none => s
  else if i = 8 then s.spareFailed n
  else if i = 9 then s.laneLose n
  else s

/-- Class 1. -/
def State.forceLink (s : State) (i c : Nat) : State :=
  if i = 1 then s.camHcrc c
  else if i = 2 then s.camPcrc c
  else if i = 3 then s.lineOrphan c
  else if i = 4 then s.lineFmtErr c
  else if i = 5 then ((s.setCam c { s.cam c with hbLost := true }).setBit (Reg.LINK_CAMSTAT c) 5 false).camIrq c 2
  else if i = 6 then (s.setBit (Reg.LINK_CAMSTAT c) 2 false).camIrq c 3
  else if i = 7 then (if s.capsOn c then s.capsFail c else s.camIrq c 1)
  else s.setBit (Reg.LINK_CAMSTAT c) 4 true

/-- Classes 2 and 3. -/
def State.forcePipe (s : State) (c i n : Nat) : State :=
  if c = 2 then
    if i = 1 then (s.addSat (Reg.PIPE_OVF n) 0 32 1).pipeIrq n 3
    else if i = 2 then (s.addSat (Reg.PIPE_GRIDERR n) 0 32 1).pipeIrq n 5
    else if i = 3 then (s.addSat (Reg.PIPE_ECC n) 0 16 1).pipeIrq n 6
    else if i = 4 then s.addSat (Reg.PIPE_ECC n) 16 16 1
    else if i = 6 then s.setBit Reg.PIPE_SPRUE (n / 13) false
    else s
  else if i = 1 then s.addSat (Reg.ASY_ECC n) 0 16 1
  else if i = 2 then s.addSat (Reg.ASY_ECC n) 16 16 1
  else if i = 4 then (s.addSat (Reg.ASY_TBOVF n) 0 32 1).asyIrq n 7
  else if i = 5 then (s.addSat (Reg.ASY_LBLOVF n) 0 32 1).asyIrq n 6
  else if i = 6 then (s.addSat (Reg.ASY_RECDROP n) 0 32 1).asyIrq n 5
  else if i = 7 then s.asyIrq n 3
  else s

/-- Class 4: src is bank * 264 + row, or a segment. -/
def State.forceNoz (s : State) (i src : Nat) : State :=
  let b := Fin.ofNat 32 (src / 264)
  let r := Fin.ofNat 264 (src % 264)
  if i = 1 then (execTrkCe b r 0 s).after s
  else if i = 2 then (execTrkUe b r 0 s).after s
  else if i = 3 then
    match s.logicalRow b.val r.val with
    | some l => if (s.nbank b.val).lost.contains l then s else s.rowIsolate b.val l r.val
    | none => s
  else if i = 4 then (execMapUe (Fin.ofNat 4096 src) 0 s).after s
  else if i = 5 then (s.addSat Reg.NOZ_SUMDROP 0 32 1).nozIrq 2
  else s.setBit (Reg.NOZ_BANK b.val) (8 + (r.val - 256)) false

/-- Class 5. -/
def State.forceAxis (s : State) (i n : Nat) : State :=
  if i = 3 then s.addSat (Reg.POS_AXGLCNT n) 0 16 1
  else if i = 4 then s.addSat (Reg.POS_AXQERR n) 0 16 1
  else if i = 5 ∨ i = 6 then s.addSat (Reg.POS_AXABSERR n) (16 * (i - 5)) 16 1
  else if i = 7 then (s.setBit (Reg.POS_AXSTAT n) 5 true).axIrq n 2
  else if i = 8 then s.axIrq n 11
  else if i = 9 then s.setBit (Reg.POS_AXSTAT n) 7 true
  else s

/-- Class 6: a generator, or 96 + a list. -/
def State.forceTrig (s : State) (i src : Nat) : State :=
  if i ≤ 2 then (if 96 ≤ src then s.cmemError (src - 96) i else s)
  else if src < 96 then
    (if i = 3 then (s.setBit (Reg.TRG_TSSTAT src) 2 true).pubOverspeed (s.owner Part.tsgen src)
    else s.addSat (Reg.TRG_TSDROP src) 0 32 1)
  else s

/-- Class 7: a forced error names no address, so it counts and poisons no sector (log entry 16). -/
def State.forceMem (s : State) (i src : Nat) : State :=
  if i = 1 then (s.addSat (Reg.MEM_PCECC src) 0 16 1).memIrq 0
  else if i = 2 then
    let n := sget (fun _ => 0) s.memx.ueN src + 1
    let s1 := ((s.addSat (Reg.MEM_PCECC src) 16 16 1).memIrq 1).setMemx { s.memx with ueN := sset (fun _ => 0) s.memx.ueN src n }
    if n = 2 then s1.pcCause src else s1
  else if i = 3 then s.pcCause src
  else if i = 4 then (execPcfail (Fin.ofNat 64 src) .training 0 s).after s
  else if i = 6 then ((s.setBit Reg.MEM_STAT 3 true).memIrq 2).fwResalt
  else if i = 7 then s.partViol src
  else if i = 8 then (s.setBit (Reg.MEM_PCSTAT src) 8 false).showSprues
  else s

/-- Class 8: a channel's status ends its descriptor; a buffer error concerns engine src / 32. -/
def State.forceDma (s : State) (i src : Nat) : State :=
  if i ≤ 3 then (if (s.chan src).desc.isSome then s.chComplete src (i + 2) else s)
  else if i = 4 then s.chIrqVec src 3
  else if i = 5 then (execBufCe (Fin.ofNat 16 (src / 32)) 0 s).after s
  else if i = 6 then (execBufUe (Fin.ofNat 16 (src / 32)) 0 s).after s
  else s

/-- Class 9. -/
def State.forceHost (s : State) (i f : Nat) : State :=
  if i = 1 ∨ i = 2 ∨ i = 3 then s.epCor i f 0 0
  else if i = 4 then ((s.addSat Reg.HOSTEP_CTOCNT 0 32 1).epIrq 5).epUnc 4 f 1 0 0
  else if i = 5 then (s.addSat Reg.HOSTEP_CACNT 0 16 1).epUnc 5 f 0 0 0
  else if i = 6 then (s.addSat Reg.HOSTEP_CACNT 16 16 1).epUnc 6 f 0 0 0
  else if i = 7 ∨ i = 8 then s.epUnc i f 0 0 0
  else if i = 9 then s.epUnc 9 f 4 0 0
  else if i = 10 then (s.epIrq 0).epFault 10 f 4 0 0
  else if i = 11 then (s.epIrq 2).epFault 11 f 0 0 0
  else ((s.addSat Reg.HOSTEP_SIZEERR 0 32 1).epIrq 8).epFault 12 f 0 0 0

/-- Class 11. -/
def State.forceTwin (s : State) (i src : Nat) : State :=
  let acts := s.twinEn && s.twinActs
  if i = 1 then (if acts && s.twinRole == 1 then s.takeover else s)
  else if i = 2 then (if acts && s.twinRole == 0 then s.twinSolo else s)
  else if i = 3 then (if acts then s.twinPart.twinIrq 2 else s.twinIrq 2)
  else if i = 4 then s.twinIrq 3
  else if i = 5 then s.twinLaneOut (104 + src)
  else if i = 6 then (s.setBit Reg.TWIN_STAT 8 false).twinIrq 6
  else if i = 7 then (s.addSat Reg.TWIN_DIGERR 0 16 1).twinIrq 4
  else if i = 8 then s.twinIrq 5
  else if i = 9 then (s.addSat Reg.TWIN_DIFF 0 16 1).twinIrq 10
  else if i = 10 then (if s.twinEn then s.twinSuperseded else s)
  else if i = 11 then (if s.twinState = 1 then s.pairFail else s)
  else s

/-- Class 12: a monitor of a good reference, a PLL, a switch. -/
def State.forceClk (s : State) (i src : Nat) : State :=
  if i ≤ 3 then (let was := s.refOk src; (s.refLost src).setBit Reg.CLK_MON src was)
  else if i = 4 then (execPllunlock (Fin.ofNat 14 src) 0 s).after s
  else
    let s1 := ((s.setBit (Reg.CLK_MUXSTAT src) 2 true).addSat Reg.CLK_SWCNT 16 8 1).clkIrq 5
    if 2 ≤ src ∧ src ≤ 9 then s1.each (groupPipes (src - 2)) (fun u n => u.pipeHold n) else s1

/-- Class 13. -/
def State.forcePwr (s : State) (i src : Nat) : State :=
  if i = 1 then (execIvrfault (Fin.ofNat 8 src) 0 s).after s
  else if i = 2 then
    s.temperEnd src St.timeout
  else if i = 3 then s.pwrIrq 7
  else if i = 4 then s.pwrIrq 2
  else if i = 5 then s.pwrIrq 4
  else if i = 6 then (s.pwrIrq 5).setPwr { s.pwr with hot := true, hotT := s.devTime }
  else s

/-- Class 14. -/
def State.forceCfg (s : State) (i src : Nat) : State :=
  if i = 2 then s.addSat (Reg.TRG_CLERR src) 0 16 1
  else if i = 3 then s.genBadCfg src
  else if i = 4 then s.axApplyErr src
  else if i = 5 then s.evrParity (decide (1024 ≤ src)) (src % 1024)
  else if i = 6 then ((s.pipeSet src 2 false).pipeSet src 4 true).pipeIrq src 2
  else if i = 7 then s.cfgRefuse src
  else if i = 8 then (s.setBit (Reg.NOZ_PLSTAT src) 0 true).nozIrq 6
  else s

/-- What the source's unit does on its force input. -/
def State.forceUnit (s : State) (c i src : Nat) : State :=
  if c = 0 then s.forceLane i src
  else if c = 1 then s.forceLink i src
  else if c = 2 ∨ c = 3 then s.forcePipe c i src
  else if c = 4 then s.forceNoz i src
  else if c = 5 then s.forceAxis i src
  else if c = 6 then s.forceTrig i src
  else if c = 7 then s.forceMem i src
  else if c = 8 then s.forceDma i src
  else if c = 9 then s.forceHost i src
  else if c = 10 then s
  else if c = 11 then s.forceTwin i src
  else if c = 12 then s.forceClk i src
  else if c = 13 then s.forcePwr i src
  else s.forceCfg i src

/-- Loss spans that began with a forced fault mark their blocks FORCED (Table 10.2). -/
def State.forceMark (s : State) (was : State) : State :=
  s.each (List.range 97) (fun t c =>
    let n := (was.bond c).losses.length
    let l := (t.bond c).losses
    if n < l.length then t.setBond c { t.bond c with
      losses := l.take n ++ (l.drop n).map (fun (x : Loss) => { x with forced := true }) }
    else t)

/-- The force input of a source is driven once (R493): its unit acts, its detector reports, the report carries FORCED,
and a state-type cause stays for 1 µs. A force that names no source does nothing and counts. -/
def State.force (s : State) (c i src : Nat) : State :=
  if c < 15 ∧ 1 ≤ i ∧ i ≤ sigCount c ∧ srcExists c i src then
    let sig := c * 256 + i
    let had := s.hasCause c i src
    let s1 := s.forceUnit c i src
    let fresh := s1.reports.drop s.reports.length
    let s2 := if fresh.any (fun r => r.sig == sig && r.src == src) then s1
      else (if stateTypeSig sig then s1.causeOn c i src else s1).fault c i src (s.baseLevel c i src)
    let k := s.reports.length
    let s3 := { s2 with
      reports := s2.reports.take k ++ (s2.reports.drop k).map (fun (r : Report) => { r with forced := true }) }
    let s4 := if stateTypeSig sig && !had then
        (s3.causeOn c i src).setTouch { (s3.causeOn c i src).touch with
          forced := (s3.causeOn c i src).touch.forced ++ [(sig, src, s.devTime + usTicks 1)] }
      else s3
    (s4.forceMark s).addSat Reg.TOUCH_FORCECNT 0 16 1
  else s.addSat Reg.TOUCH_FORCECNT 16 16 1

end Sys2Proof.Machine
end

