-- ==== Sys2Proof/Machine/Touch.lean ====
section
/-!
DEFINITION. The meanings of the touchstone's rows (chapter 16) and of the mailbox commands of faults (Table 13.18).
-/
namespace Sys2Proof.Machine
open Sys2Proof

/-- FAULT_REPORT (R478): the next report reaches the touchstone. -/
def execFaultReport (dt : Nat) (s : State) : Res := s.alive fun s =>
  let s := s.pass dt
  match pickReport s.reports with
  | some r => .next (({ s with reports := s.reports.erase r } : State).reportIn r)
  | none => .next s

/-- COALESCE_WINDOW_CLOSE (R479): windows of 2 µs that are over close. -/
def execCoalesceWindowClose (dt : Nat) (s : State) : Res := s.alive fun s =>
  let s := s.pass dt
  .next (s.recsClose s.devTime)

/-- CAUSE_END (R488, R493): causes that a force input drove end after 1 µs. The end of every other cause is its unit's own
happening. -/
def execCauseEnd (dt : Nat) (s : State) : Res := s.alive fun s =>
  let s := s.pass dt
  let due := s.touch.forced.filter (fun e => decide (e.2.2 ≤ s.devTime))
  let s1 := s.setTouch { s.touch with forced := s.touch.forced.filter (fun e => decide (s.devTime < e.2.2)) }
  .next (s1.each due (fun t e => t.causeOff (e.1 / 256) (e.1 % 256) e.2.1))

/-- CLASS_RECOVERY (R488). -/
def execClassRecovery (c : Fin 15) (dt : Nat) (s : State) : Res := s.alive fun s =>
  let s := s.pass dt
  .next (if s.clsQuiet c.val then s.clsRecover c.val else s)

/-- A source of a SECONDARY record whose cause is still present reports again (R490): a lane whose new record is not SECONDARY
then leaves RELOCK as its signature's level says (R138). -/
def State.secondAgain (s : State) (sig src level : Nat) : State :=
  let s1 := s.fault (sig / 256) (sig % 256) src level
  if sig / 256 = 0 && level == 2 && !s.explained 0 src then s1.laneInlay src else s1

/-- SECONDARY_EXPIRY (R490): 100 µs after the explaining cause ended, sources whose cause is still present report
again. -/
def execSecondaryExpiry (dt : Nat) (s : State) : Res := s.alive fun s =>
  let s := s.pass dt
  let live : Nat → Bool := fun n => s.expls.any (fun e => e.seq == n && s.explLive s.devTime e)
  let isOver := s.touch.second.filter (fun e => !live e.2.2.2)
  let s1 := s.setTouch { s.touch with second := s.touch.second.filter (fun e => live e.2.2.2) }
  .next (s1.each isOver (fun t e =>
    if t.hasCause (e.1 / 256) (e.1 % 256) e.2.1 then t.secondAgain e.1 e.2.1 e.2.2.1 else t))

/-- A write of TOUCH_ACK: the classes of its set bits are acknowledged (R486). -/
def State.touchAck (s : State) (v : Word) : State :=
  s.each ((List.range 16).filter (fun c => bitOf v c)) (fun t c => t.clsAck c)

/-- TOUCH_FORCECMD.GO: the source that TOUCH_FORCE names (R493). -/
def State.forceGo (s : State) : State :=
  s.force (s.fld Reg.TOUCH_FORCE 0 4) (s.fld Reg.TOUCH_FORCE 8 8) (s.fld Reg.TOUCH_FORCE 16 16)

/-- TOUCH_ACK (R486). -/
def execTouchAck (v : Word) (s : State) : Res := s.alive fun s => s.reach 0 Reg.TOUCH_ACK fun s => .next (s.touchAck v)

/-- TOUCH_FORCE_GO (R493). -/
def execTouchForceGo (s : State) : Res := s.alive fun s => s.reach 0 Reg.TOUCH_FORCECMD fun s => .next s.forceGo

/-! ## Firmware reads the store (R497, R408) -/

/-- The 64 bytes of record n. -/
def State.recBytes (s : State) (n : Nat) : List Byte := (s.rdList (Reg.TOUCH_REC n 0) 16).flatMap (fun w => leBytes 4 w.toNat)

/-- A record enters function f's queue of the 64 newest, and its FAULT notice goes out where f's mask lets it. -/
def State.recTell (s : State) (f cls : Nat) (b : List Byte) : State :=
  let x := s.mbox f
  let q := x.faults ++ [b]
  let s1 := s.setMbox f { x with faults := q.drop (q.length - 64) }
  if x.mask / 2 ^ cls % 2 = 1 then
    s1.notice f 1 (leBytes 1 cls ++ leBytes 1 (leAt b 1 1 % 8) ++ (b.drop 2).take 4 ++ leBytes 2 0 ++ (b.drop 32).take 8)
  else s1

/-- RECORD_READ (R497): the record of TOUCH_RECRD, or the oldest the store still holds; PF0 hears of every record, the
tenant that owns its source of its own. A channel that went to a poisoned sprue is told to every tenant (R323). -/
def execRecordRead (dt : Nat) (s : State) : Res := s.alive fun s =>
  let s := s.pass dt
  let w := s.rdN Reg.TOUCH_RECWR
  let r0 := s.rdN Reg.TOUCH_RECRD
  let r := if 256 < (w + 2 ^ 32 - r0) % 2 ^ 32 then (w + 2 ^ 32 - 256) % 2 ^ 32 else r0
  if r = w ∨ !s.fwServes then .next s
  else
    let b := s.recBytes r
    let cls := leAt b 0 1 % 16
    let own := leAt b 7 1 / 16
    let s1 := (s.wr Reg.TOUCH_RECRD (w32 (r + 1))).recTell 0 cls b
    let s2 := if own = 0 then s1 else s1.recTell own cls b
    .next (if leAt b 2 2 = 0x704 then s2.noticeAll 5 (leBytes 1 (s2.fld (Reg.MEM_PCSTAT (leAt b 4 2)) 2 6)) else s2)

/-! ## Commands (0x09xx) -/

/-- FAULT_READ (0x0901): up to three of the oldest records queued for the tenant, which go. -/
def execFaultRead (f : Fin 16) (slot : Fin 64) (s : State) : Res := s.alive fun s =>
  s.onCmd f slot 0x0901 (fun c s =>
    s.cmdDo c [(c.short 1 [] || decide (c.at 0 1 = 0) || decide (3 < c.at 0 1), St.badParam)] (fun s =>
      let x := s.mbox c.f
      let l := x.faults.take (c.at 0 1)
      (s.setMbox c.f { x with faults := x.faults.drop (c.at 0 1) }, leBytes 8 l.length ++ l.flatMap id)))

/-- FAULT_ACK (0x0902, R486). -/
def execFaultAck (f : Fin 16) (slot : Fin 64) (s : State) : Res := s.alive fun s =>
  s.onCmd f slot 0x0902 (fun c s =>
    s.cmdRun c [(c.short 1 [] || decide (14 < c.at 0 1), St.badParam)] (fun s => s.clsAck (c.at 0 1)))

/-- FAULT_FORCE (0x0903, R493): class, signature code and source; a force that names no source is refused and counted. -/
def execFaultForce (f : Fin 16) (slot : Fin 64) (s : State) : Res := s.alive fun s =>
  s.onCmd f slot 0x0903 (fun c s =>
    let cls := c.at 0 1
    let i := c.at 2 2 % 256
    let src := c.at 4 2
    let ok := cls < 15 ∧ c.at 2 2 / 256 = cls ∧ 1 ≤ i ∧ i ≤ sigCount cls ∧ srcExists cls i src
    if c.short 6 [(1, 1)] then s.cmdRun c [(true, St.badParam)] id
    else if ok then s.cmdRun c [] (fun s => s.force cls i src)
    else (s.addSat Reg.TOUCH_FORCECNT 16 16 1).cmdRun c [(true, St.badParam)] id)

/-- FAULT_CONFIG (0x0904, R488). -/
def execFaultConfig (f : Fin 16) (slot : Fin 64) (s : State) : Res := s.alive fun s =>
  s.onCmd f slot 0x0904 (fun c s =>
    s.cmdRun c [(c.short 8 [(1, 3)] || decide (14 < c.at 0 1) || decide (c.at 4 4 < 1000) || decide (10000000 < c.at 4 4),
      St.badParam)] (fun s => s.setFld (Reg.TOUCH_CLSCFG (c.at 0 1)) 0 24 (c.at 4 4)))

/-- FAULT_COUNTERS (0x0905): TOUCH_RECOV of classes 0 to 15. -/
def execFaultCounters (f : Fin 16) (slot : Fin 64) (s : State) : Res := s.alive fun s =>
  s.onCmd f slot 0x0905 (fun c s =>
    s.cmdDo c [(c.short 0 [], St.badParam)] (fun s =>
      (s, (List.range 16).flatMap (fun k => leBytes 2 (s.fld (Reg.TOUCH_RECOV k) 0 16)))))

end Sys2Proof.Machine
end

