-- ==== Sys2Proof/Machine/Bus.lean ====
section
/-!
DEFINITION. Register accesses (R4 to R9, R71, R362, R363, R411): locks, writes by field type with the actions that some
registers start, array windows, and reads.
-/
namespace Sys2Proof.Machine
open Sys2Proof

/-! ## Locks (R71, R411) -/

/-- A write of v to a lock register: the key opens the lock, from the host only with the claim granted; any other value
closes it (R71, R411). -/
def State.lockWrite (s : State) (host : Bool) (u : LockId) (v : Word) : State :=
  if v = 0xA5C3#32 then
    if host && (lockClaim u).any (fun b => !s.bit Reg.BENCH_DWCLAIM (16 + b)) then s else s.setBit (lockReg u) 0 true
  else s.setBit (lockReg u) 0 false

/-- UNIT_LOCK_WRITE (R71): by the host, to a unit that can be reached. -/
def execUnitLockWrite (u : LockId) (v : Word) (s : State) : Res := s.alive fun s => s.reach 0 (lockReg u) fun s =>
  .next (s.lockWrite true u v)

/-! ## Registers whose write does more than store (Table 0.3: W1S and WO fields, and registers with a row of their own) -/

/-- Apply an operation where a bit of a written word is set. -/
def State.onBit (s : State) (v : Word) (i : Nat) (op : State → State) : State := if bitOf v i then op s else s

/-- A write by field type to a register of a unit: LOCKED is noted where an RWL field meets a closed lock (R9), and a flag
that hardware sets in the same clock stays set (R8). -/
def State.plainWrite (s : State) (k : Nat) (v : Word) : State :=
  let a := k % 0x10000000
  match Reg.rowAt a with
  | none => s
  | some r =>
    let open' := match busLock a with
      | some u => s.unlocked u
      | none => true
    let s1 := s.wr k (writeVal r open' (s.rd k) (v &&& ~~~ s.flagMask k))
    if r.rwl ≠ 0 ∧ open' = false then s1.fault 14 1 (busUnit a) 0 else s1

/-- A write to a memory that a lock guards (R9, R101). -/
def State.guardWrite (s : State) (a k : Nat) (v : Word) : State :=
  match busLock a with
  | some u => if s.unlocked u then s.wr k v else s.fault 14 1 (busUnit a) 0
  | none => s.wr k v

/-- Position unit. -/
def State.posHook (s : State) (a : Nat) (v : Word) : Option State :=
  let n := (a - 0x401000) / 0x400
  if a = Reg.POS_SNAP then some (s.onBit v 0 State.snapshot)
  else if a < 0x401000 ∨ 8 ≤ n then none
  else if a = Reg.POS_AXEN n then some (s.rwl .pos (fun t => t.axEnWrite n (bitOf v 0)))
  else if a = Reg.POS_AXCTL n then some (s.rwl .pos (fun t => t.axCtlWrite n v))
  else if a = Reg.POS_AXCMD n then some (s.axCmdWrite n v)
  else none

/-- Trigger unit. -/
def State.trgHook (s : State) (a : Nat) (v : Word) : Option State :=
  if a < 0x510000 then none
  else if a < 0x516000 then
    let g := (a - 0x510000) / 0x100
    some (if a = Reg.TRG_TSCMD g then s.tsCmdWrite g v else 
      if s.unlocked .trg then (s.plainWrite a v).tsShadowWritten g (a % 0x100) else s.plainWrite a v)
  else if 0x520000 ≤ a ∧ a < 0x521000 then
    let l := (a - 0x520000) / 0x40
    if a = Reg.TRG_CLCTL l then some (s.rwl .trg (fun t => t.clCtlWrite l v))
    else if a = Reg.TRG_CLBASE l then some (s.rwl .trg (fun t => t.clGeom l false v))
    else if a = Reg.TRG_CLSIZE l then some (s.rwl .trg (fun t => t.clGeom l true v))
    else if a = Reg.TRG_CLWR l then some (s.clWrWrite l v)
    else none
  else if 0x530000 ≤ a ∧ a < 0x530400 then
    let p := (a - 0x530000) / 0x20
    if a = Reg.TRG_PINCFG p then some ((s.plainWrite a v).pinCfgWritten p (s.pinDriven p)) else none
  else if 0x530800 ≤ a ∧ a < 0x530900 ∧ a % 0x10 = 0 then
    some (s.rwl .trg (fun t => t.pairCtlWrite ((a - 0x530800) / 0x10) v))
  else none

/-- Event router. -/
def State.evrHook (s : State) (a : Nat) (v : Word) : Option State :=
  if 0x610000 ≤ a ∧ a < 0x611000 then some (s.rwl .evr (fun t => t.evrWrite false ((a - 0x610000) / 4) v))
  else if 0x620000 ≤ a ∧ a < 0x621000 then some (s.rwl .evr (fun t => t.evrWrite true ((a - 0x620000) / 4) v))
  else none

/-- Lanes. -/
def State.laneHook (s : State) (a : Nat) (v : Word) : Option State :=
  let n := (a - 0x800000) / 0x1000
  if 104 ≤ n then none
  else if a = Reg.LANE_CTL n then some (s.rwl .lane (fun t => t.laneCtlWrite n v))
  else if a = Reg.LANE_CMD n then
    some ((((s.onBit v 0 (fun t => t.laneRestart n)).onBit v 1 (fun t => t.laneApply n)).onBit v 2 (fun t => t.laneClr n)).onBit
      v 3 (fun t => t.lanePrbsRst n))
  else if a = Reg.LANE_BOND n then
    some (s.rwl .lane (fun t =>
      if bitOf v 0 ∧ [1, 2, 4, 8].contains (fldOf v 12 4) = false then t.setBit (laneStat n) 17 true
      else (t.putReg a v).setBit (laneStat n) 17 false))
  else if a = Reg.LANE_TEST n then some (s.rwl .lane (fun t => t.laneTestWrite n v))
  else none

/-- Link engine. -/
def State.linkHook (s : State) (a : Nat) (v : Word) : Option State :=
  let c := (a - 0xA10000) / 0x100
  if a < 0xA10000 ∨ 96 ≤ c then none
  else if a = Reg.LINK_CAMCFG c then some (s.rwl .link (fun t => t.camCfgWrite c v))
  else none

/-- Pipelines and their assay stages, and the crucible. A write of a stage's shadow ASY_CFG starts a copy of the render set it
names (R242). -/
def State.pipeHook (s : State) (a : Nat) (v : Word) : Option State :=
  if a = Reg.CRU_CMD then some (s.onBit v 0 State.cruClr)
  else if a < 0xC00000 ∨ 0xDA0000 ≤ a then none
  else
    let n := (a - 0xC00000) / 0x4000
    let o := a % 0x4000
    if o = 0 then some (s.rwl .pipe (fun t => t.pipeCtl n v))
    else if o = 4 then some (s.rwl .pipe (fun t => t.pipeBind n v))
    else if o = 8 then some ((s.onBit v 1 (fun t => t.pipeClr n)).onBit v 0 (fun t => t.pipeCmdArm n))
    else if o = 0x200C then some (s.onBit v 0 (fun t => t.asyClr n))
    else if (0x100 ≤ o ∧ o < 0x200) ∨ (0x2100 ≤ o ∧ o < 0x2200) then
      some (match Reg.rowAt a with
        | none => s
        | some r => s.rwl .pipe (fun t =>
            let t1 := t.shadowWrite n a (writeVal r true (t.rd a) v)
            if o = 0x2100 then t1.setBit (Reg.ASY_STAT n) 1 true else t1))
    else none

/-- Assay unit: render-set publication, views and placement queues. -/
def State.assayHook (s : State) (a : Nat) (v : Word) : Option State :=
  if a = Reg.ASY_RSCMD then some (s.rsPublish (fldOf v 0 8))
  else if 0xE01000 ≤ a ∧ a < 0xE01400 then
    let w := (a - 0xE01000) / 0x40
    if a = Reg.ASY_VCTL w then
      (let t := s.plainWrite a v
       some (if t.bit a 0 && !s.bit a 0 then t.wr (Reg.ASY_VG w) (t.rd (Reg.ASY_VGINIT w)) else t))
    else if a = Reg.ASY_VQWR w then some (s.viewWr w (fldOf v 0 6))
    else none
  else if 0xE04000 ≤ a ∧ a < 0xE08000 then some (s.guardWrite a a v)
  else none

/-- Nozzle accountant. -/
def State.nozHook (s : State) (a : Nat) (v : Word) : Option State :=
  if a = Reg.NOZ_CTL then (let t := s.plainWrite a v; some (t.setBit Reg.NOZ_STAT 0 (t.bit Reg.NOZ_CTL 0)))
  else if a = Reg.NOZ_CMD then some (s.onBit v 0 State.nozClr)
  else if 0x1001000 ≤ a ∧ a < 0x1001200 ∧ a % 0x40 = 0x28 then some (s.onBit v 0 (fun t => t.nozCommit ((a - 0x1001000) / 0x40)))
  else if 0x1001000 ≤ a ∧ a < 0x1001200 ∧ (a % 0x40 = 0x18 ∨ a % 0x40 = 0x1C) then
    some ((s.plainWrite a v).recount ((a - 0x1001000) / 0x40))
  else if 0x1400000 ≤ a then some (s.guardWrite a a v).recountAll
  else none

/-- DMA: DMA_CHCMD, whose bits act in the order CLRCNT, CLRERR, STOP, START, GO, KICK. -/
def State.dmaHook (s : State) (a : Nat) (v : Word) : Option State :=
  let e := (a - 0x2000000) / 0x10000
  let j := (a % 0x10000 - 0x1000) / 0x400
  let ch := 32 * e + j
  if a % 0x10000 < 0x1000 ∨ 32 ≤ j then none
  else if a = Reg.DMA_CHCMD ch then
    let t := s.chCtl ch (bitOf v 0) (bitOf v 1) (bitOf v 4) (bitOf v 5)
    some ((t.onBit v 2 (fun u => u.chGoCmd ch)).onBit v 3 (fun u => u.chKick ch))
  else none

/-- Memory controller. MEM_SALT is writable only while EN is 0 (R314); a closed lock is noted all the same (R9). -/
def State.memHook (s : State) (a : Nat) (v : Word) : Option State :=
  if a = Reg.MEM_CMD then
    some (((s.onBit v 0 State.memClr).onBit v 1 State.memInlay).onBit v 2 State.memResalt)
  else if 0x2101000 ≤ a ∧ a < 0x2101C00 ∧ s.bit Reg.MEM_CTL 0 then some (s.rwl .mem (fun t => t))
  else if a = Reg.MEM_CTL then
    (let t := s.plainWrite a v
     some (if t.bit a 0 && !s.bit a 0 then t.setMemx { t.memx with monT := t.devTime } else t))
  else none

/-- Twin: commands in the order of their bits; EN starts or stops the twin lanes (R421). -/
def State.twinHook (s : State) (a : Nat) (v : Word) : Option State :=
  if a = Reg.TWIN_CMD then
    let t := ((s.onBit v 0 State.pairArm).onBit v 1 State.fenceCmd).onBit v 2 State.fencepeerCmd
    some ((((t.onBit v 3 State.twinUnfence).onBit v 4 State.handoverCmd).onBit v 5 State.unpairHere).onBit v 6 State.twinClr)
  else if a = Reg.TWIN_CTL then
    let t := s.plainWrite a v
    some (t.each ((List.range 8).map (· + 104)) (fun u n =>
      if t.bit a 0 && !s.bit a 0 && u.laneSt n == 0 && u.clkOn (134 + n) then u.laneDetect n
      else if s.bit a 0 && !t.bit a 0 && u.laneSt n != 0 then u.laneOff n else u))
  else none

/-- Clocks and power. -/
def State.clkHook (s : State) (a : Nat) (v : Word) : Option State :=
  if a = Reg.CLK_CMD then some (s.onBit v 0 State.tbSwitch)
  else if a = Reg.CLK_TBSEL then some (s.plainWrite a v).tbHold
  else if 0x200100 ≤ a ∧ a < 0x200138 then some (s.pllWrite ((a - 0x200100) / 4) v)
  else if 0x200200 ≤ a ∧ a < 0x20023C then some (s.rwl .clk (fun t => t.muxWrite ((a - 0x200200) / 4) v))
  else if 0x200300 ≤ a ∧ a < 0x200320 then some (s.rwl .clk (fun t => t.gateWrite ((a - 0x200300) / 4) v))
  else if 0x200400 ≤ a ∧ a < 0x200420 then some (s.rwl .clk (fun t => t.tpWrite ((a - 0x200400) / 4) v))
  else if 0x300100 ≤ a ∧ a < 0x300160 then some (s.rwl .pwr (fun t => t.pwrCtl ((a - 0x300100) / 4) (bitOf v 0)))
  else none

/-- GLB, touchstone and bench. -/
def State.glbHook (s : State) (a : Nat) (v : Word) : Option State :=
  if a = Reg.GLB_RESET then some (s.glbReset v)
  else if a = Reg.GLB_QUENCH then some (s.glbQuench v)
  else if a = Reg.GLB_BOOTCMD then some (s.onBit v 0 State.loadmem)
  else if 0x100214 ≤ a ∧ a < 0x100280 ∧ a % 0x20 = 0x14 then
    let k := (a - 0x100214) / 0x20
    some (s.onBit v 0 (fun t => (((t.wr64 (Reg.TOUCH_FECADDR_LO k) 0).wr (Reg.TOUCH_FECINFO k) 0#32).wr64
      (Reg.TOUCH_FECT_LO k) 0).wr a 0#32))
  else if a = Reg.TOUCH_ACK then some (s.touchAck v)
  else if a = Reg.TOUCH_FORCECMD then some (s.onBit v 0 State.forceGo)
  else if a = Reg.BENCH_CMD then some (s.onBit v 0 State.restartCmd)
  else if a = Reg.BENCH_DWCLAIM then some (s.rwl .bench (fun t => t.dwclaim v))
  else none

/-- Registers that function f has of its own: mailbox, MSI-X table (a mask that clears sends a pending vector, R366),
rings. A write to a held command slot is counted by the access (R394); response slots ignore writes. -/
def State.fnHook (s : State) (f a : Nat) (v : Word) : Option State :=
  if a = 0x18000 then some (s.cmddb f (fldOf v 0 6))
  else if a = 0x18010 then some (s.rspcidx f v)
  else if 0x19000 ≤ a ∧ a < 0x19800 then
    some ((execMbxDmakick (Fin.ofNat 16 f) (Fin.ofNat 512 ((a - 0x19000) / 4)) s).after s)
  else if 0x10000 ≤ a ∧ a < 0x14000 then
    some (if s.slotBusy f ((a - 0x10000) / 256) then s else s.wr (Reg.fnBase f + a) v)
  else if 0x14000 ≤ a ∧ a < 0x18000 then some s
  else if 0x20000 ≤ a ∧ a < 0x28000 ∧ a % 16 = 12 then
    some ((s.plainWrite (Reg.fnBase f + a) v).vecFlush f ((a - 0x20000) / 16))
  else if 0x30000 ≤ a ∧ a < 0x30400 ∧ a % 0x40 = 0x1C then some (s.rcidxWrite f ((a - 0x30000) / 0x40) v)
  else none

/-- What a word write to offset a of function f's BAR0 starts, where it does more than store. -/
def State.busHook (s : State) (f a : Nat) (v : Word) : Option State :=
  if f ≠ 0 ∨ (0x10000 ≤ a ∧ a < 0x100000) then s.fnHook f a v
  else match busUnit a with
  | 6 => s.posHook a v
  | 7 => s.trgHook a v
  | 8 => s.evrHook a v
  | 9 => s.laneHook a v
  | 10 => s.linkHook a v
  | 11 => s.pipeHook a v
  | 12 => s.assayHook a v
  | 13 => s.nozHook a v
  | 14 => s.dmaHook a v
  | 15 => s.memHook a v
  | 16 => s.twinHook a v
  | 4 => s.clkHook a v
  | 5 => s.clkHook a v
  | _ => s.glbHook a v

/-- The interrupt source whose flag or enable register lies at offset a (Table 12.5). -/
def busSource (a : Nat) : Option Nat :=
  let n := match busUnit a with
    | 6 => (a - 0x401000) / 0x400
    | 9 => 8 + (a - 0x800000) / 0x1000
    | 10 => 112 + (a - 0xA10000) / 0x100
    | 11 => 208 + (a - 0xC00000) / 0x4000
    | 13 => 312
    | 15 => 313
    | 3 => 314
    | 16 => 315
    | 4 => 316
    | 5 => 317
    | 18 => 318
    | 17 => 319
    | _ => 320
  if (srcRegs n).any (fun r => r.1 == a || r.2 == a) then some n else none

/-- The lock whose register lies at offset a. -/
def busLockAt (a : Nat) : Option LockId := (busLock a).filter (fun u => lockReg u == a)

/-- A word write to offset a of function f's BAR0. -/
def State.busWord (s : State) (host : Bool) (f a : Nat) (v : Word) : State :=
  let k := Reg.fnBase f + a
  let s0 := { s with hiLatch := s.hiLatch.filter (fun e => e.1 + 4 != k) }
  match if f = 0 then busLockAt a else none with
  | some u => s0.lockWrite host u v
  | none =>
    if paged a then
      (match s0.winKey a with
       | some (_, true) => s0
       | some (w, false) =>
         if a < 0x600000 then s0.guardWrite a w v else s0.rwl .pipe (fun t => t.shadowWrite ((a - 0xC00000) / 0x4000) w v)
       | none => s0)
    else match s0.busHook f a v with
    | some t => t
    | none =>
      let s1 := s0.plainWrite k v
      match if f = 0 then busSource a else none with
      | some n => s1.irqUpdate n ((srcRegs n).any (fun r => r.1 == a))
      | none => s1

/-! ## Where an access lands -/

/-- The function whose BAR0 copy an access reaches, and its offset there; the maker's mark and reserved space apart. -/
inductive BusTarget where
  | reg (f a : Nat)
  | mark (o : Nat)
  | nothing
  deriving DecidableEq, Repr

/-- An offset of function f's BAR0 (Tables 19.1, 19.3). In a VF's GLB-lite only the marked registers show. -/
def bar0Target (f a : Nat) : BusTarget :=
  if f = 0 then (if a < 0x4000000 then .reg 0 a else .nothing)
  else if a < 0x10000 then (if a < 0x10 then .reg 0 a else .nothing)
  else if (0x10000 ≤ a ∧ a < 0x20400) ∨ (0x28000 ≤ a ∧ a < 0x28008) ∨ (0x30000 ≤ a ∧ a < 0x40000) then .reg f a
  else if 0x100000 ≤ a ∧ a < 0x200000 then .mark (a - 0x100000)
  else .nothing

/-- The target of an access by its path (R361, R384). -/
def busTarget (p : RegPath) (f off : Nat) : BusTarget :=
  match p with
  | .bar0 => bar0Target f off
  | .bar4 => if off / 0x100000 < 16 ∧ off % 0x100000 < 0x10000 then .reg (off / 0x100000) (0x10000 + off % 0x100000) else .nothing
  | .rom => if off < 0x100000 then .mark off else .nothing
  | .bench => bar0Target 0 off

/-! ## Writes -/

/-- Merge enabled bytes into a word. -/
def mergeWord (old : Word) : List (Option Byte) → Word
  | bs => w32 (leNat ((List.range 4).map (fun i => ((nth bs i none).getD (old.extractLsb' (8 * i) 8)))))

/-- The words that a write of bytes at offset a touches: word offset and its four byte lanes. -/
def laneWords (a : Nat) (bs : List (Option Byte)) : List (Nat × List (Option Byte)) :=
  let pad := List.replicate (a % 4) none ++ bs
  (List.range ((pad.length + 3) / 4)).map (fun i => (a / 4 * 4 + 4 * i, (pad.drop (4 * i)).take 4))

/-- An access whose size or shape the endpoint does not accept (R362): counted and noted; a read completes with Completer
Abort. -/
def State.sizeErr (s : State) (f off : Nat) (write : Bool) : State :=
  let s1 := ((s.addSat Reg.HOSTEP_SIZEERR 0 32 1).epIrq 8).epFault 12 f 0 off (b2n write)
  if write then s1 else s1.sendCa f off

/-- The endpoint accepts a write of bytes at offset a: an aligned 32-bit or 64-bit one, or any inside one array window
(R362). -/
def writeFits (a : Nat) (bs : List (Option Byte)) : Bool :=
  match arrayEnd a with
  | some e => decide (a + bs.length ≤ e)
  | none => bs.all Option.isSome && (bs.length == 4 && a % 4 == 0 || bs.length == 8 && a % 8 == 0)

/-- The word that a write of some bytes leaves the others of: the register as it reads, but a track word as it stands,
not as it was latched (R287). -/
def State.mergeBase (s : State) (k : Nat) : Word :=
  if 0x1400000 ≤ k ∧ k < 0x2000000 then s.rd k else s.busVal k

/-- Store an accepted write word by word, low address first (R4). A write to a held mailbox slot is discarded and counted
once (R394). -/
def State.storeWords (s : State) (host : Bool) (f a : Nat) (bs : List (Option Byte)) : State :=
  let held := decide (0x10000 ≤ a ∧ a < 0x14000) &&
    (laneWords a bs).any (fun w => w.1 < 0x14000 && w.2.any Option.isSome && s.slotBusy f ((w.1 - 0x10000) / 256))
  let s1 := (laneWords a bs).foldl (fun t w =>
    if w.2.any Option.isSome then t.busWord host f w.1 (mergeWord (t.mergeBase (Reg.fnBase f + w.1)) w.2) else t) s
  if held then s1.addSat (Reg.MBX_ERR f) 16 16 1 else s1

/-- A bench access to a unit that cannot be reached receives a bus error (R363, R461). Commands run on core 0. -/
def State.busErr (s : State) (off : Nat) : State := (s.emit (.busError off)).fault 10 5 0 0

/-- REGISTER_WRITE, w.dt ticks after the command before it (R7, log entry 119). A poisoned host write is noted and discarded
(R375). -/
def execRegisterWrite (p : RegPath) (f : Fin 16) (off : BitVec 28) (w : BusWrite) (s : State) : Res :=
  s.alive fun s =>
  let f := f.val
  let off := off.toNat
  let host := p != .bench
  let s0 := s.pass w.dt
  let s1 := if host then s0.linkWake else s0
  .next (
    if host && !s1.fnOk f then s1
    else if host && w.poison then s1.epCor 3 f off 1
    else match busTarget p f off with
    | .nothing => s1
    | .mark _ => s1
    | .reg g a =>
      if !s1.unitUp a then (if host then s1.gatedHost f off (busUnit a) true else s1.busErr off)
      else if writeFits a w.data then s1.storeWords host g a w.data
      else if host then s1.sizeErr f off true else s1)

/-! ## Reads (R5, R362) -/

/-- The enabled bytes of a read as a range, if they are contiguous: first and count. -/
def benRange (ben : List Bool) : Option (Nat × Nat) :=
  let lo := (ben.takeWhile (fun b => !b)).length
  let n := ((ben.drop lo).takeWhile (fun b => b)).length
  if ((ben.drop lo).drop n).any (fun b => b) then none else some (if n = 0 then 0 else lo, n)

/-- A register read of n bytes at offset a of function f, inside one 8-byte word: as a 64-bit read where it touches both
registers, else as a 32-bit read (R362). Its value, little-endian. Both halves of a pair come from the same clock; a word
that is itself a low register latches its high one (R5). -/
def State.readRegs (s : State) (f a n : Nat) : Nat × State :=
  let k := Reg.fnBase f + a / 4 * 4
  if a % 8 < 4 ∧ 4 < a % 8 + n then
    let lo := s.busRead32 k
    let up := if isLow (a / 4 * 4) then (s.busVal (k + 4), lo.2) else lo.2.busRead32 (k + 4)
    ((lo.1.toNat + up.1.toNat * 2 ^ 32) / 2 ^ (8 * (a % 4)) % 2 ^ (8 * n), up.2)
  else
    let r := s.busRead32 k
    (r.1.toNat / 2 ^ (8 * (a % 4)) % 2 ^ (8 * n), r.2)

/-- A read of a window, word by word: bytes a to a + n - 1. A track's first word latches its other two (R287). -/
def State.readWindow (s : State) (f a n : Nat) : Nat × State :=
  let r := (laneWords a (List.replicate n none)).foldl (fun (x : List Byte × State) w =>
    let t := if 0x1400000 ≤ w.1 ∧ w.1 < 0x2000000 ∧ (w.1 - 0x1400000) % 12 = 0 then x.2.trackRead ((w.1 - 0x1400000) / 12)
      else x.2
    (x.1 ++ leBytes 4 (t.busVal (Reg.fnBase f + w.1)).toNat, t)) ([], s)
  (leNat ((r.1.drop (a % 4)).take n), r.2)

/-- The endpoint accepts a read of registers: contiguous bytes inside one 8-byte word; of the MSI-X table and pending bits
only whole aligned registers (R362). -/
def readFits (a n : Nat) : Bool :=
  decide (a % 8 + n ≤ 8) && (!(decide (0x20000 ≤ a) && decide (a < 0x2C000)) || (n == 4 && a % 4 == 0) || n == 8)

/-- REGISTER_READ, r.dt ticks after the command before it (R5, log entry 119). -/
def execRegisterRead (p : RegPath) (f : Fin 16) (off : BitVec 28) (r : BusRead) (s : State) : Res :=
  let f := f.val
  let ben := r.ben
  let off := off.toNat
  let host := p != .bench
  let who := if host then f else 16
  let s0 := if s.boot.mode = 0 ∨ s.boot.mode = 2 then s.pass r.dt else s
  let s1 := if host && s.boot.mode == 0 then s0.linkWake else s0
  .next (
    if s1.boot.mode = 3 ∧ host then s1.emit (.value f off (2 ^ (8 * ben.length) - 1))
    else if s1.boot.mode ≠ 0 then s1
    else if host && !s1.fnOk f then s1.sendUr f off
    else match busTarget p f off with
    | .nothing => s1.emit (.value who off 0)
    | .mark o => s1.emit (.value who off (leNat ((s1.host.mark.drop o).take ben.length)))
    | .reg g a =>
      if !s1.unitUp a then (if host then s1.gatedHost f off (busUnit a) false else s1.busErr off)
      else match arrayEnd a with
      | some e =>
        if a + ben.length ≤ e then
          (let r := s1.readWindow g a ben.length
           r.2.emit (.value who off r.1))
        else if host then s1.sizeErr f off false else s1
      | none =>
        match benRange ben with
        | some (lo, n) =>
          if ben.length ≤ 8 && readFits (a + lo) n then
            (let r := s1.readRegs g (a + lo) n
             r.2.emit (.value who (off + lo) r.1))
          else if host then s1.sizeErr f off false else s1
        | none => if host then s1.sizeErr f off false else s1)

end Sys2Proof.Machine
end

