-- ==== Sys2Proof/Machine/CamLink.lean ====
section
/-!
DEFINITION. Meanings of the camera packets that act on more than the link engine: camera heartbeats (R170, with the
lead epoch of R430), register responses and their timeout (R171, R172), and Alaol-1 packets (R180).
-/
namespace Sys2Proof.Machine
open Sys2Proof

/-- CAMERA_HEART (R170): copied; its EPOCH counts for R430. -/
def execCameraHeart (c : Fin 96) (rx : BondRx) (dt : Nat) (s : State) : Res := s.alive fun s =>
  .next ((s.pass dt).camPacket c.val rx 0xA1 (fun _ => 2) (fun p t =>
    if (t.bond c.val).active then (t.heartCopy c.val p).epochSeen (leAt p.data 10 2) else t))

/-! ## Register responses (R171, R172) -/

/-- The outstanding request of camera k with this TAG. -/
def State.regReq (s : State) (k tag : Nat) : Option RegReq := (s.cam k).reqs.find? (fun r => r.tag == tag)

/-- The TAG is free again. -/
def State.regFree (s : State) (k tag : Nat) : State :=
  s.setCam k { s.cam k with reqs := (s.cam k).reqs.filter (fun r => r.tag != tag) }

/-- The mailbox command of a request ends. -/
def State.regEnd (s : State) (r : RegReq) (status : Nat) (payload : List Byte) : State :=
  match s.bench.running.find? (fun c => c.f == r.f && c.slot == r.slot && (c.op == 0x0206 || c.op == 0x0207)) with
  | some c => s.answer c status payload
  | none => s

/-- An answer of camera k: it completes its TAG's request, or comes late (R172). A successful read carries its words
behind the camera's STATUS. -/
def State.regAnswer (s : State) (k tag status : Nat) (words : List Byte) : State :=
  match s.regReq k tag with
  | none => s.addSat (Reg.LINK_CAMREG k) 16 16 1
  | some r =>
    (s.regFree k tag).regEnd r St.ok (leBytes 4 status ++ (if status = 0 ∧ r.write = false then words else []))

/-- The request awaited under this TAG is a read. -/
def State.regIsRead (s : State) (k tag : Nat) : Bool := (s.regReq k tag).any (fun r => !r.write)

/-- Data blocks of a REGRSP: only a successful read carries words. Of a late answer the request is gone: then STATUS 0 is taken to
come with words (log entry 129). -/
def State.rspBlocks (s : State) (k : Nat) (p : Packet) : Nat :=
  let tag := pktBits p 8 8
  if pktBits p 24 8 = 0 ∧ ((s.regReq k tag).isNone ∨ s.regIsRead k tag) then (pktBits p 16 6 + 1) / 2 + 1 else 0

/-- REGRSP (R172), from an Alaol-2 camera. -/
def execRegrsp (c : Fin 96) (rx : BondRx) (dt : Nat) (s : State) : Res := s.alive fun s =>
  let k := c.val
  let s1 := s.pass dt
  .next (s1.camPacket k rx 0xB2 (s1.rspBlocks k) (fun p t =>
    t.regAnswer k (pktBits p 8 8) (pktBits p 24 8) (p.data.take (4 * (pktBits p 16 6 + 1)))))

/-- REG_TIMEOUT (R172): the TAG is free, the request is counted and its command ends with TIMEOUT. -/
def execRegTimeout (c : Fin 96) (tag : Fin 16) (dt : Nat) (s : State) : Res := s.alive fun s =>
  let k := c.val
  let s1 := s.pass dt
  .next (match s1.regReq k tag.val with
  | some r =>
    if s1.linkClk && decide (r.t + usTicks (s1.fld Reg.LINK_REGTMO 0 16) ≤ s1.devTime) then
      ((s1.regFree k tag.val).addSat (Reg.LINK_CAMREG k) 0 16 1).regEnd r St.timeout []
    else s1
  | none => s1)

/-! ## Alaol-1 (R180) -/

/-- The length of an Alaol-1 packet, from the type byte on, holds its fields, and its CRC-32 holds. -/
def a1Whole (bs : List Byte) (n : Nat) : Bool :=
  decide (bs.length = n) && decide (4 ≤ n) && decide (crc32 (bs.take (n - 4)) = leAt bs (n - 4) 4)

/-- An Alaol-1 packet of camera k, from its type byte on. -/
def State.a1In (s : State) (k : Nat) (bs : List Byte) : State :=
  let n := bs.length
  match leAt bs 0 1 with
  | 0x01 =>
    if !a1Whole bs (11 + leAt bs 3 4) then s.camPcrc k
    else if s.camDelivers k then s.segment k (leAt bs 1 2) 0 0 true false false true ((bs.drop 7).take (leAt bs 3 4)) s.devTime
    else s
  | 0x05 =>
    if !a1Whole bs (max n 7) ∨ n % 4 ≠ 3 then s.camPcrc k
    else s.regAnswer k (leAt bs 1 1) (leAt bs 2 1) ((bs.drop 3).take (n - 7))
  | _ => s.camHcrc k

/-- The symbols of consecutive groups, from a running disparity on; none where a group is invalid. -/
def a1Decode (rd : Option Bool) : List (BitVec 10) → Option (List Sym)
  | [] => some []
  | g :: r =>
    match decSym? rd g, a1Decode (some (rdAfter (rd.getD false) g)) r with
    | some x, some l => some (x :: l)
    | _, _ => none

/-- The bytes between K27.7 and K29.7. -/
def a1Body (l : List Sym) : Option (List Byte) :=
  match l with
  | (true, 0xFB) :: r =>
    if r.getLast? = some (true, 0xFD) ∧ r.dropLast.all (fun x => !x.1) then some (r.dropLast.map (fun x => BitVec.ofNat 8 x.2))
    else none
  | _ => none

/-- A1_PACKET (R180): the code groups of a packet, K27.7 to K29.7, arrive on an Alaol-1 lane in A1ACTIVE at the alignment found.
Each group counts for the lane's sync (R150); with an invalid one among them, or a control group, no packet is whole. -/
def execA1Packet (n : Fin 104) (groups : List (BitVec 10)) (dt : Nat) (s : State) : Res := s.alive fun s =>
  let s1 := s.pass dt
  let m := n.val
  let syms := a1Decode (s1.lane m).a1Rx groups
  let s2 := s1.each groups (fun t g => t.a1Group m g (t.lane m).a1Al)
  .next (if s1.laneA1 m && s1.laneSt m == 12 then
      match s2.laneBond m with
      | some c =>
        if s2.linkClk && s2.laneSt m == 12 && decide (c < 96) then
          match syms.bind a1Body with
          | some bytes => s2.a1In c bytes
          | none => s2.camPcrc c
        else s2
      | none => s2
    else s1)

end Sys2Proof.Machine
end

