-- ==== Sys2Proof/Machine/Publish.lean ====
section
/-!
DEFINITION. The publication tick (R53), which every unit that follows an axis takes: the trigger unit (R75, R79), the
crucible's deadlines (R293) and, on a paired twin, the activation positions (R434).
-/
namespace Sys2Proof.Machine
open Sys2Proof

/-- POSITION_PUBLISH (R53). -/
def execPositionPublish (dt : Nat) (s : State) : Res := s.alive fun s =>
  let s0 := s.pass dt
  let s1 := (if s0.trgClk then s0.trgCatchUp else s0).each (List.range 8) (fun t n => t.axPublish n)
  let s2 := if s1.trgClk then s1.trgPublish else s1
  let s3 := if s2.clkOn 235 then s2.each (List.range 96) (fun t c => t.cruLate c) else s2
  .next s3.itemsReach

end Sys2Proof.Machine
end

