-- ==== Sys2Proof/Machine/Dispatch.lean ====
section
/-!
DEFINITION. exec: one arm per command, each a direct call of that command's meaning.
-/
namespace Sys2Proof.Machine
open Sys2Proof

def exec (i : Instr) (s : State) : Host.Outcome State Fault Refusal :=
  match i with
  | .registerWrite p f off w => Sys2Proof.Machine.execRegisterWrite p f off w s
  | .unitLockWrite u v => Sys2Proof.Machine.execUnitLockWrite u v s
  | .encAbEdge n a b dt => Sys2Proof.Machine.execEncAbEdge n a b dt s
  | .minIntervalEnd src dt => Sys2Proof.Machine.execMinIntervalEnd src dt s
  | .glitchCauseEnd n dt => Sys2Proof.Machine.execGlitchCauseEnd n dt s
  | .encZEdge n z dt => Sys2Proof.Machine.execEncZEdge n z dt s
  | .sincosSample n adcSin adcCos dt => Sys2Proof.Machine.execSincosSample n adcSin adcCos dt s
  | .absRequest n dt => Sys2Proof.Machine.execAbsRequest n dt s
  | .absGapEnd n dt => Sys2Proof.Machine.execAbsGapEnd n dt s
  | .absFrameEnd n frame dt => Sys2Proof.Machine.execAbsFrameEnd n frame dt s
  | .positionPublish dt => Sys2Proof.Machine.execPositionPublish dt s
  | .still n dt => Sys2Proof.Machine.execStill n dt s
  | .spdwin n dt => Sys2Proof.Machine.execSpdwin n dt s
  | .axisCtlWrite n v => Sys2Proof.Machine.execAxisCtlWrite n v s
  | .posAxenWrite n v => Sys2Proof.Machine.execPosAxenWrite n v s
  | .resync n => Sys2Proof.Machine.execResync n s
  | .applyidx n => Sys2Proof.Machine.execApplyidx n s
  | .absreq n => Sys2Proof.Machine.execAbsreq n s
  | .clrsusp n => Sys2Proof.Machine.execClrsusp n s
  | .axisClrcnt n => Sys2Proof.Machine.execAxisClrcnt n s
  | .snap => Sys2Proof.Machine.execSnap s
  | .crossing ecc => Sys2Proof.Machine.execCrossing ecc s
  | .minperExpiry g dt => Sys2Proof.Machine.execMinperExpiry g dt s
  | .tscmdStart g => Sys2Proof.Machine.execTscmdStart g s
  | .tscmdStop g => Sys2Proof.Machine.execTscmdStop g s
  | .tscmdArm g => Sys2Proof.Machine.execTscmdArm g s
  | .tscmdClrcnt g => Sys2Proof.Machine.execTscmdClrcnt g s
  | .trgClwrWrite l v => Sys2Proof.Machine.execTrgClwrWrite l v s
  | .trgClbaseWrite l size v => Sys2Proof.Machine.execTrgClbaseWrite l size v s
  | .trgClctlWrite l v => Sys2Proof.Machine.execTrgClctlWrite l v s
  | .pulseEnd p dt => Sys2Proof.Machine.execPulseEnd p dt s
  | .deadTimeEnd k dt => Sys2Proof.Machine.execDeadTimeEnd k dt s
  | .trgPairctlWrite k v => Sys2Proof.Machine.execTrgPairctlWrite k v s
  | .trigInEdge n level dt => Sys2Proof.Machine.execTrigInEdge n level dt s
  | .cmemWindowWrite off v => Sys2Proof.Machine.execCmemWindowWrite off v s
  | .eventDeliver parity dt => Sys2Proof.Machine.execEventDeliver parity dt s
  | .evrEntryWrite sub k v => Sys2Proof.Machine.execEvrEntryWrite sub k v s
  | .laneCtlWrite n v => Sys2Proof.Machine.execLaneCtlWrite n v s
  | .laneRestart n => Sys2Proof.Machine.execLaneRestart n s
  | .laneApply n => Sys2Proof.Machine.execLaneApply n s
  | .laneClrcnt n => Sys2Proof.Machine.execLaneClrcnt n s
  | .prbsrst n => Sys2Proof.Machine.execPrbsrst n s
  | .receiverDetect n found clear dt => Sys2Proof.Machine.execReceiverDetect n found clear dt s
  | .nodetect n dt => Sys2Proof.Machine.execNodetect n dt s
  | .train n blk dt => Sys2Proof.Machine.execTrain n blk dt s
  | .laneStateTimeout n dt => Sys2Proof.Machine.execLaneStateTimeout n dt s
  | .comma n hdr typ mid pat gap run dt => Sys2Proof.Machine.execComma n hdr typ mid pat gap run dt s
  | .eqreq n blk dt => Sys2Proof.Machine.execEqreq n blk dt s
  | .eqrsp n blk eyeh eyev dt => Sys2Proof.Machine.execEqrsp n blk eyeh eyev dt s
  | .eqRequestTimeout n dt => Sys2Proof.Machine.execEqRequestTimeout n dt s
  | .los n dt => Sys2Proof.Machine.execLos n dt s
  | .lol n kind dt => Sys2Proof.Machine.execLol n kind dt s
  | .berInterval n errs dt => Sys2Proof.Machine.execBerInterval n errs dt s
  | .switchConfirm n blk dt => Sys2Proof.Machine.execSwitchConfirm n blk dt s
  | .switchTimeout c dt => Sys2Proof.Machine.execSwitchTimeout c dt s
  | .a1CodeGroup n group al dt => Sys2Proof.Machine.execA1CodeGroup n group al dt s
  | .a1syncTimeout n dt => Sys2Proof.Machine.execA1syncTimeout n dt s
  | .a1Packet n groups dt => Sys2Proof.Machine.execA1Packet n groups dt s
  | .sprueSelftest pipe k ok dt => Sys2Proof.Machine.execSprueSelftest pipe k ok dt s
  | .tsync c dt => Sys2Proof.Machine.execTsync c dt s
  | .tsecho c rx dt => Sys2Proof.Machine.execTsecho c rx dt s
  | .timeRoundTimeout c dt => Sys2Proof.Machine.execTimeRoundTimeout c dt s
  | .heart dt => Sys2Proof.Machine.execHeart dt s
  | .cameraHeart c rx dt => Sys2Proof.Machine.execCameraHeart c rx dt s
  | .hblost c dt => Sys2Proof.Machine.execHblost c dt s
  | .lineSegment c rx dt => Sys2Proof.Machine.execLineSegment c rx dt s
  | .frameSegment c rx dt => Sys2Proof.Machine.execFrameSegment c rx dt s
  | .lineRecordTimeout c dt => Sys2Proof.Machine.execLineRecordTimeout c dt s
  | .regrsp c rx dt => Sys2Proof.Machine.execRegrsp c rx dt s
  | .regTimeout c tag dt => Sys2Proof.Machine.execRegTimeout c tag dt s
  | .capr c rx dt => Sys2Proof.Machine.execCapr c rx dt s
  | .fmt c rx dt => Sys2Proof.Machine.execFmt c rx dt s
  | .capend c rx dt => Sys2Proof.Machine.execCapend c rx dt s
  | .linkCamcfgWrite c v => Sys2Proof.Machine.execLinkCamcfgWrite c v s
  | .slotFree n dt => Sys2Proof.Machine.execSlotFree n dt s
  | .drawPlateEmit n dt => Sys2Proof.Machine.execDrawPlateEmit n dt s
  | .stage10Accept n dt => Sys2Proof.Machine.execStage10Accept n dt s
  | .shadowCopyDone n dt => Sys2Proof.Machine.execShadowCopyDone n dt s
  | .pipeCmdArm n => Sys2Proof.Machine.execPipeCmdArm n s
  | .pipeClrcnt n => Sys2Proof.Machine.execPipeClrcnt n s
  | .pipeCtlWrite n v => Sys2Proof.Machine.execPipeCtlWrite n v s
  | .pipeBindWrite n v => Sys2Proof.Machine.execPipeBindWrite n v s
  | .cacheUe n dt => Sys2Proof.Machine.execCacheUe n dt s
  | .cacheCe n dt => Sys2Proof.Machine.execCacheCe n dt s
  | .dpath n assay dt => Sys2Proof.Machine.execDpath n assay dt s
  | .pipeInlayDone k dt => Sys2Proof.Machine.execPipeInlayDone k dt s
  | .assayLine n dt => Sys2Proof.Machine.execAssayLine n dt s
  | .tierBDone n dt => Sys2Proof.Machine.execTierBDone n dt s
  | .markDone n k dt => Sys2Proof.Machine.execMarkDone n k dt s
  | .fragmentMerge c dt => Sys2Proof.Machine.execFragmentMerge c dt s
  | .renderSetCopyDone k dt => Sys2Proof.Machine.execRenderSetCopyDone k dt s
  | .asyRscmdPublish v => Sys2Proof.Machine.execAsyRscmdPublish v s
  | .asyClrcnt n => Sys2Proof.Machine.execAsyClrcnt n s
  | .tblUe n rs dt => Sys2Proof.Machine.execTblUe n rs dt s
  | .tblCe n rs dt => Sys2Proof.Machine.execTblCe n rs dt s
  | .nozUpdate dt => Sys2Proof.Machine.execNozUpdate dt s
  | .commit p => Sys2Proof.Machine.execCommit p s
  | .mapSwap p dt => Sys2Proof.Machine.execMapSwap p dt s
  | .trkUe b r dt => Sys2Proof.Machine.execTrkUe b r dt s
  | .trkCe b r dt => Sys2Proof.Machine.execTrkCe b r dt s
  | .rowCopyDone b dt => Sys2Proof.Machine.execRowCopyDone b dt s
  | .rowInlayDone b peer dt => Sys2Proof.Machine.execRowInlayDone b peer dt s
  | .mapUe g dt => Sys2Proof.Machine.execMapUe g dt s
  | .nozClrcnt => Sys2Proof.Machine.execNozClrcnt s
  | .trackWindowRead t => Sys2Proof.Machine.execTrackWindowRead t s
  | .endItem n dt => Sys2Proof.Machine.execEndItem n dt s
  | .lateEndItem n dt => Sys2Proof.Machine.execLateEndItem n dt s
  | .crucibleIntake dt => Sys2Proof.Machine.execCrucibleIntake dt s
  | .blockTag c dt => Sys2Proof.Machine.execBlockTag c dt s
  | .twinWaitExpiry c dt => Sys2Proof.Machine.execTwinWaitExpiry c dt s
  | .ringWrite f r dt => Sys2Proof.Machine.execRingWrite f r dt s
  | .modtime f r dt => Sys2Proof.Machine.execModtime f r dt s
  | .dlvRcidxWrite f r v => Sys2Proof.Machine.execDlvRcidxWrite f r v s
  | .cruClrcnt => Sys2Proof.Machine.execCruClrcnt s
  | .transferStart t host fail dt => Sys2Proof.Machine.execTransferStart t host fail dt s
  | .transferTimeout t dt => Sys2Proof.Machine.execTransferTimeout t dt s
  | .monitorWindow bytes page dt => Sys2Proof.Machine.execMonitorWindow bytes page dt s
  | .resalt => Sys2Proof.Machine.execResalt s
  | .resaltdone dt => Sys2Proof.Machine.execResaltdone dt s
  | .inlay fw => Sys2Proof.Machine.execInlay fw s
  | .inlaydone dt => Sys2Proof.Machine.execInlaydone dt s
  | .pcfail p why dt => Sys2Proof.Machine.execPcfail p why dt s
  | .memUe a dt => Sys2Proof.Machine.execMemUe a dt s
  | .memCe a dt => Sys2Proof.Machine.execMemCe a dt s
  | .scrub sector found dt => Sys2Proof.Machine.execScrub sector found dt s
  | .memClrcnt => Sys2Proof.Machine.execMemClrcnt s
  | .chcmdStart ch => Sys2Proof.Machine.execChcmdStart ch s
  | .chcmdStop ch => Sys2Proof.Machine.execChcmdStop ch s
  | .go ch => Sys2Proof.Machine.execGo ch s
  | .kick ch => Sys2Proof.Machine.execKick ch s
  | .clrerr ch => Sys2Proof.Machine.execClrerr ch s
  | .chcmdClrcnt ch => Sys2Proof.Machine.execChcmdClrcnt ch s
  | .mbxDmakick f ch => Sys2Proof.Machine.execMbxDmakick f ch s
  | .enginePick e dt => Sys2Proof.Machine.execEnginePick e dt s
  | .descriptorFetch ch host dt => Sys2Proof.Machine.execDescriptorFetch ch host dt s
  | .descriptorComplete e dt => Sys2Proof.Machine.execDescriptorComplete e dt s
  | .fenceReadReturn e dt => Sys2Proof.Machine.execFenceReadReturn e dt s
  | .stall ch dt => Sys2Proof.Machine.execStall ch dt s
  | .bufUe e dt => Sys2Proof.Machine.execBufUe e dt s
  | .bufCe e dt => Sys2Proof.Machine.execBufCe e dt s
  | .fabUe dt => Sys2Proof.Machine.execFabUe dt s
  | .bar2Access f off len data poison => Sys2Proof.Machine.execBar2Access f off len data poison s
  | .readCompletion ch data poison fail dt => Sys2Proof.Machine.execReadCompletion ch data poison fail dt s
  | .unexpcpl f dt => Sys2Proof.Machine.execUnexpcpl f dt s
  | .cto ch dt => Sys2Proof.Machine.execCto ch dt s
  | .flr f dt => Sys2Proof.Machine.execFlr f dt s
  | .flrdone f dt => Sys2Proof.Machine.execFlrdone f dt s
  | .invalidateRequest f first n tag dt => Sys2Proof.Machine.execInvalidateRequest f first n tag dt s
  | .invalidateCompletion dt => Sys2Proof.Machine.execInvalidateCompletion dt s
  | .translationCompletion ch page dst ok dt => Sys2Proof.Machine.execTranslationCompletion ch page dst ok dt s
  | .linkdown dt => Sys2Proof.Machine.execLinkdown dt s
  | .linkup speed width flit cfg ctl cto dt => Sys2Proof.Machine.execLinkup speed width flit cfg ctl cto dt s
  | .d3hotEntry f dt => Sys2Proof.Machine.execD3hotEntry f dt s
  | .d0Return f dt => Sys2Proof.Machine.execD0Return f dt s
  | .numvfsWrite n => Sys2Proof.Machine.execNumvfsWrite n s
  | .vfEnable on => Sys2Proof.Machine.execVfEnable on s
  | .msixUnmask f enable fmask => Sys2Proof.Machine.execMsixUnmask f enable fmask s
  | .aspmL1 dt => Sys2Proof.Machine.execAspmL1 dt s
  | .l0pNarrow x => Sys2Proof.Machine.execL0pNarrow x s
  | .l0pWiden x => Sys2Proof.Machine.execL0pWiden x s
  | .makersMarkRewrite dt => Sys2Proof.Machine.execMakersMarkRewrite dt s
  | .mbxCmddb f v => Sys2Proof.Machine.execMbxCmddb f v s
  | .commandStart dt => Sys2Proof.Machine.execCommandStart dt s
  | .responseWrite f dt => Sys2Proof.Machine.execResponseWrite f dt s
  | .mbxRspcidxWrite f v => Sys2Proof.Machine.execMbxRspcidxWrite f v s
  | .sysInfo f slot => Sys2Proof.Machine.execSysInfo f slot s
  | .tenantCreate f slot => Sys2Proof.Machine.execTenantCreate f slot s
  | .tenantModify f slot => Sys2Proof.Machine.execTenantModify f slot s
  | .tenantDestroy f slot => Sys2Proof.Machine.execTenantDestroy f slot s
  | .tenantQuery f slot => Sys2Proof.Machine.execTenantQuery f slot s
  | .tenantReset f slot => Sys2Proof.Machine.execTenantReset f slot s
  | .notifySet f slot => Sys2Proof.Machine.execNotifySet f slot s
  | .camBind f slot => Sys2Proof.Machine.execCamBind f slot s
  | .camUnbind f slot => Sys2Proof.Machine.execCamUnbind f slot s
  | .camStatus f slot => Sys2Proof.Machine.execCamStatus f slot s
  | .camFormatWrite f slot => Sys2Proof.Machine.execCamFormatWrite f slot s
  | .camFormatSelect f slot => Sys2Proof.Machine.execCamFormatSelect f slot s
  | .camRegRead f slot => Sys2Proof.Machine.execCamRegRead f slot s
  | .camRegWrite f slot => Sys2Proof.Machine.execCamRegWrite f slot s
  | .camRestart f slot => Sys2Proof.Machine.execCamRestart f slot s
  | .laneTest f slot => Sys2Proof.Machine.execLaneTest f slot s
  | .pipeBind f slot => Sys2Proof.Machine.execPipeBind f slot s
  | .pipeUnbind f slot => Sys2Proof.Machine.execPipeUnbind f slot s
  | .pipeContextWrite f slot => Sys2Proof.Machine.execPipeContextWrite f slot s
  | .pipeTableWrite f slot => Sys2Proof.Machine.execPipeTableWrite f slot s
  | .pipeArm f slot => Sys2Proof.Machine.execPipeArm f slot s
  | .pipeEnable f slot => Sys2Proof.Machine.execPipeEnable f slot s
  | .pipeStatus f slot => Sys2Proof.Machine.execPipeStatus f slot s
  | .axisSet f slot => Sys2Proof.Machine.execAxisSet f slot s
  | .axisCmd f slot => Sys2Proof.Machine.execAxisCmd f slot s
  | .axisRead f slot => Sys2Proof.Machine.execAxisRead f slot s
  | .posSnapshot f slot => Sys2Proof.Machine.execPosSnapshot f slot s
  | .tsSet f slot => Sys2Proof.Machine.execTsSet f slot s
  | .tsCmd f slot => Sys2Proof.Machine.execTsCmd f slot s
  | .clSet f slot => Sys2Proof.Machine.execClSet f slot s
  | .clAppend f slot => Sys2Proof.Machine.execClAppend f slot s
  | .clStatus f slot => Sys2Proof.Machine.execClStatus f slot s
  | .pinSet f slot => Sys2Proof.Machine.execPinSet f slot s
  | .routePub f slot => Sys2Proof.Machine.execRoutePub f slot s
  | .routeSub f slot => Sys2Proof.Machine.execRouteSub f slot s
  | .routeShare f slot => Sys2Proof.Machine.execRouteShare f slot s
  | .refPageLoad f slot => Sys2Proof.Machine.execRefPageLoad f slot s
  | .refPageFree f slot => Sys2Proof.Machine.execRefPageFree f slot s
  | .refPlace f slot => Sys2Proof.Machine.execRefPlace f slot s
  | .refViewSet f slot => Sys2Proof.Machine.execRefViewSet f slot s
  | .renderSetWrite f slot => Sys2Proof.Machine.execRenderSetWrite f slot s
  | .renderSetPublish f slot => Sys2Proof.Machine.execRenderSetPublish f slot s
  | .assayConfig f slot => Sys2Proof.Machine.execAssayConfig f slot s
  | .refPageStatus f slot => Sys2Proof.Machine.execRefPageStatus f slot s
  | .nozPlaneSet f slot => Sys2Proof.Machine.execNozPlaneSet f slot s
  | .nozMapWrite f slot => Sys2Proof.Machine.execNozMapWrite f slot s
  | .nozMapCommit f slot => Sys2Proof.Machine.execNozMapCommit f slot s
  | .nozTrackRead f slot => Sys2Proof.Machine.execNozTrackRead f slot s
  | .nozTrackReset f slot => Sys2Proof.Machine.execNozTrackReset f slot s
  | .nozTrackMask f slot => Sys2Proof.Machine.execNozTrackMask f slot s
  | .nozTrackLoad f slot => Sys2Proof.Machine.execNozTrackLoad f slot s
  | .nozSnapshot f slot => Sys2Proof.Machine.execNozSnapshot f slot s
  | .nozStatus f slot => Sys2Proof.Machine.execNozStatus f slot s
  | .dlvRingSet f slot => Sys2Proof.Machine.execDlvRingSet f slot s
  | .dlvRingClear f slot => Sys2Proof.Machine.execDlvRingClear f slot s
  | .camDeliverySet f slot => Sys2Proof.Machine.execCamDeliverySet f slot s
  | .dlvBlockFetch f slot => Sys2Proof.Machine.execDlvBlockFetch f slot s
  | .dlvShareSet f slot => Sys2Proof.Machine.execDlvShareSet f slot s
  | .dlvStatus f slot => Sys2Proof.Machine.execDlvStatus f slot s
  | .dmaChanSet f slot => Sys2Proof.Machine.execDmaChanSet f slot s
  | .dmaChanLoad f slot => Sys2Proof.Machine.execDmaChanLoad f slot s
  | .dmaChanCtl f slot => Sys2Proof.Machine.execDmaChanCtl f slot s
  | .dmaChanStatus f slot => Sys2Proof.Machine.execDmaChanStatus f slot s
  | .memStatus f slot => Sys2Proof.Machine.execMemStatus f slot s
  | .twinStatus f slot => Sys2Proof.Machine.execTwinStatus f slot s
  | .twinPair f slot => Sys2Proof.Machine.execTwinPair f slot s
  | .twinFence f slot => Sys2Proof.Machine.execTwinFence f slot s
  | .twinUnfence f slot => Sys2Proof.Machine.execTwinUnfence f slot s
  | .twinHandover f slot => Sys2Proof.Machine.execTwinHandover f slot s
  | .twinUnpair f slot => Sys2Proof.Machine.execTwinUnpair f slot s
  | .faultRead f slot => Sys2Proof.Machine.execFaultRead f slot s
  | .faultAck f slot => Sys2Proof.Machine.execFaultAck f slot s
  | .faultForce f slot => Sys2Proof.Machine.execFaultForce f slot s
  | .faultConfig f slot => Sys2Proof.Machine.execFaultConfig f slot s
  | .faultCounters f slot => Sys2Proof.Machine.execFaultCounters f slot s
  | .clkStatus f slot => Sys2Proof.Machine.execClkStatus f slot s
  | .temperSet f slot => Sys2Proof.Machine.execTemperSet f slot s
  | .pwrDomain f slot => Sys2Proof.Machine.execPwrDomain f slot s
  | .clkSource f slot => Sys2Proof.Machine.execClkSource f slot s
  | .pwrStatus f slot => Sys2Proof.Machine.execPwrStatus f slot s
  | .fwInfo f slot => Sys2Proof.Machine.execFwInfo f slot s
  | .fwStage f slot => Sys2Proof.Machine.execFwStage f slot s
  | .fwVerify f slot => Sys2Proof.Machine.execFwVerify f slot s
  | .fwCommit f slot => Sys2Proof.Machine.execFwCommit f slot s
  | .fwActivate f slot => Sys2Proof.Machine.execFwActivate f slot s
  | .activateTimeout dt => Sys2Proof.Machine.execActivateTimeout dt s
  | .watchdogMiss c dt => Sys2Proof.Machine.execWatchdogMiss c dt s
  | .coreInlayDone dt => Sys2Proof.Machine.execCoreInlayDone dt s
  | .bmemCe c dt => Sys2Proof.Machine.execBmemCe c dt s
  | .bshmUe dt => Sys2Proof.Machine.execBshmUe dt s
  | .benchRestart => Sys2Proof.Machine.execBenchRestart s
  | .restarted dt => Sys2Proof.Machine.execRestarted dt s
  | .benchDwclaimWrite v => Sys2Proof.Machine.execBenchDwclaimWrite v s
  | .grant u dt => Sys2Proof.Machine.execGrant u dt s
  | .witnessToggle dt => Sys2Proof.Machine.execWitnessToggle dt s
  | .witnessEdge dt => Sys2Proof.Machine.execWitnessEdge dt s
  | .witnessAbsent dt => Sys2Proof.Machine.execWitnessAbsent dt s
  | .theartSend dt => Sys2Proof.Machine.execTheartSend dt s
  | .theart lane rx dt => Sys2Proof.Machine.execTheart lane rx dt s
  | .heartbeatAbsent dt => Sys2Proof.Machine.execHeartbeatAbsent dt s
  | .twinTimeRound t1 t2 t3 t4 dt => Sys2Proof.Machine.execTwinTimeRound t1 t2 t3 t4 dt s
  | .pairq serial version peerDig ownDig epoch follow fenced dt => Sys2Proof.Machine.execPairq serial version peerDig ownDig epoch follow fenced dt s
  | .pairingTs m dt => Sys2Proof.Machine.execPairingTs m dt s
  | .ctrl m dt => Sys2Proof.Machine.execCtrl m dt s
  | .digest c seq dig dt => Sys2Proof.Machine.execDigest c seq dig dt s
  | .nozdelta t state count dt => Sys2Proof.Machine.execNozdelta t state count dt s
  | .nozdiff dt => Sys2Proof.Machine.execNozdiff dt s
  | .bulk m dt => Sys2Proof.Machine.execBulk m dt s
  | .cfgdiff dt => Sys2Proof.Machine.execCfgdiff dt s
  | .rejoin dt => Sys2Proof.Machine.execRejoin dt s
  | .handoverInstant dt => Sys2Proof.Machine.execHandoverInstant dt s
  | .handoverEnd dt => Sys2Proof.Machine.execHandoverEnd dt s
  | .handoverTimeout dt => Sys2Proof.Machine.execHandoverTimeout dt s
  | .fencePeerTimeout dt => Sys2Proof.Machine.execFencePeerTimeout dt s
  | .twinCmdPair => Sys2Proof.Machine.execTwinCmdPair s
  | .twinCmdFence => Sys2Proof.Machine.execTwinCmdFence s
  | .twinCmdFencepeer => Sys2Proof.Machine.execTwinCmdFencepeer s
  | .twinCmdUnfence => Sys2Proof.Machine.execTwinCmdUnfence s
  | .twinCmdHandover => Sys2Proof.Machine.execTwinCmdHandover s
  | .twinCmdUnpair => Sys2Proof.Machine.execTwinCmdUnpair s
  | .twinClrcnt => Sys2Proof.Machine.execTwinClrcnt s
  | .referenceLoss r dt => Sys2Proof.Machine.execReferenceLoss r dt s
  | .referenceGood r dt => Sys2Proof.Machine.execReferenceGood r dt s
  | .tbpllRelock dt => Sys2Proof.Machine.execTbpllRelock dt s
  | .holdoffEnd dt => Sys2Proof.Machine.execHoldoffEnd dt s
  | .tbswitch => Sys2Proof.Machine.execTbswitch s
  | .clkMuxWrite d v => Sys2Proof.Machine.execClkMuxWrite d v s
  | .muxSwitchDone d dt => Sys2Proof.Machine.execMuxSwitchDone d dt s
  | .muxhang d dt => Sys2Proof.Machine.execMuxhang d dt s
  | .pllunlock n dt => Sys2Proof.Machine.execPllunlock n dt s
  | .pllcfgWrite n v => Sys2Proof.Machine.execPllcfgWrite n v s
  | .slewDone n dt => Sys2Proof.Machine.execSlewDone n dt s
  | .clkGateWrite w v => Sys2Proof.Machine.execClkGateWrite w v s
  | .tpcfgWrite k v => Sys2Proof.Machine.execTpcfgWrite k v s
  | .temperStepDone k dt => Sys2Proof.Machine.execTemperStepDone k dt s
  | .tempertmo k dt => Sys2Proof.Machine.execTempertmo k dt s
  | .ivrfault k dt => Sys2Proof.Machine.execIvrfault k dt s
  | .pwrCtlWrite d v => Sys2Proof.Machine.execPwrCtlWrite d v s
  | .powerOnDone d dt => Sys2Proof.Machine.execPowerOnDone d dt s
  | .pwrtmo d dt => Sys2Proof.Machine.execPwrtmo d dt s
  | .draintmo d n dt => Sys2Proof.Machine.execDraintmo d n dt s
  | .powerOffDone d dt => Sys2Proof.Machine.execPowerOffDone d dt s
  | .tempSample temp sensor power dt => Sys2Proof.Machine.execTempSample temp sensor power dt s
  | .thermhotStep dt => Sys2Proof.Machine.execThermhotStep dt s
  | .faultReport dt => Sys2Proof.Machine.execFaultReport dt s
  | .coalesceWindowClose dt => Sys2Proof.Machine.execCoalesceWindowClose dt s
  | .causeEnd dt => Sys2Proof.Machine.execCauseEnd dt s
  | .classRecovery c dt => Sys2Proof.Machine.execClassRecovery c dt s
  | .secondaryExpiry dt => Sys2Proof.Machine.execSecondaryExpiry dt s
  | .touchAck v => Sys2Proof.Machine.execTouchAck v s
  | .touchForceGo => Sys2Proof.Machine.execTouchForceGo s
  | .recordRead dt => Sys2Proof.Machine.execRecordRead dt s
  | .tenantResetDone t dt => Sys2Proof.Machine.execTenantResetDone t dt s
  | .por => Sys2Proof.Machine.execPor s
  | .perstAssert => Sys2Proof.Machine.execPerstAssert s
  | .perstRelease => Sys2Proof.Machine.execPerstRelease s
  | .glbReset v => Sys2Proof.Machine.execGlbReset v s
  | .internalResetEnd dt => Sys2Proof.Machine.execInternalResetEnd dt s
  | .startupStage bad dt => Sys2Proof.Machine.execStartupStage bad dt s
  | .loadmem => Sys2Proof.Machine.execLoadmem s
  | .quenchN dt => Sys2Proof.Machine.execQuenchN dt s
  | .glbQuench v => Sys2Proof.Machine.execGlbQuench v s
  | .tapInstruction ir dr => Sys2Proof.Machine.execTapInstruction ir dr s
  | .readdata => Sys2Proof.Machine.execReaddata s
  | .mainPowerLoss => Sys2Proof.Machine.execMainPowerLoss s
  | .mainPowerReturn => Sys2Proof.Machine.execMainPowerReturn s
  | .registerRead p f off r => Sys2Proof.Machine.execRegisterRead p f off r s
  | .localMemoryUe c dt => Sys2Proof.Machine.execLocalMemoryUe c dt s
  | .hbufUe f dt => Sys2Proof.Machine.execHbufUe f dt s
  | .hbufCe f dt => Sys2Proof.Machine.execHbufCe f dt s
  | .linkce dt => Sys2Proof.Machine.execLinkce dt s
  | .linkprot dt => Sys2Proof.Machine.execLinkprot dt s
  | .prbserr n bits dt => Sys2Proof.Machine.execPrbserr n bits dt s
  | .trstN => Sys2Proof.Machine.execTrstN s
  | .alwaysOnRailLoss => Sys2Proof.Machine.execAlwaysOnRailLoss s
  | .testDurationEnd n dt => Sys2Proof.Machine.execTestDurationEnd n dt s
  | .fabricWriteAck e dt => Sys2Proof.Machine.execFabricWriteAck e dt s
  | .stopWaitEnd d dt => Sys2Proof.Machine.execStopWaitEnd d dt s

end Sys2Proof.Machine
end

