-- ==== Sys2Proof/Machine/Step.lean ====
section
/-!
DEFINITION. One step of the block: the command at the front of the queue takes effect on the rest of the state; with no
command waiting the block idles and one tick of device time passes (log entry 4).
-/
namespace Sys2Proof.Machine
open Sys2Proof

/-- One step: the command at the front of the queue runs with the queue's rest; an empty queue idles. -/
def step (s : State) : Host.Outcome State Fault Refusal :=
  match s.pending with
  | [] => .next s.idle
  | c :: rest => exec c { s with pending := rest }

/-- Put the command that a table word spells at the front of the queue. The table of this block gives no command any
bits, so no word spells one and the state stays (log entry 1). -/
def State.withFetchWord (s : State) (nbits w : Nat) : State :=
  match decodeTableWord nbits w with
  | some c => { s with pending := c :: s.pending }
  | none => s

end Sys2Proof.Machine
end

