-- ==== Sys2Proof/Machine/CfgSpace.lean ====
section
/-!
DEFINITION. What configuration space shows (chapter 12): the header (R356), the capability lists (R357), the BARs (R358),
the SR-IOV and ATS capabilities (R364, R371), AER (R374), LTR and the clock request pin (R380). No command reads
configuration space; these are what such a read finds (log entry 142).
-/
namespace Sys2Proof.Machine
open Sys2Proof

/-- Capabilities of Table 12.2. -/
inductive Cap where
  | powerManagement
  | msix
  | pciExpress
  | aer
  | ari
  | serialNumber
  | sriov
  | ats
  | secondary
  | dataLinkFeature
  | phys16
  | phys32
  | phys64
  | laneMargining
  | l1Substates
  | device3
  | flitLogging
  | readinessTime
  | ltr
  | vendor
  deriving DecidableEq, Repr

/-- A capability: its offset, and whether a VF has it too. -/
structure CapRow where
  off : Nat
  cap : Cap
  vf : Bool
  deriving DecidableEq, Repr

/-- Table 12.2, in ascending offset. -/
def capRows : List CapRow := [
  ⟨0x040, .powerManagement, true⟩, ⟨0x050, .msix, true⟩, ⟨0x070, .pciExpress, true⟩, ⟨0x100, .aer, true⟩,
  ⟨0x180, .ari, true⟩, ⟨0x190, .serialNumber, false⟩, ⟨0x1A0, .sriov, false⟩, ⟨0x1E0, .ats, true⟩,
  ⟨0x1F0, .secondary, false⟩, ⟨0x220, .dataLinkFeature, false⟩, ⟨0x230, .phys16, false⟩, ⟨0x260, .phys32, false⟩,
  ⟨0x290, .phys64, false⟩, ⟨0x2B0, .laneMargining, false⟩, ⟨0x300, .l1Substates, false⟩, ⟨0x310, .device3, false⟩,
  ⟨0x320, .flitLogging, false⟩, ⟨0x340, .readinessTime, true⟩, ⟨0x350, .ltr, false⟩, ⟨0x360, .vendor, true⟩]

/-- The capabilities of function f. -/
def capsOf (f : Nat) : List CapRow := capRows.filter (fun r => f == 0 || r.vf)
/-- The two lists of function f: below 0x100, and the extended one from there on (R357). -/
def capList (f : Nat) (ext : Bool) : List CapRow := (capsOf f).filter (fun r => decide (0x100 ≤ r.off) == ext)
/-- The offset that the capability at `off` of function f points to: the next of its list, 0 at its end (R357). -/
def capNext (f off : Nat) : Nat :=
  match (capList f (decide (0x100 ≤ off))).find? (fun r => decide (off < r.off)) with
  | some r => r.off
  | none => 0

/-- Header fields of function f (R356). -/
structure CfgHeader where
  vendor : BitVec 16
  device : Nat
  classCode : Nat := 0x118000
  revision : Nat := 0
  subsys : Nat
  deriving DecidableEq, Repr
def State.cfgHeader (s : State) (f : Nat) : CfgHeader :=
  { vendor := Config.vendorId, device := if f = 0 then 0x9624 else 0x9625, subsys := s.host.subsys }

/-- The Device Serial Number of PF0 equals the maker's mark's SERIAL (R357). -/
def cfgSerial : BitVec 64 := Config.serial

/-- The word of the vendor-specific capability of function f (Table 12.2): [3:0] its tenant, [8] the partition exists,
[31:16] the maker's mark's GEN [15:0]. -/
def State.vsecWord (s : State) (f : Nat) : Word :=
  w32 (f % 16 + 256 * b2n (s.tenantIs f) + leAt s.host.mark 12 2 * 65536)

/-- BARs of PF0 and of a VF. -/
inductive Bar where
  | bar0
  | bar2
  | bar4
  | rom
  deriving DecidableEq, Repr

/-- What a BAR reads after all ones are written to it, as one 64-bit number (Table 12.3); `rom0` is bit 0 of the expansion
ROM register as written. None: the function has no such BAR. -/
def State.barOnes (s : State) (f : Nat) (b : Bar) (rom0 : Bool) : Option Nat :=
  match b with
  | .bar0 => some (if f = 0 then 0xFFFFFFFFFC000004 else 0xFFFFFFFFFFC00004)
  | .bar2 => some (2 ^ 64 - 2 ^ (30 + if f = 0 then 6 else s.fld Reg.HOSTEP_VFMEMSZ 0 3) + 0xC)
  | .bar4 => if f = 0 then some 0xFFFFFFFFFF000004 else none
  | .rom => if f = 0 then some (0xFFF00000 + b2n rom0) else none

/-- What the SR-IOV capability reports (R364), with NumVFs and VF Enable as they stand. -/
structure SriovCap where
  initialVfs : Nat := 15
  totalVfs : Nat := 15
  firstOffset : Nat := 1
  stride : Nat := 1
  pageBytes : Nat := 4096
  vfDevice : Nat := 0x9625
  migration : Bool := false
  numVfs : Nat
  enable : Bool
  deriving DecidableEq, Repr
def State.sriovCap (s : State) : SriovCap := { numVfs := s.host.numVfs, enable := s.host.vfEn }

/-- What the ATS capability reports (R371), and the MSI-X table size field (R366). -/
def atsQueueDepth : Nat := 32
def atsPageAligned : Bool := true
def atsGlobalInvalidate : Bool := false
def msixTableSize (f : Nat) : Nat := vecCount f - 1

/-- Default AER severity of the uncorrectable errors of Table 12.7, by signature: true for fatal. -/
def aerFatal (i : Nat) : Bool := i == 8 || i == 9

/-- The latency tolerance that the LTR of the device reports, in µs; none is no requirement (R380). -/
def State.ltrUs (s : State) : Option Nat :=
  if (List.range 16).any (fun f => (List.range 16).any (fun r => s.bit (Reg.DLV_RCFG f r) 0)) then some 20 else none
/-- PCIE_CLKREQ_N is released: the link is in L1.2 (R380; PM does not tell L1.1 and L1.2 apart, log entry 142). -/
def State.clkreqReleased (s : State) : Bool := s.fld Reg.HOSTEP_LINK 15 2 == 3

end Sys2Proof.Machine
end

