-- ==== Sys2Proof/Safety.lean ====
section
/-!
DEFINITION. What the claims about the block speak of: the canonical form of its stores, its boot modes, and the one
reading of a step that ends.
-/
namespace Sys2Proof.Machine
open Sys2Proof

/-- The register store is in canonical form: keys rise, and no listed word equals its reset word. -/
def State.regsWf (s : State) : Bool := swf (resetOf s.bootGen) s.regs

/-- Both byte memories are in canonical form. -/
def State.memWf (s : State) : Bool := Memory.wf s.devMem && Memory.wf s.hostMem

/-- The device is in a mode that the spec gives it: running, held by PCIE_PERST_N, in the hold of an internal reset, in a
quench, without main power, or without always-on power (R503, R515, R524). -/
def State.modeOk (s : State) : Bool := decide (s.boot.mode ≤ 5)

/-- The device runs: it takes part in everything (R503, R515, R524). -/
def State.running (s : State) : Bool := decide (s.boot.mode = 0)

/-- A quench holds the device (R514, R515). -/
def State.quenched (s : State) : Bool := decide (s.boot.mode = 3)

/-- A step gives a next state and nothing else. -/
def Steps (s t : State) : Prop := step s = .next t

/-! ## Frames -/

/-- The parts of the state, one for each field. `State.tick` is none: it only keeps, for the length of a tick, what the tick
began with, and any flag that is set adds to it (log entry 119). -/
inductive Area where
  | pending
  | devTime
  | bootGen
  | freeIdx
  | regs
  | hiLatch
  | idleT
  | slew
  | reports
  | causes
  | expls
  | events
  | axes
  | gens
  | lists
  | pins
  | pairs
  | trigIns
  | sched
  | lanes
  | bonds
  | cams
  | pipes
  | asys
  | views
  | pages
  | crus
  | rings
  | xfers
  | host
  | noz
  | nbanks
  | twin
  | memx
  | chans
  | engines
  | mboxes
  | bench
  | clk
  | pwr
  | touch
  | boot
  | devMem
  | hostMem
  | parts
  | out
  deriving DecidableEq, Repr

/-- A part of the state is the same in two states. -/
def Area.same : Area → State → State → Prop
  | .pending, s, t => t.pending = s.pending
  | .devTime, s, t => t.devTime = s.devTime
  | .bootGen, s, t => t.bootGen = s.bootGen
  | .freeIdx, s, t => t.freeIdx = s.freeIdx
  | .regs, s, t => t.regs = s.regs
  | .hiLatch, s, t => t.hiLatch = s.hiLatch
  | .idleT, s, t => t.idleT = s.idleT
  | .slew, s, t => t.slew = s.slew
  | .reports, s, t => t.reports = s.reports
  | .causes, s, t => t.causes = s.causes
  | .expls, s, t => t.expls = s.expls
  | .events, s, t => t.events = s.events
  | .axes, s, t => t.axes = s.axes
  | .gens, s, t => t.gens = s.gens
  | .lists, s, t => t.lists = s.lists
  | .pins, s, t => t.pins = s.pins
  | .pairs, s, t => t.pairs = s.pairs
  | .trigIns, s, t => t.trigIns = s.trigIns
  | .sched, s, t => t.sched = s.sched
  | .lanes, s, t => t.lanes = s.lanes
  | .bonds, s, t => t.bonds = s.bonds
  | .cams, s, t => t.cams = s.cams
  | .pipes, s, t => t.pipes = s.pipes
  | .asys, s, t => t.asys = s.asys
  | .views, s, t => t.views = s.views
  | .pages, s, t => t.pages = s.pages
  | .crus, s, t => t.crus = s.crus
  | .rings, s, t => t.rings = s.rings
  | .xfers, s, t => t.xfers = s.xfers
  | .host, s, t => t.host = s.host
  | .noz, s, t => t.noz = s.noz
  | .nbanks, s, t => t.nbanks = s.nbanks
  | .twin, s, t => t.twin = s.twin
  | .memx, s, t => t.memx = s.memx
  | .chans, s, t => t.chans = s.chans
  | .engines, s, t => t.engines = s.engines
  | .mboxes, s, t => t.mboxes = s.mboxes
  | .bench, s, t => t.bench = s.bench
  | .clk, s, t => t.clk = s.clk
  | .pwr, s, t => t.pwr = s.pwr
  | .touch, s, t => t.touch = s.touch
  | .boot, s, t => t.boot = s.boot
  | .devMem, s, t => t.devMem = s.devMem
  | .hostMem, s, t => t.hostMem = s.hostMem
  | .parts, s, t => t.parts = s.parts
  | .out, s, t => t.out = s.out

/-- A coarse frame: no part of the state outside the list changes. -/
def Same (l : List Area) (s t : State) : Prop := ∀ a, a ∉ l → a.same s t

/-- The frame of a step from s to t: no register outside K reads otherwise than before, and no other part of the state
outside the list changes. -/
def Keeps (K : Nat → Prop) (l : List Area) (s t : State) : Prop := (∀ k, ¬ K k → t.rd k = s.rd k) ∧ Same (.regs :: l) s t

/-- The registers that setting an interrupt flag may write beside the flag: IRQ_ASSERT, and the pending bits of function 0
(R366, R367). -/
def irqKey (k : Nat) : Prop :=
  (Reg.IRQ_ASSERT 0 ≤ k ∧ k < Reg.IRQ_ASSERT 10) ∨ (Reg.PBA 0 0 ≤ k ∧ k < Reg.PBA 0 64)

/-- The register is in the list. -/
def inKeys (l : List Nat) (k : Nat) : Prop := k ∈ l
/-- The register is in the list, or setting an interrupt flag may write it. -/
def inKeysI (l : List Nat) (k : Nat) : Prop := k ∈ l ∨ irqKey k

/-- The register is in the list, or is a pending bit of function f, as sending one of its vectors may set (R366). -/
def inKeysP (l : List Nat) (f k : Nat) : Prop := k ∈ l ∨ (Reg.PBA f 0 ≤ k ∧ k < Reg.PBA f 64)

/-- The register is in the list, or setting an interrupt flag may write it, or it counts the trigger messages that lane n drops as
it leaves service (R86). -/
def inKeysD (l : List Nat) (s : State) (n k : Nat) : Prop := inKeysI l k ∨ ∃ m ∈ (s.lane n).trigs, k = Reg.TRG_TSDROP m.gen

/-- The register lies in one of the units (Table 16.12), or setting an interrupt flag may write it. -/
def inUnits (l : List Nat) (k : Nat) : Prop := busUnit k ∈ l ∨ irqKey k

/-- The parts of the state that a step of a lane may change (chapter 5): its registers and record, its bond, what it reports
and sends; with the twin bond what waits there, and its recovered clock (R450). -/
def laneParts : List Area := [.regs, .reports, .causes, .expls, .events, .lanes, .bonds, .cams, .twin, .clk, .touch, .out]

/-- The parts of the state that a change of the twin unit's state or role may change (chapter 14): its registers and record,
what waited for the partner, CLAIM copies on the lanes, the answers and notices that follow, the timebase and its slew, and what
it reports and sends. -/
def twinParts : List Area :=
  [.regs, .slew, .reports, .events, .axes, .lanes, .views, .pages, .twin, .memx, .mboxes, .bench, .clk, .devMem, .out]

/-- The twin unit shows a state and a role (Table 14.13). -/
def TwinAt (t : State) (st role : Nat) : Prop := t.fld Reg.TWIN_STAT 0 3 = st ∧ t.fld Reg.TWIN_STAT 3 2 = role

/-- A packet on the twin link: its class, type, the rest of its header, its number of data blocks and content (R154, Table 14.1). -/
def twinPkt (cls type hdr n : Nat) (content : List Byte) : TwinPkt :=
  { cls := cls, hdr := pktHdr (type + hdr * 256), data := pktBlocks (type + hdr * 256) n content }

/-- A CTRL packet with a content of at most 508 bytes. -/
def ctrlPkt (content : List Byte) : TwinPkt := twinPkt 2 0xD3 ((pktLen content - 1) * 2 ^ 36) (pktLen content) content

/-- What waits on the twin link once these packets are sent: nothing joins while the twin bond is down. -/
def Sent (s : State) (l : List TwinPkt) : List TwinPkt := s.twin.txq ++ (if (s.bond 96).active then l else [])

/-- The lead epoch rises above every epoch known: the own, the partner's and the cameras' (R426). -/
def epochNext (s : State) (peer : Nat) : Nat :=
  min 0xFFFF (max s.twinEpoch (max peer (maxList ((List.range 96).map (fun c => (s.cam c).epoch)))) + 1)

/-! ## Steps that complete -/

/-- The command answers a next state, and that state has the property. -/
def Goes (c : Instr) (s : State) (P : State → Prop) : Prop := ∃ t, exec c s = .next t ∧ P t

/-- The device runs, PF0 answers, and the unit at offset a of its BAR0 can be reached: a write there takes effect (R363). -/
def Up (s : State) (a : Nat) : Prop := s.boot.mode = 0 ∧ s.fnOk 0 = true ∧ s.unitUp a = true

/-- Every class that p picks has been acknowledged (R486, R492): UNACK and LEVEL are clear, and TOUCH_ARRAY; the class's other bits
stand, and a class that p leaves out keeps all it shows. -/
def Acked (p : Nat → Bool) (s t : State) : Prop :=
  (∀ c < 16, ∀ j < 32, t.bit (Reg.TOUCH_CLSSTAT c) j =
    (s.bit (Reg.TOUCH_CLSSTAT c) j && !(p c && (decide (j < 3) || decide (j = 4))))) ∧
  (∀ j < 32, t.bit Reg.TOUCH_STAT j = (s.bit Reg.TOUCH_STAT j && !(decide (16 ≤ j) && p (j - 16)))) ∧
  (∀ c < 16, t.rd (Reg.TOUCH_ARRAY c) = if p c then 0#32 else s.rd (Reg.TOUCH_ARRAY c))

/-- One fault has been reported, with this signature, source and base level, and nothing else happened (R477). -/
def Reports (sig src level : Nat) (s t : State) : Prop :=
  (∃ r, t.reports = s.reports ++ [r] ∧ r.sig = sig ∧ r.src = src ∧ r.level = level) ∧
    Keeps (inKeys []) [.reports] s t

/-- What the loss of reference r leaves for the touchstone: its REFLOST or TWCLKLOST at a level, where it is to be recorded (R450,
R452, R453). -/
def refReports (told : Bool) (r level now : Nat) : List Report :=
  if told then [{ sig := 0xC01 + r, src := r, level := level, t := now }] else []

/-! ## Packets of a camera (R154, R155) -/

/-- A reception brings this packet: its header leads the bond stream, and a body of n blocks follows. -/
def Carries (rx : BondRx) (n : Packet → Nat) (p : Packet) : Prop :=
  ∃ rest, pktHeader (bondStream rx) = some (p.hdr, rest) ∧
    pktData (n { hdr := p.hdr, data := [], cut := false }) rest = (p.data, p.cut)

/-- Camera c's bond brings a whole packet of a type, in a state whose lanes take the blocks first. -/
def Brings (s : State) (c : Nat) (rx : BondRx) (type : Nat) (n : Packet → Nat) (p : Packet) : Prop :=
  s.bondHears c = true ∧ (s.bondBlks c rx).linkClk = true ∧ Carries rx n p ∧ pktHdrOk p type = true ∧
    pktWhole p (n { hdr := p.hdr, data := [], cut := false }) = true

/-- The forms in which a packet of camera c arrives, each with its type and the blocks of its body (Table 6.1). -/
def camForms (s : State) (c : Fin 96) (rx : BondRx) (dt : Nat) : List (Instr × Nat × (Packet → Nat)) :=
  [(.tsecho c rx dt, 0x93, fun _ => 3), (.cameraHeart c rx dt, 0xA1, fun _ => 2),
   (.lineSegment c rx dt, 0x80, fun p => pktBits p 44 12 + 1), (.frameSegment c rx dt, 0x81, fun p => pktBits p 44 12 + 1),
   (.regrsp c rx dt, 0xB2, s.rspBlocks c.val), (.capr c rx dt, 0xC1, fun _ => 17),
   (.fmt c rx dt, 0xC2, fun p => pktBits p 44 12 + 1), (.capend c rx dt, 0xC3, fun _ => 0)]

/-- A packet for camera c waits on the lane of bond position 0, if that lane sends packets (R156). -/
def Waits (s t : State) (c : Nat) (p : TxPkt) : Prop :=
  ∀ n, s.posLane c 0 = some n → 5 ≤ s.laneSt n → s.laneSt n ≤ 8 → p ∈ (t.lane n).pkts

/-! ## DMA descriptors (R341, R342) -/

/-- The parts of the state that the completion of a descriptor may change: registers and records of channels and engines,
events, faults, vectors, and memory, where the completion word goes. -/
def dmaParts : List Area := [.regs, .reports, .events, .memx, .chans, .engines, .devMem, .hostMem, .out]

/-- Descriptor d of channel ch has completed with a status (R341): DMA_CHDONE counts it, DMA_CHIRQ.DONE is set, its engine is
free; without a completion word LASTST is the status and memory stays; a linked channel's word goes to its place in device
memory, and no other byte changes. -/
def Ended (s t : State) (ch : Nat) (d : Desc) (st : Nat) : Prop :=
  t.rdN (Reg.DMA_CHDONE ch) = (s.rdN (Reg.DMA_CHDONE ch) + 1) % 2 ^ 32 ∧ (t.engine (ch / 32)).ch = none ∧
  t.bit (Reg.DMA_CHIRQ ch) 1 = true ∧
  (bitOf d.ctl 13 = false → t.fld (Reg.DMA_CHSTAT ch) 4 4 = st % 16 ∧ t.devMem = s.devMem ∧ t.hostMem = s.hostMem) ∧
  (∀ v, bitOf d.ctl 13 = true → s.chLinked ch = true → s.bit (Reg.DMA_CHCFG ch) 1 = false →
    s.chAddr ch ((s.chan ch).addr + 56) 8 = some v → t.fld (Reg.DMA_CHSTAT ch) 4 4 = st % 16 ∧
      memRead t.devMem v 8 = leBytes 8 (2 + 16 * st + (s.chan ch).bytes % 2 ^ 32 * 2 ^ 32) ∧
      (∀ a, ¬ (v ≤ a ∧ a < v + 8) → memGet t.devMem a = memGet s.devMem a) ∧ t.hostMem = s.hostMem)

/-- The descriptor in service on channel ch ends with a status, or where its completion word awaits a translation the channel asks
for that (R341, R371). -/
def Closes (s t : State) (ch : Nat) (d : Desc) (st : Nat) : Prop :=
  (s.wordReady ch d = true → Ended s t ch d st ∧ Same dmaParts s t) ∧
  (s.wordReady ch d = false → t.chan ch = { s.chan ch with want := 2, wantT := s.devTime } ∧
    (∀ m, m ≠ ch → t.chan m = s.chan m) ∧ Keeps (inKeys []) [.chans] s t)

/-! ## Mailbox commands (R394 to R400) -/

/-- The command of this opcode that runs from a slot of function f. -/
def State.cmdAt (s : State) (f : Fin 16) (slot : Fin 64) (op : Nat) : Option Cmd :=
  s.bench.running.find? (fun x => x.f == f.val && x.slot == slot.val && x.op == op && !x.interim)

/-- Command c runs from a slot of function f with this opcode, the device is in operation, and the bench serves it: its row goes
on to its effect. -/
def Runs (s : State) (f : Fin 16) (slot : Fin 64) (op : Nat) (c : Cmd) : Prop :=
  s.boot.mode = 0 ∧ s.cmdAt f slot op = some c ∧ s.cmdServed c = true

/-- The row of an opcode does nothing where no such command runs, and while its core is out of service or the bench restarts
(R389, R391). -/
def Rests (op : Nat) (i : Fin 16 → Fin 64 → Instr) : Prop :=
  ∀ s f slot, s.boot.mode = 0 → (∀ c, s.cmdAt f slot op = some c → s.cmdServed c = false) → Goes (i f slot) s (fun t => t = s)

/-- Command c has been answered with a FINAL: its response is held for its function, and it runs no longer (R394). -/
def Final (t : State) (c : Cmd) (status : Nat) (payload : List Byte) : Prop :=
  { bytes := respBytes status 0 c.slot c.seq c.op payload, slot := some c.slot, irq := c.irq, notice := false } ∈
      (t.mbox c.f).held ∧
    ∀ x ∈ t.bench.running, ¬ (x.f = c.f ∧ x.slot = c.slot)

/-- The status a command is answered with: of the refusals that apply, the one of lowest rank; NO_SUCH_OBJECT also where PF0
names a tenant that does not exist (R400, Table 13.4). -/
def Answer (s : State) (c : Cmd) (refusals : List (Bool × Nat)) : Nat :=
  pickStatus ((!s.tenantIs c.tenant && c.f == 0, St.noObject) :: refusals)

/-- The command of a row is served (R400): a refusal that applies is answered with its status and changes nothing else; without
one the answer is OK with a payload, and the next state has the property. -/
def Served (i : Instr) (s : State) (c : Cmd) (refusals : List (Bool × Nat)) (P : State → List Byte → Prop) : Prop :=
  (Answer s c refusals = 0 → Goes i s (fun t => ∃ b, Final t c St.ok b ∧ P t b)) ∧
  (Answer s c refusals ≠ 0 → Goes i s (fun t => Final t c (Answer s c refusals) [] ∧
    Keeps (inKeys [Reg.MBX_CAPCNT c.f]) [.mboxes, .bench] s t))

/-- State t is state u with a command answered: only what firmware holds for a function, and its list of running commands,
differ. -/
def Told (u t : State) : Prop := Keeps (inKeys []) [.mboxes, .bench] u t

/-- Every command of this opcode is served by its row: with these refusals, and else with this effect (R400). -/
def Serves (op : Nat) (i : Fin 16 → Fin 64 → Instr) (refusals : State → Cmd → List (Bool × Nat))
    (P : State → Cmd → State → List Byte → Prop) : Prop :=
  Rests op i ∧ ∀ s f slot c, Runs s f slot op c → Served (i f slot) s c (refusals s c) (P s c)

/-- Every command of this opcode starts what answers it later: a refusal is answered at once, a command that waits already stays
as it is, any other takes effect. -/
def Awaits (op : Nat) (i : Fin 16 → Fin 64 → Instr) (refusals : State → Cmd → List (Bool × Nat)) (waits : State → Cmd → Prop)
    (P : State → Cmd → State → Prop) : Prop :=
  Rests op i ∧ ∀ s f slot c, Runs s f slot op c →
    (waits s c → Goes (i f slot) s (fun t => t = s)) ∧
    (¬ waits s c → Answer s c (refusals s c) ≠ 0 → Goes (i f slot) s (fun t => Final t c (Answer s c (refusals s c)) [] ∧
      Keeps (inKeys [Reg.MBX_CAPCNT c.f]) [.mboxes, .bench] s t)) ∧
    (¬ waits s c → Answer s c (refusals s c) = 0 → Goes (i f slot) s (P s c))

/-- Every command of this opcode starts a transfer (R307): refused, also for want of room in its tenant's queue; alone in the queue
it is at the head and answered later; behind others it is answered DEFERRED and waits in order. -/
def Queues (op : Nat) (i : Fin 16 → Fin 64 → Instr) (refusals : State → Cmd → List (Bool × Nat)) : Prop :=
  Rests op i ∧ ∀ s f slot c q st, Runs s f slot op c → q = s.xferQ c.tenant →
    st = Answer s c (refusals s c ++ [(decide (s.xferDepth c.tenant ≤ q.length), St.capacity)]) →
    ((∃ x ∈ q, x.cmd.f = c.f ∧ x.cmd.slot = c.slot ∧ x.cmd.interim = false) → Goes (i f slot) s (fun t => t = s)) ∧
    ((∀ x ∈ q, ¬ (x.cmd.f = c.f ∧ x.cmd.slot = c.slot ∧ x.cmd.interim = false)) →
      (st ≠ 0 → Goes (i f slot) s (fun t => Final t c st [] ∧ (st = St.capacity → c.tenant < 16 →
        t.fld (Reg.DLV_TREFUSE c.tenant) 0 32 = satAdd 32 (s.fld (Reg.DLV_TREFUSE c.tenant) 0 32) 1) ∧
        Keeps (inKeys [Reg.MBX_CAPCNT c.f, Reg.DLV_TREFUSE c.tenant]) [.mboxes, .bench] s t)) ∧
      (st = 0 → q = [] → Goes (i f slot) s (fun t => t.xferQ c.tenant = [{ cmd := c, headT := some s.devTime }] ∧
        (c.tenant < 16 → t.fld (Reg.DLV_TQ c.tenant) 8 8 = 1) ∧ Keeps (inKeys [Reg.DLV_TQ c.tenant]) [.xfers] s t)) ∧
      (st = 0 → q ≠ [] → Goes (i f slot) s (fun t => t.xferQ c.tenant = q ++ [{ cmd := { c with interim := true } }] ∧
        (∃ r ∈ (t.mbox c.f).held, r.bytes = respBytes St.deferred 1 c.slot c.seq c.op [] ∧ r.slot = some c.slot) ∧
        (∀ x ∈ t.bench.running, ¬ (x.f = c.f ∧ x.slot = c.slot)) ∧
        (c.tenant < 16 → t.fld (Reg.DLV_TDEFER c.tenant) 0 32 = satAdd 32 (s.fld (Reg.DLV_TDEFER c.tenant) 0 32) 1) ∧
        Keeps (inKeys [Reg.DLV_TQ c.tenant, Reg.DLV_TDEFER c.tenant, Reg.MBX_CAPCNT c.f]) [.xfers, .mboxes, .bench] s t)))

/-! ## Reset and quench (R502, R503, R515) -/

/-- Every part of the state that power-on does not keep is as in the reset state; firmware's flash, host memory, the queue of
commands, what was sent and what counts the resets and the free values stay. -/
def Fresh (t : State) : Prop := Same [.pending, .bootGen, .freeIdx, .regs, .bench, .boot, .hostMem, .out] State.reset t

/-- What the always-on domain keeps over a device reset (R498, R503): the record store but the OPEN flags, its counters, and
GLB_BOOTTIME. -/
def RecordsKept (s t : State) : Prop :=
  (∀ k ∈ [Reg.TOUCH_RECWR, Reg.TOUCH_RECRD, Reg.TOUCH_RECLOST, Reg.TOUCH_L4SEQ, Reg.GLB_BOOTTIME] ++
    (List.range 16).map Reg.TOUCH_RECOV, t.rd k = s.rd k) ∧
  (∀ n w, w < 16 → w ≠ 1 → t.rd (Reg.TOUCH_REC n w) = s.rd (Reg.TOUCH_REC n w))

/-- State t is s after a device reset by a source of GLB_RSTCAUSE.CAUSE (R503): the resets are counted, the always-on domain keeps its
records, every other register but those in the list is at its reset value, and the rest of the state is fresh. -/
def ResetBy (l : List Nat) (cause : Nat) (s t : State) : Prop :=
  t.fld Reg.GLB_RSTCAUSE 0 4 = cause ∧ t.fld Reg.GLB_RSTCAUSE 16 16 = (s.fld Reg.GLB_RSTCAUSE 16 16 + 1) % 65536 ∧
  RecordsKept s t ∧ t.fld Reg.CLK_MON 0 3 = s.fld Reg.CLK_MON 0 3 ∧ t.bootGen = s.bootGen + 1 ∧
  (∀ k, keptKey k = false → k ∉ [Reg.CLK_MON, Reg.GLB_BOOTSTAT, Reg.BENCH_SVNMIN] ++ l → t.rd k = resetOf t.bootGen k) ∧
  Fresh t ∧ t.pending = s.pending ∧ t.hostMem = s.hostMem

/-- Happenings that reach the device although it does not run: resets, its supply, its references and temperature, the witness, the
test port, and reads of the host. -/
def reachesHeld : Instr → Bool
  | .por | .perstAssert | .perstRelease | .internalResetEnd _ | .tapInstruction _ _ | .readdata | .trstN | .mainPowerLoss
  | .mainPowerReturn | .alwaysOnRailLoss | .quenchN _ | .registerRead _ _ _ _ | .referenceLoss _ _ | .referenceGood _ _
  | .witnessEdge _ | .tempSample _ _ _ _ => true
  | _ => false

/-- What ends a quench: a reset of the whole device, or the loss of its power (R518). -/
def endsQuench : Instr → Bool
  | .por | .perstAssert | .mainPowerLoss | .alwaysOnRailLoss => true
  | _ => false

/-! ## Terms of the manual that claims use -/

/-- A single change of A or B away from the decoder's A is one count forward: A leads B in forward travel, and SWAPAB and INV
each reverse it (R43). a and b are the levels after the change. -/
def abForward (decA a b swap inv : Bool) : Bool := (((a != decA) == (a != b)) != swap) != inv

end Sys2Proof.Machine
end

