-- ==== Sys2Proof/Certificates/Slice0/Obligations.lean ====
section
/-!
DEFINITION. The statements for the provers. Each says what rows of the command table do, on every state that meets its
hypotheses: that the row completes, the values it leaves, and what it leaves alone (Safety: Goes, Keeps, Same).
-/
section Statements
open Sys2Proof Sys2Proof.Machine

/-- A step takes the command at the front of the queue and runs it on the state with the queue's rest; with nothing
waiting the block idles: a tick passes where the device has its clocks, and a lane goes on where that was awaited
(log entry 4, the model's choice). -/
def Obligations.QueueFront : Prop := ∀ (s : State),
  (∀ c rest, s.pending = c :: rest → Machine.step s = exec c { s with pending := rest }) ∧
  (s.pending = [] → s.boot.mode = 0 → Steps s ((s.pass 1).each (List.range 112) (fun t n => t.laneDue n))) ∧
  (s.pending = [] → s.boot.mode = 2 → Steps s (s.pass 1)) ∧
  (s.pending = [] → s.boot.mode ≠ 0 → s.boot.mode ≠ 2 → Steps s s)

/-- The machine right after reset (R502, R503, R505): no command waits, every register reads its Reset value, the
stores are in canonical form, the device runs and its start-up stands before stage 1, only PD_AON is on and no
clock enable is set, no fault is recorded and nothing has been sent. -/
def Obligations.ResetState : Prop := State.reset.pending = [] ∧ (∀ k, State.reset.rd k = resetOf 0 k) ∧
  State.reset.regsWf = true ∧ State.reset.memWf = true ∧ State.reset.modeOk = true ∧ State.reset.running = true ∧
  State.reset.fld Reg.GLB_BOOTSTAT 0 4 = 0 ∧ State.reset.fld Reg.PWR_ON 0 24 = 1 ∧ (∀ b < 247, State.reset.clkOn b = false) ∧
  (∀ f < 16, State.reset.bit (Reg.MBX_STAT f) 0 = false) ∧ State.reset.rdN Reg.TOUCH_RECWR = 0 ∧ State.reset.reports = [] ∧
  State.reset.out = [] ∧ (∀ n, State.reset.lane n = {} ∧ State.reset.pipe n = {} ∧ State.reset.cam n = {})

/-- A quench is one-way (R515, R517, R518): whatever command is taken but a power-on reset, the assertion of
PCIE_PERST_N or a loss of power, the device stays in quench; every register, unit record, memory, the device time
and what waits for the touchstone stay as they were. What the readout itself uses may change: the test port, the
level of PCIE_PERST_N, free values and what is sent. -/
def Obligations.QuenchHolds : Prop := ∀ (s t : State), s.boot.mode = 3 → (∀ c rest, s.pending = c :: rest → endsQuench c = false) →
  Steps s t → t.boot.mode = 3 ∧ Keeps (inKeys []) [.pending, .freeIdx, .boot, .out] s t

/-- A device that does not run takes part in nothing (R503, R515, R524): in a reset, in a quench and without power,
every command but the few that reach a held device (Safety.reachesHeld) is gone without an effect. -/
def Obligations.HeldDevice : Prop := ∀ (s : State) (c : Instr), s.boot.mode ≠ 0 → reachesHeld c = false → Goes c s (fun t => t = s)

/-- Quadrature counting (R43, R46): each accepted change of one of A and B counts 4,096 PT, forward when A leads B,
reversed by SWAPAB and by INV; an accepted change of both is an error that leaves the position, adopts the pins,
counts in POS_AXQERR and raises QERR. -/
def Obligations.QuadratureCounting : Prop := ∀ (s₀ s : State) (n : Fin 8) (dt : Nat), s = s₀.pass dt → s.boot.mode = 0 →
  s.posClk = true →
  s.axEn n.val = true →
  (∀ a b : Bool, s.axMode n.val = 0 →
    (∀ t0, (s.axis n.val).lastAB = some t0 → t0 + s.axMinIv n.val false ≤ s.devTime) →
    ((a != (s.axis n.val).decA) = !(b != (s.axis n.val).decB) →
      Goes (.encAbEdge n a b dt) s₀ (fun t =>
        (t.axis n.val).m = posAdd (s.axis n.val).m
          (if abForward (s.axis n.val).decA a b (s.bit (Reg.POS_AXCTLA n.val) 3) (s.bit (Reg.POS_AXCTLA n.val) 2)
            then 4096 else -4096) ∧
        (t.axis n.val).decA = a ∧ (t.axis n.val).decB = b ∧ (t.axis n.val).lastAB = some s.devTime ∧
        Keeps (inKeysI [Reg.POS_AXSTAT n.val, Reg.POS_AXIRQ n.val]) [.axes, .events, .out, .reports] s t)) ∧
    (a ≠ (s.axis n.val).decA → b ≠ (s.axis n.val).decB →
      Goes (.encAbEdge n a b dt) s₀ (fun t =>
        (t.axis n.val).m = (s.axis n.val).m ∧ (t.axis n.val).decA = a ∧ (t.axis n.val).decB = b ∧
        t.rd (Reg.POS_AXQERR n.val) =
          putFld (s.rd (Reg.POS_AXQERR n.val)) 0 16 (satAdd 16 (s.fld (Reg.POS_AXQERR n.val) 0 16) 1) ∧
        t.reports = s.reports ++ [{ sig := 0x504, src := n.val, level := 1, t := s.devTime }] ∧
        Keeps (inKeys [Reg.POS_AXQERR n.val]) [.axes, .reports] s t)))

/-- The commands of one axis (R50, R66, R69, R73): RESYNC disarms an armed apply and, unless this tick has applied the
shadow, waits for the next publication, APPLYIDX arms one for the next index, ABSREQ requests a word while the
period is 0, CLRSUSP clears SUSPECT, CLRCNT clears the counters; SNAP latches the eight positions and the device
time (R72). A write of POS_AXCTL (R9, R68, R70): LOCKED with the lock closed; on an enabled axis only the shadow
changes; on a disabled one shadow and active control take the value at once, but for MODE 0b11, which is refused
with APPLYERR. A write of POS_AXEN (R70): 1 measures on from P_pub and sets VALID outside HOLD, 0 clears VALID and
keeps the position. -/
def Obligations.PosCommands : Prop :=
  (∀ (s : State) (n : Fin 8), Up s (Reg.POS_AXCMD n.val) →
  ((s.axis n.val).tApply = some s.devTime → Goes (.resync n) s (fun t =>
    t.rd (Reg.POS_AXCMD n.val) = putFld (s.rd (Reg.POS_AXCMD n.val)) 1 1 0 ∧
    t.rd (Reg.POS_AXSTAT n.val) = putFld (s.rd (Reg.POS_AXSTAT n.val)) 6 1 0 ∧
    Keeps (inKeys [Reg.POS_AXCMD n.val, Reg.POS_AXSTAT n.val]) [] s t)) ∧
  ((s.axis n.val).tApply ≠ some s.devTime → Goes (.resync n) s (fun t =>
    t.rd (Reg.POS_AXCMD n.val) = putFld (putFld (s.rd (Reg.POS_AXCMD n.val)) 1 1 0) 0 1 1 ∧
    t.rd (Reg.POS_AXSTAT n.val) = putFld (s.rd (Reg.POS_AXSTAT n.val)) 6 1 0 ∧
    t.axis n.val = { s.axis n.val with resync := true } ∧ (∀ m, m ≠ n.val → t.axis m = s.axis m) ∧
    Keeps (inKeys [Reg.POS_AXCMD n.val, Reg.POS_AXSTAT n.val]) [.axes] s t)) ∧
  Goes (.applyidx n) s (fun t =>
    t.rd (Reg.POS_AXCMD n.val) = putFld (s.rd (Reg.POS_AXCMD n.val)) 1 1 1 ∧
    t.rd (Reg.POS_AXSTAT n.val) = putFld (s.rd (Reg.POS_AXSTAT n.val)) 6 1 1 ∧
    Keeps (inKeys [Reg.POS_AXCMD n.val, Reg.POS_AXSTAT n.val]) [] s t) ∧
  Goes (.clrsusp n) s (fun t =>
    t.rd (Reg.POS_AXSTAT n.val) = putFld (s.rd (Reg.POS_AXSTAT n.val)) 4 1 0 ∧
    Keeps (inKeys [Reg.POS_AXSTAT n.val]) [] s t) ∧
  Goes (.axisClrcnt n) s (fun t =>
    t.rd (Reg.POS_AXGLCNT n.val) = 0#32 ∧ t.rd (Reg.POS_AXQERR n.val) = 0#32 ∧ t.rd (Reg.POS_AXABSERR n.val) = 0#32 ∧
    t.rd (Reg.POS_AXAMP n.val) = putFld (s.rd (Reg.POS_AXAMP n.val)) 16 16 0 ∧
    Keeps (inKeys [Reg.POS_AXGLCNT n.val, Reg.POS_AXQERR n.val, Reg.POS_AXABSERR n.val, Reg.POS_AXAMP n.val]) [.axes] s t) ∧
  (s.fld (Reg.POS_AXABSPER n.val) 0 16 = 0 → s.axIn n.val 2 = true → (s.axis n.val).frame = none →
    (s.axis n.val).gap = none → Goes (.absreq n) s (fun t =>
      (t.axis n.val).frame = some s.devTime ∧ (t.axis n.val).frameFmt = s.rd (Reg.POS_AXABSFMT n.val) ∧
      (t.axis n.val).frameClk = s.rd (Reg.POS_AXABSCLK n.val) ∧
      t.out = .sclk n.val s.devTime (absPeriod (s.rd (Reg.POS_AXABSCLK n.val))) (absLen (s.rd (Reg.POS_AXABSFMT n.val))) :: s.out ∧ (∀ m, m ≠ n.val → t.axis m = s.axis m) ∧
      Keeps (inKeys []) [.axes, .out] s t)) ∧
  (s.fld (Reg.POS_AXABSPER n.val) 0 16 ≠ 0 ∨ s.axIn n.val 2 = false → Goes (.absreq n) s (fun t => t = s)) ∧
  (s.unitUp Reg.POS_SNAP = true → Goes .snap s (fun t =>
    (∀ m : Fin 8, t.rd64 (Reg.POS_AXSNAP_LO m.val) = (s.axPos m.val).toNat) ∧ t.rd64 Reg.POS_SNAPT_LO = s.devTime % 2 ^ 64 ∧
    Keeps (inKeys ([Reg.POS_SNAPT_LO, Reg.POS_SNAPT_LO + 4] ++ (List.range 8).map Reg.POS_AXSNAP_LO ++
      (List.range 8).map (fun m => Reg.POS_AXSNAP_LO m + 4))) [] s t))) ∧
  (∀ (s : State) (n : Fin 8) (v : Word), Up s (Reg.POS_AXCTL n.val) →
  (s.unlocked .pos = false →
    Goes (.axisCtlWrite n v) s (fun t =>
      t.reports = s.reports ++ [{ sig := 0xE01, src := 6, level := 0, t := s.devTime }] ∧ Keeps (inKeys []) [.reports] s t) ∧
    Goes (.posAxenWrite n v) s (fun t =>
      t.reports = s.reports ++ [{ sig := 0xE01, src := 6, level := 0, t := s.devTime }] ∧ Keeps (inKeys []) [.reports] s t)) ∧
  (s.unlocked .pos = true →
    (s.axEn n.val = true → Goes (.axisCtlWrite n v) s (fun t =>
      t.rd (Reg.POS_AXCTL n.val) = v &&& 0x1FF#32 ∧ Keeps (inKeys [Reg.POS_AXCTL n.val]) [] s t)) ∧
    (s.axEn n.val = false → fldOf v 0 2 ≠ 3 → Goes (.axisCtlWrite n v) s (fun t =>
      t.rd (Reg.POS_AXCTL n.val) = v &&& 0x1FF#32 ∧ t.rd (Reg.POS_AXCTLA n.val) = v &&& 0x1FF#32 ∧
      Keeps (inKeys [Reg.POS_AXCTL n.val, Reg.POS_AXCTLA n.val]) [] s t)) ∧
    (s.axEn n.val = false → fldOf v 0 2 = 3 → Goes (.axisCtlWrite n v) s (fun t =>
      t.fld (Reg.POS_AXCTL n.val) 0 2 = s.axMode n.val ∧ t.axMode n.val = s.axMode n.val ∧ t.bit (Reg.POS_AXIRQ n.val) 8 = true ∧
      t.reports = s.reports ++ [{ sig := 0xE04, src := n.val, level := 0, t := s.devTime }] ∧
      Keeps (inKeysI [Reg.POS_AXCTL n.val, Reg.POS_AXCTLA n.val, Reg.POS_AXIRQ n.val]) [.out, .reports] s t)) ∧
    (bitOf v 0 = true → Goes (.posAxenWrite n v) s (fun t =>
      t.axEn n.val = true ∧ t.bit (Reg.POS_AXSTAT n.val) 0 = !s.axHold n.val ∧ (t.axis n.val).m = s.axPos n.val ∧
      (t.axis n.val).decA = (s.axis n.val).pinA ∧ (t.axis n.val).decB = (s.axis n.val).pinB ∧
      (t.axis n.val).v = 0 ∧ (∀ m, m ≠ n.val → t.axis m = s.axis m) ∧
      Keeps (inKeys [Reg.POS_AXEN n.val, Reg.POS_AXSTAT n.val]) [.axes] s t)) ∧
    (bitOf v 0 = false → Goes (.posAxenWrite n v) s (fun t =>
      t.axEn n.val = false ∧ t.bit (Reg.POS_AXSTAT n.val) 0 = false ∧
      (∀ i ∈ [1, 2, 3, 5, 6], t.hasCause 5 i n.val = false) ∧
      Keeps (inKeys [Reg.POS_AXEN n.val, Reg.POS_AXSTAT n.val, Reg.TOUCH_CLSSTAT 5]) [.axes, .causes, .expls, .touch] s t))))

/-- The accepted inputs of the position unit. A change of A or B held off by the minimum interval counts when the
interval ends (R44); an accepted and qualified index edge latches the measurement and the time (R60); a GLITCH
cause ends POS_AXGLWIN after the last rejection (R45); a sin/cos sample shows in POS_AXADC (R47); a frame that has
been sampled whole and passes its check gives its word, one that fails counts (R49, R51); and a word is requested
by its period, or once the gap after a frame is over (R49, R50). -/
def Obligations.PosInputs : Prop := ∀ (s₀ s : State) (n : Fin 8) (dt : Nat), s = s₀.pass dt → s.boot.mode = 0 →
  s.posClk = true → s.axEn n.val = true →
  (∀ (src : Fin 32) t0, src.val = n.val → s.axMode n.val = 0 → (s.axis n.val).lastAB = some t0 →
    t0 + s.axMinIv n.val false ≤ s.devTime →
    ((s.axis n.val).pinA != (s.axis n.val).decA) = !((s.axis n.val).pinB != (s.axis n.val).decB) →
    Goes (.minIntervalEnd src dt) s₀ (fun t =>
      (t.axis n.val).m = posAdd (s.axis n.val).m
        (if abForward (s.axis n.val).decA (s.axis n.val).pinA (s.axis n.val).pinB (s.bit (Reg.POS_AXCTLA n.val) 3)
          (s.bit (Reg.POS_AXCTLA n.val) 2) then 4096 else -4096) ∧
      (t.axis n.val).decA = (s.axis n.val).pinA ∧ (t.axis n.val).decB = (s.axis n.val).pinB ∧
      Keeps (inKeysI [Reg.POS_AXSTAT n.val, Reg.POS_AXIRQ n.val]) [.axes, .events, .out, .reports] s t)) ∧
  (∀ (src : Fin 32) t0, src.val = 8 + n.val → (s.axis n.val).lastZ = some t0 →
    (s.devTime < t0 + s.axMinIv n.val true ∨ (s.axis n.val).pinZ = (s.axis n.val).decZ →
      Goes (.minIntervalEnd src dt) s₀ (fun t => t = s)) ∧
    (t0 + s.axMinIv n.val true ≤ s.devTime → (s.axis n.val).pinZ ≠ (s.axis n.val).decZ →
      ((s.axis n.val).pinZ = s.bit (Reg.POS_AXCTLA n.val) 7 → Goes (.minIntervalEnd src dt) s₀ (fun t =>
        t.axis n.val = { s.axis n.val with decZ := (s.axis n.val).pinZ, lastZ := some s.devTime } ∧
        Keeps (inKeys []) [.axes] s t)) ∧
      ((s.axis n.val).pinZ ≠ s.bit (Reg.POS_AXCTLA n.val) 7 → s.axQualified n.val = true →
        s.bit (Reg.POS_AXSTAT n.val) 6 = false → s.axMode n.val = 0 → Goes (.minIntervalEnd src dt) s₀ (fun t =>
          t.rdPos (Reg.POS_AXIDX_LO n.val) = (s.axis n.val).m ∧ t.rd64 (Reg.POS_AXIDXT_LO n.val) = s.devTime % 2 ^ 64 ∧
          (t.axis n.val).decZ = (s.axis n.val).pinZ ∧ Same [.regs, .axes, .events, .out, .reports] s t)))) ∧
  (∀ (src : Fin 32) k t0, src.val = 16 + k → s.inOn k = true → (s.trigIn k).last = some t0 →
    (s.devTime < t0 + s.inMinIv k ∨ (s.trigIn k).pin = (s.trigIn k).level →
      Goes (.minIntervalEnd src dt) s₀ (fun t => t = s)) ∧
    (t0 + s.inMinIv k ≤ s.devTime → (s.trigIn k).pin ≠ (s.trigIn k).level → Goes (.minIntervalEnd src dt) s₀ (fun t =>
      (t.trigIn k).level = (s.trigIn k).pin ∧ (t.trigIn k).last = some s.devTime ∧
      (∀ m, m ≠ k → t.trigIn m = s.trigIn m) ∧
      Keeps (inKeys [Reg.TRG_INT_LO k, Reg.TRG_INT_LO k + 4, Reg.TRG_INPOS_LO k, Reg.TRG_INPOS_LO k + 4, Reg.TRG_INCNT k])
        [.trigIns, .events] s t))) ∧
  (∀ t0, (s.axis n.val).glitch = some t0 → t0 + s.axGlWin n.val ≤ s.devTime →
    Goes (.glitchCauseEnd n dt) s₀ (fun t =>
      t.hasCause 5 3 n.val = false ∧ (t.axis n.val).glitch = none ∧
      Keeps (inKeys [Reg.TOUCH_CLSSTAT 5]) [.axes, .causes, .expls, .touch] s t)) ∧
  (∀ z : Bool, (∀ t0, (s.axis n.val).lastZ = some t0 → t0 + s.axMinIv n.val true ≤ s.devTime) →
    z ≠ (s.axis n.val).decZ → z = !s.bit (Reg.POS_AXCTLA n.val) 7 → s.axQualified n.val = true →
    s.bit (Reg.POS_AXSTAT n.val) 6 = false → s.axMode n.val = 0 →
    Goes (.encZEdge n z dt) s₀ (fun t =>
      t.rdPos (Reg.POS_AXIDX_LO n.val) = (s.axis n.val).m ∧ t.rd64 (Reg.POS_AXIDXT_LO n.val) = s.devTime % 2 ^ 64 ∧
      t.rdPos (Reg.POS_AXIDXPREV_LO n.val) = s.rdPos (Reg.POS_AXIDX_LO n.val) ∧ t.bit (Reg.POS_AXIRQ n.val) 1 = true ∧
      (t.axis n.val).decZ = z ∧ Same [.regs, .axes, .events, .out, .reports] s t)) ∧
  (∀ a c : BitVec 14, s.axMode n.val = 1 → Goes (.sincosSample n a c dt) s₀ (fun t =>
    fldOf (t.rd (Reg.POS_AXADC n.val)) 0 16 = low 16 a.toInt ∧ fldOf (t.rd (Reg.POS_AXADC n.val)) 16 16 = low 16 c.toInt ∧
    Same [.regs, .axes, .events, .out, .reports, .causes, .expls, .touch] s t)) ∧
  (∀ per, per = usTicks (s.fld (Reg.POS_AXABSPER n.val) 0 16) →
    (per = 0 ∨ s.devTime < (s.axis n.val).tReq + per → Goes (.absRequest n dt) s₀ (fun t => t = s)) ∧
    (per ≠ 0 → (s.axis n.val).tReq + per ≤ s.devTime → s.axMode n.val = 2 →
      ((s.axis n.val).frame = none → (s.axis n.val).gap = none → Goes (.absRequest n dt) s₀ (fun t =>
        (t.axis n.val).frame = some s.devTime ∧ t.out = .sclk n.val s.devTime (absPeriod (s.rd (Reg.POS_AXABSCLK n.val)))
          (absLen (s.rd (Reg.POS_AXABSFMT n.val))) :: s.out ∧
        s.devTime < (t.axis n.val).tReq + per ∧ Keeps (inKeys []) [.axes, .out] s t)) ∧
      ((s.axis n.val).frame.isSome = true ∨ (s.axis n.val).gap.isSome = true → Goes (.absRequest n dt) s₀ (fun t =>
        (t.axis n.val).waiting = true ∧ s.devTime < (t.axis n.val).tReq + per ∧ Keeps (inKeys []) [.axes] s t)))) ∧
  ((s.axis n.val).gap = none → Goes (.absGapEnd n dt) s₀ (fun t => t = s)) ∧
  (∀ t0, (s.axis n.val).gap = some t0 →
    (s.devTime < t0 + s.absGap n.val → Goes (.absGapEnd n dt) s₀ (fun t => t = s)) ∧
    (t0 + s.absGap n.val ≤ s.devTime → s.axMode n.val = 2 → (s.axis n.val).frame = none → Goes (.absGapEnd n dt) s₀ (fun t =>
      (t.axis n.val).gap = none ∧ ((s.axis n.val).waiting = true → (t.axis n.val).frame = some s.devTime) ∧
      Keeps (inKeys []) [.axes, .out] s t))) ∧
  (∀ f t0, (s.axis n.val).frame = some t0 → s.devTime < s.absEnd n.val t0 → Goes (.absFrameEnd n f dt) s₀ (fun t => t = s)) ∧
  (∀ f t0, s.axMode n.val = 2 → (s.axis n.val).frame = some t0 → s.absEnd n.val t0 ≤ s.devTime →
    absGood (s.axis n.val).frameFmt (s.rd (Reg.POS_AXABSPOLY n.val)) f = false →
    Goes (.absFrameEnd n f dt) s₀ (fun t =>
      (t.axis n.val).frame = none ∧ (t.axis n.val).gap = some s.devTime ∧ t.fld (Reg.POS_AXABSERR n.val) 0 16 =
        satAdd 16 (s.fld (Reg.POS_AXABSERR n.val) 0 16) 1 ∧
      Keeps (inKeys [Reg.POS_AXABSERR n.val, Reg.TOUCH_CLSSTAT 5]) [.axes, .reports, .causes] s t)) ∧
  (∀ f t0 fmt, s.axMode n.val = 2 → (s.axis n.val).frame = some t0 → s.absEnd n.val t0 ≤ s.devTime → fmt = (s.axis n.val).frameFmt →
    absGood fmt (s.rd (Reg.POS_AXABSPOLY n.val)) f = true → (s.axis n.val).word = none → (s.axis n.val).absLoad = false →
    Goes (.absFrameEnd n f dt) s₀ (fun t =>
      (t.axis n.val).frame = none ∧ (t.axis n.val).gap = some s.devTime ∧ (t.axis n.val).word = some (absWord fmt f) ∧
      t.rd64 (Reg.POS_AXABSWORD_LO n.val) = natOfBits ((f.drop (fldOf fmt 6 2)).take (clampN 13 48 (fldOf fmt 0 6))) ∧
      (t.axis n.val).m = (s.axis n.val).m ∧ t.hasCause 5 5 n.val = false ∧
      Keeps (inKeys [Reg.POS_AXABSWORD_LO n.val, Reg.POS_AXABSWORD_LO n.val + 4, Reg.TOUCH_CLSSTAT 5])
        [.axes, .causes, .expls, .touch] s t))

/-- Standstill (R57) after POS_AXSTILLT without a change, and the end of a speed window (R63): the movement of E over
the window and its length show in POS_AXSPD and POS_AXSPDLEN. The publication tick (R53, R54, R56, R58, R65). An
enabled axis that does not hold publishes the extrapolated position where it lies ahead, and a reversal where the
measurement fell back by POS_AXHYST; the high-water mark follows; an axis that is disabled or holds keeps its
position; no measurement changes. -/
def Obligations.PosTime : Prop :=
  (∀ (s₀ s : State) (n : Fin 8) (dt : Nat), s = s₀.pass dt → s.boot.mode = 0 →
  s.posClk = true → s.axEn n.val = true →
  (s.bit (Reg.POS_AXSTAT n.val) 2 = false →
    (s.axis n.val).tChange + 1600 * s.fld (Reg.POS_AXSTILLT n.val) 0 17 ≤ s.devTime →
    Goes (.still n dt) s₀ (fun t =>
      t.bit (Reg.POS_AXSTAT n.val) 2 = true ∧ t.rd (Reg.POS_AXVEL n.val) = 0#32 ∧ t.bit (Reg.POS_AXIRQ n.val) 3 = true ∧
      (t.axis n.val).m = (s.axis n.val).m ∧ (t.axis n.val).v = 0 ∧
      Keeps (inKeysI [Reg.POS_AXSTAT n.val, Reg.POS_AXVEL n.val, Reg.POS_AXIRQ n.val]) [.axes, .events, .out] s t)) ∧
  ((s.axis n.val).spdT + (s.axis n.val).spdLen ≤ s.devTime →
    Goes (.spdwin n dt) s₀ (fun t =>
      t.rd64 (Reg.POS_AXSPD_LO n.val) =
        low 64 (posDiff (s.axE n.val ((s.axis n.val).spdT + (s.axis n.val).spdLen)) (s.axis n.val).spdM) ∧
      t.rd (Reg.POS_AXSPDLEN n.val) = w32 (s.axis n.val).spdLen ∧ t.bit (Reg.POS_AXIRQ n.val) 9 = true ∧
      (t.axis n.val).spdT = (s.axis n.val).spdT + (s.axis n.val).spdLen ∧
      Keeps (inKeysI [Reg.POS_AXSPD_LO n.val, Reg.POS_AXSPD_LO n.val + 4, Reg.POS_AXSPDLEN n.val, Reg.POS_AXIRQ n.val])
        [.axes, .events, .out] s t))) ∧
  (∀ (s₀ s : State) (dt : Nat), s = s₀.pass dt → s.boot.mode = 0 →
  (∀ n < 8, (s.axis n).resync = false) →
  (s.posClk = false → Goes (.positionPublish dt) s₀ (fun t => ∀ n < 8, t.axPos n = s.axPos n ∧ t.axHwm n = s.axHwm n ∧
    t.axis n = s.axis n)) ∧
  (s.posClk = true → Goes (.positionPublish dt) s₀ (fun t => ∀ n < 8, (t.axis n).m = (s.axis n).m ∧
    (s.axEn n = false ∨ s.axHold n = true → t.axPos n = s.axPos n ∧ t.axHwm n = s.axHwm n) ∧
    (s.axEn n = true → s.axHold n = false → ∀ far e, e = s.axE n s.devTime →
      far = (if aheadIn (s.axRev n) (s.axis n).m (s.axis n).far then (s.axis n).m else (s.axis n).far) →
      (∀ back : Prop, (back ↔ 0 < (posDiff far (s.axis n).m).natAbs ∧
          s.fld (Reg.POS_AXHYST n) 0 16 ≤ (posDiff far (s.axis n).m).natAbs) →
        (back → t.axPos n = (s.axis n).m ∧ t.rd (Reg.POS_AXVEL n) = 0#32 ∧ t.axRev n = !s.axRev n ∧
          t.bit (Reg.POS_AXIRQ n) 0 = true) ∧
        (¬ back → t.axRev n = s.axRev n ∧ (aheadIn (s.axRev n) e (s.axPos n) = true → t.axPos n = e ∧
            t.rd (Reg.POS_AXVEL n) = BitVec.ofInt 32 (s.axis n).v) ∧
          (aheadIn (s.axRev n) e (s.axPos n) = false → t.axPos n = s.axPos n))) ∧
      t.axHwm n = (if posLt (s.axHwm n) (t.axPos n) then t.axPos n else s.axHwm n)))))

/-- The bits of TRG_TSCMD (R78, R82 to R85). STOP clears RUN; ARM sets ARMED; CLRCNT clears the counters; START with
integer pitch 0 fails with TSBADCFG and else loads phase, count and run, and, with nothing armed, no camera and no
target passed, leaves the generator running at index 0 with its accumulator at the phase and its lead computed
(R79). A crossing of a generator's pending target issues its trigger (R75, R78, R79): TRG_TSTRIG and the index
step by one, or, sooner than TRG_TSMINPER after the last one, the trigger waits (R81), to issue when that interval
has passed. With nothing scheduled a crossing changes nothing; a crossing takes place at its own instant, however
far device time has come. -/
def Obligations.TrgGenerators : Prop :=
  (∀ (s : State) (g : Fin 96), Up s (Reg.TRG_TSCMD g.val) →
  (s.genRun g.val = true → Goes (.tscmdStop g) s (fun t =>
    t.rd (Reg.TRG_TSSTAT g.val) = putFld (s.rd (Reg.TRG_TSSTAT g.val)) 0 1 0 ∧
    (s.genMsg g.val = false → ∀ h, (t.gen h).run = (s.gen h).run ∧ (t.gen h).wait = (s.gen h).wait) ∧
    Keeps (inKeys [Reg.TRG_TSSTAT g.val]) [.gens, .pipes] s t)) ∧
  (s.genRun g.val = false → Goes (.tscmdStop g) s (fun t => t = s)) ∧
  Goes (.tscmdArm g) s (fun t =>
    t.rd (Reg.TRG_TSSTAT g.val) = putFld (s.rd (Reg.TRG_TSSTAT g.val)) 1 1 1 ∧
    t.gen g.val = { s.gen g.val with armRun := s.genRun g.val } ∧ (∀ h, h ≠ g.val → t.gen h = s.gen h) ∧
    Keeps (inKeys [Reg.TRG_TSSTAT g.val]) [.gens] s t) ∧
  Goes (.tscmdClrcnt g) s (fun t =>
    t.rd (Reg.TRG_TSTRIG g.val) = 0#32 ∧ t.rd (Reg.TRG_TSOVS g.val) = 0#32 ∧ t.rd (Reg.TRG_TSMISS g.val) = 0#32 ∧
    t.rd (Reg.TRG_TSDROP g.val) = 0#32 ∧
    Keeps (inKeys [Reg.TRG_TSTRIG g.val, Reg.TRG_TSOVS g.val, Reg.TRG_TSMISS g.val, Reg.TRG_TSDROP g.val]) [] s t) ∧
  ((s.gen g.val).pitchI = 0 → Goes (.tscmdStart g) s (fun t =>
    t.rd (Reg.TRG_TSSTAT g.val) = putFld (putFld (s.rd (Reg.TRG_TSSTAT g.val)) 1 1 0) 4 1 1 ∧
    t.reports = s.reports ++ [{ sig := 0xE03, src := g.val, level := 0, t := s.devTime }] ∧
    Keeps (inKeys [Reg.TRG_TSSTAT g.val]) [.reports, .sched] s t)) ∧
  (∀ L : Int, L = roundShift (s.axVel (s.genAxis g.val) * (s.genXdly g.val : Nat)) 24 →
    (s.gen g.val).pitchI ≠ 0 → s.genMsg g.val = false → s.bit (Reg.TRG_TSSTAT g.val) 1 = false →
    gridCount (xOfPos (s.rdPos (Reg.TRG_TSPHASE_LO g.val))) (s.genPitch g.val)
      (posAdd (s.axHwm (s.genAxis g.val)) (BitVec.ofInt 32 L).toInt) = 0 →
    Goes (.tscmdStart g) s (fun t =>
      t.genRun g.val = true ∧ t.genA g.val = xOfPos (s.rdPos (Reg.TRG_TSPHASE_LO g.val)) ∧
      t.genI g.val = 0 ∧ t.rd (Reg.TRG_TSLEAD g.val) = BitVec.ofInt 32 L ∧
      (t.gen g.val).phase = s.rdPos (Reg.TRG_TSPHASE_LO g.val) ∧ (t.gen g.val).lines = s.rdN (Reg.TRG_TSLINES g.val) ∧
      (t.gen g.val).run = (s.gen g.val).run + 1 ∧ (t.gen g.val).wait = none ∧ (∀ h, h ≠ g.val → t.gen h = s.gen h) ∧
      Keeps (inKeys [Reg.TRG_TSACC_LO g.val, Reg.TRG_TSACC_LO g.val + 4, Reg.TRG_TSACCF g.val, Reg.TRG_TSIDX g.val,
        Reg.TRG_TSSTAT g.val, Reg.TRG_TSLEAD g.val]) [.gens, .sched] s t))) ∧
  (∀ (s₀ s : State) (g : Fin 96) (dt : Nat), s = s₀.pass dt → s.boot.mode = 0 →
  (s.sched = [] → ∀ ecc, Goes (.crossing ecc) s (fun t => t = s)) ∧
  (∀ (tc i : Nat) (p : Posn) (r : List Cross) ecc, s.sched = { tc := tc, kind := .gen g.val (s.gen g.val).run i p } :: r →
    ((∀ last, (s.gen g.val).lastT = some last → last + s.genMinPer g.val ≤ tc) → Goes (.crossing ecc) s (fun t =>
      t.devTime = max s.devTime tc ∧ t.rdN (Reg.TRG_TSTRIG g.val) = (s.rdN (Reg.TRG_TSTRIG g.val) + 1) % 2 ^ 32 ∧
      t.genI g.val = (s.genI g.val + 1) % 2 ^ 32 ∧ (t.gen g.val).lastT = some tc ∧
      Same [.devTime, .freeIdx, .regs, .reports, .causes, .expls, .events, .gens, .pins, .pairs, .sched, .lanes, .bonds, .cams,
        .pipes, .crus, .twin, .clk, .touch, .out] s t)) ∧
    (∀ last, (s.gen g.val).lastT = some last → tc < last + s.genMinPer g.val → Goes (.crossing ecc) s (fun t =>
      (t.gen g.val).wait = some (last + s.genMinPer g.val) ∧ t.bit (Reg.TRG_TSSTAT g.val) 2 = true ∧
      t.rd (Reg.TRG_TSTRIG g.val) = s.rd (Reg.TRG_TSTRIG g.val) ∧
      Keeps (inKeys [Reg.TRG_TSSTAT g.val]) [.devTime, .sched, .gens, .events, .reports] s t))) ∧
  (∀ w, (s.gen g.val).wait = some w → w ≤ s.devTime → (s.genRun g.val = true ∨ (s.gen g.val).stopping = true) →
    Goes (.minperExpiry g dt) s₀ (fun t =>
      t.rdN (Reg.TRG_TSTRIG g.val) = (s.rdN (Reg.TRG_TSTRIG g.val) + 1) % 2 ^ 32 ∧ (t.gen g.val).lastT = some w ∧
      (t.gen g.val).wait = none ∧
      Same [.freeIdx, .regs, .reports, .causes, .expls, .events, .gens, .pins, .pairs, .sched, .lanes, .bonds, .cams, .pipes,
        .crus, .twin, .clk, .touch, .out] s t)) ∧
  ((∀ w, (s.gen g.val).wait = some w → s.devTime < w) → Goes (.minperExpiry g dt) s₀ (fun t => t = s)))

/-- The registers of a compare list (R88, R93, R101). A write of TRG_CLWR that would advance past the free entries
sets OVR and moves nothing; one of TRG_CLBASE or TRG_CLSIZE empties the ring; TRG_CLCTL takes its new value; a
word lands in the compare memory where the window and TRG_CMEMPAGE say. With TRG_LOCK closed the last three change
nothing and LOCKED is noted (R9). Output pins, pairs and trigger inputs (R95 to R98). A request that has run out
waits 32 ticks, stretched to 32 and counted where it was shorter; then it drops the output. An output of a pair
turns active when its dead time has passed; enabling a pair never leaves both outputs active; an accepted edge of
an enabled input latches time and position and counts, and one sooner than the minimum interval is rejected and
counted. -/
def Obligations.TrgListsAndPins : Prop :=
  (∀ (s : State) (l : Fin 64) (v : Word) (size : Bool) (off : BitVec 19), s.boot.mode = 0 →
  s.fnOk 0 = true → s.trgClk = true →
  ((fldOf v 0 16 < s.clSize l.val ∧ (fldOf v 0 16 + s.clSize l.val - s.clWr l.val % s.clSize l.val) % s.clSize l.val ≤
      (s.clRd l.val + 2 * s.clSize l.val - s.clWr l.val - 1) % s.clSize l.val) →
    Goes (.trgClwrWrite l v) s (fun t =>
      t.rdN (Reg.TRG_CLWR l.val) = fldOf v 0 16 ∧ t.bit (Reg.TRG_CLSTAT l.val) 5 = false ∧
      Keeps (inUnits [7]) [.reports, .events, .lists, .sched] s t)) ∧
  (¬ (fldOf v 0 16 < s.clSize l.val ∧ (fldOf v 0 16 + s.clSize l.val - s.clWr l.val % s.clSize l.val) % s.clSize l.val ≤
      (s.clRd l.val + 2 * s.clSize l.val - s.clWr l.val - 1) % s.clSize l.val) →
    Goes (.trgClwrWrite l v) s (fun t =>
      t.rd (Reg.TRG_CLSTAT l.val) = putFld (s.rd (Reg.TRG_CLSTAT l.val)) 5 1 1 ∧
      Keeps (inKeys [Reg.TRG_CLSTAT l.val]) [] s t)) ∧
  (s.unlocked .trg = true →
    Goes (.trgClbaseWrite l size v) s (fun t =>
      t.rd (if size then Reg.TRG_CLSIZE l.val else Reg.TRG_CLBASE l.val) = w32 (fldOf v 0 (if size then 17 else 16)) ∧
      t.rd (Reg.TRG_CLRD l.val) = 0#32 ∧ t.rd (Reg.TRG_CLWR l.val) = 0#32 ∧ t.bit (Reg.TRG_CLSTAT l.val) 0 = true ∧
      (t.clist l.val).loaded = false ∧ (t.clist l.val).wins = (s.clist l.val).wins ∧
      Keeps (inKeys [if size then Reg.TRG_CLSIZE l.val else Reg.TRG_CLBASE l.val, Reg.TRG_CLRD l.val, Reg.TRG_CLWR l.val,
        Reg.TRG_CLSTAT l.val]) [.lists, .sched] s t) ∧
    Goes (.trgClctlWrite l v) s (fun t =>
      t.rd (Reg.TRG_CLCTL l.val) = v &&& 0x1F#32 ∧ (s.clEn l.val = true → bitOf v 0 = false → (t.clist l.val).wins = []) ∧
      Same [.freeIdx, .regs, .reports, .events, .lists, .pins, .sched, .lanes, .cams, .pipes, .out] s t) ∧
    Goes (.cmemWindowWrite off v) s (fun t =>
      t.rd (Reg.CMEM (s.fld Reg.TRG_CMEMPAGE 0 1 * 32768 + off.toNat / 16) (off.toNat / 4 % 4)) = v ∧
      Keeps (inKeys [Reg.CMEM (s.fld Reg.TRG_CMEMPAGE 0 1 * 32768 + off.toNat / 16) (off.toNat / 4 % 4)]) [] s t)) ∧
  (s.unlocked .trg = false → ∀ c ∈ [Instr.trgClbaseWrite l size v, .trgClctlWrite l v, .cmemWindowWrite off v],
    Goes c s (fun t => t.reports = s.reports ++ [{ sig := 0xE01, src := 7, level := 0, t := s.devTime }] ∧
      Keeps (inKeys []) [.reports] s t))) ∧
  (∀ (s₀ s : State) (dt : Nat), s = s₀.pass dt → s.boot.mode = 0 →
  (∀ (p : Fin 32) (e : Nat), e = max (s.pin p.val).pulseEnd (s.pin p.val).start → (s.pin p.val).shaped = true →
    (s.pin p.val).endT = none → (s.pin p.val).fallT = none → s.pinRaw p.val s.devTime = false → e < s.devTime →
    s.devTime < max e ((s.pin p.val).start + 32) + 32 → s.pairOn (p.val / 2) = false → Goes (.pulseEnd p dt) s₀ (fun t =>
      t.pin p.val = { s.pin p.val with fallT := some (max e ((s.pin p.val).start + 32)) } ∧
      t.fld (Reg.TRG_PINSTR p.val) 0 16 = (if e < (s.pin p.val).start + 32
        then satAdd 16 (s.fld (Reg.TRG_PINSTR p.val) 0 16) 1 else s.fld (Reg.TRG_PINSTR p.val) 0 16) ∧
      (∀ q, q ≠ p.val → t.pin q = s.pin q) ∧ Keeps (inKeys [Reg.TRG_PINSTR p.val]) [.pins] s t)) ∧
  (∀ p : Fin 32, ∀ e, (s.pin p.val).fallT = some e → (s.pin p.val).endT = none → e + 32 ≤ s.devTime →
    s.pairOn (p.val / 2) = false → Goes (.pulseEnd p dt) s₀ (fun t =>
      (t.pin p.val).shaped = false ∧ (t.pin p.val).level = false ∧ (t.pin p.val).fallT = none ∧
      t.bit (Reg.TRG_PINLVL p.val) 0 = false ∧ t.bit (Reg.TRG_PINLVL p.val) 1 = s.bit (Reg.TRG_PINCFG p.val) 1 ∧
      (∀ q, q ≠ p.val → t.pin q = s.pin q) ∧ Keeps (inKeys [Reg.TRG_PINLVL p.val]) [.pins, .out] s t)) ∧
  (∀ p : Fin 32, s.pinRaw p.val s.devTime = true → (s.pin p.val).endT = none → (s.pin p.val).fallT = none →
    Goes (.pulseEnd p dt) s₀ (fun t => t = s)) ∧
  (∀ k : Fin 16, ∀ w, w ≤ s.devTime → (s.pin (2 * k.val)).endT = none → (s.pin (2 * k.val)).fallT = none →
    (s.pinRaw (2 * k.val) s.devTime = true ∨ (s.pin (2 * k.val)).shaped = false) →
    ((s.pair k.val).turn0 = some w → (s.pair k.val).turn1 = none → Goes (.deadTimeEnd k dt) s₀ (fun t =>
      (t.pin (2 * k.val)).level = true ∧ (t.pair k.val).turn0 = none ∧ (∀ q, q ≠ 2 * k.val → t.pin q = s.pin q) ∧
      Keeps (inKeys [Reg.TRG_PINLVL (2 * k.val)]) [.pins, .pairs, .out] s t)) ∧
    ((s.pair k.val).turn0 = none → (s.pair k.val).turn1 = some w → Goes (.deadTimeEnd k dt) s₀ (fun t =>
      (t.pin (2 * k.val + 1)).level = true ∧ (t.pair k.val).turn1 = none ∧ (∀ q, q ≠ 2 * k.val + 1 → t.pin q = s.pin q) ∧
      Keeps (inKeys [Reg.TRG_PINLVL (2 * k.val + 1)]) [.pins, .pairs, .out] s t))) ∧
  (∀ (k : Fin 16) (v : Word), Up s₀ (Reg.TRG_PAIRCTL k.val) → s₀.unlocked .trg = true →
    (s₀.pairOn k.val = bitOf v 0 → Goes (.trgPairctlWrite k v) s₀ (fun t =>
      t.rd (Reg.TRG_PAIRCTL k.val) = v &&& 0xFFF#32 ∧ Keeps (inKeys [Reg.TRG_PAIRCTL k.val]) [] s₀ t)) ∧
    (s₀.pairOn k.val ≠ bitOf v 0 → Goes (.trgPairctlWrite k v) s₀ (fun t =>
      t.rd (Reg.TRG_PAIRCTL k.val) = v &&& 0xFFF#32 ∧
      (bitOf v 0 = true → ((t.pin (2 * k.val)).level && (t.pin (2 * k.val + 1)).level) = false) ∧
      Keeps (inKeys [Reg.TRG_PAIRCTL k.val, Reg.TRG_PINLVL (2 * k.val), Reg.TRG_PINLVL (2 * k.val + 1)])
        [.pins, .pairs, .out] s₀ t))) ∧
  (∀ (n : Fin 16) (lvl : Bool), s.inOn n.val = true →
    (∀ t0, (s.trigIn n.val).last = some t0 → s.devTime < t0 + s.inMinIv n.val → Goes (.trigInEdge n lvl dt) s₀ (fun t =>
      t.rd (Reg.TRG_INGL n.val) = putFld (s.rd (Reg.TRG_INGL n.val)) 0 32 (satAdd 32 (s.fld (Reg.TRG_INGL n.val) 0 32) 1) ∧
      (t.trigIn n.val).level = (s.trigIn n.val).level ∧ (t.trigIn n.val).pin = lvl ∧
      Keeps (inKeys [Reg.TRG_INGL n.val]) [.trigIns] s t)) ∧
    ((∀ t0, (s.trigIn n.val).last = some t0 → t0 + s.inMinIv n.val ≤ s.devTime) → lvl ≠ (s.trigIn n.val).level →
      (s.bit (Reg.TRG_INCFG n.val) 2 = true ∨ lvl ≠ s.bit (Reg.TRG_INCFG n.val) 1) → Goes (.trigInEdge n lvl dt) s₀ (fun t =>
        t.rd64 (Reg.TRG_INT_LO n.val) = (s.devTime) % 2 ^ 64 ∧
        t.rdPos (Reg.TRG_INPOS_LO n.val) = s.axE (s.fld (Reg.TRG_INCFG n.val) 16 3) (s.devTime) ∧
        t.rdN (Reg.TRG_INCNT n.val) = (s.rdN (Reg.TRG_INCNT n.val) + 1) % 2 ^ 32 ∧ (t.trigIn n.val).level = lvl ∧
        (∀ m, m ≠ n.val → t.trigIn m = s.trigIn m) ∧
        Keeps (inKeys [Reg.TRG_INT_LO n.val, Reg.TRG_INT_LO n.val + 4, Reg.TRG_INPOS_LO n.val, Reg.TRG_INPOS_LO n.val + 4,
          Reg.TRG_INCNT n.val]) [.trigIns, .events] s t))))

/-- The event router (R102 to R108, R115). The oldest event leaves the queue and reaches the consumers that subscribe
to its channel, are clocked and whose gate passes: a position snapshot latches the time, capture-keep keeps a
camera's block in progress. A parity error disables its entry and is recorded. EVR_PUB and EVR_SUB take writes by
their fields, and route by their former contents to the end of the tick. -/
def Obligations.EventRouting : Prop := ∀ (s₀ s : State) (dt : Nat), s = s₀.pass dt → s.boot.mode = 0 → s.clkOn 233 = true →
  (∀ ch te r, s.events = (ch, te) :: r → Goes (.eventDeliver none dt) s₀ (fun t =>
    t.events = r ∧ t.devTime = s.devTime ∧
    (s.subscribed 640 ch = true → s.posClk = true → s.gateOk 640 = true →
      t.rd64 Reg.POS_SNAPT_LO = (s.devTime) % 2 ^ 64) ∧
    (∀ c b, c < 96 → s.subscribed (544 + c) ch = true → s.clkOn 235 = true → s.gateOk (544 + c) = true →
      (s.cru c).blocks.getLast? = some b → (t.cru c).blocks.getLast? = some { b with keep := true }) ∧
    ((∀ k < 641, s.subscribed k ch = false) → t = { s with events := r }) ∧
    Same [.events, .regs, .pins, .pairs, .chans, .crus, .out] s t)) ∧
  (s.events = [] → Goes (.eventDeliver none dt) s₀ (fun t => t = s)) ∧
  (∀ k : Fin 1024, s.events = [] → 32 ≤ k.val → k.val < 641 → s.bit Reg.EVR_PE 13 = false →
    Goes (.eventDeliver (some (true, k)) dt) s₀ (fun t =>
      t.bit (Reg.EVR_SUB k.val) 8 = false ∧ t.fld Reg.EVR_PE 0 10 = k.val ∧ t.bit Reg.EVR_PE 12 = true ∧
      t.bit Reg.EVR_PE 13 = true ∧ t.fld Reg.EVR_PE 16 16 = satAdd 16 (s.fld Reg.EVR_PE 16 16) 1 ∧
      t.reports = s.reports ++ [{ sig := 0xE05, src := 1024 + k.val, level := 3, t := s.devTime }] ∧
      Keeps (inKeys [Reg.EVR_SUB k.val, Reg.EVR_PE]) [.reports] s t)) ∧
  (∀ (k : Fin 1024) (v : Word), Up s₀ (Reg.EVR_PUB 0) →
    (s₀.unlocked .evr = false → ∀ sub, Goes (.evrEntryWrite sub k v) s₀ (fun t =>
      t.reports = s₀.reports ++ [{ sig := 0xE01, src := 8, level := 0, t := s₀.devTime }] ∧
      Keeps (inKeys []) [.reports] s₀ t)) ∧
    (s₀.unlocked .evr = true →
      (k.val < 866 → Goes (.evrEntryWrite false k v) s₀ (fun t =>
        t.rd (Reg.EVR_PUB k.val) = v &&& 0x1FF#32 ∧ t.evrEntry (Reg.EVR_PUB k.val) = s₀.evrEntry (Reg.EVR_PUB k.val) ∧
        Keeps (inKeys [Reg.EVR_PUB k.val]) [] s₀ t)) ∧
      (k.val < 641 → Goes (.evrEntryWrite true k v) s₀ (fun t =>
        t.rd (Reg.EVR_SUB k.val) = v &&& (if k.val < 32 then 0x1FE00#32 else 0x1FFFF#32) ∧
        t.evrEntry (Reg.EVR_SUB k.val) = s₀.evrEntry (Reg.EVR_SUB k.val) ∧
        Keeps (inKeys [Reg.EVR_SUB k.val]) [] s₀ t)) ∧
      (866 ≤ k.val → Goes (.evrEntryWrite false k v) s₀ (fun t => t = s₀)) ∧
      (641 ≤ k.val → Goes (.evrEntryWrite true k v) s₀ (fun t => t = s₀))))

/-- The control of a camera lane (R117, R144, R146, R148, Table 5.4). A write of LANE_CTL with rates that are not
allowed sets APPLYERR; one to an enabled lane waits in the shadow; to a disabled one it is applied and may wake
the lane. RESTART returns a running lane to DETECT, or A1SYNC (FAILED where it failed the start-up test, R35), and
waits for an inlay; APPLY takes the shadow over; CLRCNT and PRBSRST clear; a pattern checker that is on counts the
errors among the bits received. Equalisation (R130 to R132). A request is answered with its result and the taps it
leaves, a repeated one with the same answer; an answer to the outstanding request shows the partner's taps; a
request that stays unanswered for 20 µs is sent again, and after three repeats the attempt fails (R129). -/
def Obligations.LaneTraining : Prop :=
  (∀ (s : State) (n : Fin 104) (v : Word), Up s (Reg.LANE_CTL n.val) →
  (s.unlocked .lane = false → Goes (.laneCtlWrite n v) s (fun t =>
    t.reports = s.reports ++ [{ sig := 0xE01, src := 9, level := 0, t := s.devTime }] ∧ Keeps (inKeys []) [.reports] s t)) ∧
  (s.unlocked .lane = true →
    (laneCtlOk (v &&& 0x1FFF#32) = false → Goes (.laneCtlWrite n v) s (fun t =>
      t.rd (laneStat n.val) = putFld (s.rd (laneStat n.val)) 17 1 1 ∧ Keeps (inKeys [laneStat n.val]) [] s t)) ∧
    (laneCtlOk (v &&& 0x1FFF#32) = true → s.laneCtlBit n.val 0 = true → Goes (.laneCtlWrite n v) s (fun t =>
      t.rd (Reg.LANE_CTL n.val) = v &&& 0x1FFF#32 ∧
      t.rd (laneStat n.val) = putFld (putFld (s.rd (laneStat n.val)) 17 1 0) 18 1 1 ∧
      Keeps (inKeys [Reg.LANE_CTL n.val, laneStat n.val]) [] s t)) ∧
    (laneCtlOk (v &&& 0x1FFF#32) = true → s.laneCtlBit n.val 0 = false → Goes (.laneCtlWrite n v) s (fun t =>
      t.rd (Reg.LANE_CTL n.val) = v &&& 0x1FFF#32 ∧ t.rd (Reg.LANE_CTLA n.val) = v &&& 0x1FFF#32 ∧
      t.laneSt n.val = (if s.laneSt n.val = 0 ∧ bitOf v 0 = true then
        (if (s.lane n.val).testFail then 10 else if bitOf v 1 then 11 else 1) else s.laneSt n.val) ∧
      Keeps (inKeysD [Reg.LANE_CTL n.val, Reg.LANE_CTLA n.val, laneStat n.val, laneReg 0x10 n.val, laneReg 0x28 n.val,
        laneReg 0x4C n.val, Reg.LANE_SPRUE, Reg.TOUCH_CLSSTAT 0] s n.val)
        [.reports, .lanes, .causes, .expls, .touch, .out] s t))) ∧
  (s.laneInInlay n.val = true →
    Goes (.laneRestart n) s (fun t => (t.lane n.val).deferred = (s.lane n.val).deferred ||| 1 ∧
      (∀ m, m ≠ n.val → t.lane m = s.lane m) ∧ Keeps (inKeys []) [.lanes] s t) ∧
    Goes (.laneApply n) s (fun t => (t.lane n.val).deferred = (s.lane n.val).deferred ||| 2 ∧
      (∀ m, m ≠ n.val → t.lane m = s.lane m) ∧ Keeps (inKeys []) [.lanes] s t)) ∧
  (s.laneInInlay n.val = false →
    Goes (.laneRestart n) s (fun t =>
      t.laneSt n.val = (if s.laneSt n.val = 0 ∨ s.laneSt n.val = 9 ∨ s.laneSt n.val = 13 then s.laneSt n.val
        else if (s.lane n.val).testFail then 10 else if s.laneA1 n.val then 11 else 1) ∧
      (s.laneSt n.val = 13 → t = s) ∧ Same laneParts s t) ∧
    Goes (.laneApply n) s (fun t =>
      t.rd (Reg.LANE_CTLA n.val) = s.rd (Reg.LANE_CTL n.val) ∧ t.bit (laneStat n.val) 18 = false ∧
      (s.bit (Reg.LANE_CTL n.val) 0 = false → s.laneSt n.val ≠ 9 → s.laneSt n.val ≠ 13 → t.laneSt n.val = 0) ∧
      Same laneParts s t)) ∧
  Goes (.laneClrcnt n) s (fun t =>
    t.rd (Reg.LANE_HDRERR n.val) = 0#32 ∧ t.rd (Reg.LANE_CMAERR n.val) = 0#32 ∧ t.rd (Reg.LANE_TRN n.val) = 0#32 ∧
    t.rd (Reg.LANE_EQCNT n.val) = 0#32 ∧
    Keeps (inKeys [Reg.LANE_HDRERR n.val, Reg.LANE_CMAERR n.val, Reg.LANE_TRN n.val, Reg.LANE_EQCNT n.val]) [] s t) ∧
  Goes (.prbsrst n) s (fun t =>
    t.rd (Reg.LANE_PRBSERR n.val) = 0#32 ∧ t.lane n.val = { s.lane n.val with prbsSync := false, prbs := [] } ∧
    (∀ m, m ≠ n.val → t.lane m = s.lane m) ∧ Keeps (inKeys [Reg.LANE_PRBSERR n.val]) [.lanes] s t) ∧
  (∀ (s₀ : State) (bits : List Bool) (dt : Nat) (r : Prbs), s = s₀.pass dt →
    r = bits.foldl (Prbs.bit (s.fld (Reg.LANE_TEST n.val) 2 2))
      { h := (s.lane n.val).prbs, sync := (s.lane n.val).prbsSync, errs := 0 } →
    (s.bit (Reg.LANE_TEST n.val) 5 = true → s.laneSt n.val ∈ [0, 1, 9, 10] → Goes (.prbserr n bits dt) s₀ (fun t =>
      t.fld (Reg.LANE_PRBSERR n.val) 0 32 = satAdd 32 (s.fld (Reg.LANE_PRBSERR n.val) 0 32) r.errs ∧
      t.lane n.val = { s.lane n.val with prbs := r.h, prbsSync := r.sync } ∧
      (s.rd (Reg.LANE_PRBSERR n.val) = 0#32 → 0 < r.errs → t.bit (Reg.LANE_IRQ n.val) 9 = true) ∧
      Keeps (inKeysI [Reg.LANE_PRBSERR n.val, Reg.LANE_IRQ n.val]) [.lanes, .out] s t)) ∧
    (s.bit (Reg.LANE_TEST n.val) 5 = false → s.laneSt n.val = 9 → s.fld (Reg.LANE_TEST n.val) 0 2 = 3 →
      Goes (.prbserr n bits dt) s₀ (fun t => t = { s with out := .bits n.val bits :: s.out })))) ∧
  (∀ (s₀ s : State) (n : Fin 112) (blk : WireBlk) (b : BitVec 64) (dt : Nat),
  s = s₀.pass dt → s.boot.mode = 0 →
  (ctlOf blk 0x33 = some b →
    (s.laneSt n.val ≠ 4 → s.laneSt n.val ≠ 5 → Goes (.eqreq n blk dt) s₀ (fun t => t = s)) ∧
    (s.laneSt n.val = 4 ∨ s.laneSt n.val = 5 →
      (∀ a, (s.lane n.val).eqAnswer = some (blkBits b 8 8, a) → Goes (.eqreq n blk dt) s₀ (fun t =>
        t.lane n.val = { s.lane n.val with ctls := (s.lane n.val).ctls ++ [a] } ∧
        t.fld (laneReg 0x48 n.val) 8 8 = satAdd 8 (s.fld (laneReg 0x48 n.val) 8 8) 1 ∧
        Keeps (inKeys [laneReg 0x48 n.val]) [.lanes] s t)) ∧
      ((∀ q a, (s.lane n.val).eqAnswer = some (q, a) → q ≠ blkBits b 8 8) → Goes (.eqreq n blk dt) s₀ (fun t =>
        ∀ r, r = eqApply (tapsOf (s.rd (laneReg 0x28 n.val))) (blkBits b 16 2) (blkBits b 18 3) (blkBits b 21 3) →
          t.rd (laneReg 0x28 n.val) = tapWord r.1 ∧
          (t.lane n.val).ctls = (s.lane n.val).ctls ++ [eqAnswer (blkBits b 8 8) r.2 (tapWord r.1)] ∧
          (t.lane n.val).eqAnswer = some (blkBits b 8 8, eqAnswer (blkBits b 8 8) r.2 (tapWord r.1)) ∧
          Keeps (inKeysD [laneStat n.val, laneReg 0x28 n.val, laneReg 0x48 n.val, laneReg 0x10 n.val, Reg.LANE_SPRUE,
            Reg.TOUCH_CLSSTAT 0] s n.val) [.reports, .lanes, .causes, .expls, .touch, .out] s t)))) ∧
  (∀ r eyeh eyev, (s.lane n.val).eqReq = some r →
    (ctlOf blk 0x66 = some b →
      (s.laneSt n.val ≠ 4 ∨ blkBits b 8 8 ≠ r.seq → Goes (.eqrsp n blk eyeh eyev dt) s₀ (fun t => t = s)) ∧
      (s.laneSt n.val = 4 → blkBits b 8 8 = r.seq → Goes (.eqrsp n blk eyeh eyev dt) s₀ (fun t =>
        t.rd (laneReg 0x2C n.val) = w32 (blkBits b 24 6 + blkBits b 32 6 * 2 ^ 8 + blkBits b 40 6 * 2 ^ 16) ∧
        t.fld (laneReg 0x30 n.val) 8 16 = eyeh.toNat + eyev.toNat * 2 ^ 8 ∧ Same laneParts s t))) ∧
    (s.laneSt n.val = 4 → r.t + usTicks 20 ≤ s.devTime → r.repeats < 3 → Goes (.eqRequestTimeout n dt) s₀ (fun t =>
      (t.lane n.val).eqReq = some { r with repeats := r.repeats + 1, t := s.devTime } ∧
      t.fld (laneReg 0x48 n.val) 16 8 = satAdd 8 (s.fld (laneReg 0x48 n.val) 16 8) 1 ∧ t.laneSt n.val = 4 ∧
      Keeps (inKeys [laneReg 0x48 n.val]) [.lanes] s t)) ∧
    (s.laneSt n.val = 4 → r.t + usTicks 20 ≤ s.devTime → 3 ≤ r.repeats → Goes (.eqRequestTimeout n dt) s₀ (fun t =>
      t.laneSt n.val = (if n.val < 104 ∧ s.fld (Reg.LANE_CTLA n.val) 9 3 ≠ 0 ∧
        s.fld (Reg.LANE_CTLA n.val) 9 3 ≤ (s.lane n.val).tries + 1 ∨ (s.lane n.val).testFail = true then 10 else 1) ∧
      Same laneParts s t))))

/-- Bring-up of a camera or twin lane (R125 to R129, R137). A receiver found with LOS clear starts TRAIN; 100 ms in
DETECT raise NODETECT once; in TRAIN the lane takes the partner's masks and answers each block; a time limit of
Table 5.4 ends the attempt; in EQLOCK the first comma in its slot is block lock and the next with RXOK starts EQ;
a comma out of its slot is counted. -/
def Obligations.LaneBringup : Prop := ∀ (s₀ s : State) (n : Fin 112) (dt : Nat), s = s₀.pass dt → s.boot.mode = 0 →
  (∀ found clear : Bool,
    (s.laneSt n.val = 1 → Goes (.receiverDetect n found clear dt) s₀ (fun t =>
      t.laneSt n.val = (if found && clear then 2 else 1) ∧ t.bit (laneStat n.val) 4 = !clear ∧
      Keeps (inKeysD [laneStat n.val, laneReg 0x10 n.val, Reg.LANE_SPRUE, Reg.TOUCH_CLSSTAT 0] s n.val)
        [.reports, .lanes, .causes, .expls, .touch, .out] s t)) ∧
    (s.laneSt n.val ≠ 1 → Goes (.receiverDetect n found clear dt) s₀ (fun t => t = s))) ∧
  (s.laneSt n.val = 1 → (s.lane n.val).noDet = false → (s.lane n.val).since + usTicks 100000 ≤ s.devTime →
    Goes (.nodetect n dt) s₀ (fun t =>
      (t.lane n.val).noDet = true ∧ t.bit (laneReg 0x10 n.val) 7 = true ∧
      Keeps (inKeysI [laneReg 0x10 n.val]) [.lanes, .out] s t)) ∧
  (∀ blk : WireBlk,
    (s.laneSt n.val ≠ 2 → Goes (.train n blk dt) s₀ (fun t => t = s)) ∧
    (s.laneSt n.val = 2 → ctlOf blk 0x2D = none → Goes (.train n blk dt) s₀ (fun t =>
      (t.lane n.val).trRun = 0 ∧
      t.fld (laneReg 0x3C n.val) 0 32 = satAdd 32 (s.fld (laneReg 0x3C n.val) 0 32) (b2n (blkOf blk).isBad) ∧
      Keeps (inKeys [laneReg 0x3C n.val, laneReg 0x40 n.val]) [.lanes] s t)) ∧
    (∀ b, s.laneSt n.val = 2 → ctlOf blk 0x2D = some b →
      (trainOk n.val b = false → Goes (.train n blk dt) s₀ (fun t =>
        (t.lane n.val).trRun = 0 ∧ Keeps (inKeys []) [.lanes] s t)) ∧
      (trainOk n.val b = true → Goes (.train n blk dt) s₀ (fun t =>
        t.fld (laneReg 0x54 n.val) 0 10 = blkBits b 9 5 + blkBits b 14 5 * 2 ^ 5 ∧ Same laneParts s t)) ∧
      (trainOk n.val b = true → (s.lane n.val).trAck = false → (s.lane n.val).trLastTx = false →
        ((s.lane n.val).trRun + 1 < 8 → Goes (.train n blk dt) s₀ (fun t =>
          t.laneSt n.val = 2 ∧ (t.lane n.val).trRun = (s.lane n.val).trRun + 1 ∧
          Keeps (inKeys [laneReg 0x54 n.val]) [.lanes] s t)) ∧
        (∀ up dn, 8 ≤ (s.lane n.val).trRun + 1 →
          pickRate (s.laneRx n.val) (blkBits b 14 5) (s.laneCtlBit n.val 8) = some up →
          pickRate (s.laneTx n.val) (blkBits b 9 5) (s.laneCtlBit n.val 8) = some dn → Goes (.train n blk dt) s₀ (fun t =>
            t.laneSt n.val = 2 ∧ (t.lane n.val).trAck = true ∧ t.fld (laneStat n.val) 9 3 = up ∧
            t.fld (laneStat n.val) 12 3 = dn ∧
            Keeps (inKeys [laneReg 0x54 n.val, laneStat n.val]) [.lanes] s t))))) ∧
  (∀ m, m = s.devTime * 1000 / blockMilli 0 - s₀.devTime * 1000 / blockMilli 0 → 0 < m → s₀.laneSt n.val = 2 →
    (s₀.lane n.val).trAck = false → (s₀.lane n.val).trLastTx = false →
    (∃ w, Out.train n.val w m ∈ s.out ∧ blkBits w 0 8 = 0x2D ∧ blkBits w 8 1 = 0 ∧
      blkBits w 32 16 = (s₀.lane n.val).trSeq % 65536) ∧
    (s.lane n.val).trSeq = ((s₀.lane n.val).trSeq + m) % 65536) ∧
  (((s.laneSt n.val = 2 ∧ ((s.lane n.val).trLastTx && (s.lane n.val).trLastRx) = false ∧
      (s.lane n.val).since + usTicks 2000 ≤ s.devTime) ∨
    (s.laneSt n.val = 3 ∧ (s.lane n.val).since + usTicks 1000 ≤ s.devTime) ∨
    (s.laneSt n.val = 4 ∧ (s.lane n.val).since + usTicks 10000 ≤ s.devTime)) →
    Goes (.laneStateTimeout n dt) s₀ (fun t =>
      t.laneSt n.val = (if n.val < 104 ∧ s.fld (Reg.LANE_CTLA n.val) 9 3 ≠ 0 ∧
        s.fld (Reg.LANE_CTLA n.val) 9 3 ≤ (s.lane n.val).tries + 1 ∨ (s.lane n.val).testFail = true then 10 else 1) ∧
      t.fld (laneReg 0x44 n.val) 0 16 = satAdd 16 (s.fld (laneReg 0x44 n.val) 0 16) 1 ∧ Same laneParts s t)) ∧
  (s.laneSt n.val = 8 → n.val < 104 → s.lanePos n.val ≠ 15 → (s.lane n.val).since + s.relockTime n.val ≤ s.devTime →
    Goes (.laneStateTimeout n dt) s₀ (fun t =>
      t.laneSt n.val = 13 ∧ { sig := 2, src := n.val, level := 2, t := s.devTime } ∈ t.reports ∧ Same laneParts s t)) ∧
  (∀ (hdr : BitVec 2) (typ : BitVec 8) (mid : BitVec 16) (pat : BitVec 40) (gap run : Nat),
    (s.laneDue n.val = s → (isComma hdr.toNat (commaPay typ mid pat) = false ∨ ¬ (3 ≤ s.laneSt n.val ∧ s.laneSt n.val ≤ 8)) →
      Goes (.comma n hdr typ mid pat gap run dt) s₀ (fun t => t = s)) ∧
    (∀ (w : BitVec 64) (next : Nat), isComma hdr.toNat w = true → w = commaPay typ mid pat →
      next = (if (s.lane n.val).long then 8192 else 64) →
      (s.laneSt n.val = 3 → (s.lane n.val).comma = false → Goes (.comma n hdr typ mid pat gap run dt) s₀ (fun t =>
        t.laneSt n.val = 3 ∧ t.bit (laneStat n.val) 4 = false ∧ t.bit (laneStat n.val) 5 = true ∧
        (64 ≤ run → t.bit (laneStat n.val) 6 = true) ∧ (run < 64 → t.bit (laneStat n.val) 6 = s.bit (laneStat n.val) 6) ∧
        (t.lane n.val).comma = true ∧ (t.lane n.val).long = (blkBits w 16 1 == 1) ∧
        (t.lane n.val).commas.head? = some (blkBits w 18 6, s.devTime) ∧
        t.fld (laneReg 0x54 n.val) 16 5 = blkBits w 8 4 + 16 * blkBits w 17 1 ∧
        Keeps (inKeys [laneStat n.val, laneReg 0x54 n.val]) [.lanes, .reports] s t)) ∧
      (s.laneSt n.val = 3 → (s.lane n.val).comma = true → gap = next → 64 ≤ run → blkBits w 17 1 = 1 →
        Goes (.comma n hdr typ mid pat gap run dt) s₀ (fun t => t.laneSt n.val = 4 ∧ Same laneParts s t)) ∧
      (3 ≤ s.laneSt n.val → s.laneSt n.val ≤ 5 → (s.lane n.val).comma = true → gap ≠ next →
        Goes (.comma n hdr typ mid pat gap run dt) s₀ (fun t =>
          (t.lane n.val).comma = false ∧ t.laneSt n.val = s.laneSt n.val ∧ t.bit (laneReg 0x10 n.val) 3 = true ∧
          t.fld (laneReg 0x40 n.val) 0 16 = satAdd 16 (s.fld (laneReg 0x40 n.val) 0 16) 1 ∧
          Keeps (inKeysI [laneStat n.val, laneReg 0x54 n.val, laneReg 0x40 n.val, laneReg 0x10 n.val])
            [.reports, .lanes, .out] s t))))

/-- Detectors and sparing (R137 to R142, R150). LOS shows in LANE_STAT and LANE_IRQ unless the lane is out of service;
loss of lock is noted; header errors are counted, and above the threshold in service noted as BER; the confirmed
SWITCH moves the position to the spare, isolates the failed lane and keeps the bond ACTIVE; a SWITCH unconfirmed
for 20 µs is sent again, and then fails at L2; Alaol-1 lanes synchronise on commas, and one that stays out of sync
for 1 ms is isolated. -/
def Obligations.LaneFaultsAndSpares : Prop := ∀ (s₀ s : State) (dt : Nat), s = s₀.pass dt → s.boot.mode = 0 →
  (∀ n : Fin 112,
    (s.laneSt n.val = 0 ∨ s.laneSt n.val = 10 ∨ s.laneSt n.val = 13 → Goes (.los n dt) s₀ (fun t => t = s)) ∧
    (s.laneSt n.val ≠ 0 → s.laneSt n.val ≠ 10 → s.laneSt n.val ≠ 13 → Goes (.los n dt) s₀ (fun t =>
      t.bit (laneStat n.val) 4 = true ∧ t.bit (laneReg 0x10 n.val) 2 = true ∧ Same laneParts s t)) ∧
    (∀ kind : Fin 3, 3 ≤ s.laneSt n.val → s.laneSt n.val ≤ 8 → Goes (.lol n kind dt) s₀ (fun t =>
      t.bit (laneReg 0x10 n.val) 3 = true ∧ (t.lane n.val).comma = false ∧
      (kind.val < 2 → t.bit (laneStat n.val) 6 = false) ∧ (kind.val = 0 → t.bit (laneStat n.val) 5 = false) ∧
      (kind.val = 2 → t.fld (laneReg 0x40 n.val) 0 16 = satAdd 16 (s.fld (laneReg 0x40 n.val) 0 16) 1) ∧
      Same laneParts s t)) ∧
    (∀ kind : Fin 3, s.laneSt n.val = 12 →
      (kind.val < 2 → Goes (.lol n kind dt) s₀ (fun t =>
        t.bit (laneReg 0x10 n.val) 3 = true ∧ t.laneSt n.val = 11 ∧ Same laneParts s t)) ∧
      (kind.val = 2 → Goes (.lol n kind dt) s₀ (fun t => t = s))) ∧
    (∀ errs, Goes (.berInterval n errs dt) s₀ (fun t =>
      t.fld (laneReg 0x3C n.val) 0 32 = satAdd 32 (s.fld (laneReg 0x3C n.val) 0 32) errs ∧
      t.reports = s.reports ++ (if (s.laneSt n.val = 6 ∨ s.laneSt n.val = 7) ∧
        s.fld (laneReg 0x1C n.val) 16 8 < (s.lane n.val).ber + errs then
        [{ sig := 7, src := n.val, level := 0, t := s.devTime }] else []) ∧
      (t.lane n.val).ber = 0 ∧ Keeps (inKeys [laneReg 0x3C n.val]) [.reports, .lanes] s t))) ∧
  (∀ (n : Fin 104) (c : Nat) (w : Switch) (blk : WireBlk) (b : BitVec 64), ctlOf blk 0x4B = some b →
    s.laneSends n.val = true → s.laneBond n.val = some c → (s.bond c).sw = some w →
    w.spare = n.val → w.lane < 104 → w.lane ≠ n.val → (s.bond c).active = true → (s.bond c).late = [] →
    (∀ m, (s.lane m).deferred = 0) →
    blkBits b 12 1 = 1 → blkBits b 8 4 = w.pos → blkBits b 16 8 = w.seq →
    Goes (.switchConfirm n blk dt) s₀ (fun t =>
      (t.lane n.val).carry = some w.pos ∧ t.laneSt n.val = 6 ∧ t.laneSt w.lane = 13 ∧ (t.bond c).sw = none ∧
      (t.bond c).active = true ∧ t.bit (laneStat n.val) 15 = true ∧ Same laneParts s t)) ∧
  (∀ (c : Fin 96) (w : Switch), (s.bond c.val).sw = some w → w.t + usTicks 20 ≤ s.devTime →
    (w.again = false → Goes (.switchTimeout c dt) s₀ (fun t =>
      (t.bond c.val).sw = some { w with seq := ((s.bond c.val).swSeq + 1) % 256, again := true, t := s.devTime } ∧
      Keeps (inKeysD [] s w.lane) [.reports, .lanes, .bonds] s t)) ∧
    (w.again = true → Goes (.switchTimeout c dt) s₀ (fun t =>
      (t.bond c.val).sw = none ∧ { sig := 9, src := w.lane, level := 2, t := s.devTime } ∈ t.reports ∧
      Same laneParts s t))) ∧
  (∀ (n : Fin 104) (g : BitVec 10) (al : Fin 10) (sym : Option Sym) (k : Nat), sym = decSym? (s.lane n.val).a1Rx g →
    k = (if sym = some (true, 0xBC) then (if al.val = (s.lane n.val).a1Al then (s.lane n.val).a1Commas + 1 else 1)
      else if sym.isSome then (s.lane n.val).a1Commas else 0) →
    (s.laneSt n.val = 11 → k < 4 → Goes (.a1CodeGroup n g al dt) s₀ (fun t =>
      (t.lane n.val).a1Commas = k ∧ t.laneSt n.val = 11 ∧
      t.fld (laneReg 0x3C n.val) 0 32 = satAdd 32 (s.fld (laneReg 0x3C n.val) 0 32) (b2n sym.isNone) ∧
      Keeps (inKeys [laneReg 0x3C n.val]) [.lanes] s t)) ∧
    (s.laneSt n.val = 11 → 4 ≤ k → Goes (.a1CodeGroup n g al dt) s₀ (fun t =>
      t.laneSt n.val = 12 ∧ (t.lane n.val).a1Was = true ∧ Same laneParts s t)) ∧
    (s.laneSt n.val = 12 → al.val = (s.lane n.val).a1Al → sym = none → 4 ≤ (s.lane n.val).a1Err + 1 →
      Goes (.a1CodeGroup n g al dt) s₀ (fun t => t.laneSt n.val = 11 ∧ Same laneParts s t)) ∧
    (s.laneSt n.val = 12 → al.val = (s.lane n.val).a1Al → sym = none → (s.lane n.val).a1Err + 1 < 4 →
      Goes (.a1CodeGroup n g al dt) s₀ (fun t =>
        (t.lane n.val).a1Err = (s.lane n.val).a1Err + 1 ∧ (t.lane n.val).a1Run = 0 ∧ t.laneSt n.val = 12 ∧
        t.fld (laneReg 0x3C n.val) 0 32 = satAdd 32 (s.fld (laneReg 0x3C n.val) 0 32) 1 ∧
        Keeps (inKeys [laneReg 0x3C n.val]) [.lanes] s t)) ∧
    (s.laneSt n.val ≠ 11 → s.laneSt n.val ≠ 12 → Goes (.a1CodeGroup n g al dt) s₀ (fun t => t = s))) ∧
  (∀ n : Fin 104,
    (s.laneSt n.val = 11 → (s.lane n.val).a1Was = true → (s.lane n.val).since + usTicks 1000 < s.devTime →
      Goes (.a1syncTimeout n dt) s₀ (fun t => t.laneSt n.val = 13 ∧ Same laneParts s t)) ∧
    (s.laneSt n.val ≠ 11 → Goes (.a1syncTimeout n dt) s₀ (fun t => t = s)))

/-- Packets from a camera are checked header first, then body (R154, R158), once the lanes have taken their blocks: a
false HCRC or an unknown type counts and is noted, and the packet does nothing more; a false body counts, sets
LINK_CAMIRQ.PCRC and is noted. A bond that lacks a position brings nothing (R155). What a lane sends next (R157):
the data block of a trigger message right after its header, then trigger messages and SWITCH requests, EQREQ and
EQRSP, what is left of the packet in progress, and then the next packet, which waited behind those of its class
and of the classes before; a TSYNC takes its T1 as its header leaves (R166). Lines and frames (R159 to R161). The
first segment of several opens the line under assembly; a line or frame row that comes whole in one segment pairs
with the oldest record of its TIDX that expects one, counts, and that record and the older ones leave the queue;
records whose time limit has passed leave it too. A camera that does not deliver lines has its segments dropped,
and so does a line that began before the last inlay ended (R140). -/
def Obligations.LinkLines : Prop :=
  (∀ (s₀ u s : State) (c : Fin 96) (rx : BondRx) (p : Packet) (dt : Nat),
  u = s₀.pass dt → s = u.bondBlks c.val rx → s₀.boot.mode = 0 → ∀ q ∈ camForms u c rx dt,
  (u.bondHears c.val = false → Goes q.1 s₀ (fun t => t = u)) ∧
  (u.bondHears c.val = true →
    (s.linkClk = false ∨ pktHeader (bondStream rx) = none → Goes q.1 s₀ (fun t => t = s)) ∧
    (s.linkClk = true → Carries rx q.2.2 p →
      (hcrc (pktBytes p) ≠ pktBits p 56 8 ∨ pktBits p 0 8 ∉ pktTypes → Goes q.1 s₀ (fun t =>
        t.rd (Reg.LINK_CAMERR c.val) = putFld (s.rd (Reg.LINK_CAMERR c.val)) 0 16 (satAdd 16 (s.fld (Reg.LINK_CAMERR c.val) 0 16) 1) ∧
        t.reports = s.reports ++ [{ sig := 0x101, src := c.val, level := 0, t := s.devTime }] ∧
        Keeps (inKeys [Reg.LINK_CAMERR c.val]) [.reports] s t)) ∧
      (hcrc (pktBytes p) = pktBits p 56 8 → pktBits p 0 8 ∈ pktTypes → pktBits p 0 8 ≠ q.2.1 → Goes q.1 s₀ (fun t => t = s)) ∧
      (pktHdrOk p q.2.1 = true → pktWhole p (q.2.2 { hdr := p.hdr, data := [], cut := false }) = false → Goes q.1 s₀ (fun t =>
        t.rd (Reg.LINK_CAMERR c.val) = putFld (s.rd (Reg.LINK_CAMERR c.val)) 16 16 (satAdd 16 (s.fld (Reg.LINK_CAMERR c.val) 16 16) 1) ∧
        t.bit (Reg.LINK_CAMIRQ c.val) 5 = true ∧
        t.reports = s.reports ++ [{ sig := 0x102, src := c.val, level := 0, t := s.devTime }] ∧
        Keeps (inKeysI [Reg.LINK_CAMERR c.val, Reg.LINK_CAMIRQ c.val]) [.reports, .out] s t))))) ∧
  (∀ (x : LaneX) (t : Nat),
  (x.busy < 1023 →
    (∀ d, x.trigD = some d → x.next t = some (1, d, { x with trigD := none, busy := x.busy + 1 }, none)) ∧
    (x.trigD = none →
      (∀ m r, x.urgent = .trig m :: r →
        x.next t = some (2, m.hdr, { x with urgent := r, trigD := some m.data, busy := x.busy + 1 }, none)) ∧
      (∀ b r, x.urgent = .switch b :: r → x.next t = some (2, b, { x with urgent := r, busy := x.busy + 1 }, none)) ∧
      (x.urgent = [] →
        (∀ b r, x.ctls = b :: r → x.next t = some (2, b, { x with ctls := r, busy := x.busy + 1 }, none)) ∧
        (∀ d r, x.ctls = [] → x.cur = d :: r → x.next t = some (1, d, { x with cur := r, busy := x.busy + 1 }, none)) ∧
        (∀ q r, x.ctls = [] → x.cur = [] → x.pkts = q :: r →
          x.next t = some (2, q.hdr, { x with cur := q.blocks t, pkts := r, busy := x.busy + 1 }, q.sync)) ∧
        (x.ctls = [] → x.cur = [] → x.pkts = [] → x.next t = none)))) ∧
  (1023 ≤ x.busy → ∀ r, x.next t = some r → r.1 = 2 ∧ r.2.1 = 0x1E#64 ∧ r.2.2.1 = { x with busy := 0 }) ∧
  (∀ (p : TxPkt) (l : List TxPkt), l.Pairwise (fun a b => a.cls ≤ b.cls) →
    (pktInsert p l).Pairwise (fun a b => a.cls ≤ b.cls) ∧ (pktInsert p l).Perm (p :: l) ∧
    ∀ k, (pktInsert p l).filter (fun q => q.cls == k) = l.filter (fun q => q.cls == k) ++ [p].filter (fun q => q.cls == k))) ∧
  (∀ (s₀ u : State) (c : Fin 96) (dt : Nat), u = s₀.pass dt → s₀.boot.mode = 0 →
  (∀ (s : State) (rx : BondRx) (p : Packet), s = u.bondBlks c.val rx →
    (∀ q ∈ [(Instr.lineSegment c rx dt, 0x80), (.frameSegment c rx dt, 0x81)],
      Brings u c.val rx q.2 (fun p => pktBits p 44 12 + 1) p → s.camDelivers c.val = false → Goes q.1 s₀ (fun t => t = s)) ∧
    (s.camDelivers c.val = true →
      (Brings u c.val rx 0x80 (fun p => pktBits p 44 12 + 1) p → pktBits p 24 8 = 0 → pktBits p 32 1 = 0 →
        Goes (.lineSegment c rx dt) s₀ (fun t =>
          (t.cam c.val).asm = (if s.rxStart c.val rx < (s.bond c.val).resume then none else some {
            tidx := pktBits p 8 16, seg := 0, row := 0, freerun := pktBits p 33 1 == 1, bytes := p.data.take (p.data.length - 4)
            t0 := s.rxStart c.val rx }) ∧
          (t.cam c.val).recs = (s.cam c.val).recs ∧ Same [.freeIdx, .regs, .reports, .cams, .pipes, .out] s t)) ∧
      (∀ old r rest, splitRecs (s.camFmt c.val) (pktBits p 8 16) (s.cam c.val).recs = some (old, r, rest) →
        (s.bond c.val).resume ≤ s.rxStart c.val rx →
        (segBytes 0 (fmtLineb (s.camFmt c.val)) true p).length = fmtLineb (s.camFmt c.val) →
        (Brings u c.val rx 0x80 (fun p => pktBits p 44 12 + 1) p → pktBits p 24 8 = 0 → pktBits p 32 1 = 1 →
          pktBits p 33 1 = 0 → Goes (.lineSegment c rx dt) s₀ (fun t =>
            (t.cam c.val).recs = rest ∧ (t.cam c.val).asm = none ∧
            t.rdN (Reg.LINK_CAMLINES c.val) = (s.rdN (Reg.LINK_CAMLINES c.val) + 1) % 2 ^ 32 ∧
            Same [.freeIdx, .regs, .reports, .cams, .pipes, .out] s t)) ∧
        (Brings u c.val rx 0x81 (fun p => pktBits p 44 12 + 1) p → pktBits p 38 3 = 0 → pktBits p 41 1 = 1 →
          pktBits p 43 1 = 0 → pktBits p 24 14 = 0 → Goes (.frameSegment c rx dt) s₀ (fun t =>
            (t.cam c.val).recs = rest ∧ (t.cam c.val).asm = none ∧ (t.cam c.val).frameDrop = false ∧
            (t.cam c.val).frame = (if pktBits p 42 1 = 1 then none else some r) ∧
            t.rdN (Reg.LINK_CAMLINES c.val) = (s.rdN (Reg.LINK_CAMLINES c.val) + 1) % 2 ^ 32 ∧
            Same [.freeIdx, .regs, .reports, .cams, .pipes, .out] s t))))) ∧
  Goes (.lineRecordTimeout c dt) s₀ (fun t =>
    (t.cam c.val).recs = (u.cam c.val).recs.filter (fun r =>
      decide (u.devTime < r.expt + usTicks (u.fld (Reg.LINK_CAMLNTMO c.val) 0 16))) ∧
    Same [.freeIdx, .regs, .reports, .cams, .pipes, .out] u t))

/-- Time rounds (R166, R167). A round falls due LINK_TSPER after the one before and queues a TSYNC with the next SEQ;
the echo of the round in flight gives delay and offset from the four times, is answered with TRESULT, and sets or
clears TIMEOK by TSLIM; a round without an echo for 100 µs is abandoned. Heartbeats (R169, R170). The device HEART
goes, LINK_HBPER after the one before, to every camera whose bond is ACTIVE; a camera's HEART is copied with its
flags and ends HBLOST; three periods without one raise it once, also after the bond has left ACTIVE while
LINK_CAMSTAT.HBOK is still set. -/
def Obligations.LinkTimeAndHeartbeats : Prop :=
  (∀ (s₀ u : State) (c : Fin 96) (dt : Nat), u = s₀.pass dt → s₀.boot.mode = 0 →
  (u.linkClk = true → u.bit (Reg.LINK_CAMCFGA c.val) 0 = true → u.bit (Reg.LINK_CAMCFGA c.val) 7 = true →
    (u.bond c.val).active = true → u.camA1 c.val = false →
    (∀ t0, (u.cam c.val).tsSent = some t0 → t0 + usTicks (clampN 100 1000 (u.fld Reg.LINK_TSPER 0 16)) ≤ u.devTime) →
    Goes (.tsync c dt) s₀ (fun t =>
      t.cam c.val = { u.cam c.val with
        round := none, roundSeq := ((u.cam c.val).roundSeq + 1) % 2 ^ 32, tsSent := some u.devTime } ∧
      Waits u t c.val { cls := 2, hdr := pktHdr 0x92, data := [0#64, 0#64], sync := some (c.val, (u.cam c.val).roundSeq) } ∧
      (∀ m, m ≠ c.val → t.cam m = u.cam m) ∧ Keeps (inKeys []) [.cams, .lanes] u t)) ∧
  (u.linkClk = false ∨ u.bit (Reg.LINK_CAMCFGA c.val) 0 = false ∨ u.bit (Reg.LINK_CAMCFGA c.val) 7 = false ∨
    (u.bond c.val).active = false ∨ u.camA1 c.val = true ∨
    (∃ t0, (u.cam c.val).tsSent = some t0 ∧ u.devTime < t0 + usTicks (clampN 100 1000 (u.fld Reg.LINK_TSPER 0 16))) →
    Goes (.tsync c dt) s₀ (fun t => t = u)) ∧
  (∀ (s : State) (rx : BondRx) (p : Packet) (seq t1 : Nat) (dly ofs : Int), s = u.bondBlks c.val rx →
    Brings u c.val rx 0x93 (fun _ => 3) p →
    (s.cam c.val).round = some (seq, t1) → leAt p.data 0 4 = seq → s.capsOn c.val = false →
    dly = 8 * (((s.devTime : Nat) : Int) - t1 - ((leAt p.data 12 8 : Int) - leAt p.data 4 8)) →
    ofs = 8 * ((leAt p.data 4 8 : Int) - t1 - (((s.devTime : Nat) : Int) - leAt p.data 12 8)) →
    Goes (.tsecho c rx dt) s₀ (fun t =>
      (t.cam c.val).round = none ∧ t.fld (Reg.LINK_CAMDLY c.val) 0 24 = low 24 dly ∧
      t.rd64 (Reg.LINK_CAMOFS_LO c.val) = low 64 ofs ∧
      (∀ d, d = leBytes 4 seq ++ leBytes 8 (low 64 ofs) ++ leBytes 4 (low 32 dly) →
        Waits s t c.val { cls := 2, hdr := pktHdr 0x94, data := pktBlocks 0x94 (pktLen d) d }) ∧
      t.bit (Reg.LINK_CAMSTAT c.val) 2 = !decide (s.fld Reg.LINK_TSLIM 0 16 < (sgn 64 (low 64 ofs)).natAbs) ∧
      t.reports = s.reports ++ (if s.fld Reg.LINK_TSLIM 0 16 < (sgn 64 (low 64 ofs)).natAbs then
        [{ sig := 0x106, src := c.val, level := 1, t := s.devTime }] else []) ∧
      Keeps (inKeysI [Reg.LINK_CAMDLY c.val, Reg.LINK_CAMOFS_LO c.val, Reg.LINK_CAMOFS_LO c.val + 4, Reg.LINK_CAMSTAT c.val,
        Reg.LINK_CAMIRQ c.val]) [.lanes, .cams, .reports, .out] s t)) ∧
  ((u.cam c.val).round = none → Goes (.timeRoundTimeout c dt) s₀ (fun t => t = u)) ∧
  (∀ seq t1, (u.cam c.val).round = some (seq, t1) →
    (u.devTime < t1 + usTicks 100 → Goes (.timeRoundTimeout c dt) s₀ (fun t => t = u)) ∧
    (t1 + usTicks 100 ≤ u.devTime → u.capsOn c.val = false → Goes (.timeRoundTimeout c dt) s₀ (fun t =>
      (t.cam c.val).round = none ∧ Keeps (inKeys []) [.cams] u t)) ∧
    (t1 + usTicks 100 ≤ u.devTime → u.capsOn c.val = true → Goes (.timeRoundTimeout c dt) s₀ (fun t =>
      (t.cam c.val).round = none ∧ t.fld (Reg.LINK_CAMSTAT c.val) 0 2 = 2 ∧ t.bit (Reg.LINK_CAMSTAT c.val) 2 = false ∧
      Same laneParts u t)))) ∧
  (∀ (s₀ u : State) (c : Fin 96) (dt : Nat), u = s₀.pass dt → s₀.boot.mode = 0 →
  (∀ due, due = u.heartCams.filter (fun c => (u.cam c).hbSent.all (fun t => decide (t + usTicks u.hbPer ≤ u.devTime))) →
    u.linkClk = true → Goes (.heart dt) s₀ (fun t =>
      (∀ k ∈ due, Waits u t k { cls := 2, hdr := pktHdr (0xA0 + u.heartBits false * 256), data := [] } ∧
        t.cam k = { u.cam k with hbSent := some u.devTime }) ∧
      (∀ k, k ∉ due → t.cam k = u.cam k) ∧ Keeps (inKeys []) [.cams, .lanes] u t)) ∧
  (u.linkClk = false → Goes (.heart dt) s₀ (fun t => t = u)) ∧
  (∀ (s : State) (rx : BondRx) (p : Packet), s = u.bondBlks c.val rx → Brings u c.val rx 0xA1 (fun _ => 2) p →
    (s.bond c.val).active = true → Goes (.cameraHeart c rx dt) s₀ (fun t =>
      t.rd (Reg.LINK_CAMHB0 c.val) = w32 (leAt p.data 0 4) ∧ t.rd (Reg.LINK_CAMHB1 c.val) = w32 (leAt p.data 4 4) ∧
      t.rd (Reg.LINK_CAMHB2 c.val) = w32 (leAt p.data 8 4) ∧ t.bit (Reg.LINK_CAMSTAT c.val) 5 = true ∧
      t.bit (Reg.LINK_CAMSTAT c.val) 3 = (leAt p.data 9 1 / 2 % 2 == 1) ∧
      t.bit (Reg.LINK_CAMSTAT c.val) 4 = (leAt p.data 9 1 / 4 % 2 == 1) ∧
      (t.cam c.val).lastHb = s.devTime ∧ (t.cam c.val).hbLost = false ∧ (t.cam c.val).epoch = leAt p.data 10 2 ∧
      Same [.regs, .reports, .events, .lanes, .cams, .views, .pages, .twin, .memx, .mboxes, .bench, .clk, .devMem, .out] s t)) ∧
  (u.linkClk = true → (u.bond c.val).active = true ∨ u.bit (Reg.LINK_CAMSTAT c.val) 5 = true → u.camA1 c.val = false →
    (u.cam c.val).hbLost = false → (u.cam c.val).lastHb + usTicks (3 * u.hbPer) ≤ u.devTime → Goes (.hblost c dt) s₀ (fun t =>
      (t.cam c.val).hbLost = true ∧ t.bit (Reg.LINK_CAMSTAT c.val) 5 = false ∧ t.bit (Reg.LINK_CAMIRQ c.val) 2 = true ∧
      t.reports = u.reports ++ [{ sig := 0x105, src := c.val, level := 0, t := u.devTime }] ∧
      Keeps (inKeysI [Reg.LINK_CAMSTAT c.val, Reg.LINK_CAMIRQ c.val]) [.cams, .reports, .out] u t)) ∧
  (((u.bond c.val).active = false ∧ u.bit (Reg.LINK_CAMSTAT c.val) 5 = false) ∨ (u.cam c.val).hbLost = true ∨
    u.devTime < (u.cam c.val).lastHb + usTicks (3 * u.hbPer) → Goes (.hblost c dt) s₀ (fun t => t = u)))

/-- The capability exchange and the registers of a camera (R171 to R176, R180). CAPR is kept, and a VERSION outside
0x20 to 0x2F fails the exchange; a valid table is kept under its FMTID; CAPEND ends the exchange as the checks
say; a response frees the TAG it answers, one that nothing awaits counts as late, and a request without one ends
after LINK_REGTMO. LINK_CAMCFG is a shadow while the bond is ACTIVE. Code groups of an Alaol-1 lane that hold a
packet do the same for its LINE and REGRSP. -/
def Obligations.LinkExchange : Prop := ∀ (s₀ u : State) (c : Fin 96) (dt : Nat), u = s₀.pass dt → s₀.boot.mode = 0 →
  (∀ (s : State) (rx : BondRx) (p : Packet), s = u.bondBlks c.val rx →
    (Brings u c.val rx 0xC1 (fun _ => 17) p → s.capsOn c.val = true →
      (0x20 ≤ leAt p.data 0 1 → leAt p.data 0 1 ≤ 0x2F → Goes (.capr c rx dt) s₀ (fun t =>
        t.rdBytes (Reg.LINK_CAPREC c.val 0) 128 = p.data.take 128 ∧ (t.cam c.val).gotRec = true ∧ t.capsOn c.val = true ∧
        (∀ m, m ≠ c.val → t.cam m = s.cam m) ∧ Same [.regs, .cams] s t)) ∧
      (¬ (0x20 ≤ leAt p.data 0 1 ∧ leAt p.data 0 1 ≤ 0x2F) → Goes (.capr c rx dt) s₀ (fun t =>
        t.fld (Reg.LINK_CAMSTAT c.val) 0 2 = 3 ∧ t.bit (Reg.LINK_CAMIRQ c.val) 1 = true ∧
        { sig := 0x107, src := c.val, level := 0, t := s.devTime } ∈ t.reports ∧ Same laneParts s t))) ∧
    (Brings u c.val rx 0xC2 (fun p => pktBits p 44 12 + 1) p → s.capsOn c.val = true →
      (∀ l, (s.cam c.val).lastFmt = some l → l < pktBits p 8 8) →
      (s.bit (Reg.LINK_CAMCFGA c.val) 1 = true ∨ fmtOk (p.data.take (64 + 8 * (pktBits p 44 12 - 8))) = true) →
      Goes (.fmt c rx dt) s₀ (fun t =>
        (t.cam c.val).tables = (s.cam c.val).tables ++ [(pktBits p 8 8, p.data.take (64 + 8 * (pktBits p 44 12 - 8)))] ∧
        (t.cam c.val).lastFmt = some (pktBits p 8 8) ∧ (t.cam c.val).nGot = (s.cam c.val).nGot + 1 ∧
        t.fld (Reg.LINK_CAMSTAT c.val) 8 5 = min 16 ((s.cam c.val).nGot + 1) ∧ t.capsOn c.val = true ∧
        Keeps (inKeys [Reg.LINK_CAMSTAT c.val]) [.cams] s t)) ∧
    (Brings u c.val rx 0xC3 (fun _ => 0) p → s.capsOn c.val = true →
      (s.capsGood c.val (pktBits p 8 8) = false → Goes (.capend c rx dt) s₀ (fun t =>
        t.fld (Reg.LINK_CAMSTAT c.val) 0 2 = 3 ∧ t.bit (Reg.LINK_CAMIRQ c.val) 1 = true ∧ Same laneParts s t)) ∧
      (s.capsGood c.val (pktBits p 8 8) = true → s.bit (Reg.LINK_CAMCFGA c.val) 7 = true →
        Goes (.capend c rx dt) s₀ (fun t =>
          t.capsOn c.val = true ∧ (t.cam c.val).roundSeq = ((s.cam c.val).roundSeq + 1) % 2 ^ 32 ∧
          Waits s t c.val { cls := 2, hdr := pktHdr 0x92, data := [0#64, 0#64], sync := some (c.val, (s.cam c.val).roundSeq) } ∧
          Keeps (inKeys []) [.cams, .lanes] s t)) ∧
      (s.capsGood c.val (pktBits p 8 8) = true → s.bit (Reg.LINK_CAMCFGA c.val) 7 = false →
        Goes (.capend c rx dt) s₀ (fun t =>
          t.fld (Reg.LINK_CAMSTAT c.val) 0 2 = 2 ∧ (t.bond c.val).active = true ∧ t.bit (Reg.LINK_CAMIRQ c.val) 0 = true ∧
          (t.cam c.val).lastHb = s.devTime ∧ Same laneParts s t))) ∧
    (Brings u c.val rx 0xB2 (u.rspBlocks c.val) p →
      (s.regReq c.val (pktBits p 8 8) = none → Goes (.regrsp c rx dt) s₀ (fun t =>
        t.fld (Reg.LINK_CAMREG c.val) 16 16 = satAdd 16 (s.fld (Reg.LINK_CAMREG c.val) 16 16) 1 ∧
        Keeps (inKeys [Reg.LINK_CAMREG c.val]) [] s t)) ∧
      (∀ r, s.regReq c.val (pktBits p 8 8) = some r → Goes (.regrsp c rx dt) s₀ (fun t =>
        t.regReq c.val (pktBits p 8 8) = none ∧ (∀ m, m ≠ c.val → t.cam m = s.cam m) ∧
        Same [.cams, .mboxes, .bench] s t)))) ∧
  (∀ (tag : Fin 16) (r : RegReq), u.linkClk = true → u.regReq c.val tag.val = some r →
    r.t + usTicks (u.fld Reg.LINK_REGTMO 0 16) ≤ u.devTime → Goes (.regTimeout c tag dt) s₀ (fun t =>
      t.regReq c.val tag.val = none ∧
      t.fld (Reg.LINK_CAMREG c.val) 0 16 = satAdd 16 (u.fld (Reg.LINK_CAMREG c.val) 0 16) 1 ∧
      Keeps (inKeys [Reg.LINK_CAMREG c.val]) [.cams, .mboxes, .bench] u t)) ∧
  (∀ v : Word, Up s₀ (Reg.LINK_CAMCFG c.val) →
    (s₀.unlocked .link = false → Goes (.linkCamcfgWrite c v) s₀ (fun t =>
      t.reports = s₀.reports ++ [{ sig := 0xE01, src := 10, level := 0, t := s₀.devTime }] ∧
      Keeps (inKeys []) [.reports] s₀ t)) ∧
    (s₀.unlocked .link = true → (s₀.bond c.val).active = true → Goes (.linkCamcfgWrite c v) s₀ (fun t =>
      t.rd (Reg.LINK_CAMCFG c.val) = v &&& 0xFF#32 ∧ t.bit (Reg.LINK_CAMSTAT c.val) 6 = true ∧
      Keeps (inKeys [Reg.LINK_CAMCFG c.val, Reg.LINK_CAMSTAT c.val]) [] s₀ t)) ∧
    (s₀.unlocked .link = true → (s₀.bond c.val).active = false → Goes (.linkCamcfgWrite c v) s₀ (fun t =>
      t.rd (Reg.LINK_CAMCFG c.val) = v &&& 0xFF#32 ∧ t.rd (Reg.LINK_CAMCFGA c.val) = v &&& 0xFF#32 ∧
      t.bit (Reg.LINK_CAMSTAT c.val) 6 = false ∧ t.bit (Reg.LINK_CAMSTAT c.val) 7 = false ∧ Same laneParts s₀ t))) ∧
  (∀ (n : Fin 104) (gs : List (BitVec 10)) (s : State), s = u.each gs (fun t g => t.a1Group n.val g (t.lane n.val).a1Al) →
    u.laneA1 n.val = true → u.laneSt n.val = 12 → s.laneSt n.val = 12 → s.laneBond n.val = some c.val → s.linkClk = true →
    ((a1Decode (u.lane n.val).a1Rx gs).bind a1Body = none → Goes (.a1Packet n gs dt) s₀ (fun t =>
      t.fld (Reg.LINK_CAMERR c.val) 16 16 = satAdd 16 (s.fld (Reg.LINK_CAMERR c.val) 16 16) 1 ∧
      t.bit (Reg.LINK_CAMIRQ c.val) 5 = true ∧
      t.reports = s.reports ++ [{ sig := 0x102, src := c.val, level := 0, t := s.devTime }] ∧
      Keeps (inKeysI [Reg.LINK_CAMERR c.val, Reg.LINK_CAMIRQ c.val]) [.reports, .out] s t)) ∧
    (∀ bs, (a1Decode (u.lane n.val).a1Rx gs).bind a1Body = some bs →
      (leAt bs 0 1 ≠ 1 → leAt bs 0 1 ≠ 5 → Goes (.a1Packet n gs dt) s₀ (fun t =>
        t.fld (Reg.LINK_CAMERR c.val) 0 16 = satAdd 16 (s.fld (Reg.LINK_CAMERR c.val) 0 16) 1 ∧
        t.reports = s.reports ++ [{ sig := 0x101, src := c.val, level := 0, t := s.devTime }] ∧
        Keeps (inKeys [Reg.LINK_CAMERR c.val]) [.reports] s t)) ∧
      (leAt bs 0 1 = 5 → a1Whole bs (max bs.length 7) = true → bs.length % 4 = 3 → Goes (.a1Packet n gs dt) s₀ (fun t =>
        t.regReq c.val (leAt bs 1 1) = none ∧ Same [.regs, .cams, .mboxes, .bench] s t)) ∧
      (∀ old r rest, leAt bs 0 1 = 1 → a1Whole bs (11 + leAt bs 3 4) = true → s.camDelivers c.val = true →
        (s.bond c.val).resume ≤ s.devTime →
        splitRecs (s.camFmt c.val) (leAt bs 1 2) (s.cam c.val).recs = some (old, r, rest) →
        leAt bs 3 4 = fmtLineb (s.camFmt c.val) → Goes (.a1Packet n gs dt) s₀ (fun t =>
          (t.cam c.val).recs = rest ∧ t.rdN (Reg.LINK_CAMLINES c.val) = (s.rdN (Reg.LINK_CAMLINES c.val) + 1) % 2 ^ 32 ∧
          Same [.freeIdx, .regs, .reports, .cams, .pipes, .out] s t))))

/-- The commands and control of a pipeline (R220, R222, R224, Table 7.7). ARM sets PEND; CLRCNT clears four counters;
PIPE_CTL enables, and disabling stops acceptance at once; PIPE_BIND is refused with BADCFG while EN is set and
else starts the block count anew; the copy that a swap began ends with the shadow equal to the active bank.
Errors, inlay and self-tests of pipelines (R35, R225, R494, R495). Cache errors and residue failures count and are
reported at their levels; a sprue that has loaded both banks from the image accepts lines; a self-test, by the
bench while it serves, marks an idle sprue unit available or not, and leaves one in use alone: a spare in STANDBY
by what it received, a lane without a cable by 10 µs of PRBS31 in the near-end loop. -/
def Obligations.PipeControl : Prop :=
  ((∀ (s : State) (n : Fin 104) (v : Word), Up s (Reg.PIPE_CTL n.val) →
  Goes (.pipeCmdArm n) s (fun t =>
    t.rd (Reg.PIPE_STAT n.val) = putFld (s.rd (Reg.PIPE_STAT n.val)) 2 1 1 ∧ Keeps (inKeys [Reg.PIPE_STAT n.val]) [] s t) ∧
  Goes (.pipeClrcnt n) s (fun t =>
    t.rd (Reg.PIPE_OVF n.val) = 0#32 ∧ t.rd (Reg.PIPE_DPCCNT n.val) = 0#32 ∧ t.rd (Reg.PIPE_GAPCNT n.val) = 0#32 ∧
    t.rd (Reg.PIPE_GRIDERR n.val) = 0#32 ∧ Keeps (inKeys [Reg.PIPE_OVF n.val, Reg.PIPE_DPCCNT n.val, Reg.PIPE_GAPCNT n.val,
      Reg.PIPE_GRIDERR n.val]) [] s t) ∧
  (s.unlocked .pipe = false → ∀ c ∈ [Instr.pipeCtlWrite n v, .pipeBindWrite n v],
    Goes c s (Reports 0xE01 11 0 s)) ∧
  (s.unlocked .pipe = true →
    Goes (.pipeCtlWrite n v) s (fun t =>
      t.pipeEn n.val = bitOf v 0 ∧
      (s.pipeEn n.val = false → bitOf v 0 = true → s.bit (Reg.PIPE_BIND n.val) 0 = true → s.pipeBit n.val 6 = false →
        t.pipeBit n.val 7 = true) ∧
      (s.pipeEn n.val = true → bitOf v 0 = false → t.pipeBit n.val 0 = false ∧ t.pipeBit n.val 7 = false) ∧
      (s.pipeEn n.val = bitOf v 0 → t.pipe n.val = s.pipe n.val) ∧ (∀ m, m ≠ n.val → t.pipe m = s.pipe m) ∧
      Keeps (inKeys [Reg.PIPE_CTL n.val, Reg.PIPE_STAT n.val, Reg.PIPE_DPCCNT n.val]) [.freeIdx, .pipes] s t) ∧
    (s.pipeEn n.val = true → Goes (.pipeBindWrite n v) s (fun t =>
      t.pipeBit n.val 4 = true ∧ t.bit (Reg.PIPE_IRQ n.val) 2 = true ∧
      Keeps (inKeysI [Reg.PIPE_STAT n.val, Reg.PIPE_IRQ n.val]) [.out] s t)) ∧
    (s.pipeEn n.val = false → Goes (.pipeBindWrite n v) s (fun t =>
      t.rd (Reg.PIPE_BIND n.val) &&& 0x77FF#32 = v &&& 0x77FF#32 ∧ t.rd (Reg.PIPE_BLKSEQ n.val) = 0#32 ∧
      (bitOf v 0 = true → fldOf v 1 7 < 96 → t.rd (Reg.CRU_CAMBLKSEQ (fldOf v 1 7)) = 0#32) ∧
      Keeps (inKeys [Reg.PIPE_BIND n.val, Reg.PIPE_BLKSEQ n.val, Reg.CRU_CAMBLKSEQ (fldOf v 1 7)]) [] s t)))) ∧
  (∀ (s₀ s : State) (n : Fin 104) (dt : Nat), s = s₀.pass dt → s.boot.mode = 0 →
    (s.pipeBit n.val 3 = false → Goes (.shadowCopyDone n dt) s₀ (fun t => t = s)) ∧
    (s.pipeBit n.val 3 = true → (s.pipe n.val).waiting = [] → Goes (.shadowCopyDone n dt) s₀ (fun t =>
      t.pipeBit n.val 3 = false ∧
      t.rdList (Reg.PIPE_COLS n.val) 32 = s.rdList (Reg.act (Reg.PIPE_COLS n.val)) 32 ∧
      t.rdList (Reg.ASY_CFG n.val) 14 = s.rdList (Reg.act (Reg.ASY_CFG n.val)) 14 ∧
      (∀ m, m ≠ n.val → t.pipe m = s.pipe m) ∧ Same [.regs, .pipes] s t)))) ∧
  (∀ (s₀ s : State) (n : Fin 104) (dt : Nat), s = s₀.pass dt → s.boot.mode = 0 →
  Goes (.cacheUe n dt) s₀ (fun t =>
    t.fld (Reg.PIPE_ECC n.val) 16 16 = satAdd 16 (s.fld (Reg.PIPE_ECC n.val) 16 16) 1 ∧
    t.reports = s.reports ++ [{ sig := 0x204, src := n.val, level := 2, t := s.devTime }] ∧
    Keeps (inKeys [Reg.PIPE_ECC n.val]) [.reports] s t) ∧
  Goes (.cacheCe n dt) s₀ (fun t =>
    t.fld (Reg.PIPE_ECC n.val) 0 16 = satAdd 16 (s.fld (Reg.PIPE_ECC n.val) 0 16) 1 ∧ t.bit (Reg.PIPE_IRQ n.val) 6 = true ∧
    t.reports = s.reports ++ [{ sig := 0x203, src := n.val, level := 0, t := s.devTime }] ∧
    Keeps (inKeysI [Reg.PIPE_ECC n.val, Reg.PIPE_IRQ n.val]) [.reports, .out] s t) ∧
  (∀ a : Bool, Goes (.dpath n a dt) s₀ (fun t =>
    t.reports = s.reports ++ [{ sig := if a then 0x303 else 0x205, src := n.val, level := 2, t := s.devTime }] ∧
    Keeps (inKeys []) [.reports] s t)) ∧
  (∀ (k : Fin 8) (m : Nat), m = 13 * k.val + 12 →
    (∀ j, (s.pipe m).rep = some j → (s.pipe m).loading = true → (s.pipe m).lateSwap = false →
      Goes (.pipeInlayDone k dt) s₀ (fun t =>
        (t.pipe m).loading = false ∧ (t.pipe m).rep = some j ∧ t.pipeBit m 5 = true ∧
        t.pipeBit m 0 = (s.pipeEn m && !s.pipeBit m 7) ∧
        t.pipeBit m 1 = s.pipeBit m 1 ∧ t.pipeBit m 2 = s.pipeBit m 2 ∧
        t.rdList (Reg.PIPE_COLS m) 32 = s.rdList (Reg.IMG (Reg.PIPE_COLS m)) 32 ∧
        t.rdList (Reg.act (Reg.PIPE_COLS m)) 32 = s.rdList (Reg.IMG (Reg.act (Reg.PIPE_COLS m))) 32 ∧
        (∀ i, i ≠ m → t.pipe i = s.pipe i) ∧ Same [.regs, .pipes] s t)) ∧
    ((s.pipe m).rep = none ∨ (s.pipe m).loading = false → Goes (.pipeInlayDone k dt) s₀ (fun t => t = s)) ∧
    (s.bit Reg.PIPE_SPRUE (8 + k.val) = true → ∀ ok, Goes (.sprueSelftest true k ok dt) s₀ (fun t => t = s)) ∧
    (s.bit Reg.LANE_SPRUE (16 + k.val) = true → ∀ ok, Goes (.sprueSelftest false k ok dt) s₀ (fun t => t = s)) ∧
    (s.fwDuty 1 = false → ∀ p ok, Goes (.sprueSelftest p k ok dt) s₀ (fun t => t = s)) ∧
    (s.fwDuty 1 = true → s.bit Reg.PIPE_SPRUE (8 + k.val) = false → ∀ ok, Goes (.sprueSelftest true k ok dt) s₀ (fun t =>
      t.bit Reg.PIPE_SPRUE k.val = ok ∧ t.fld Reg.PIPE_SELFT 0 16 = (s.fld Reg.PIPE_SELFT 0 16 + 1) % 2 ^ 16 ∧
      t.reports = s.reports ++ (if ok then [] else [{ sig := 0x206, src := m, level := 0, t := s.devTime }]) ∧
      Keeps (inKeys [Reg.PIPE_SPRUE, Reg.PIPE_SELFT]) [.reports] s t)) ∧
    (∀ any, s.fwDuty 1 = true → s.bit Reg.LANE_SPRUE (16 + k.val) = false →
      (∀ ok, ok = (!(s.lane m).selfBad && s.bit (laneStat m) 6) → s.laneSt m = 7 →
        Goes (.sprueSelftest false k any dt) s₀ (fun t =>
          t.bit Reg.LANE_SPRUE k.val = ok ∧ t.fld Reg.LANE_SELFT 0 16 = (s.fld Reg.LANE_SELFT 0 16 + 1) % 2 ^ 16 ∧
          t.lane m = { s.lane m with selfBad := false, spareFail := !ok } ∧ (∀ i, i ≠ m → t.lane i = s.lane i) ∧
          t.reports = s.reports ++ (if ok then [] else [{ sig := 8, src := m, level := 0, t := s.devTime }]) ∧
          Keeps (inKeys [Reg.LANE_SPRUE, Reg.LANE_SELFT]) [.lanes, .reports] s t)) ∧
      (s.laneSt m ≠ 7 → s.bit (Reg.LANE_BOND m) 0 = true → Goes (.sprueSelftest false k any dt) s₀ (fun t => t = s)) ∧
      (s.laneSt m = 0 ∨ s.laneSt m = 1 ∨ s.laneSt m = 10 → s.bit (Reg.LANE_BOND m) 0 = false → (s.lane m).selfT = none →
        Goes (.sprueSelftest false k any dt) s₀ (fun t => t.laneSt m = 9 ∧ (t.lane m).selfT = some s.devTime ∧
          t.rd (Reg.LANE_TEST m) = 0x3A#32 ∧ t.rd (Reg.LANE_PRBSERR m) = 0#32 ∧ Same laneParts s t)) ∧
      (∀ t0, s.laneSt m ≠ 7 → s.bit (Reg.LANE_BOND m) 0 = false → (s.lane m).selfT = some t0 →
        (s.devTime < t0 + usTicks 10 → Goes (.sprueSelftest false k any dt) s₀ (fun t => t = s)) ∧
        (t0 + usTicks 10 ≤ s.devTime → ∀ ok, ok = decide (s.rd (Reg.LANE_PRBSERR m) = 0#32) →
          Goes (.sprueSelftest false k any dt) s₀ (fun t => t.bit Reg.LANE_SPRUE k.val = ok ∧ (t.lane m).selfT = none ∧
            (t.lane m).spareFail = !ok ∧ t.fld Reg.LANE_SELFT 0 16 = (s.fld Reg.LANE_SELFT 0 16 + 1) % 2 ^ 16 ∧
            (ok = false → { sig := 8, src := m, level := 0, t := s.devTime } ∈ t.reports) ∧ Same laneParts s t))))))

/-- A line through a pipeline (R195, R207 to R218). Stage 2 frees the slot it has read, unless the stages behind it
stall; the draw plate emits the next output line, at its grid position and counted by its status code, when its
window holds what it needs; stage 10 hands the line it holds to the assay stage, which takes one while none waits
there, and counts the block's last. The assay stage (R229, R236 to R249, R262, R266). Without its clock nothing
happens. A line waits while Tier B has cells to do; with no cell row in progress it is taken, and its placement on
a page is shown; Tier B does its oldest cell; a measured mark is recorded once; render sets publish and their
copies end; CLRCNT clears the counters; table errors count, an uncorrectable one at L2. -/
def Obligations.PipeLines : Prop :=
  (∀ (s₀ s : State) (n : Fin 104) (dt : Nat), s = s₀.pass dt → s.boot.mode = 0 →
  s.pipeClk n.val = true →
  (∀ g rest r, (s.pipe n.val).inq = g :: rest → g.lrec = some r → s.plateStalled n.val = false →
    Goes (.slotFree n dt) s₀ (fun t =>
      (t.pipe n.val).inq = rest.dropWhile (·.gap) ∧ (∀ m, m ≠ n.val → t.pipe m = s.pipe m) ∧
      Same [.freeIdx, .regs, .reports, .pipes, .out] s t)) ∧
  ((s.pipe n.val).inq = [] ∨ s.plateStalled n.val = true → Goes (.slotFree n dt) s₀ (fun t => t = s)) ∧
  (∀ r b, (s.pipe n.val).hold = none → (s.pipe n.val).runs.find? (fun r => !r.fin) = some r →
    (s.pipe n.val).blkOf r.id r.nextOut = some b → b.emitted < b.total → b.area = false →
    (plateReady b.bank r r.nextOut = false → Goes (.drawPlateEmit n dt) s₀ (fun t => t = s)) ∧
    (plateReady b.bank r r.nextOut = true → Goes (.drawPlateEmit n dt) s₀ (fun t =>
      (t.pipe n.val).holdRun = r.id ∧ (∀ m, m ≠ n.val → t.pipe m = s.pipe m) ∧
      (∃ o, (t.pipe n.val).hold = some o ∧ o.i = r.nextOut ∧ o.x = r.xAt b.bank.pitch r.nextOut ∧
        t.fld (Reg.PIPE_GAPCNT n.val) 0 16 =
          (if o.code = 1 then satAdd 16 (s.fld (Reg.PIPE_GAPCNT n.val) 0 16) 1 else s.fld (Reg.PIPE_GAPCNT n.val) 0 16) ∧
        t.fld (Reg.PIPE_GAPCNT n.val) 16 16 =
          (if o.code = 2 then satAdd 16 (s.fld (Reg.PIPE_GAPCNT n.val) 16 16) 1 else s.fld (Reg.PIPE_GAPCNT n.val) 16 16)) ∧
      Keeps (inKeysI [Reg.PIPE_GAPCNT n.val, Reg.PIPE_IRQ n.val]) [.pipes, .out] s t))) ∧
  (∀ o, (s.pipe n.val).hold = some o → Goes (.drawPlateEmit n dt) s₀ (fun t => t = s)) ∧
  (∀ o b, (s.pipe n.val).hold = some o → (s.pipe n.val).blkOf (s.pipe n.val).holdRun o.i = some b →
    (bitOf (b.bank.w 0x7C) 0 = true → (s.asy n.val).queue ≠ [] → Goes (.stage10Accept n dt) s₀ (fun t => t = s)) ∧
    (bitOf (b.bank.w 0x7C) 0 = false ∨ (s.asy n.val).queue = [] → Goes (.stage10Accept n dt) s₀ (fun t =>
      (t.pipe n.val).hold = none ∧ (∀ m, m ≠ n.val → t.pipe m = s.pipe m ∧ t.asy m = s.asy m) ∧
      t.rdN (Reg.PIPE_BLKSEQ n.val) =
        (s.rdN (Reg.PIPE_BLKSEQ n.val) + (if b.passed + 1 = b.total then 1 else 0)) % 2 ^ 32 ∧
      (bitOf (b.bank.w 0x7C) 0 = true → ∃ l, (t.asy n.val).queue = [l] ∧ l.run = b.run ∧ l.i0 = b.i0 ∧ l.o.i = o.i ∧ l.o.x = o.x ∧
        l.last = decide (b.passed + 1 = b.total)) ∧
      (bitOf (b.bank.w 0x7C) 0 = false → t.asy n.val = s.asy n.val) ∧
      Keeps (inKeysI [Reg.PIPE_BLKSEQ n.val, Reg.PIPE_IRQ n.val]) [.pipes, .asys, .memx, .devMem, .out] s t)))) ∧
  ((∀ (s₀ s : State) (n : Fin 104) (dt : Nat), s = s₀.pass dt → s.boot.mode = 0 →
  (s.pipeClk n.val = false → ∀ k, ∀ c ∈ [Instr.assayLine n dt, .tierBDone n dt, .markDone n k dt], Goes c s₀ (fun t => t = s)) ∧
  (s.pipeClk n.val = true →
  ((s.asy n.val).tb ≠ [] → Goes (.assayLine n dt) s₀ (fun t => t = s)) ∧
  (∀ l rest, (s.asy n.val).tb = [] → (s.asy n.val).queue = l :: rest → (s.asy n.val).rows = [] →
    Goes (.assayLine n dt) s₀ (fun t =>
      (t.asy n.val).queue = rest ∧ (t.asy n.val).lastX = some l.o.x ∧
      t.bit (Reg.ASY_STAT n.val) 3 = (s.linePlace n.val l).isSome ∧ (∀ m, m ≠ n.val → t.asy m = s.asy m) ∧
      Same [.freeIdx, .regs, .reports, .pipes, .asys, .views, .crus, .twin, .out] s t)) ∧
  ((s.asy n.val).tb = [] → Goes (.tierBDone n dt) s₀ (fun t => t = s)) ∧
  (∀ c rest pg, (s.asy n.val).tb = c :: rest → (s.asy n.val).page = some pg → rest ≠ [] →
    Goes (.tierBDone n dt) s₀ (fun t =>
      (t.asy n.val).tb = rest ∧ t.bit (Reg.ASY_STAT n.val) 4 = true ∧ (t.asy n.val).rows = (s.asy n.val).rows ∧
      (∃ k, (t.asy n.val).page = some { pg with prev := setNth pg.prev c.u k } ∧ (k.status = 1 ∨ k.status = 3)) ∧
      (∀ m, m ≠ n.val → t.asy m = s.asy m) ∧ ∀ v, v = (s.blkBank n.val pg.blk.1 pg.blk.2).af 0 12 4 →
        (s.pageIn v pg.desc = false → t.fld (Reg.MEM_PARTVIOL (s.viewOwner v)) 0 32 =
          satAdd 32 (s.fld (Reg.MEM_PARTVIOL (s.viewOwner v)) 0 32) 1) ∧
        (s.pageIn v pg.desc = true → Keeps (inKeys [Reg.ASY_STAT n.val]) [.asys] s t) ∧
        Keeps (inKeys [Reg.ASY_STAT n.val, Reg.MEM_PARTVIOL (s.viewOwner v)]) [.asys] s t)) ∧
  (∀ k : Fin 4,
    ((s.asy n.val).page = none ∨ (s.asy n.val).hist = [] → Goes (.markDone n k dt) s₀ (fun t => t = s)) ∧
    (∀ pg r0 rs, (s.asy n.val).page = some pg → (s.asy n.val).hist = r0 :: rs →
      (pg.marks.contains k.val = true → Goes (.markDone n k dt) s₀ (fun t => t = s)) ∧
      (∀ b c y, b = s.blkBank n.val r0.line.run r0.line.i0 → c = (markPlace b pg (r0 :: rs) k.val).1 →
        y = (markPlace b pg (r0 :: rs) k.val).2 → b.af 0 1 1 = 1 → pg.desc ≠ [] → k.val < pgMarks pg.desc →
        pg.marks.contains k.val = false → 0 ≤ c → inCore b c.toNat = true → (r0.r : Int) ≤ max 0 (y - 32) →
        y + 32 + (markRange b : Int) ≤ (pg.rows : Int) → Goes (.markDone n k dt) s₀ (fun t =>
          ((t.asy n.val).page.map (·.marks)) = some (pg.marks ++ [k.val]) ∧ t.bit (Reg.ASY_IRQ n.val) 4 = true ∧
          (∃ r, (t.pipe n.val).intake = (s.pipe n.val).intake ++ [.defect r]) ∧
          Same [.regs, .pipes, .asys, .views, .twin, .out] s t))))) ∧
  (∀ k : Fin 8, (Reg.ASY_RSCMD, k.val) ∉ s.now.again → Goes (.renderSetCopyDone k dt) s₀ (fun t =>
    t.bit Reg.ASY_RSSTAT k.val = false ∧
    (∀ m < 104, s.fld (Reg.ASY_CFG m) 8 3 = k.val → t.bit (Reg.ASY_STAT m) 1 = false) ∧
    Same [.regs] s t)) ∧
  (∀ ue rs : Bool, Goes (if ue then .tblUe n rs dt else .tblCe n rs dt) s₀ (fun t =>
    ∀ k o, k = (if rs then Reg.ASY_RSECC else Reg.ASY_ECC n.val) → o = (if ue then 16 else 0) →
      t.rd k = putFld (s.rd k) o 16 (satAdd 16 (s.fld k o 16) 1) ∧
      t.reports = s.reports ++ (if rs then [] else
        [{ sig := if ue then 0x302 else 0x301, src := n.val, level := if ue then 2 else 0, t := s.devTime }]) ∧
      Keeps (inKeys [k]) [.reports] s t))) ∧
  (∀ (s : State) (n : Fin 104),
    (Up s Reg.ASY_RSCMD → ∀ v : Word, Goes (.asyRscmdPublish v) s (fun t =>
      (∀ k < 8, bitOf v k = true → t.bit Reg.ASY_RSSTAT k = true ∧ t.bit Reg.ASY_RSSTAT (8 + k) = true ∧
        (∀ m < 104, s.fld (Reg.ASY_CFG m) 8 3 = k → t.bit (Reg.ASY_STAT m) 1 = true)) ∧
      Keeps (fun k => k = Reg.ASY_RSSTAT ∨ ∃ m < 104, k = Reg.ASY_STAT m) [] s t)) ∧
    (Up s (Reg.ASY_CMD n.val) → Goes (.asyClrcnt n) s (fun t =>
      (∀ j < 11, t.rd (Reg.ASY_CFINE n.val + 4 * j) = 0#32) ∧
      Keeps (fun k => ∃ j < 11, k = Reg.ASY_CFINE n.val + 4 * j) [] s t))))

/-- Updates of the nozzle accountant (R274 to R280). A summary without a further slot leaves the queue; a bank under a
preventive copy holds its update; a slot whose track is masked only counts; an applied one counts, and MEAN, VAR
and COUNT take the values of R276. With the accountant disabled or no summary waiting nothing happens. -/
def Obligations.NozzleUpdates : Prop := ∀ (s₀ s : State) (dt : Nat), s = s₀.pass dt → s.boot.mode = 0 →
  ((s.bit Reg.NOZ_CTL 0 = false ∨ s.clkOn 234 = false ∨ s.noz.queue = []) → Goes (.nozUpdate dt) s₀ (fun t => t = s)) ∧
  (∀ m rest, s.bit Reg.NOZ_CTL 0 = true → s.clkOn 234 = true → s.noz.queue = m :: rest →
    (s.nextSlot m (8 * sumCols m + 1) s.noz.entry s.noz.plane = none → Goes (.nozUpdate dt) s₀ (fun t =>
      t.noz = { s.noz with queue := rest, entry := 0, plane := 0, skip := [] } ∧
      t.fld Reg.NOZ_SQ 0 9 = rest.length % 2 ^ 9 ∧ Keeps (inKeys [Reg.NOZ_SQ]) [.noz] s t)) ∧
    (∀ e p g k, s.nextSlot m (8 * sumCols m + 1) s.noz.entry s.noz.plane = some (e, p, g) →
      p < 8 → s.attribute g (sumCore m + e) = some k →
      (s.bankHeld (trackBank k) = true → Goes (.nozUpdate dt) s₀ (fun t => t = s)) ∧
      (s.bankHeld (trackBank k) = false → s.trkMask k = true → Goes (.nozUpdate dt) s₀ (fun t =>
        t.fld Reg.NOZ_SKIPCNT 0 32 = satAdd 32 (s.fld Reg.NOZ_SKIPCNT 0 32) 1 ∧
        Keeps (inKeys [Reg.NOZ_SKIPCNT, Reg.NOZ_SQ]) [.noz] s t)) ∧
      (s.bankHeld (trackBank k) = false → s.trkMask k = false → s.fld (Reg.NOZ_PLW1 p) 16 16 ≤ sumN m e →
        (sumRef m e = true ∨ s.bit (Reg.NOZ_PLCFG p) 1 = true) → s.rowLost (trackBank k) (trackRow k) = false →
        s.rowInlay (trackBank k) (trackRow k) = false → (∃ q < 8, s.planeEn q = true ∧ s.inPlane q k = true) →
        Goes (.nozUpdate dt) s₀ (fun t => ∀ mv, mv = ewma (s.ashift p) (s.trkCount k) (s.trkMean k) (s.trkVar k) (s.devX p m e) →
          t.trkMean k = mv.1 ∧ t.trkVar k = mv.2 ∧ t.trkCount k = min (s.trkCount k + 1) 0xFFFFFF ∧ t.trkMask k = false ∧
          t.rdN Reg.NOZ_UPDCNT = (s.rdN Reg.NOZ_UPDCNT + 1) % 2 ^ 32 ∧
          t.rdN (Reg.NOZ_PLUPD p) = (s.rdN (Reg.NOZ_PLUPD p) + 1) % 2 ^ 32 ∧
          Keeps (inUnits [13]) [.noz, .twin, .out] s t))))

/-- Map commits, row errors and track reads (R273, R283 to R287). COMMIT asks for the swap; between two summaries the
plane takes the committed run, or with overlapping segments keeps its own and sets OVERLAP; an uncorrectable row
error begins an inlay with the lowest spare or isolates the row; the fourth corrected one starts a preventive
copy; rows wait for an inlay in progress and for the bench; the spare then serves the row, whose tracks restart,
or in a pair take the partner's copy, with their MASK from the bitmap; a segment error skips it; a read of a track
latches the other two words. -/
def Obligations.NozzleTables : Prop := (∀ s : State, s.boot.mode = 0 →
  (∀ p : Fin 8, Up s (Reg.NOZ_PLCMD p.val) → Goes (.commit p) s (fun t =>
    t.noz = { s.noz with commits := s.noz.commits.filter (· != p.val) ++ [p.val] } ∧ Keeps (inKeys []) [.noz] s t)) ∧
  (Up s Reg.NOZ_CMD → Goes .nozClrcnt s (fun t =>
    (∀ k ∈ [Reg.NOZ_SKIPCNT, Reg.NOZ_SUMDROP, Reg.NOZ_RPTDEFER, Reg.NOZ_INLSKIP, Reg.NOZ_RPTCNT, Reg.NOZ_ECC], t.rd k = 0#32) ∧
    Keeps (inKeys [Reg.NOZ_SKIPCNT, Reg.NOZ_SUMDROP, Reg.NOZ_RPTDEFER, Reg.NOZ_INLSKIP, Reg.NOZ_RPTCNT, Reg.NOZ_ECC]) [] s t)) ∧
  (∀ (k : BitVec 20) (a : Nat), a = Reg.NOZ_TRK k.toNat 0 →
    (s.unitUp a = true → Goes (.trackWindowRead k) s (fun t =>
      t.noz.latch = [(Reg.NOZ_TRK k.toNat 1, s.rd (Reg.NOZ_TRK k.toNat 1)), (Reg.NOZ_TRK k.toNat 2, s.rd (Reg.NOZ_TRK k.toNat 2))] ∧
      t.out = .value 0 a (s.rdN a) :: s.out ∧ Keeps (inKeys []) [.noz, .out] s t)) ∧
    (s.unitUp a = false → Goes (.trackWindowRead k) s (fun t => .refused 0 a true ∈ t.out ∧
      (∃ r ∈ t.reports, r.sig = 0xE09 ∧ r.src = 13 ∧ r.addr = a) ∧
      Keeps (inKeysI [Reg.HOSTEP_CACNT, Reg.HOSTEP_ERRCNT, Reg.HOSTEP_IRQ]) [.reports, .host, .out] s t)))) ∧
  (∀ (s₀ s : State) (dt : Nat), s = s₀.pass dt → s.boot.mode = 0 →
  (∀ p : Fin 8,
    ((p.val ∉ s.noz.commits ∨ s.noz.entry ≠ 0 ∨ s.noz.plane ≠ 0) → Goes (.mapSwap p dt) s₀ (fun t => t = s)) ∧
    (p.val ∈ s.noz.commits → s.noz.entry = 0 → s.noz.plane = 0 → (Reg.NOZ_PLCMD p.val, 0) ∉ s.now.again →
      (s.runOverlaps (mapRun (s.rd (Reg.NOZ_PLMAPS p.val))) = false → Goes (.mapSwap p dt) s₀ (fun t =>
        t.rd (Reg.NOZ_PLMAP p.val) = s.rd (Reg.NOZ_PLMAPS p.val) ∧ t.bit (Reg.NOZ_PLSTAT p.val) 0 = false ∧
        t.noz.commits = s.noz.commits.filter (· != p.val) ∧
        Keeps (inKeys [Reg.NOZ_PLMAP p.val, Reg.NOZ_PLSTAT p.val]) [.noz] s t)) ∧
      (s.runOverlaps (mapRun (s.rd (Reg.NOZ_PLMAPS p.val))) = true → Goes (.mapSwap p dt) s₀ (fun t =>
        t.bit (Reg.NOZ_PLSTAT p.val) 0 = true ∧ t.bit Reg.NOZ_IRQ 6 = true ∧
        t.reports = s.reports ++ [{ sig := 0xE08, src := p.val, level := 0, t := s.devTime }] ∧
        Keeps (inKeysI [Reg.NOZ_PLSTAT p.val, Reg.NOZ_IRQ]) [.noz, .reports, .out] s t)))) ∧
  (∀ (b : Fin 32) (r : Fin 264),
    Goes (.trkUe b r dt) s₀ (fun t =>
      t.fld Reg.NOZ_ECC 16 16 = satAdd 16 (s.fld Reg.NOZ_ECC 16 16) 1 ∧ t.bit Reg.NOZ_IRQ 5 = true ∧
      { sig := 0x402, src := b.val * 264 + r.val, level := 2, t := s.devTime } ∈ t.reports ∧
      (s.logicalRow b.val r.val = none → t.nbanks = s.nbanks) ∧
      (∀ l i, s.logicalRow b.val r.val = some l → (s.nbank b.val).inlay = none → l ∉ (s.nbank b.val).lost →
        s.spareRow b.val = some i →
          (s.fwDuty 2 = true → (t.nbank b.val).inlay = some { row := l, spare := i, copy := false } ∧
            t.bit (Reg.NOZ_BANK b.val) (8 + i) = false) ∧
          (s.fwDuty 2 = false → (l, false) ∈ (t.nbank b.val).waiting)) ∧
      (∀ l i, s.logicalRow b.val r.val = some l → (s.nbank b.val).inlay = some i → l ∉ (s.nbank b.val).lost → i.row ≠ l →
        (l, false) ∈ (t.nbank b.val).waiting ∧ (t.nbank b.val).inlay = some i) ∧
      (∀ l, s.logicalRow b.val r.val = some l → (s.nbank b.val).inlay = none → s.spareRow b.val = none →
        l ∈ (t.nbank b.val).lost) ∧
      (∀ c, c ≠ b.val → t.nbank c = s.nbank c) ∧
      Keeps (inKeysI [Reg.NOZ_ECC, Reg.NOZ_IRQ, Reg.NOZ_BANK b.val, Reg.NOZ_STAT]) [.nbanks, .reports, .twin, .out] s t) ∧
    Goes (.trkCe b r dt) s₀ (fun t =>
      t.fld Reg.NOZ_ECC 0 16 = satAdd 16 (s.fld Reg.NOZ_ECC 0 16) 1 ∧ t.bit Reg.NOZ_IRQ 5 = true ∧
      t.reports = s.reports ++ [{ sig := 0x401, src := b.val * 264 + r.val, level := 0, t := s.devTime }] ∧
      sget (fun _ => 0) (t.nbank b.val).ce r.val = sget (fun _ => 0) (s.nbank b.val).ce r.val + 1 ∧
      (sget (fun _ => 0) (s.nbank b.val).ce r.val < 3 → (t.nbank b.val).inlay = (s.nbank b.val).inlay) ∧
      (∀ l, sget (fun _ => 0) (s.nbank b.val).ce r.val = 3 → s.logicalRow b.val r.val = some l → l ∉ (s.nbank b.val).lost →
        (∀ e ∈ (s.nbank b.val).waiting, e.1 ≠ l) →
        (∀ i, (s.nbank b.val).inlay = none → s.spareRow b.val = some i → s.fwDuty 2 = true →
          (t.nbank b.val).inlay = some { row := l, spare := i, copy := true }) ∧
        (∀ i, (s.nbank b.val).inlay = some i → i.row ≠ l → (l, true) ∈ (t.nbank b.val).waiting ∧
          (t.nbank b.val).inlay = some i)) ∧
      Keeps (inKeysI [Reg.NOZ_ECC, Reg.NOZ_IRQ, Reg.NOZ_BANK b.val, Reg.NOZ_STAT]) [.nbanks, .reports, .out] s t)) ∧
  (∀ (b : Fin 32) (peer : List Byte),
    ((s.nbank b.val).inlay = none → ∀ c ∈ [Instr.rowCopyDone b dt, .rowInlayDone b peer dt], Goes c s₀ (fun t => t = s)) ∧
    (∀ i, (s.nbank b.val).inlay = some i → (s.nbank b.val).waiting = [] → i.spare < 8 →
      (i.copy = true → Goes (.rowInlayDone b peer dt) s₀ (fun t => t = s) ∧ Goes (.rowCopyDone b dt) s₀ (fun t =>
        (t.nbank b.val).inlay = none ∧ (i.row, i.spare) ∈ (t.nbank b.val).served ∧ t.bit (Reg.NOZ_BANK b.val) i.spare = true ∧
        t.bit Reg.NOZ_IRQ 3 = true ∧ Keeps (inKeysI [Reg.NOZ_BANK b.val, Reg.NOZ_STAT, Reg.NOZ_IRQ]) [.nbanks, .out] s t)) ∧
      (i.copy = false → Goes (.rowCopyDone b dt) s₀ (fun t => t = s) ∧
        (s.fld Reg.TWIN_STAT 0 3 ≠ 2 → i.row < 256 → Goes (.rowInlayDone b peer dt) s₀ (fun t =>
          (t.nbank b.val).inlay = none ∧ (i.row, i.spare) ∈ (t.nbank b.val).served ∧ t.bit Reg.NOZ_IRQ 3 = true ∧
          (∀ k < 128, ∀ x, x = trackAt b.val i.row k → t.trkState x = 0 ∧ t.trkCount x = 0 ∧ t.trkMean x = 0 ∧
            t.trkMask x = s.maskMap x) ∧
          Keeps (inUnits [13]) [.nbanks, .out] s t)) ∧
        (s.fld Reg.TWIN_STAT 0 3 = 2 → i.row < 256 → peer.length = 1536 → Goes (.rowInlayDone b peer dt) s₀ (fun t =>
          (t.nbank b.val).inlay = none ∧ (i.row, i.spare) ∈ (t.nbank b.val).served ∧ t.bit Reg.NOZ_IRQ 3 = true ∧
          (∀ k < 128, ∀ x, x = trackAt b.val i.row k → t.rdN (Reg.NOZ_TRK x 0) = leAt peer (12 * k) 4 ∧
            t.rdN (Reg.NOZ_TRK x 1) = leAt peer (12 * k + 4) 4 ∧
            t.fld (Reg.NOZ_TRK x 2) 0 31 = leAt peer (12 * k + 8) 4 % 2 ^ 31 ∧ t.trkMask x = s.maskMap x) ∧
          Keeps (inUnits [13]) [.nbanks, .out] s t))))) ∧
  (∀ g : Fin 4096, Goes (.mapUe g dt) s₀ (fun t =>
    t.fld Reg.NOZ_ECC 16 16 = satAdd 16 (s.fld Reg.NOZ_ECC 16 16) 1 ∧ t.bit Reg.NOZ_IRQ 5 = true ∧
    t.reports = s.reports ++ [{ sig := 0x404, src := g.val, level := 1, t := s.devTime }] ∧
    t.noz = { s.noz with skip := if s.noz.queue = [] then s.noz.skip else s.noz.skip ++ [g.val] } ∧
    Keeps (inKeysI [Reg.NOZ_ECC, Reg.NOZ_IRQ]) [.noz, .reports, .out] s t)))

/-- The crucible (R256, R293 to R298, R309). A final set of fragments merges into one record; a pipeline posts the end
item of its oldest block whose work is done, or of a late one; one intake takes the oldest item of every pipeline
that has one, and the accountant's next report; CLRCNT clears. Block tags (R290, R298, R300). Alone, the tag of
the oldest block leaves when its stripes have ended and no fragment is left to merge; in a pair its digest goes to
the partner, it leaves when the partner's has come (a difference is a fault of class 11), and without one when
CRU_TWINWAIT has passed, its own digest kept. -/
def Obligations.Crucible : Prop :=
  (∀ (s₀ s : State) (dt : Nat), s = s₀.pass dt → s.boot.mode = 0 →
  (∀ c : Fin 96,
    (s.fragReady c.val (s.cru c.val).frags [] = none → Goes (.fragmentMerge c dt) s₀ (fun t => t = s)) ∧
    (∀ l rest, s.fragReady c.val (s.cru c.val).frags [] = some (l, rest) → Goes (.fragmentMerge c dt) s₀ (fun t =>
      (t.cru c.val).frags = rest ∧ (t.cru c.val).blocks = (s.cru c.val).blocks ∧ (∀ m, m ≠ c.val → t.cru m = s.cru m) ∧
      Same [.regs, .crus, .rings] s t))) ∧
  (∀ n : Fin 104,
    (∀ b, (s.pipe n.val).blks.find? (fun b => !b.posted) = some b →
      (b.passed = b.total ∧ b.statDone = true ∧ b.assayDone = true ∧ b.late = false → Goes (.endItem n dt) s₀ (fun t =>
        (t.pipe n.val).intake = (s.pipe n.val).intake ++
          [.endItem b.run b.i0 (s.blkX n.val b.run b.i0) { b with posted := true } (s.gotLines n.val b)] ∧
        (∀ k ∈ (t.pipe n.val).blks, k.run = b.run → k.i0 = b.i0 → k.posted = true) ∧
        (∀ m, m ≠ n.val → t.pipe m = s.pipe m) ∧ Keeps (inKeys []) [.pipes] s t)) ∧
      (¬ (b.passed = b.total ∧ b.statDone = true ∧ b.assayDone = true ∧ b.late = false) →
        Goes (.endItem n dt) s₀ (fun t => t = s))) ∧
    (∀ b, (s.pipe n.val).blks.find? (fun b => b.late && !b.posted) = some b → Goes (.lateEndItem n dt) s₀ (fun t =>
      (t.pipe n.val).intake = (s.pipe n.val).intake ++
        [.endItem b.run b.i0 (s.blkX n.val b.run b.i0) { b with posted := true } (s.gotLines n.val b)] ∧
      (∀ m, m ≠ n.val → t.pipe m = s.pipe m) ∧ Keeps (inKeys []) [.pipes] s t)) ∧
    ((s.pipe n.val).blks.find? (fun b => b.late && !b.posted) = none → Goes (.lateEndItem n dt) s₀ (fun t => t = s))) ∧
  (s.clkOn 235 = true → Goes (.crucibleIntake dt) s₀ (fun t =>
    (∀ n < 104, (t.pipe n).intake = (s.pipe n).intake.drop 1) ∧ t.noz.reports = s.noz.reports.drop 1 ∧
    (∀ k, ((List.range 104).filter (fun n => (s.pipe n).intake != [])).length = k →
      t.fld Reg.CRU_STAT 8 7 = max (s.fld Reg.CRU_STAT 8 7) k) ∧
    Same [.regs, .reports, .pipes, .crus, .rings, .noz, .memx, .devMem, .out] s t)) ∧
  (s.clkOn 235 = false → Goes (.crucibleIntake dt) s₀ (fun t => t = s)) ∧
  (Up s Reg.CRU_CMD → Goes .cruClrcnt s (fun t =>
    (∀ c < 96, t.rd (Reg.CRU_CAMLATE c) = 0#32 ∧ t.rd (Reg.CRU_CAMPART c) = 0#32 ∧ t.rd (Reg.CRU_CAMGAP c) = 0#32 ∧
      t.rd (Reg.CRU_CAMNOSLOT c) = 0#32) ∧ t.fld Reg.CRU_STAT 8 7 = 0 ∧
    Keeps (fun k => k = Reg.CRU_STAT ∨ ∃ c < 96, k = Reg.CRU_CAMLATE c ∨ k = Reg.CRU_CAMPART c ∨ k = Reg.CRU_CAMGAP c ∨
      k = Reg.CRU_CAMNOSLOT c) [] s t))) ∧
  (∀ (s₀ s : State) (c : Fin 96) (dt : Nat), s = s₀.pass dt → s.boot.mode = 0 →
  s.clkOn 235 = true →
  ((s.cru c.val).blocks = [] → Goes (.blockTag c dt) s₀ (fun t => t = s) ∧
    Goes (.twinWaitExpiry c dt) s₀ (fun t => t = s)) ∧
  (∀ b rest, (s.cru c.val).blocks = b :: rest →
    (b.tag.isSome = true ∨ s.blkReady c.val b = false → Goes (.blockTag c dt) s₀ (fun t => t = s)) ∧
    (b.tag = none → s.blkReady c.val b = true →
      (s.fld Reg.TWIN_STAT 0 3 = 0 → Goes (.blockTag c dt) s₀ (fun t =>
        (t.cru c.val).blocks = rest.filter (fun k => !(k.run == b.run && k.i0 == b.i0)) ∧
        (t.cru c.val).ndef = 0 ∧ (t.cru c.val).defs = [] ∧ (∀ m, m ≠ c.val → t.cru m = s.cru m) ∧
        Same [.freeIdx, .regs, .events, .pipes, .crus, .rings, .memx, .devMem] s t)) ∧
      (s.fld Reg.TWIN_STAT 0 3 = 2 → (∀ e ∈ s.twin.peerDig, e.1 = c.val → e.2.1 ≠ b.seq) → Goes (.blockTag c dt) s₀ (fun t =>
        (∃ g m d st, (t.cru c.val).blocks =
          { b with tag := some g, tagT := s.devTime, digest := d, map := m, stats := st } :: rest ∧
          t.twin = { s.twin with txq := Sent s [twinPkt 3 0xD4 c.val 2 (leBytes 4 b.seq ++ leBytes 8 d)] }) ∧
        (t.cru c.val).ndef = 0 ∧ (t.cru c.val).defs = [] ∧ (∀ m, m ≠ c.val → t.cru m = s.cru m) ∧
        Keeps (inKeys []) [.freeIdx, .crus, .twin] s t)) ∧
      (∀ p rest', s.fld Reg.TWIN_STAT 0 3 = 2 →
        takeFirst (fun (e : Nat × Nat × Nat) => e.1 == c.val && e.2.1 == b.seq) s.twin.peerDig = (some p, rest') →
        Goes (.blockTag c dt) s₀ (fun t => t.twin.peerDig = rest' ∧
          (t.cru c.val).blocks = rest.filter (fun k => !(k.run == b.run && k.i0 == b.i0)) ∧
          t.rdN Reg.TWIN_DIGCMP = (s.rdN Reg.TWIN_DIGCMP + 1) % 2 ^ 32 ∧
          (∃ d, t.twin.txq = Sent s [twinPkt 3 0xD4 c.val 2 (leBytes 4 b.seq ++ leBytes 8 d)] ∧
            t.reports = s.reports ++
              (if d = p.2.2 then [] else [{ sig := 0xB07, src := c.val, level := 0, t := s.devTime }])) ∧
          (∀ m, m ≠ c.val → t.cru m = s.cru m) ∧
          Same [.freeIdx, .regs, .reports, .events, .pipes, .crus, .rings, .twin, .memx, .devMem, .out] s t))) ∧
    (∀ g, b.tag = some g →
      (s.devTime < b.tagT + usTicks (clampN 1 10000 (s.fld Reg.CRU_TWINWAIT 0 16)) →
        Goes (.twinWaitExpiry c dt) s₀ (fun t => t = s)) ∧
      (b.tagT + usTicks (clampN 1 10000 (s.fld Reg.CRU_TWINWAIT 0 16)) ≤ s.devTime →
        Goes (.twinWaitExpiry c dt) s₀ (fun t =>
          (t.cru c.val).blocks = rest.filter (fun k => !(k.run == b.run && k.i0 == b.i0)) ∧
          t.twin.ownDig = s.twin.ownDig ++ [(c.val, b.seq, b.digest)] ∧ (∀ m, m ≠ c.val → t.cru m = s.cru m) ∧
          Same [.regs, .events, .pipes, .crus, .rings, .twin, .memx, .devMem] s t)))))

/-- Delivery rings (R301, R303 to R305). The staged entry at the head is written at its place when the ring has room
and its channel runs, PIDX steps by one, and no byte outside the entry and the write-back area changes; an image
whose pipeline is withdrawn, or that finds no room for its run, is lost and counted (R347); the signal a timer
owes is sent when MODTIME has passed; the host's consumer index takes effect unless it would pass PIDX. The
transfer queues of tenants (R307, R401). The head moves its data, ends with its status, and the next reaches the
head: an image staged, tracks loaded; a failed DMA ends it with TRANSFER_FAILED, 10 s at the head with TIMEOUT. -/
def Obligations.Delivery : Prop :=
  (∀ (s₀ s : State) (f r : Fin 16) (dt : Nat), s = s₀.pass dt → s.boot.mode = 0 →
  (((s.ring f.val r.val).staged = [] ∨ s.ringEn f.val r.val = false ∨ s.ringFull f.val r.val = true ∨
    s.ringChOk f.val r.val = false) → Goes (.ringWrite f r dt) s₀ (fun t => t = s)) ∧
  (∀ e rest, (s.ring f.val r.val).staged = e :: rest → s.ringEn f.val r.val = true → s.ringFull f.val r.val = false →
    s.ringChOk f.val r.val = true →
    (s.ringKind f.val r.val ≠ 4 → Goes (.ringWrite f r dt) s₀ (fun t => ∀ a es wb,
      a = s.rd64 (Reg.DLV_RBASE_LO f.val r.val) +
        s.rdN (Reg.DLV_RPIDX f.val r.val) % s.ringSize f.val r.val * s.entrySize f.val r.val →
      es = s.entrySize f.val r.val → wb = s.rd64 (Reg.DLV_RWB_LO f.val r.val) →
        t.rdN (Reg.DLV_RPIDX f.val r.val) = (s.rdN (Reg.DLV_RPIDX f.val r.val) + 1) % 2 ^ 32 ∧
        (t.ring f.val r.val).staged = rest ∧
        (∀ i < es, ¬ (wb ≤ a + i ∧ a + i < wb + 8) →
          memGet t.hostMem (a + i) = nth (e.bytes ++ List.replicate (es - e.bytes.length) 0#8) i 0#8) ∧
        (∀ x, ¬ (a ≤ x ∧ x < a + es) → ¬ (wb ≤ x ∧ x < wb + 8) → memGet t.hostMem x = memGet s.hostMem x) ∧
        Same [.regs, .events, .rings, .hostMem, .crus, .chans, .engines, .out] s t)) ∧
    (∀ o, s.ringKind f.val r.val = 4 → (∀ st ∈ e.stripes, s.stripeGone (leAt e.bytes 8 1) st = false) →
      runPlace (s.ring f.val r.val).runs (s.ring f.val r.val).ofs (s.fld (Reg.DLV_RDSIZE f.val r.val) 0 16 * 2 ^ 20)
        e.run.length = some o → Goes (.ringWrite f r dt) s₀ (fun t =>
          t.rdN (Reg.DLV_RPIDX f.val r.val) = (s.rdN (Reg.DLV_RPIDX f.val r.val) + 1) % 2 ^ 32 ∧
          (t.ring f.val r.val).staged = rest ∧
          (t.ring f.val r.val).runs = (s.ring f.val r.val).runs ++ [(s.rdN (Reg.DLV_RPIDX f.val r.val), o, e.run.length)] ∧
          Same [.regs, .events, .rings, .hostMem, .crus, .chans, .engines, .out] s t)) ∧
    (s.ringKind f.val r.val = 4 → (∃ st ∈ e.stripes, s.stripeGone (leAt e.bytes 8 1) st = true) ∨
      runPlace (s.ring f.val r.val).runs (s.ring f.val r.val).ofs (s.fld (Reg.DLV_RDSIZE f.val r.val) 0 16 * 2 ^ 20)
        e.run.length = none → Goes (.ringWrite f r dt) s₀ (fun t =>
          t.rd (Reg.DLV_RPIDX f.val r.val) = s.rd (Reg.DLV_RPIDX f.val r.val) ∧ (t.ring f.val r.val).staged = rest ∧
          t.fld (Reg.DLV_RLOST f.val r.val) 0 32 = satAdd 32 (s.fld (Reg.DLV_RLOST f.val r.val) 0 32) 1 ∧
          Same [.regs, .events, .rings, .crus, .chans, .engines, .out] s t))) ∧
  ((s.ring f.val r.val).sigT = none → Goes (.modtime f r dt) s₀ (fun t => t = s)) ∧
  (∀ t0, (s.ring f.val r.val).sigT = some t0 →
    (s.devTime < t0 + usTicks (s.fld (Reg.DLV_RMOD f.val r.val) 8 16) → Goes (.modtime f r dt) s₀ (fun t => t = s)) ∧
    (t0 + usTicks (s.fld (Reg.DLV_RMOD f.val r.val) 8 16) ≤ s.devTime → Goes (.modtime f r dt) s₀ (fun t =>
      t.ring f.val r.val = { s.ring f.val r.val with unsig := 0, sigT := none } ∧
      (s.bit (Reg.HOSTEP_FNSTAT f.val) 4 = true → s.bit (Reg.HOSTEP_FNSTAT f.val) 5 = false →
        s.bit (Reg.MSIX f.val (s.fld (Reg.DLV_RMOD f.val r.val) 24 6) 3) 0 = false →
        t.out = .msix f.val (s.fld (Reg.DLV_RMOD f.val r.val) 24 6) :: s.out) ∧
      Keeps (inKeys [Reg.PBA f.val 0, Reg.PBA f.val 1]) [.rings, .out] s t))) ∧
  (∀ (s : State) (v : Word), s.boot.mode = 0 → s.fnOk f.val = true → s.unitUp (Reg.DLV_RCIDX 0 r.val) = true →
    (s.ringUsed f.val r.val < (v.toNat + 2 ^ 32 - s.rdN (Reg.DLV_RCIDX f.val r.val)) % 2 ^ 32 →
      Goes (.dlvRcidxWrite f r v) s (fun t => t = s)) ∧
    ((v.toNat + 2 ^ 32 - s.rdN (Reg.DLV_RCIDX f.val r.val)) % 2 ^ 32 ≤ s.ringUsed f.val r.val →
      Goes (.dlvRcidxWrite f r v) s (fun t =>
        t.rd (Reg.DLV_RCIDX f.val r.val) = v ∧ (t.ring f.val r.val).staged = (s.ring f.val r.val).staged ∧
        Keeps (inKeys [Reg.DLV_RCIDX f.val r.val, Reg.DLV_RSTAT f.val r.val]) [.rings] s t)))) ∧
  (∀ (s₀ s : State) (k : Fin 16) (dt : Nat), s = s₀.pass dt → s.boot.mode = 0 →
  (s.xferQ k.val = [] → ∀ h pg fl, Goes (.transferStart k ⟨h, pg⟩ fl dt) s₀ (fun t => t = s) ∧
    Goes (.transferTimeout k dt) s₀ (fun t => t = s)) ∧
  (∀ x rest, s.xferQ k.val = x :: rest → x.cmd.interim = false → x.cmd.f < 16 →
    (∀ h pg, s.bench.restart = none → Goes (.transferStart k ⟨h, pg⟩ true dt) s₀ (fun t =>
      Final t x.cmd St.transferFailed [] ∧ (t.xferQ k.val).map (·.cmd) = rest.map (·.cmd) ∧
      t.fld (Reg.DLV_TQ k.val) 8 8 = rest.length % 2 ^ 8 ∧
      Keeps (inKeys [Reg.DLV_TQ k.val]) [.xfers, .host, .mboxes, .bench] s t)) ∧
    (∀ h pg, s.bench.restart = none → x.cmd.op = 0x0B02 → h.length = x.cmd.at 16 4 →
      Goes (.transferStart k ⟨h, pg⟩ false dt) s₀ (fun t =>
      Final t x.cmd St.ok [] ∧ t.bench.staged = some h ∧ t.bench.verified = false ∧
      (t.xferQ k.val).map (·.cmd) = rest.map (·.cmd) ∧
      Keeps (inKeys [Reg.DLV_TQ k.val]) [.xfers, .host, .mboxes, .bench] s t)) ∧
    (∀ h pg, s.bench.restart.isSome = true → ∀ fl, Goes (.transferStart k ⟨h, pg⟩ fl dt) s₀ (fun t => t = s)) ∧
    (∀ t0, x.headT = some t0 → t0 + usTicks 10000000 ≤ s.devTime → Goes (.transferTimeout k dt) s₀ (fun t =>
      Final t x.cmd St.timeout [] ∧ (t.xferQ k.val).map (·.cmd) = rest.map (·.cmd) ∧
      Keeps (inKeys [Reg.DLV_TQ k.val]) [.xfers, .mboxes, .bench] s t)) ∧
    (∀ t0, x.headT = some t0 → s.devTime < t0 + usTicks 10000000 →
      Goes (.transferTimeout k dt) s₀ (fun t => t = s))))

/-- Memory errors (R318 to R321, R353). An access error at a served address poisons its sector where it is
uncorrectable, counts in MEM_PCECC of its pseudo-channel, sets its flag, and is reported with its address; the
bytes stay. The scrubber does the same for what it finds. MEM_CMD.CLRCNT clears the counters. The channel monitor
and re-salting (R316, R317, R324). A window that has lasted MEM_MONCFG.WINDOW and in which the busiest channel is
above the threshold shows it in MEM_MONSTAT, sets MONHOT and is reported; firmware re-salts its busiest page,
unless a re-salt or an inlay runs or waits; one below clears it. A re-salt begins unless a copy or another one
runs or the page does not exist, and ends, all sets migrated, with the new salt in MEM_SALT. -/
def Obligations.MemoryErrors : Prop :=
  (∀ (s₀ s : State) (a : BitVec 36) (dt : Nat), s = s₀.pass dt → s.boot.mode = 0 →
  (s.memServes a.toNat = false → Goes (.memCe a dt) s₀ (fun t => t = s) ∧ Goes (.memUe a dt) s₀ (fun t => t = s)) ∧
  (∀ p, p = s.pcOf a.toNat → s.memServes a.toNat = true →
    Goes (.memCe a dt) s₀ (fun t =>
      t.fld (Reg.MEM_PCECC p) 0 16 = satAdd 16 (s.fld (Reg.MEM_PCECC p) 0 16) 1 ∧
      t.fld (Reg.MEM_PCECC p) 16 16 = s.fld (Reg.MEM_PCECC p) 16 16 ∧ t.bit Reg.MEM_IRQ 0 = true ∧
      { sig := 0x701, src := p, level := 0, t := s.devTime, addr := a.toNat, master := 0x8000 + p, access := 0 } ∈ t.reports ∧
      t.memx.sect = s.memx.sect ∧
      Keeps (inKeysI [Reg.MEM_PCECC p, Reg.MEM_IRQ]) [.reports, .memx, .out] s t) ∧
    Goes (.memUe a dt) s₀ (fun t =>
      t.fld (Reg.MEM_PCECC p) 16 16 = satAdd 16 (s.fld (Reg.MEM_PCECC p) 16 16) 1 ∧
      t.fld (Reg.MEM_PCECC p) 0 16 = s.fld (Reg.MEM_PCECC p) 0 16 ∧ t.bit Reg.MEM_IRQ 1 = true ∧
      { sig := 0x702, src := p, level := 1, t := s.devTime, addr := a.toNat, master := 0x8000 + p, access := 0 } ∈ t.reports ∧
      t.secPoison (a.toNat / 32) = true ∧
      (∀ k, k ≠ a.toNat / 32 → sget (fun _ => 0) t.memx.sect k = sget (fun _ => 0) s.memx.sect k) ∧
      Keeps (inKeysI [Reg.MEM_PCECC p, Reg.MEM_IRQ]) [.reports, .memx, .out] s t)) ∧
  (∀ k : BitVec 31, ∀ found : Fin 3, ∀ p, p = s.pcOf (32 * k.toNat) →
    (s.memServes (32 * k.toNat) = false ∨ s.bit Reg.MEM_CTL 1 = false ∨ found = 0 →
      Goes (.scrub k found dt) s₀ (fun t => t = s)) ∧
    (s.memServes (32 * k.toNat) = true → s.bit Reg.MEM_CTL 1 = true → found ≠ 0 →
      Goes (.scrub k found dt) s₀ (fun t =>
        t.bit Reg.MEM_IRQ (found.val - 1) = true ∧
        (∃ r ∈ t.reports, r.sig = 0x700 + found.val ∧ r.src = p ∧ r.addr = 32 * k.toNat ∧ r.access = 5) ∧
        (found = 2 → t.secPoison k.toNat = true) ∧
        Keeps (inKeysI [Reg.MEM_PCECC p, Reg.MEM_IRQ]) [.reports, .memx, .out] s t))) ∧
  (∀ s : State, Up s Reg.MEM_CMD → Goes .memClrcnt s (fun t =>
    (∀ p < 64, t.rd (Reg.MEM_PCECC p) = 0#32) ∧ (∀ k < 16, t.rd (Reg.MEM_PARTVIOL k) = 0#32) ∧
    Keeps (fun k => (∃ p < 64, k = Reg.MEM_PCECC p) ∨ ∃ j < 16, k = Reg.MEM_PARTVIOL j) [] s t))) ∧
  (∀ (s₀ s : State) (dt : Nat), s = s₀.pass dt → s.boot.mode = 0 →
  (∀ (bytes : List Nat) (page : Fin 768) (total top : Nat), total = (bytes.take 60).foldl (· + ·) 0 →
    top = maxList (bytes.take 60) →
    (s.bit Reg.MEM_CTL 0 = false ∨ s.devTime < s.memx.monT + s.monTicks →
      Goes (.monitorWindow bytes page dt) s₀ (fun t => t = s)) ∧
    (s.bit Reg.MEM_CTL 0 = true → s.memx.monT + s.monTicks ≤ s.devTime → top * 960 ≤ s.fld Reg.MEM_MONCFG 0 8 * total →
      Goes (.monitorWindow bytes page dt) s₀ (fun t => t.bit Reg.MEM_STAT 3 = false ∧
        t.memx = { s.memx with monT := s.devTime } ∧ Keeps (inKeys [Reg.MEM_STAT]) [.memx] s t)) ∧
    (s.bit Reg.MEM_CTL 0 = true → s.memx.monT + s.monTicks ≤ s.devTime → s.fld Reg.MEM_MONCFG 0 8 * total < top * 960 →
      Goes (.monitorWindow bytes page dt) s₀ (fun t => t.bit Reg.MEM_STAT 3 = true ∧ t.bit Reg.MEM_IRQ 2 = true ∧
        t.fld Reg.MEM_MONSTAT 8 8 = min 255 (top * 960 / total) ∧ t.fld Reg.MEM_MONSTAT 16 16 = page.val ∧
        (bytes.length = 60 → nth bytes (t.fld Reg.MEM_MONSTAT 0 8) 0 = top) ∧
        (∃ r, t.reports = s.reports ++ [r] ∧ r.sig = 0x706 ∧ r.src = t.fld Reg.MEM_MONSTAT 0 8 ∧ r.level = 0) ∧
        (s.fwDuty 3 = false ∨ s.memx.resalt.isSome = true ∨ s.memx.copy.isSome = true ∨ s.memx.queue ≠ [] →
          t.memx = { s.memx with monT := s.devTime } ∧
          Keeps (inKeysI [Reg.MEM_MONSTAT, Reg.MEM_STAT, Reg.MEM_IRQ]) [.reports, .memx, .out] s t) ∧
        (s.fwDuty 3 = true → s.memx.resalt = none → s.memx.copy = none → s.memx.queue = [] →
          (∃ new, t.memx = { s.memx with
            monT := s.devTime, resalt := some (page.val, new), resaltT := s.devTime }) ∧ t.bit Reg.MEM_STAT 2 = true ∧
          t.fld Reg.MEM_RESALTSEL 0 10 = page.val ∧
          Keeps (inKeysI [Reg.MEM_MONSTAT, Reg.MEM_STAT, Reg.MEM_RESALTSEL, Reg.MEM_IRQ])
            [.freeIdx, .reports, .memx, .out] s t)))) ∧
  (∀ (s : State) (z : Nat), s.boot.mode = 0 → z = s.fld Reg.MEM_RESALTSEL 0 10 → Up s Reg.MEM_CMD →
    (s.memx.copy.isSome = true ∨ s.memx.resalt.isSome = true ∨ 768 ≤ z → Goes .resalt s (fun t =>
      t.bit Reg.MEM_IRQ 6 = true ∧ Keeps (inKeysI [Reg.MEM_IRQ]) [.out] s t)) ∧
    (s.memx.copy = none → s.memx.resalt = none → z < 768 → Goes .resalt s (fun t =>
      t.memx = { s.memx with resalt := some (z, s.fld Reg.MEM_RESALTSEL 16 12), resaltT := s.devTime } ∧ t.resaltSets = 0 ∧
      t.bit Reg.MEM_STAT 2 = true ∧ Keeps (inKeys [Reg.MEM_STAT]) [.memx] s t))) ∧
  (s.memx.resalt = none ∨ s.resaltSets < 4096 → Goes (.resaltdone dt) s₀ (fun t => t = s)) ∧
  (∀ z new, s.memx.resalt = some (z, new) → s.resaltSets = 4096 → z < 768 → (Reg.MEM_CMD, 2) ∉ s.now.again →
    Goes (.resaltdone dt) s₀ (fun t => t.rd (Reg.MEM_SALT z) = w32 new ∧ t.bit Reg.MEM_IRQ 4 = true ∧
      t.memx.sect = s.memx.sect ∧ t.memx.copy = s.memx.copy ∧
      (s.bit Reg.MEM_STAT 3 = false → t.bit Reg.MEM_STAT 2 = false ∧ t.memx.resalt = none ∧
        Keeps (inKeysI [Reg.MEM_SALT z, Reg.MEM_STAT, Reg.MEM_IRQ]) [.memx, .out] s t) ∧
      Keeps (inKeysI [Reg.MEM_SALT z, Reg.MEM_STAT, Reg.MEM_RESALTSEL, Reg.MEM_IRQ]) [.freeIdx, .memx, .out] s t)))

/-- Inlays of pseudo-channels (R321 to R324, Table 11.2). A copy from a serving pseudo-channel to a sprue of its stack
begins on command or for the first cause that waits, and ends with the logical channel moved; a failure moves it
at once. -/
def Obligations.MemoryInlays : Prop := (∀ s : State, s.boot.mode = 0 →
  (∀ p q, p = s.fld Reg.MEM_INLAYSEL 0 6 → q = s.fld Reg.MEM_INLAYSEL 8 6 → Up s Reg.MEM_CMD →
    (s.memx.copy.isSome = true ∨ s.memx.resalt.isSome = true ∨ s.inlaySelOk p q = false → Goes (.inlay false) s (fun t =>
      t.bit Reg.MEM_IRQ 6 = true ∧ Keeps (inKeysI [Reg.MEM_IRQ]) [.out] s t)) ∧
    (s.memx.copy = none → s.memx.resalt = none → s.inlaySelOk p q = true → Goes (.inlay false) s (fun t =>
      t.memx = { s.memx with
        copy := some (p, q), copyT := s.devTime, queue := s.memx.queue.filter (· != p) } ∧ t.pcRole p = 2 ∧
      t.bit Reg.MEM_STAT 1 = true ∧ t.rd Reg.MEM_INLAYPROG = 0x10000#32 ∧
      Keeps (inKeys [Reg.MEM_PCSTAT p, Reg.MEM_STAT, Reg.MEM_INLAYPROG]) [.memx] s t))) ∧
  (s.memx.queue = [] → Goes (.inlay true) s (fun t => t = s)) ∧
  (∀ p rest, s.memx.queue = p :: rest → p < 64 →
    (s.memx.copy.isSome = true ∨ s.memx.resalt.isSome = true ∨ s.fwDuty 3 = false → Goes (.inlay true) s (fun t => t = s)) ∧
    (s.memx.copy = none → s.memx.resalt = none → s.fwDuty 3 = true →
      (s.pcSprue (p / 32) = none → Goes (.inlay true) s (fun t => t.memx = { s.memx with queue := rest } ∧
        (∃ r, t.reports = s.reports ++ [r] ∧ r.sig = 0x705 ∧ r.src = p ∧ r.level = 4) ∧ Keeps (inKeys []) [.reports, .memx] s t)) ∧
      (∀ q, s.pcSprue (p / 32) = some q → Goes (.inlay true) s (fun t => t.memx.copy = some (p, q) ∧
        t.memx.copyT = s.devTime ∧ p ∉ t.memx.queue ∧ t.pcRole p = 2 ∧ t.rd Reg.MEM_INLAYPROG = 0x10000#32 ∧
          t.bit Reg.MEM_STAT 1 = true ∧
        Keeps (inKeys [Reg.MEM_INLAYSEL, Reg.MEM_PCSTAT p, Reg.MEM_STAT, Reg.MEM_INLAYPROG]) [.memx] s t))))) ∧
  (∀ (s₀ s : State) (dt : Nat), s = s₀.pass dt → s.boot.mode = 0 →
  (s.memx.copy = none ∨ s.inlayMib < 768 → Goes (.inlaydone dt) s₀ (fun t => t = s)) ∧
  (∀ p q l, s.memx.copy = some (p, q) → s.inlayMib = 768 → (Reg.MEM_CMD, 1) ∉ s.now.again → s.pcLc p = some l → p < 64 →
    q < 64 → p ≠ q → Goes (.inlaydone dt) s₀ (fun t =>
    t.fld (Reg.MEM_PCMAP l) 0 6 = q ∧ t.pcRole p = 3 ∧ t.pcRole q = 0 ∧ t.rd Reg.MEM_INLAYPROG = 768#32 ∧
    t.bit Reg.MEM_STAT 1 = false ∧ t.bit Reg.MEM_IRQ 3 = true ∧ t.memx.copy = none ∧ t.memx.queue = s.memx.queue ∧
    (s.bit Reg.MEM_STAT 3 = false → t.memx = { s.memx with copy := none }) ∧
    Keeps (inKeysI [Reg.MEM_PCMAP l, Reg.MEM_PCSTAT p, Reg.MEM_PCSTAT q, Reg.MEM_INLAYPROG, Reg.MEM_STAT, Reg.MEM_RESALTSEL,
      Reg.MEM_IRQ]) [.freeIdx, .memx, .out] s t)) ∧
  (∀ (p : Fin 64) (l : Nat), s.pcLc p.val = some l → s.memx.copy = none →
    (∀ q why, s.pcSprue (p.val / 32) = some q → q ≠ p.val → Goes (.pcfail p why dt) s₀ (fun t =>
      t.fld (Reg.MEM_PCMAP l) 0 6 = q ∧ t.pcRole p.val = 3 ∧ t.pcRole q = 0 ∧ t.bit Reg.MEM_IRQ 5 = true ∧
      (s.memx.resalt = none → t.memx.dead = s.memx.dead ++ [(l, 0, [])]) ∧
      (∀ z new, s.memx.resalt = some (z, new) → t.memx.dead = s.memx.dead ++
        [(l, 0, [{ page := z, old := s.fld (Reg.MEM_SALT z) 0 12, ptr := s.resaltSets, new := new }])]) ∧
      p.val ∉ t.memx.queue ∧
      (∃ r, t.reports = s.reports ++ [r] ∧ r.sig = 0x704 ∧ r.src = p.val ∧ r.level = 2) ∧
      Keeps (inKeysI [Reg.MEM_PCMAP l, Reg.MEM_PCSTAT p.val, Reg.MEM_PCSTAT q, Reg.MEM_STAT, Reg.MEM_IRQ])
        [.reports, .memx, .out] s t)) ∧
    (∀ why, s.pcSprue (p.val / 32) = none → Goes (.pcfail p why dt) s₀ (fun t => t.bit Reg.MEM_IRQ 5 = true ∧
      (∃ r, t.reports = s.reports ++ [r] ∧ r.sig = 0x705 ∧ r.src = p.val ∧ r.level = 4) ∧
      Keeps (inKeysI [Reg.MEM_IRQ]) [.reports, .out] s t))))

/-- Channel commands (R333, R335, R338, R344, R345, R395). Each has its effect on the channel it names and on nothing
else: START begins an idle linked channel at HEAD and a register-set channel with its shadow, STOP parks one that
waits and lets a descriptor in progress finish, GO marks the shadow valid, KICK ends WAITOWN, CLRERR a halt,
CLRCNT the counts. A doorbell kicks only a channel of the function's own tenant (PF0's are those assigned to none)
that the crucible does not drive. While the channel's engine is not clocked, a write of its command register
reaches nothing and is noted as GATED (R363). An engine takes a ready channel (R331, R336, R338). It shows the
channel it serves, the channel runs and spends its credit; a plain copy within device memory of at most 256 bytes
moves every byte and no other. An engine that is off, isolated or busy, or finds none ready, takes none. -/
def Obligations.DmaChannels : Prop :=
  (∀ (s : State) (ch : Fin 512), s.boot.mode = 0 →
  (s.fnOk 0 = true → s.dmaOn ch.val = false →
    ∀ i ∈ [Instr.chcmdStart ch, .chcmdStop ch, .go ch, .kick ch, .clrerr ch, .chcmdClrcnt ch], Goes i s (fun t =>
      (∃ r, t.reports = s.reports ++ [r] ∧ r.sig = 0xE09 ∧ r.src = 14 ∧ r.level = 0 ∧ r.addr = Reg.DMA_CHCMD ch.val ∧
        r.master = 0 ∧ r.access = 1) ∧ Keeps (inKeys []) [.reports] s t)) ∧
  (∀ c x st, c = ch.val → x = s.chan c → st = s.chSt c → Up s (Reg.DMA_CHCMD c) → s.dmaOn c = true →
    (st ≠ 0 → st ≠ 5 → Goes (.chcmdStart ch) s (fun t => t = s)) ∧
    (st = 0 ∨ st = 5 → s.chPace c = 3 → Goes (.chcmdStart ch) s (fun t => t.chSt c = 6 ∧
      t.fld (Reg.DMA_CHSTAT c) 4 4 = 5 ∧ t.bit (Reg.DMA_CHIRQ c) 2 = true ∧
      (∃ r, t.reports = s.reports ++ [r] ∧ r.sig = 0x803 ∧ r.src = c ∧ r.level = 1) ∧
      Keeps (inKeysP [Reg.DMA_CHSTAT c, Reg.DMA_CHIRQ c] (s.chTenant c)) [.reports, .chans, .out] s t)) ∧
    (s.chPace c ≠ 3 → s.chLinked c = true →
      (st = 0 → Goes (.chcmdStart ch) s (fun t => t.chSt c = 1 ∧
        t.chan c = { addr := s.rd64 (Reg.DMA_CHHEAD_LO c) } ∧ t.rd64 (Reg.DMA_CHCUR_LO c) = s.rd64 (Reg.DMA_CHHEAD_LO c) ∧
        (∀ m, m ≠ c → t.chan m = s.chan m) ∧
        Keeps (inKeys [Reg.DMA_CHSTAT c, Reg.DMA_CHCUR_LO c, Reg.DMA_CHCUR_LO c + 4]) [.chans] s t)) ∧
      (st = 5 → Goes (.chcmdStart ch) s (fun t => t.chSt c = 1 ∧ t.chan c = { addr := x.addr } ∧
        (∀ m, m ≠ c → t.chan m = s.chan m) ∧
        Keeps (inKeys [Reg.DMA_CHSTAT c, Reg.DMA_CHCUR_LO c, Reg.DMA_CHCUR_LO c + 4]) [.chans] s t))) ∧
    (s.chPace c = 0 → s.chLinked c = false → st = 0 ∨ st = 5 → x.desc = none →
      (s.chShValid c = false → Goes (.chcmdStart ch) s (fun t => t.chSt c = 0 ∧
        Keeps (inKeys [Reg.DMA_CHSTAT c]) [] s t)) ∧
      (s.chShValid c = true → Goes (.chcmdStart ch) s (fun t => t.chSt c = 1 ∧ t.chShValid c = false ∧
        (t.chan c).desc = some (s.regDesc c 0x100) ∧ (∀ m, m ≠ c → t.chan m = s.chan m) ∧ Same [.regs, .chans] s t))) ∧
    (s.chShValid c = true → Goes (.go ch) s (fun t => t.bit (Reg.DMA_CHIRQ c) 4 = true ∧
      Keeps (inKeysP [Reg.DMA_CHIRQ c] (s.chTenant c)) [.out] s t)) ∧
    (s.chShValid c = false →
      (s.chLinked c = true ∨ x.desc.isSome = true ∨ st = 5 ∨ st = 6 → Goes (.go ch) s (fun t => t.chShValid c = true ∧
        Keeps (inKeys [Reg.DMA_CHSTAT c]) [] s t)) ∧
      (s.chPace c = 0 → s.chLinked c = false → x.desc = none → st ≠ 5 → st ≠ 6 → Goes (.go ch) s (fun t =>
        t.chSt c = 1 ∧ t.chShValid c = false ∧ (t.chan c).desc = some (s.regDesc c 0x100) ∧
        (∀ m, m ≠ c → t.chan m = s.chan m) ∧ Same [.regs, .chans] s t))) ∧
    (st = 2 → Goes (.chcmdStop ch) s (fun t => t.chan c = { x with stopping := true } ∧
      (∀ m, m ≠ c → t.chan m = s.chan m) ∧ Keeps (inKeys []) [.chans] s t)) ∧
    (st = 6 → Goes (.chcmdStop ch) s (fun t => t = s) ∧
      Goes (.clrerr ch) s (fun t => t.chSt c = 5 ∧ Keeps (inKeys [Reg.DMA_CHSTAT c]) [] s t)) ∧
    (st ≠ 2 → st ≠ 6 → Goes (.chcmdStop ch) s (fun t => t.chSt c = 5 ∧ t.chan c = { x with wait := none } ∧
      (∀ m, m ≠ c → t.chan m = s.chan m) ∧ Keeps (inKeys [Reg.DMA_CHSTAT c]) [.chans] s t)) ∧
    (st ≠ 6 → Goes (.clrerr ch) s (fun t => t = s)) ∧
    (st = 4 → Goes (.kick ch) s (fun t => t.chSt c = 1 ∧ Keeps (inKeys [Reg.DMA_CHSTAT c]) [] s t)) ∧
    (st ≠ 4 → Goes (.kick ch) s (fun t => t = s)) ∧
    Goes (.chcmdClrcnt ch) s (fun t => t.rd (Reg.DMA_CHDONE c) = 0#32 ∧ t.rd (Reg.DMA_CHCRED c) = 0#32 ∧
      t.fld (Reg.DMA_CHSTAT c) 16 8 = 0 ∧ (∀ m, m ≠ c → t.chan m = s.chan m) ∧
      Keeps (inKeys [Reg.DMA_CHDONE c, Reg.DMA_CHCRED c, Reg.DMA_CHSTAT c]) [.chans] s t)) ∧
  (∀ (f : Fin 16) (own : Prop), s.fnOk f.val = true → s.unitUp (Reg.MBX_DMAKICK 0 ch.val) = true →
    (own ↔ (if s.bit (Reg.DMA_CHOWN ch.val) 4 then s.chTenant ch.val = f.val else f.val = 0) ∧
      s.bit (Reg.DMA_CHOWN ch.val) 5 = false ∧ s.dmaOn ch.val = true) →
    (own → s.chSt ch.val = 4 → Goes (.mbxDmakick f ch) s (fun t => t.chSt ch.val = 1 ∧
      Keeps (inKeys [Reg.DMA_CHSTAT ch.val]) [] s t)) ∧
    (own → s.chSt ch.val ≠ 4 → Goes (.mbxDmakick f ch) s (fun t => t = s)) ∧
    (¬ own → Goes (.mbxDmakick f ch) s (fun t =>
      t.fld (Reg.MBX_ERR f.val) 0 16 = satAdd 16 (s.fld (Reg.MBX_ERR f.val) 0 16) 1 ∧
      Keeps (inKeys [Reg.MBX_ERR f.val]) [] s t)))) ∧
  (∀ (s₀ s : State) (e : Fin 16) (dt : Nat), s = s₀.pass dt → s.boot.mode = 0 →
  (s.clkOn (208 + e.val) = false ∨ s.bit (Reg.DMA_ENGCTL e.val) 0 = false ∨ s.bit (Reg.DMA_ENGSTAT e.val) 10 = true ∨
    (s.engine e.val).ch.isSome = true ∨ s.enginePick e.val = none → Goes (.enginePick e dt) s₀ (fun t => t = s)) ∧
  (∀ ch d, s.clkOn (208 + e.val) = true → s.bit (Reg.DMA_ENGCTL e.val) 0 = true → s.bit (Reg.DMA_ENGSTAT e.val) 10 = false →
    (s.engine e.val).ch = none → s.enginePick e.val = some ch → (s.chan ch).desc = some d →
    (Goes (.enginePick e dt) s₀ (fun t => ch / 32 = e.val ∧ t.engine e.val = { ch := some ch, last := ch % 32 } ∧
      (∀ m, m ≠ e.val → t.engine m = s.engine m) ∧ t.chSt ch = 2 ∧ t.fld (Reg.DMA_ENGSTAT e.val) 4 5 = ch % 32 ∧
      t.bit (Reg.DMA_ENGSTAT e.val) 0 = true ∧ (s.chPace ch ≠ 0 → t.credits ch = s.credits ch - 1) ∧
      (∀ m, m ≠ ch → t.chan m = s.chan m) ∧
      Same [.regs, .memx, .chans, .engines, .devMem, .hostMem, .out] s t)) ∧
    (∀ a b, d.mode = 0 → d.srcHost = false → d.dstHost = false → bitOf d.ctl 21 = false → d.bad 0 0 = false → 0 < d.len →
      d.len ≤ 256 → (s.chan ch).k = 0 → (s.chan ch).done = false → s.devAddr (s.chTenant ch) d.src d.len = some a →
      s.devAddr (s.chTenant ch) d.dst d.len = some b → Goes (.enginePick e dt) s₀ (fun t =>
        (∀ i < d.len, memGet t.devMem (b + i) = memGet s.devMem (a + i)) ∧
        (∀ x, ¬ (b ≤ x ∧ x < b + d.len) → memGet t.devMem x = memGet s.devMem x) ∧ t.hostMem = s.hostMem ∧
        (t.chan ch).done = true ∧ (t.chan ch).bytes = (s.chan ch).bytes + d.len))))

/-- Descriptors (R334, R335, R339, R341, R342, R344, R371). A linked channel reads its next one: without OWN it waits,
a sound one makes it ready, one outside its tenant's range halts it. The last write of a descriptor completes it,
or with FENCE the arrival of its writes on the host or in the fabric; where the completion word awaits a
translation, the channel asks for it. A channel without a credit for DMA_CHSTALL µs halts. Errors of engines and
the fabric (Table 11.10, Table 16.2). An uncorrectable buffer error isolates the engine, and every channel of it
halts with HOSTERR; a corrected one counts; both are reported. An uncorrectable error of the fabric is a fault of
level 4. -/
def Obligations.DmaDescriptors : Prop :=
  (∀ (s₀ s : State) (dt : Nat), s = s₀.pass dt → s.boot.mode = 0 →
  (∀ (ch : Fin 512) (host : List Byte) (c : Nat), c = ch.val →
    (s.dmaOn c = false ∨ s.chLinked c = false ∨ s.chSt c ≠ 1 ∨ (s.chan c).desc.isSome = true →
      Goes (.descriptorFetch ch host dt) s₀ (fun t => t = s)) ∧
    (s.dmaOn c = true → s.chLinked c = true → s.chSt c = 1 → (s.chan c).desc = none → s.bit (Reg.DMA_CHCFG c) 1 = true →
      (s.bit Reg.HOSTEP_LINK 14 = false → Goes (.descriptorFetch ch host dt) s₀ (fun t => t = s)) ∧
      (s.bit Reg.HOSTEP_LINK 14 = true → s.hostReady (s.chTenant c) (s.bit (Reg.DMA_CHCFG c) 2) (s.chan c).addr 64 = false →
        Goes (.descriptorFetch ch host dt) s₀ (fun t => t.chan c = { s.chan c with want := 2, wantT := s.devTime } ∧
          (∀ m, m ≠ c → t.chan m = s.chan m) ∧ Keeps (inKeys []) [.chans] s t)) ∧
      (s.bit Reg.HOSTEP_LINK 14 = true → s.hostReady (s.chTenant c) (s.bit (Reg.DMA_CHCFG c) 2) (s.chan c).addr 64 = true →
        64 ≤ host.length → leAt host 56 8 % 2 = 1 → (descOf host).bad (leAt host 46 2) (descOf host).next = false →
        Goes (.descriptorFetch ch host dt) s₀ (fun t => (t.chan c).desc = some (descOf host) ∧ (t.chan c).k = 0 ∧
          (∀ m, m ≠ c → t.chan m = s.chan m) ∧
          Keeps (inKeys [Reg.DMA_CHSTAT c, Reg.DMA_CHCUR_LO c, Reg.DMA_CHCUR_LO c + 4]) [.chans] s t))) ∧
    (s.dmaOn c = true → s.chLinked c = true → s.chSt c = 1 → (s.chan c).desc = none → s.bit (Reg.DMA_CHCFG c) 1 = false →
      (∀ v bs, s.chAddr c (s.chan c).addr 64 = some v → bs = memRead s.devMem v 64 →
        (leAt bs 56 8 % 2 = 0 → Goes (.descriptorFetch ch host dt) s₀ (fun t => t.chSt c = 4 ∧
          t.chan c = { addr := (s.chan c).addr } ∧ (∀ m, m ≠ c → t.chan m = s.chan m) ∧
          Keeps (inKeys [Reg.DMA_CHSTAT c, Reg.DMA_CHCUR_LO c, Reg.DMA_CHCUR_LO c + 4]) [.chans] s t)) ∧
        (leAt bs 56 8 % 2 = 1 → (descOf bs).bad (leAt bs 46 2) (descOf bs).next = false →
          Goes (.descriptorFetch ch host dt) s₀ (fun t => (t.chan c).desc = some (descOf bs) ∧ (t.chan c).k = 0 ∧
            (s.chPace c = 0 ∨ 0 < s.credits c → t.chSt c = 1) ∧
            (s.chPace c ≠ 0 → s.credits c = 0 → t.chSt c = 3 ∧ (t.chan c).wait = some (s.devTime)) ∧
            (∀ m, m ≠ c → t.chan m = s.chan m) ∧
            Keeps (inKeys [Reg.DMA_CHSTAT c, Reg.DMA_CHCUR_LO c, Reg.DMA_CHCUR_LO c + 4]) [.chans] s t))) ∧
      (s.chAddr c (s.chan c).addr 64 = none → Goes (.descriptorFetch ch host dt) s₀ (fun t => t.chSt c = 6 ∧
        t.fld (Reg.DMA_CHSTAT c) 4 4 = 3 ∧ t.bit (Reg.DMA_CHIRQ c) 2 = true ∧
        t.fld (Reg.MEM_PARTVIOL (s.chTenant c)) 0 32 = satAdd 32 (s.fld (Reg.MEM_PARTVIOL (s.chTenant c)) 0 32) 1 ∧
        (∃ r ∈ t.reports, r.sig = 0x801 ∧ r.src = c ∧ r.level = 2) ∧ t.devMem = s.devMem ∧ t.hostMem = s.hostMem ∧
        Same dmaParts s t)))) ∧
  (∀ e : Fin 16,
    (s.doneOn e.val = none → Goes (.descriptorComplete e dt) s₀ (fun t => t = s) ∧
      Goes (.fenceReadReturn e dt) s₀ (fun t => t = s) ∧ Goes (.fabricWriteAck e dt) s₀ (fun t => t = s)) ∧
    (∀ ch d st, s.doneOn e.val = some (ch, d, st) → ch / 32 = e.val →
      (d.fenced = false ∨ st = 1 ∨ st = 5 ∨ st = 6 → Goes (.descriptorComplete e dt) s₀ (fun t => Closes s t ch d st)) ∧
      (d.fenced = true → st ≠ 1 → st ≠ 5 → st ≠ 6 → Goes (.descriptorComplete e dt) s₀ (fun t => t = s)) ∧
      (d.fenced = true → d.dstHost = true → Goes (.fenceReadReturn e dt) s₀ (fun t => Closes s t ch d st) ∧
        Goes (.fabricWriteAck e dt) s₀ (fun t => t = s)) ∧
      (d.fenced = true → d.dstHost = false → Goes (.fabricWriteAck e dt) s₀ (fun t => Closes s t ch d st) ∧
        Goes (.fenceReadReturn e dt) s₀ (fun t => t = s)) ∧
      (d.fenced = false → Goes (.fenceReadReturn e dt) s₀ (fun t => t = s) ∧
        Goes (.fabricWriteAck e dt) s₀ (fun t => t = s)))) ∧
  (∀ (ch : Fin 512) (c due : Nat), c = ch.val → due = usTicks (max 1 (s.fld (Reg.DMA_CHSTALL c) 0 24)) →
    ((s.chan c).wait = none ∨ s.dmaOn c = false ∨ s.chSt c ≠ 3 → Goes (.stall ch dt) s₀ (fun t => t = s)) ∧
    (∀ t0, (s.chan c).wait = some t0 → s.dmaOn c = true → s.chSt c = 3 →
      (s.devTime < t0 + due → Goes (.stall ch dt) s₀ (fun t => t = s)) ∧
      (t0 + due ≤ s.devTime → Goes (.stall ch dt) s₀ (fun t => t.chSt c = 6 ∧ t.bit (Reg.DMA_CHIRQ c) 2 = true ∧
        t.bit (Reg.DMA_CHIRQ c) 3 = true ∧ (t.chan c).wait = none ∧ (∀ m, m ≠ c → t.chan m = s.chan m) ∧
        (∃ r, t.reports = s.reports ++ [r] ∧ r.sig = 0x804 ∧ r.src = c ∧ r.level = 1) ∧
        Keeps (inKeysP [Reg.DMA_CHSTAT c, Reg.DMA_CHIRQ c] (s.chTenant c)) [.reports, .chans, .out] s t))))) ∧
  (∀ (s₀ s : State) (dt : Nat), s = s₀.pass dt → s.boot.mode = 0 →
  (∀ e : Fin 16,
    (s.clkOn (208 + e.val) = false → Goes (.bufUe e dt) s₀ (fun t => t = s) ∧
      Goes (.bufCe e dt) s₀ (fun t => t = s)) ∧
    (s.clkOn (208 + e.val) = true →
      Goes (.bufUe e dt) s₀ (fun t => t.bit (Reg.DMA_ENGSTAT e.val) 10 = true ∧
        t.fld (Reg.DMA_ENGECC e.val) 16 16 = satAdd 16 (s.fld (Reg.DMA_ENGECC e.val) 16 16) 1 ∧
        (∃ r, t.reports = s.reports ++ [r] ∧ r.sig = 0x806 ∧ r.src = 32 * e.val ∧ r.level = 2) ∧
        (∀ j < 32, t.chSt (32 * e.val + j) = 6 ∧
          t.fld (Reg.DMA_CHSTAT (32 * e.val + j)) 4 4 = 4 ∧ (t.chan (32 * e.val + j)).desc = none) ∧
        (∀ c, c / 32 ≠ e.val → t.chan c = s.chan c) ∧
        Same [.regs, .reports, .rings, .chans, .engines, .out] s t) ∧
      Goes (.bufCe e dt) s₀ (fun t => t.fld (Reg.DMA_ENGECC e.val) 0 16 = satAdd 16 (s.fld (Reg.DMA_ENGECC e.val) 0 16) 1 ∧
        (∃ r, t.reports = s.reports ++ [r] ∧ r.sig = 0x805 ∧ r.src = 32 * e.val ∧ r.level = 0) ∧
        Keeps (inKeys [Reg.DMA_ENGECC e.val]) [.reports] s t))) ∧
  Goes (.fabUe dt) s₀ (fun t => (∃ r, t.reports = s.reports ++ [r] ∧ r.sig = 0x807 ∧ r.src = 0 ∧ r.level = 4) ∧
    Keeps (inKeys []) [.reports] s t))

/-- Device memory through BAR2 (R359, R362, R363, R375). A write stores its enabled bytes and no other, a read
delivers the bytes with their poison; an access outside the function's range is counted and noted, and changes no
memory; one to controllers that do not serve is noted, and one of a function that does not answer is refused. -/
def Obligations.HostMemory : Prop := ∀ (s : State) (f : Fin 16) (off : BitVec 36) (len : Nat) (poison : Bool),
  s.boot.mode = 0 →
  (s.fnOk f.val = false →
    (∀ d, Goes (.bar2Access f off len (some d) poison) s (fun t => Keeps (inKeys [Reg.HOSTEP_LINK]) [.idleT] s t)) ∧
    Goes (.bar2Access f off len none poison) s (fun t => .refused f.val off.toNat false ∈ t.out ∧
      Keeps (inKeysI [Reg.HOSTEP_LINK, Reg.HOSTEP_CACNT, Reg.HOSTEP_ERRCNT, Reg.HOSTEP_IRQ]) [.idleT, .reports, .host, .out] s t)) ∧
  (s.fnOk f.val = true → s.memUp = false →
    (∀ d, Goes (.bar2Access f off len (some d) poison) s (fun t =>
      (∃ r, t.reports = s.reports ++ [r] ∧ r.sig = 0xE09 ∧ r.src = 15 ∧ r.addr = off.toNat) ∧
      Keeps (inKeys [Reg.HOSTEP_LINK]) [.idleT, .reports] s t)) ∧
    Goes (.bar2Access f off len none poison) s (fun t => .refused f.val off.toNat true ∈ t.out ∧ t.devMem = s.devMem ∧
      (∃ r ∈ t.reports, r.sig = 0xE09 ∧ r.src = 15) ∧
      Keeps (inKeysI [Reg.HOSTEP_LINK, Reg.HOSTEP_CACNT, Reg.HOSTEP_ERRCNT, Reg.HOSTEP_IRQ]) [.idleT, .reports, .host, .out] s t)) ∧
  (s.fnOk f.val = true → s.memUp = true →
    (∀ d a, s.devAddr f.val off.toNat d.length = some a →
      Goes (.bar2Access f off len (some d) poison) s (fun t =>
        (∀ i < d.length, memGet t.devMem (a + i) = (nth d i none).getD (memGet s.devMem (a + i))) ∧
        (∀ x, ¬ (a ≤ x ∧ x < a + d.length) → memGet t.devMem x = memGet s.devMem x) ∧
        (poison = true → ∀ i < d.length, (nth d i none).isSome = true → t.secPoison ((a + i) / 32) = true) ∧
        (poison = false → Keeps (inKeys [Reg.HOSTEP_LINK]) [.idleT, .memx, .devMem] s t) ∧
        Keeps (inKeysI [Reg.HOSTEP_LINK, Reg.HOSTEP_ERRCNT, Reg.HOSTEP_IRQ]) [.idleT, .memx, .devMem, .reports, .host, .out] s t)) ∧
    (∀ d, s.devAddr f.val off.toNat d.length = none → Goes (.bar2Access f off len (some d) poison) s (fun t =>
      t.devMem = s.devMem ∧ (∃ r ∈ t.reports, r.sig = 0x707 ∧ r.src = f.val ∧ r.addr = off.toNat ∧ r.access = 1) ∧
      t.fld (Reg.MEM_PARTVIOL f.val) 0 32 = satAdd 32 (s.fld (Reg.MEM_PARTVIOL f.val) 0 32) 1)) ∧
    (∀ a, s.devAddr f.val off.toNat len = some a → Goes (.bar2Access f off len none poison) s (fun t =>
      t.out = .bar2 f.val off.toNat (memRead s.devMem a len) ((sectors a len).any s.secPoison) :: s.out ∧
      Keeps (inKeys [Reg.HOSTEP_LINK]) [.idleT, .out] s t)) ∧
    (s.devAddr f.val off.toNat len = none → Goes (.bar2Access f off len none poison) s (fun t =>
      .refused f.val off.toNat true ∈ t.out ∧ t.devMem = s.devMem ∧
      t.fld (Reg.MEM_PARTVIOL f.val) 0 32 = satAdd 32 (s.fld (Reg.MEM_PARTVIOL f.val) 0 32) 1)))

/-- Reads of host memory by a channel (R371 to R373, R375). The bytes of a completion reach the descriptor that waits
for them; a failed read, a denied translation and a timeout end it with HOSTERR; a completion that nothing waits
for is an error; an invalidation removes its translations and is answered. -/
def Obligations.HostReads : Prop := ∀ (s₀ s : State) (dt : Nat), s = s₀.pass dt → s.boot.mode = 0 →
  (∀ (ch : Fin 512) (data : List Byte) (poison fail : Bool) (c : Nat) (x : Chan), c = ch.val → x = s.chan c →
    (x.want ≠ 1 → Goes (.readCompletion ch data poison fail dt) s₀ (fun t => t.bit Reg.HOSTEP_IRQ 7 = true ∧
      (∃ r, t.reports = s.reports ++ [r] ∧ r.sig = 0x907 ∧ r.src = s.chTenant c ∧ r.level = 0) ∧
      Keeps (inKeysI [Reg.HOSTEP_ERRCNT, Reg.HOSTEP_IRQ]) [.reports, .host, .out] s t)) ∧
    (∀ d, x.want = 1 → x.desc = some d → (s.engine (c / 32)).ch = some c →
      Goes (.readCompletion ch data poison true dt) s₀ (fun t => Ended s t c d 4 ∧ Same dmaParts s t)) ∧
    (x.want = 1 → x.desc = none → Goes (.readCompletion ch data false false dt) s₀ (fun t =>
      t.chan c = { x with buf := x.buf ++ data, want := 0 } ∧ (∀ m, m ≠ c → t.chan m = s.chan m) ∧
      Keeps (inKeys [Reg.HOSTEP_RDOUT]) [.chans] s t)) ∧
    (∀ d b, x.want = 1 → x.desc = some d → d.mode = 0 → d.srcHost = true → d.dstHost = false → bitOf d.ctl 6 = false →
      bitOf d.ctl 21 = false → 0 < d.len → d.len ≤ 256 → x.k = 0 → x.done = false → x.buf = [] → data.length = d.len →
      s.devAddr (s.chTenant c) d.dst d.len = some b → Goes (.readCompletion ch data poison false dt) s₀ (fun t =>
        (∀ i < d.len, memGet t.devMem (b + i) = nth data i 0#8) ∧
        (∀ y, ¬ (b ≤ y ∧ y < b + d.len) → memGet t.devMem y = memGet s.devMem y) ∧ (t.chan c).done = true ∧
        t.hostMem = s.hostMem ∧ Same (.host :: dmaParts) s t)) ∧
    ((x.want ≠ 1 ∨ s.devTime < x.wantT + usTicks (ctoLimit s.host.cto)) → Goes (.cto ch dt) s₀ (fun t => t = s)) ∧
    (∀ d, x.want = 1 → x.wantT + usTicks (ctoLimit s.host.cto) ≤ s.devTime → x.desc = some d →
      (s.engine (c / 32)).ch = some c → Goes (.cto ch dt) s₀ (fun t => Ended s t c d 4 ∧
        t.fld Reg.HOSTEP_CTOCNT 0 32 = satAdd 32 (s.fld Reg.HOSTEP_CTOCNT 0 32) 1 ∧ t.bit Reg.HOSTEP_IRQ 5 = true ∧
        (∃ r ∈ t.reports, r.sig = 0x904 ∧ r.src = s.chTenant c ∧ r.level = 1) ∧ Same (.host :: dmaParts) s t)) ∧
    (∀ page dst ok, x.want ≠ 2 → Goes (.translationCompletion ch page dst ok dt) s₀ (fun t => t = s)) ∧
    (∀ page dst, x.want = 2 → Goes (.translationCompletion ch page dst true dt) s₀ (fun t =>
      t.host = { s.host with atc := atcAdd s.host.atc (s.chTenant c) page.toNat dst.toNat } ∧
      (x.desc = none → t.chan c = { x with want := 0 } ∧ Keeps (inKeys []) [.host, .chans] s t) ∧
      Same (.host :: dmaParts) s t)) ∧
    (∀ page dst d, x.want = 2 → x.desc = some d → (s.engine (c / 32)).ch = some c →
      Goes (.translationCompletion ch page dst false dt) s₀ (fun t => Ended s t c d 4 ∧
        t.fld Reg.HOSTEP_ATS 16 16 = satAdd 16 (s.fld Reg.HOSTEP_ATS 16 16) 1 ∧ Same dmaParts s t)) ∧
    (∀ page dst, x.want = 2 → x.desc = none → Goes (.translationCompletion ch page dst false dt) s₀ (fun t =>
      t.fld Reg.HOSTEP_ATS 16 16 = satAdd 16 (s.fld Reg.HOSTEP_ATS 16 16) 1 ∧ t.fld (Reg.DMA_CHSTAT c) 4 4 = 4 ∧
      t.chSt c = 6 ∧ t.bit (Reg.DMA_CHIRQ c) 2 = true ∧ t.devMem = s.devMem ∧ t.hostMem = s.hostMem ∧ Same dmaParts s t))) ∧
  (∀ f : Fin 16,
    Goes (.unexpcpl f dt) s₀ (fun t => t.bit Reg.HOSTEP_IRQ 7 = true ∧
      (∃ r, t.reports = s.reports ++ [r] ∧ r.sig = 0x907 ∧ r.src = f.val ∧ r.level = 0) ∧
      Keeps (inKeysI [Reg.HOSTEP_ERRCNT, Reg.HOSTEP_IRQ]) [.reports, .host, .out] s t) ∧
    (∀ first n tag, s.fnFlr f.val = true → Goes (.invalidateRequest f first n tag dt) s₀ (fun t =>
      t.out = .invCpl f.val tag.val :: s.out ∧ t.fld Reg.HOSTEP_ATS 0 16 = (s.fld Reg.HOSTEP_ATS 0 16 + 1) % 2 ^ 16 ∧
      Keeps (inKeys [Reg.HOSTEP_ATS]) [.out] s t)) ∧
    (∀ first n tag, s.fnFlr f.val = false → Goes (.invalidateRequest f first n tag dt) s₀ (fun t =>
      (∀ e, e ∈ t.host.atc ↔ e ∈ s.host.atc ∧ ¬ (e.1 = f.val ∧ first.toNat ≤ e.2.1 ∧ e.2.1 < first.toNat + n)) ∧
      t.host.inv = s.host.inv ++ [(f.val, tag.val)] ∧ Keeps (inKeys []) [.host] s t))) ∧
  (s.host.inv = [] → Goes (.invalidateCompletion dt) s₀ (fun t => t = s)) ∧
  (∀ f tag rest, s.host.inv = (f, tag) :: rest → Goes (.invalidateCompletion dt) s₀ (fun t =>
    t.host = { s.host with inv := rest } ∧ t.out = .invCpl f tag :: s.out ∧
    t.fld Reg.HOSTEP_ATS 0 16 = (s.fld Reg.HOSTEP_ATS 0 16 + 1) % 2 ^ 16 ∧
    Keeps (inKeys [Reg.HOSTEP_ATS]) [.host, .out] s t))

/-- Functions (R364 to R366, R376 to R378, R384). NumVFs changes only while VF Enable is clear, and clearing VF Enable
resets every VF. A function-level reset takes the function out of service at once and drops what it has pending;
once 10 ms have passed on a link that is up, its registers are as after reset and it serves again. Clearing a mask
sends the pending vectors. The maker's mark steps its generation by two at a rewrite, as configuration space shows
(R357). -/
def Obligations.Functions : Prop := (∀ s : State, s.boot.mode = 0 →
  (∀ n : BitVec 16, (s.host.vfEn = true → Goes (.numvfsWrite n) s (fun t => t = s)) ∧
    (s.host.vfEn = false → Goes (.numvfsWrite n) s (fun t =>
      t.host = { s.host with numVfs := min 15 n.toNat } ∧ Keeps (inKeys []) [.host] s t))) ∧
  Goes (.vfEnable true) s (fun t => t.host = { s.host with vfEn := true } ∧ Keeps (inKeys []) [.host] s t) ∧
  (s.host.vfEn = false → Goes (.vfEnable false) s (fun t => t = s)) ∧
  (s.host.vfEn = true → Goes (.vfEnable false) s (fun t => t.host.vfEn = false ∧
    (∀ f, 0 < f → f < 16 → f ≤ s.host.numVfs → t.fnFlr f = true) ∧ t.fnFlr 0 = s.fnFlr 0 ∧ t.axes = s.axes ∧ t.parts = s.parts)) ∧
  (∀ f : Fin 16,
    fldOf (s.vsecWord f.val) 0 4 = f.val ∧ bitOf (s.vsecWord f.val) 8 = s.tenantIs f.val ∧
    (∀ en fm, Goes (.msixUnmask f en fm) s (fun t => t.bit (Reg.HOSTEP_FNSTAT f.val) 4 = en ∧
      t.bit (Reg.HOSTEP_FNSTAT f.val) 5 = fm ∧
      (∀ v < vecCount f.val, s.bit (Reg.PBA f.val (v / 32)) (v % 32) = true →
        (en = true ∧ fm = false ∧ s.bit (Reg.MSIX f.val v 3) 0 = false →
          t.bit (Reg.PBA f.val (v / 32)) (v % 32) = false ∧ .msix f.val v ∈ t.out) ∧
        (en = false ∨ fm = true ∨ s.bit (Reg.MSIX f.val v 3) 0 = true → t.bit (Reg.PBA f.val (v / 32)) (v % 32) = true)) ∧
      Keeps (inKeysP [Reg.HOSTEP_FNSTAT f.val] f.val) [.out] s t)))) ∧
  (∀ (s₀ s : State) (dt : Nat), s = s₀.pass dt → s.boot.mode = 0 →
  (∀ f : Fin 16,
    (s.fnPresent f.val = false ∨ s.fnFlr f.val = true → Goes (.flr f dt) s₀ (fun t => t = s)) ∧
    (s.fnPresent f.val = true → s.fnFlr f.val = false → f ≠ 0 → Goes (.flr f dt) s₀ (fun t =>
      t.host.flr = s.host.flr ++ [(f.val, s.devTime)] ∧ t.fnOk f.val = false ∧ t.bit Reg.HOSTEP_FLRSTAT f.val = true ∧
      t.bit (Reg.HOSTEP_FNSTAT f.val) 7 = true ∧ t.bit (Reg.HOSTEP_FNSTAT f.val) 4 = false ∧ t.bit Reg.HOSTEP_IRQ 3 = true ∧
      (∀ e ∈ t.host.atc, e.1 ≠ f.val) ∧ (∀ c ∈ t.bench.running, c.f ≠ f.val) ∧
      t.axes = s.axes ∧ t.noz = s.noz ∧ t.parts = s.parts ∧ t.hostMem = s.hostMem ∧ t.bonds = s.bonds)) ∧
    (s.host.flr.find? (fun e => e.1 == f.val) = none → Goes (.flrdone f dt) s₀ (fun t => t = s)) ∧
    (∀ t0, s.host.flr.find? (fun e => e.1 == f.val) = some (f.val, t0) →
      (s.devTime < t0 + usTicks 10000 ∨ s.bit Reg.HOSTEP_LINK 14 = false → Goes (.flrdone f dt) s₀ (fun t => t = s)) ∧
      (t0 + usTicks 10000 ≤ s.devTime → s.bit Reg.HOSTEP_LINK 14 = true → Goes (.flrdone f dt) s₀ (fun t =>
        t.fnFlr f.val = false ∧ t.rd (Reg.HOSTEP_FNSTAT f.val) = 0#32 ∧ t.bit Reg.HOSTEP_FLRSTAT f.val = false ∧
        t.bit Reg.HOSTEP_IRQ 4 = true ∧ t.rdN Reg.HOSTEP_FLRCNT = (s.rdN Reg.HOSTEP_FLRCNT + 1) % 2 ^ 32 ∧
        (t.mbox f.val).held = [] ∧ (t.mbox f.val).faults = (s.mbox f.val).faults ∧ (∀ r < 16, t.ring f.val r = {}) ∧
        (f ≠ 0 → ∀ k, fnKey f.val k = true → t.rd k = resetOf s.bootGen k) ∧
        Keeps (fun k => fnKey f.val k = true ∨ k = Reg.HOSTEP_FNSTAT f.val ∨ k = Reg.HOSTEP_FLRSTAT ∨ k = Reg.HOSTEP_FLRCNT ∨
          k = Reg.HOSTEP_IRQ ∨ irqKey k) [.rings, .host, .mboxes, .out] s t)))) ∧
  (s.fwServes = false → Goes (.makersMarkRewrite dt) s₀ (fun t => t = s)) ∧
  (s.fwServes = true → Goes (.makersMarkRewrite dt) s₀ (fun t =>
    t.host = { s.host with mark := s.markTable ((leAt s.host.mark 12 4 + 2) % 2 ^ 32) } ∧
    (∀ f < 16, fldOf (t.vsecWord f) 16 16 = (leAt s.host.mark 12 4 + 2) % 2 ^ 16) ∧ Keeps (inKeys []) [.host] s t)))

/-- The link and its power states (R374, R379 to R382, R387, R512). The data link down is a fault of level 4, up shows
what training found; below speed 6 or width 16 it is noted. A link idle for HOSTEP_L1IDLE enters L1, the width
halves and doubles with the traffic, within its limits. D3hot of a VF stops the channels of its tenant, of PF0 it
silences capture. -/
def Obligations.LinkPower : Prop := ∀ (s₀ s : State) (dt : Nat), s = s₀.pass dt → s.boot.mode = 0 →
  (s.bit Reg.HOSTEP_LINK 14 = false ∨ s.boot.perst = true → Goes (.linkdown dt) s₀ (fun t => t = s)) ∧
  (s.bit Reg.HOSTEP_LINK 14 = true → s.boot.perst = false → Goes (.linkdown dt) s₀ (fun t => t.rd Reg.HOSTEP_LINK = 0#32 ∧
    t.bit Reg.HOSTEP_IRQ 0 = true ∧ (∃ r ∈ t.reports, r.sig = 0x90A ∧ r.src = 0 ∧ r.level = 4) ∧ Same dmaParts s t)) ∧
  (∀ (speed : Fin 7) (width : Fin 17) (flit : Bool) (cfg : List (Fin 16 × BitVec 5)) (ctl cto : BitVec 4),
    (s.bit Reg.HOSTEP_LINK 14 = true ∨ s.domOn 1 = false →
      Goes (.linkup speed width flit cfg ctl cto dt) s₀ (fun t => t = s)) ∧
    (s.bit Reg.HOSTEP_LINK 14 = false → s.domOn 1 = true → Goes (.linkup speed width flit cfg ctl cto dt) s₀ (fun t =>
      t.fld Reg.HOSTEP_LINK 0 3 = speed.val ∧ t.fld Reg.HOSTEP_LINK 3 5 = width.val ∧ t.fld Reg.HOSTEP_LINK 8 5 = width.val ∧
      t.bit Reg.HOSTEP_LINK 13 = flit ∧ t.bit Reg.HOSTEP_LINK 14 = true ∧ t.bit Reg.HOSTEP_IRQ 1 = true ∧
      t.host = { s.host with ctl := ctl.toNat, cto := cto.toNat } ∧
      ((cfg.map (·.1)).Nodup → ∀ e ∈ cfg, t.fld (Reg.HOSTEP_FNSTAT e.1.val) 2 5 = e.2.toNat) ∧
      (speed.val < 6 ∨ width.val < 16 → t.bit Reg.HOSTEP_IRQ 2 = true ∧ ∃ r, t.reports = s.reports ++ [r] ∧ r.sig = 0x90B ∧
        r.level = 0) ∧
      (speed.val = 6 → width.val = 16 → t.reports = s.reports) ∧
      Same [.regs, .reports, .host, .out] s t))) ∧
  (∀ l1, (l1 ↔ s.host.ctl % 2 = 1 ∧ s.bit Reg.HOSTEP_CTL 1 = true ∧ s.bit Reg.HOSTEP_LINK 14 = true ∧ s.linkIdle = true ∧
      s.idleT + usTicks (s.fld Reg.HOSTEP_L1IDLE 0 16) ≤ s.devTime) →
    (l1 → Goes (.aspmL1 dt) s₀ (fun t => t.fld Reg.HOSTEP_LINK 15 2 = (if s.host.ctl / 2 % 2 = 1 then 3 else 2) ∧
      Keeps (inKeys [Reg.HOSTEP_LINK]) [] s t)) ∧
    (¬ l1 → Goes (.aspmL1 dt) s₀ (fun t => t = s))) ∧
  (∀ w tx rx ok, w = s.fld Reg.HOSTEP_LINK 8 5 →
    ((ok ↔ s.l0pOn = true ∧ 2 ≤ w ∧ 16 / 2 ^ min 4 (s.fld Reg.HOSTEP_L0PCFG 0 3) ≤ w / 2 ∧ 16 * s.minbwSum ≤ 1086 * (w / 2) ∧
        max tx rx * 1600 <
          s.fld Reg.HOSTEP_L0PCFG 3 7 * 108600 * (w / 2) * max 10 (s.fld Reg.HOSTEP_L0PWIN 0 16)) →
      (¬ ok → Goes (.l0pNarrow ⟨tx, rx, dt⟩) s₀ (fun t => t = s)) ∧
      (ok → Goes (.l0pNarrow ⟨tx, rx, dt⟩) s₀ (fun t => t.fld Reg.HOSTEP_LINK 8 5 = w / 2 ∧ t.bit Reg.HOSTEP_IRQ 9 = true ∧
        t.fld Reg.HOSTEP_L0PCNT 0 16 = (s.fld Reg.HOSTEP_L0PCNT 0 16 + 1) % 2 ^ 16 ∧
        Keeps (inKeysI [Reg.HOSTEP_LINK, Reg.HOSTEP_L0PCNT, Reg.HOSTEP_IRQ]) [.out] s t))) ∧
    ((ok ↔ s.l0pOn = true ∧ 0 < w ∧ 2 * w ≤ s.fld Reg.HOSTEP_LINK 3 5 ∧
        s.fld Reg.HOSTEP_L0PCFG 10 7 * 108600 * w * 10 < max tx rx * 1600) →
      (¬ ok → Goes (.l0pWiden ⟨tx, rx, dt⟩) s₀ (fun t => t = s)) ∧
      (ok → Goes (.l0pWiden ⟨tx, rx, dt⟩) s₀ (fun t => t.fld Reg.HOSTEP_LINK 8 5 = 2 * w ∧ t.bit Reg.HOSTEP_IRQ 9 = true ∧
        t.fld Reg.HOSTEP_L0PCNT 16 16 = (s.fld Reg.HOSTEP_L0PCNT 16 16 + 1) % 2 ^ 16 ∧
        Keeps (inKeysI [Reg.HOSTEP_LINK, Reg.HOSTEP_L0PCNT, Reg.HOSTEP_IRQ]) [.out] s t)))) ∧
  (∀ f : Fin 16,
    (s.fnPresent f.val = false ∨ s.fld (Reg.HOSTEP_FNSTAT f.val) 0 2 = 3 → Goes (.d3hotEntry f dt) s₀ (fun t => t = s)) ∧
    (s.fnPresent f.val = true → s.fld (Reg.HOSTEP_FNSTAT f.val) 0 2 ≠ 3 →
      (f ≠ 0 → Goes (.d3hotEntry f dt) s₀ (fun t => t.fld (Reg.HOSTEP_FNSTAT f.val) 0 2 = 3 ∧
        (∀ ch ∈ s.tenantChans f.val, (s.chSt ch = 2 → (t.chan ch).stopping = true ∧ t.chSt ch = 2) ∧
          (s.chSt ch ≠ 2 → s.chSt ch ≠ 6 → t.chSt ch = 5)) ∧
        Keeps (fun k => k = Reg.HOSTEP_FNSTAT f.val ∨ ∃ ch ∈ s.tenantChans f.val, k = Reg.DMA_CHSTAT ch) [.chans] s t)) ∧
      (f = 0 → s.bootStage < 10 → Goes (.d3hotEntry f dt) s₀ (fun t => t.fld (Reg.HOSTEP_FNSTAT 0) 0 2 = 3 ∧
        t.host = { s.host with d3wait := true } ∧ Same [.regs, .chans, .host] s t)) ∧
      (f = 0 → 10 ≤ s.bootStage → Goes (.d3hotEntry f dt) s₀ (fun t => t.fld (Reg.HOSTEP_FNSTAT 0) 0 2 = 3 ∧
        t.host.d3off = true ∧ t.host.d3wait = false ∧ t.axes = s.axes ∧ t.noz = s.noz ∧ t.parts = s.parts ∧
        t.hostMem = s.hostMem))) ∧
    (s.fld (Reg.HOSTEP_FNSTAT f.val) 0 2 ≠ 3 → Goes (.d0Return f dt) s₀ (fun t => t = s)) ∧
    (s.fld (Reg.HOSTEP_FNSTAT f.val) 0 2 = 3 →
      (f ≠ 0 → Goes (.d0Return f dt) s₀ (fun t => t.fld (Reg.HOSTEP_FNSTAT f.val) 0 2 = 0 ∧
        Keeps (inKeys [Reg.HOSTEP_FNSTAT f.val]) [] s t)) ∧
      (f = 0 → s.host.d3off = false → Goes (.d0Return f dt) s₀ (fun t => t.fld (Reg.HOSTEP_FNSTAT 0) 0 2 = 0 ∧
        t.host = { s.host with d3wait := false } ∧ Keeps (inKeys [Reg.HOSTEP_FNSTAT f.val]) [.host] s t)) ∧
      (f = 0 → s.host.d3off = true → Goes (.d0Return f dt) s₀ (fun t => t.fld (Reg.HOSTEP_FNSTAT 0) 0 2 = 0 ∧
        t.host.d3off = false ∧ Same [.regs, .host, .mboxes, .bench, .pwr, .out] s t))) ∧
    Goes (.hbufUe f dt) s₀ (fun t => t.bit Reg.HOSTEP_IRQ 7 = true ∧
      (∃ r, t.reports = s.reports ++ [r] ∧ r.sig = 0x909 ∧ r.src = f.val ∧ r.level = 4) ∧
      Keeps (inKeysI [Reg.HOSTEP_ERRCNT, Reg.HOSTEP_IRQ]) [.reports, .host, .out] s t) ∧
    Goes (.hbufCe f dt) s₀ (fun t => t.bit Reg.HOSTEP_IRQ 6 = true ∧
      (∃ r, t.reports = s.reports ++ [r] ∧ r.sig = 0x902 ∧ r.src = f.val ∧ r.level = 0) ∧
      Keeps (inKeysI [Reg.HOSTEP_ERRCNT, Reg.HOSTEP_IRQ]) [.reports, .host, .out] s t)) ∧
  Goes (.linkce dt) s₀ (fun t => t.fld Reg.HOSTEP_ERRCNT 0 16 = satAdd 16 (s.fld Reg.HOSTEP_ERRCNT 0 16) 1 ∧
    (∃ r, t.reports = s.reports ++ [r] ∧ r.sig = 0x901 ∧ r.src = 0 ∧ r.level = 0) ∧
    Keeps (inKeysI [Reg.HOSTEP_ERRCNT, Reg.HOSTEP_IRQ]) [.reports, .host, .out] s t) ∧
  Goes (.linkprot dt) s₀ (fun t => t.fld Reg.HOSTEP_ERRCNT 16 16 = satAdd 16 (s.fld Reg.HOSTEP_ERRCNT 16 16) 1 ∧
    (∃ r, t.reports = s.reports ++ [r] ∧ r.sig = 0x908 ∧ r.src = 0 ∧ r.level = 0) ∧
    Keeps (inKeysI [Reg.HOSTEP_ERRCNT, Reg.HOSTEP_IRQ]) [.reports, .host, .out] s t)

/-- Register reads (R5, R359, R362, R363). An aligned word read delivers the register; that of a low register also
latches its high word. A read of a function that does not answer is refused, a gated unit is noted, a size the
endpoint does not accept is an error; in a quench a host reads all ones, and without power and in a reset nothing
answers. Any access of the host ends the link's idleness. Register writes (Table 0.3, R6, R8, R9, R71, R362, R363,
R375, R411). A word write takes effect by field type: RW bits always, RWL bits while the unit's lock is open, W1C
bits cleared by 1 unless hardware has set them in the same clock, nothing else; with the lock closed LOCKED is
noted. A poisoned write of the host is noted and discarded. The key opens a lock, from the host only with the
claim granted; any other value closes it. -/
def Obligations.RegisterAccess : Prop :=
  (∀ (s₀ s : State) (off : BitVec 28) (dt : Nat), s = s₀.pass dt →
  (∀ p f ben, s₀.boot.mode = 3 → p ≠ .bench → Goes (.registerRead p f off ⟨ben, dt⟩) s₀ (fun t =>
    t.out = .value f.val off.toNat (2 ^ (8 * ben.length) - 1) :: s₀.out ∧ Keeps (inKeys []) [.out] s₀ t)) ∧
  (∀ p f ben, s₀.boot.mode = 3 → p = .bench → Goes (.registerRead p f off ⟨ben, dt⟩) s₀ (fun t => t = s₀)) ∧
  (∀ p f ben, s₀.boot.mode = 1 ∨ s₀.boot.mode = 4 ∨ s₀.boot.mode = 5 → Goes (.registerRead p f off ⟨ben, dt⟩) s₀ (fun t => t = s₀)) ∧
  (∀ p f ben, s₀.boot.mode = 2 → Goes (.registerRead p f off ⟨ben, dt⟩) s₀ (fun t => t = s)) ∧
  (s₀.boot.mode = 0 → s.fld Reg.HOSTEP_LINK 15 2 < 2 →
  (∀ p f ben, p ≠ .bench → s.fnOk f.val = false → Goes (.registerRead p f off ⟨ben, dt⟩) s₀ (fun t =>
    .refused f.val off.toNat false ∈ t.out ∧ t.idleT = s.devTime ∧
    Keeps (inKeysI [Reg.HOSTEP_CACNT, Reg.HOSTEP_ERRCNT, Reg.HOSTEP_IRQ]) [.idleT, .reports, .host, .out] s t)) ∧
  (∀ a, a = off.toNat → s.fnOk 0 = true → a < 0x4000000 →
    (∀ ben, s.unitUp a = false → Goes (.registerRead .bar0 0 off ⟨ben, dt⟩) s₀ (fun t => .refused 0 a true ∈ t.out ∧
      (∃ r ∈ t.reports, r.sig = 0xE09 ∧ r.src = busUnit a ∧ r.addr = a) ∧
      Keeps (inKeysI [Reg.HOSTEP_CACNT, Reg.HOSTEP_ERRCNT, Reg.HOSTEP_IRQ]) [.idleT, .reports, .host, .out] s t)) ∧
    (s.unitUp a = true → arrayEnd a = none → a % 4 = 0 →
      (isLow a = false → (4 ≤ a → isLow (a - 4) = false) → Goes (.registerRead .bar0 0 off ⟨[true, true, true, true], dt⟩) s₀ (fun t =>
        t.out = .value 0 a (s.busVal a).toNat :: s.out ∧ Keeps (inKeys []) [.idleT, .out] s t)) ∧
      (isLow a = true → Goes (.registerRead .bar0 0 off ⟨[true, true, true, true], dt⟩) s₀ (fun t =>
        t.out = .value 0 a (s.busVal a).toNat :: s.out ∧ t.hiLatch.find? (fun e => e.1 == a) = some (a, s.busVal (a + 4)) ∧
        Keeps (inKeys []) [.idleT, .hiLatch, .out] s t)) ∧
      (∀ h, isLow a = false → 4 ≤ a → isLow (a - 4) = true → s.hiLatch.find? (fun e => e.1 == a - 4) = some (a - 4, h) →
        Goes (.registerRead .bar0 0 off ⟨[true, true, true, true], dt⟩) s₀ (fun t => t.out = .value 0 a h.toNat :: s.out ∧
          Keeps (inKeys []) [.idleT, .out] s t)) ∧
      Goes (.registerRead .bar0 0 off ⟨[true, false, true], dt⟩) s₀ (fun t => .refused 0 a true ∈ t.out ∧
        t.fld Reg.HOSTEP_SIZEERR 0 32 = satAdd 32 (s.fld Reg.HOSTEP_SIZEERR 0 32) 1 ∧ (∃ r ∈ t.reports, r.sig = 0x90C ∧
          r.addr = a) ∧
        Keeps (inKeysI [Reg.HOSTEP_SIZEERR, Reg.HOSTEP_CACNT, Reg.HOSTEP_ERRCNT, Reg.HOSTEP_IRQ])
          [.idleT, .reports, .host, .out] s t))))) ∧
  (∀ (s₀ s : State) (off : BitVec 28) (dt : Nat), s = s₀.pass dt → s₀.boot.mode = 0 →
  s.fld Reg.HOSTEP_LINK 15 2 < 2 →
  (∀ p f d poison, p ≠ .bench → s.fnOk f.val = false → Goes (.registerWrite p f off ⟨d, poison, dt⟩) s₀ (fun t =>
    t = { s with idleT := s.devTime })) ∧
  (∀ p f d, p ≠ .bench → s.fnOk f.val = true → Goes (.registerWrite p f off ⟨d, true, dt⟩) s₀ (fun t =>
    t.fld Reg.HOSTEP_ERRCNT 0 16 = satAdd 16 (s.fld Reg.HOSTEP_ERRCNT 0 16) 1 ∧ t.bit Reg.HOSTEP_IRQ 6 = true ∧
    (∃ r, t.reports = s.reports ++ [r] ∧ r.sig = 0x903 ∧ r.src = f.val ∧ r.level = 0 ∧ r.addr = off.toNat ∧ r.access = 1) ∧
    Keeps (inKeysI [Reg.HOSTEP_ERRCNT, Reg.HOSTEP_IRQ]) [.idleT, .reports, .host, .out] s t)) ∧
  (∀ a, a = off.toNat → s.fnOk 0 = true → a < 0x4000000 →
    (∀ d, s.unitUp a = false → Goes (.registerWrite .bar0 0 off ⟨d, false, dt⟩) s₀ (fun t =>
      (∃ r, t.reports = s.reports ++ [r] ∧ r.sig = 0xE09 ∧ r.src = busUnit a ∧ r.addr = a ∧ r.access = 1) ∧
      Keeps (inKeys []) [.idleT, .reports] s t)) ∧
    (∀ d, s.unitUp a = true → writeFits a d = false → Goes (.registerWrite .bar0 0 off ⟨d, false, dt⟩) s₀ (fun t =>
      t.fld Reg.HOSTEP_SIZEERR 0 32 = satAdd 32 (s.fld Reg.HOSTEP_SIZEERR 0 32) 1 ∧
      (∃ r, t.reports = s.reports ++ [r] ∧ r.sig = 0x90C ∧ r.addr = a ∧ r.access = 1) ∧
      Keeps (inKeysI [Reg.HOSTEP_SIZEERR, Reg.HOSTEP_IRQ]) [.idleT, .reports, .out] s t)) ∧
    (∀ (v w : Word) (r : Reg.Row) (d : List (Option Byte)), s.unitUp a = true → arrayEnd a = none → a % 4 = 0 → paged a = false →
      Reg.rowAt a = some r → busLockAt a = none → (∀ u : State, u.busHook 0 a v = none) →
      d = (leBytes 4 v.toNat).map some → w = v &&& ~~~ s.flagMask a → Goes (.registerWrite .bar0 0 off ⟨d, false, dt⟩) s₀ (fun t =>
        (∀ closed, (closed ↔ ∃ u, busLock a = some u ∧ s.unlocked u = false) →
          (closed → t.rd a = writeVal r false (s.rd a) w ∧
            (r.rwl ≠ 0 → ∃ e ∈ t.reports, e.sig = 0xE01 ∧ e.src = busUnit a ∧ e.level = 0) ∧ (r.rwl = 0 → t.reports = s.reports)) ∧
          (¬ closed → t.rd a = writeVal r true (s.rd a) w ∧ t.reports = s.reports)) ∧
        Keeps (inKeysI [a]) [.idleT, .hiLatch, .reports, .out] s t))) ∧
  (∀ (u : LockId) (v : Word), Up s₀ (lockReg u) →
    (v ≠ 0xA5C3#32 → Goes (.unitLockWrite u v) s₀ (fun t => t.unlocked u = false ∧ Keeps (inKeys [lockReg u]) [] s₀ t)) ∧
    (v = 0xA5C3#32 → (∀ b, lockClaim u = some b → s₀.bit Reg.BENCH_DWCLAIM (16 + b) = true) →
      Goes (.unitLockWrite u v) s₀ (fun t => t.unlocked u = true ∧ Keeps (inKeys [lockReg u]) [] s₀ t)) ∧
    (∀ b, v = 0xA5C3#32 → lockClaim u = some b → s₀.bit Reg.BENCH_DWCLAIM (16 + b) = false →
      Goes (.unitLockWrite u v) s₀ (fun t => t = s₀))))

/-- The mailbox (R394, R396, R397, R405, R407). A doorbell holds a free slot and its command waits, one for a held
slot is counted; firmware starts the next function's first waiting command, or answers it at once where a refusal
of every command holds; the first held response goes into the next slot with its index, its write-back and the
free command slot; the host's consumer index never passes the producer's. -/
def Obligations.Mailboxes : Prop := (∀ (s : State) (f : Fin 16) (v : Word), s.boot.mode = 0 →
  (s.fnOk f.val = true → s.unitUp (Reg.MBX_CMDDB 0) = true → ∀ k w, k = fldOf v 0 6 → w = Reg.MBX_SLOTBUSY_LO f.val + 4 * (k / 32) →
    (s.bit w (k % 32) = true → Goes (.mbxCmddb f v) s (fun t =>
      t.fld (Reg.MBX_ERR f.val) 0 16 = satAdd 16 (s.fld (Reg.MBX_ERR f.val) 0 16) 1 ∧
      Keeps (inKeys [Reg.MBX_ERR f.val]) [] s t)) ∧
    (s.bit w (k % 32) = false → Goes (.mbxCmddb f v) s (fun t => t.bit w (k % 32) = true ∧
      t.bench = { s.bench with bells := s.bench.bells ++ [(f.val, k)] } ∧
      (∀ i < 32, i ≠ k % 32 → t.bit w i = s.bit w i) ∧ Keeps (inKeys [w]) [.bench] s t))) ∧
  (s.fnOk f.val = true → s.unitUp (Reg.MBX_RSPCIDX 0) = true → ∀ old, old = s.rdN (Reg.MBX_RSPCIDX f.val) →
    ((v.toNat + 2 ^ 32 - old) % 2 ^ 32 ≤ (s.rdN (Reg.MBX_RSPPIDX f.val) + 2 ^ 32 - old) % 2 ^ 32 →
      Goes (.mbxRspcidxWrite f v) s (fun t => t.rd (Reg.MBX_RSPCIDX f.val) = v ∧
        Keeps (inKeys [Reg.MBX_RSPCIDX f.val]) [] s t)) ∧
    ((s.rdN (Reg.MBX_RSPPIDX f.val) + 2 ^ 32 - old) % 2 ^ 32 < (v.toNat + 2 ^ 32 - old) % 2 ^ 32 →
      Goes (.mbxRspcidxWrite f v) s (fun t => t = s)))) ∧
  (∀ (s₀ u s : State) (f : Fin 16) (dt : Nat), s = s₀.pass dt → s.boot.mode = 0 → u = s →
    (u.fwServes = false ∨ u.nextFn = none → Goes (.commandStart dt) s₀ (fun t => t = u)) ∧
    (∀ g b c, u.fwServes = true → u.nextFn = some g → u.bench.bells.find? (fun b => b.1 == g) = some b →
      c = u.readCmd b.1 b.2 →
      (u.startStatus c = 0 → Goes (.commandStart dt) s₀ (fun t =>
        t.bench = { s.bench with
          bells := s.bench.bells.filter (fun x => !(x == b))
          running := s.bench.running ++ [c]
          last := b.1 } ∧
        Keeps (inKeys []) [.bench] s t)) ∧
      (u.startStatus c ≠ 0 → Goes (.commandStart dt) s₀ (fun t => Final t c (u.startStatus c) [] ∧ b ∉ t.bench.bells ∧
        Keeps (inKeys []) [.mboxes, .bench] s t))) ∧
    ((s.mbox f.val).held = [] ∨ u.fwServes = false ∨ u.rspRoom f.val = false → Goes (.responseWrite f dt) s₀ (fun t => t = u)) ∧
    (∀ r rest p wb, (s.mbox f.val).held = r :: rest → u.fwServes = true → u.rspRoom f.val = true →
      p = s.rdN (Reg.MBX_RSPPIDX f.val) → wb = s.rd64 (Reg.MBX_RSPWB_LO f.val) → r.bytes.length ≤ 256 →
      (∀ k, r.slot = some k → k < 64) →
      Goes (.responseWrite f dt) s₀ (fun t => t.rdBytes (Reg.MBX_RSP f.val (256 * (p % 64))) r.bytes.length = r.bytes ∧
        t.rdN (Reg.MBX_RSPPIDX f.val) = (p + 1) % 2 ^ 32 ∧ (t.mbox f.val).held = rest ∧
          (t.mbox f.val).faults = (s.mbox f.val).faults ∧
        (∀ k, r.slot = some k → t.slotBusy f.val k = false) ∧ (∀ m, m ≠ f.val → t.mbox m = s.mbox m) ∧
        (wb % 2 = 0 → t.hostMem = s.hostMem) ∧
        (wb % 2 = 1 → memRead t.hostMem (wb / 8 * 8) 4 = leBytes 4 ((p + 1) % 2 ^ 32) ∧
          (∀ a, ¬ (wb / 8 * 8 ≤ a ∧ a < wb / 8 * 8 + 4) → memGet t.hostMem a = memGet s.hostMem a)) ∧
        Keeps (fun k => (Reg.MBX_RSP f.val (256 * (p % 64)) ≤ k ∧ k < Reg.MBX_RSP f.val (256 * (p % 64) + 256)) ∨
          inKeysP [Reg.MBX_RSPPIDX f.val, Reg.MBX_SLOTBUSY_LO f.val, Reg.MBX_SLOTBUSY_HI f.val] f.val k)
          [.mboxes, .hostMem, .out] s t)))

/-- A command ends with one status of Table 13.6, and of several that apply with the one of lowest rank (R400). -/
def Obligations.StatusRank : Prop :=  (∀ e ∈ [(12, 1), (11, 2), (3, 3), (4, 4), (7, 5), (10, 6), (6, 7), (9, 8), (2, 9), (1, 10)], statusRank e.1 = e.2) ∧
  (∀ l : List (Bool × Nat), (∀ e ∈ l, e.2 ≠ 0) →
    (pickStatus l = 0 ↔ ∀ e ∈ l, e.1 = false) ∧
    (pickStatus l ≠ 0 → (true, pickStatus l) ∈ l ∧ ∀ e ∈ l, e.1 = true → statusRank (pickStatus l) ≤ statusRank e.2)) ∧
  (∀ (s : State) (c : Cmd) (l : List (Bool × Nat)) (eff : State → State × List Byte), c.interim = false →
    (Answer s c l = 0 → Final (s.cmdDo c l eff) c St.ok (eff s).2) ∧
    (Answer s c l ≠ 0 → Final (s.cmdDo c l eff) c (Answer s c l) []))

/-- The cores of the bench (R389 to R392, R401, R411, R415). A fault of a core in service is reported; BC4 takes over
a failed core's duties and its commands end with ABORTED_RESTART; a restart aborts everything pending, counts, and
completes an update; an image that does not serve within 200 ms is left; what waited for the bench goes on. Claims
of units (R9, R411). A write of BENCH_DWCLAIM behind its open lock sets the requests; a request that clears takes
its grant and closes its unit's locks; with the lock closed LOCKED is noted. A claim is granted once the bench
serves and no command in progress writes the unit. -/
def Obligations.BenchCores : Prop :=
  (∀ (s₀ s : State) (dt : Nat), s = s₀.pass dt → s.boot.mode = 0 →
  (∀ c : Fin 5, (s.bit Reg.BENCH_STAT c.val = true → Goes (.watchdogMiss c dt) s₀ (Reports 0xA01 c.val 2 s) ∧
      Goes (.localMemoryUe c dt) s₀ (Reports 0xA01 c.val 2 s)) ∧
    (s.bit Reg.BENCH_STAT c.val = false → Goes (.watchdogMiss c dt) s₀ (fun t => t = s) ∧
      Goes (.localMemoryUe c dt) s₀ (fun t => t = s)) ∧
    Goes (.bmemCe c dt) s₀ (Reports 0xA03 c.val 0 s)) ∧
  Goes (.bshmUe dt) s₀ (Reports 0xA02 0 2 s) ∧
  (s.bench.inlay = none → Goes (.coreInlayDone dt) s₀ (fun t => t = s)) ∧
  (∀ c t0, s.bench.inlay = some (c, t0) → Goes (.coreInlayDone dt) s₀ (fun t => t.bench.inlay = none ∧
    t.bit Reg.BENCH_STAT 4 = true ∧ t.bit Reg.BENCH_STAT 5 = true ∧ t.fld Reg.BENCH_STAT 6 2 = c % 4 ∧
    t.bit Reg.BENCH_IRQ 0 = true ∧ (∀ x ∈ t.bench.running, x.core = c → x.interim = true) ∧
    (∀ x ∈ s.bench.running, x.core = c → x.interim = false → ∃ r ∈ (t.mbox x.f).held,
      r.bytes = respBytes St.aborted 0 x.slot x.seq x.op [] ∧ r.slot = some x.slot) ∧
    ((∀ b < 32, (s.nbank b).waiting = []) → s.bit Reg.MEM_STAT 3 = false → (∀ e < 16, s.bit (Reg.DMA_ENGSTAT e) 10 = false) →
      Keeps (inKeysI [Reg.BENCH_STAT, Reg.BENCH_IRQ]) [.mboxes, .bench, .twin, .clk, .pwr, .touch, .cams, .out] s t) ∧
    Same [.freeIdx, .regs, .reports, .rings, .nbanks, .memx, .mboxes, .bench, .twin, .clk, .pwr, .touch, .cams, .out] s t)) ∧
  (∀ s : State, s.boot.mode = 0 → Up s Reg.BENCH_CMD →
    (s.bench.restart.isSome = true → Goes .benchRestart s (Keeps (inKeys []) [] s)) ∧
    (s.bench.restart = none → s.fld Reg.TWIN_STAT 0 3 ≠ 1 → Goes .benchRestart s (fun t =>
      t.bench = { s.bench with
        restart := some (0, s.devTime), inlay := none, bells := []
        running := s.bench.running ++ s.bench.bells.map (fun b => s.readCmd b.1 b.2) } ∧
      t.bit Reg.BENCH_STAT 8 = true ∧ (∀ f < 16, t.bit (Reg.MBX_STAT f) 1 = true) ∧
      Keeps (fun k => k = Reg.BENCH_STAT ∨ ∃ f < 16, k = Reg.MBX_STAT f) [.bench] s t)) ∧
    (s.bench.restart = none → s.fld Reg.TWIN_STAT 0 3 = 1 → Goes .benchRestart s (fun t =>
      t.bench.restart = some (0, s.devTime) ∧ t.bench.bells = [] ∧ t.bit Reg.BENCH_STAT 8 = true ∧
      t.bit Reg.TWIN_STAT 9 = false ∧ t.twin.step = 0))) ∧
  (s.bench.restart = none → Goes (.restarted dt) s₀ (fun t => t = s)) ∧
  (∀ c r a, s.bench.restart.isSome = true → s.bench.activate = some (c, r, a) → a + usTicks 200000 < s.devTime →
    Goes (.restarted dt) s₀ (fun t => t = s)) ∧
  (∀ cause t0, s.bench.restart = some (cause, t0) → (Reg.BENCH_CMD, 0) ∉ s.now.again →
    (∀ c r a, s.bench.activate = some (c, r, a) → s.devTime ≤ a + usTicks 200000) →
    Goes (.restarted dt) s₀ (fun t => t.bench.restart = none ∧
    t.bit Reg.BENCH_STAT 8 = false ∧ t.bit Reg.BENCH_STAT 9 = false ∧
    (∀ f < 16, t.bit (Reg.MBX_STAT f) 1 = false ∧ t.bit (Reg.MBX_STAT f) 2 = false ∧ t.xferQ f = []) ∧
    t.fld Reg.BENCH_RESTARTS 0 16 = satAdd 16 (s.fld Reg.BENCH_RESTARTS 0 16) 1 ∧ t.bench.activate = none ∧
    (s.bench.activate = none → (∀ x ∈ t.bench.running, x.interim = true) ∧ t.bench.fw = s.bench.fw) ∧
    (∀ c r a, s.bench.activate = some (c, r, a) → c.interim = false → t.bench.fw = imageInfo (s.bench.staged.getD []) ∧
      t.bench.prevVer = s.bench.fw.version ∧ Final t c St.ok (leBytes 4 (imageInfo (s.bench.staged.getD [])).version)) ∧
    Same [.freeIdx, .regs, .reports, .xfers, .rings, .nbanks, .memx, .mboxes, .bench, .twin, .clk, .pwr, .touch, .cams, .out]
      s t)) ∧
  (s.bench.activate = none → Goes (.activateTimeout dt) s₀ (fun t => t = s)) ∧
  (∀ c r t0, s.bench.activate = some (c, r, t0) →
    (s.devTime < t0 + usTicks 200000 → Goes (.activateTimeout dt) s₀ (fun t => t = s)) ∧
    (t0 + usTicks 200000 ≤ s.devTime → c.interim = false → Goes (.activateTimeout dt) s₀ (fun t =>
      Final t c St.timeout [] ∧ t.bench.activate = none ∧ t.bench.restart = some (2, s.devTime) ∧ t.bench.fw = s.bench.fw ∧
      t.bit Reg.BENCH_IRQ 3 = true ∧
      Keeps (fun k => inKeysI [Reg.BENCH_IRQ] k ∨ ∃ f < 16, k = Reg.MBX_NOTLOST f) [.mboxes, .bench, .out] s t)))) ∧
  ((∀ (s : State) (v : Word), Up s Reg.BENCH_DWCLAIM →
    (s.bit Reg.BENCH_LOCK 0 = false → Goes (.benchDwclaimWrite v) s (Reports 0xE01 17 0 s)) ∧
    (s.bit Reg.BENCH_LOCK 0 = true → Goes (.benchDwclaimWrite v) s (fun t =>
      t.fld Reg.BENCH_DWCLAIM 0 14 = fldOf v 0 14 ∧
      (∀ u < 14, (bitOf v u = true → t.bit Reg.BENCH_DWCLAIM (16 + u) = s.bit Reg.BENCH_DWCLAIM (16 + u)) ∧
        (bitOf v u = false → t.bit Reg.BENCH_DWCLAIM (16 + u) = false ∧ ∀ l ∈ claimLocks u, t.bit (lockReg l) 0 = false)) ∧
      Keeps (fun k => k = Reg.BENCH_DWCLAIM ∨ ∃ u < 14, bitOf v u = false ∧ ∃ l ∈ claimLocks u, k = lockReg l) [] s t))) ∧
  (∀ (s₀ s : State) (u : Fin 14) (dt : Nat) (may : Bool), s = s₀.pass dt → s.boot.mode = 0 →
    may = (s.bit Reg.BENCH_DWCLAIM u.val && s.fwServes &&
      !s.bench.running.any (fun c => (opUnits c.op).contains u.val)) →
    (may = true → Goes (.grant u dt) s₀ (fun t => t.bit Reg.BENCH_DWCLAIM (16 + u.val) = true ∧
      Keeps (inKeys [Reg.BENCH_DWCLAIM]) [] s t)) ∧
    (may = false → Goes (.grant u dt) s₀ (fun t => t = s))))

/-- System commands (Table 13.9, R328, R403, R404, R406, R408). SYS_INFO and TENANT_QUERY report; a tenant is created
and modified with the record given, shown in its memory range, share and objects, and destroyed with its record
gone; a tenant reset begins and is answered when it ends; NOTIFY_SET sets the notice mask. -/
def Obligations.SystemCommands : Prop :=  Serves 0x0101 .sysInfo (fun _ c => [(c.short 0 [], St.badParam)]) (fun s c t b => Told s t ∧
    b = leBytes 4 (s.rdN Reg.GLB_ID) ++ leBytes 4 s.bench.fw.version ++ leBytes 1 c.tenant ++ leBytes 1 c.f ++
      leBytes 2 (b2n (s.tenantIs c.tenant) + 2 * b2n (s.bit Reg.TWIN_STAT 7) + 4 * b2n (s.fld Reg.TWIN_STAT 0 3 == 2) +
        8 * b2n (s.fld Reg.TWIN_STAT 3 2 == 0)) ++ leBytes 8 s.devTime) ∧
  Serves 0x0102 .tenantCreate (fun s c => [
      (c.short 176 [] || s.partBad (c.payload.take 176), St.badParam), (s.part (c.at 0 1) != [], St.state),
      (s.partForeign (c.at 0 1) (c.payload.take 176), St.isolation),
      (s.partBusy (c.at 0 1) (c.payload.take 176) || s.claimedAny partUnits, St.busy),
      (s.partOver (c.at 0 1) (c.payload.take 176), St.capacity)])
    (fun s c t _ => t.part (c.at 0 1) = c.payload.take 176 ∧ (∀ u, u ≠ c.at 0 1 → t.part u = s.part u) ∧
      t.rangeBase (c.at 0 1) = leAt c.payload 8 1 % 64 * 2 ^ 30 ∧ (t.mbox (c.at 0 1)).mask = 0x7FFF ∧
      t.bit (Reg.MBX_STAT (c.at 0 1)) 4 = false ∧ Same [.regs, .parts, .mboxes, .bench] s t) ∧
  Serves 0x0103 .tenantModify (fun s c => [
      (c.short 176 [] || s.partBad (c.payload.take 176), St.badParam), (s.part (c.at 0 1) == [], St.noObject),
      (s.partForeign (c.at 0 1) (c.payload.take 176), St.isolation),
      (s.partBusy (c.at 0 1) (c.payload.take 176) || s.claimedAny partUnits, St.busy),
      (s.partOver (c.at 0 1) (c.payload.take 176), St.capacity)])
    (fun s c t _ => t.part (c.at 0 1) = c.payload.take 176 ∧ (∀ u, u ≠ c.at 0 1 → t.part u = s.part u) ∧
      t.rangeBase (c.at 0 1) = leAt c.payload 8 1 % 64 * 2 ^ 30 ∧ t.fld (Reg.DLV_TQ (c.at 0 1)) 0 8 = leAt c.payload 14 1 ∧
      Same [.regs, .parts, .mboxes, .bench] s t) ∧
  Serves 0x0104 .tenantDestroy (fun s c => [
      (c.short 1 [] || c.at 0 1 == 0 || decide (15 < c.at 0 1), St.badParam), (s.part (c.at 0 1) == [], St.noObject),
      (s.claimedAny partUnits, St.busy)])
    (fun s c t _ => t.part (c.at 0 1) = [] ∧ (∀ u, u ≠ c.at 0 1 → t.part u = s.part u) ∧ t.rd (Reg.MEM_PARTBASE (c.at 0 1)) = 0#32 ∧
      t.bit (Reg.MBX_STAT (c.at 0 1)) 4 = true ∧ t.axes = s.axes ∧ t.boot = s.boot ∧ t.hostMem = s.hostMem) ∧
  Serves 0x0105 .tenantQuery (fun s c => [
      (c.short 1 [] || c.at 0 1 == 0 || decide (15 < c.at 0 1), St.badParam),
      (decide (c.f ≠ 0) && decide (c.at 0 1 ≠ c.f), St.isolation), (s.part (c.at 0 1) == [], St.noObject)])
    (fun s c t b => Told s t ∧ b = s.part (c.at 0 1)) ∧
  Awaits 0x0106 .tenantReset (fun s c => [
      (c.short 1 [], St.badParam), (decide (c.f ≠ 0) && decide (c.at 0 1 ≠ c.f), St.isolation),
      (decide (15 < c.at 0 1) || !s.tenantIs (c.at 0 1) || !s.tenantIs c.tenant, St.noObject)])
    (fun s c => ∃ r ∈ s.touch.resets, (c.f, c.slot) ∈ r.cmds)
    (fun s c t => t.bit Reg.TOUCH_IRQ 2 = true ∧ (∃ r ∈ t.touch.resets, r.t = c.at 0 1 ∧ (c.f, c.slot) ∈ r.cmds) ∧
      ((∀ r ∈ s.touch.resets, r.t ≠ c.at 0 1) → t.touch.resets = s.touch.resets ++
        [{ t := c.at 0 1, t0 := s.devTime, cause := 0, cmds := [(c.f, c.slot)] }]) ∧
      t.parts = s.parts ∧ t.axes = s.axes ∧ t.boot = s.boot ∧ t.hostMem = s.hostMem) ∧
  Serves 0x0107 .notifySet (fun _ c => [(c.short 2 [], St.badParam)])
    (fun s c t _ => (t.mbox c.tenant).mask = c.at 0 2 ∧ Keeps (inKeys []) [.mboxes, .bench] s t)

/-- Camera and lane commands (Table 13.11, R117, R133, R144, R147, R171, R172, R175, R176). A camera is bound with its
lanes in position order and its axis, and unbound; its formats, registers and bond are reached; a lane test runs
for its time. -/
def Obligations.CameraCommands : Prop :=  Serves 0x0201 .camBind (fun s c => s.camRefusals c false ++ [
      (c.short 16 [] || c.bindBad ||
        (List.range 96).any (fun g => s.genMsg g && s.genCam g == c.at 0 1 && s.genAxis g != c.at 7 1), St.badParam),
      (!s.usesAxis c.tenant (c.at 7 1), St.isolation), (decide (8 ≤ c.at 7 1), St.noObject),
      (c.bindAll.any (fun n => decide (104 ≤ n) || s.laneSt n == 13), St.noObject),
      ((s.cam (c.at 0 1)).bound || c.bindAll.any (fun n => !s.clkOn n || s.laneSt n == 9), St.state),
      (s.claimedAny [3, 4] || c.bindAll.any (fun n => s.bit (Reg.LANE_BOND n) 0), St.busy)])
    (fun s c t _ => (t.cam (c.at 0 1)).bound = true ∧ (t.cam (c.at 0 1)).axis = c.at 7 1 ∧
      (∀ i < c.at 1 1, t.rd (Reg.LANE_BOND (c.at (8 + i) 1)) = w32 (1 + c.at 0 1 * 2 + i * 256 + c.at 1 1 * 4096)) ∧
      (c.at 2 1 ≠ 0xFF → t.rd (Reg.LANE_BOND (c.at 2 1)) = w32 (1 + c.at 0 1 * 2 + 15 * 256 + c.at 1 1 * 4096)) ∧
      Same ([.mboxes, .bench] ++ laneParts) s t) ∧
  Serves 0x0202 .camUnbind (fun s c => s.camRefusals c true ++ [
      (c.short 1 [], St.badParam), (s.camPipes (c.at 0 1) != [], St.state), (s.claimedAny [3, 4], St.busy)])
    (fun s c t _ => (t.cam (c.at 0 1)).bound = false ∧ t.rd (Reg.LINK_CAMSTAT (c.at 0 1)) = 0#32 ∧
      (∀ n ∈ s.bondLanes (c.at 0 1), t.rd (Reg.LANE_BOND n) = 0#32) ∧
      Same ([.mboxes, .bench] ++ laneParts) s t) ∧
  Serves 0x0203 .camStatus (fun s c => s.camRefusals c true ++ [(c.short 1 [], St.badParam)])
    (fun s c t b => Told s t ∧ b = s.regsBytes [Reg.LINK_CAMSTAT (c.at 0 1)] ++
      (List.range 9).flatMap (fun p => leBytes 1 (s.posState (c.at 0 1) p)) ++ leBytes 3 0 ++
      s.regsBytes [Reg.LINK_CAMDLY (c.at 0 1), Reg.LINK_CAMHB0 (c.at 0 1), Reg.LINK_CAMHB1 (c.at 0 1),
        Reg.LINK_CAMHB2 (c.at 0 1)] ++
      s.rdBytes (Reg.LINK_CAPREC (c.at 0 1) 0) 128) ∧
  Serves 0x0204 .camFormatWrite (fun s c => s.camRefusals c false ++ [
      (c.short 196 [(2, 2)] || decide (16 ≤ c.at 1 1) || !fmtOk ((c.payload.drop 4).take 192) ||
        !fmtSpanOk ((c.payload.drop 4).take 192), St.badParam),
      (s.claimed 4, St.busy)])
    (fun s c t _ => (196 ≤ c.payload.length →
        t.rdBytes (Reg.LINK_FMTMEM (c.at 0 1) (c.at 1 1) 0) 192 = (c.payload.drop 4).take 192) ∧
      Keeps (fun k => Reg.LINK_FMTMEM (c.at 0 1) (c.at 1 1) 0 ≤ k ∧ k < Reg.LINK_FMTMEM (c.at 0 1) (c.at 1 1) 64)
        [.mboxes, .bench] s t) ∧
  Serves 0x0205 .camFormatSelect (fun s c => s.camRefusals c true ++ [
      (c.short 2 [] || decide (c.at 1 1 / 2 % 8 ≠ 0) ||
        ((s.fmtOf (c.at 0 1) ((s.rd (Reg.LINK_CAMCFG (c.at 0 1)) &&& 0xC1#32) ||| w32 (c.at 1 1 % 2 * 2 + c.at 1 1 / 16 * 4))).any fun f =>
          fmtOk f && !fmtSpanOk f), St.badParam),
      (s.claimed 4, St.busy),
      (s.fmtOver c.tenant (c.at 0 1)
        ((s.rd (Reg.LINK_CAMCFG (c.at 0 1)) &&& 0xC1#32) ||| w32 (c.at 1 1 % 2 * 2 + c.at 1 1 / 16 * 4)), St.capacity)])
    (fun s c t _ => t.bit (Reg.LINK_CAMCFG (c.at 0 1)) 1 = (c.at 1 1 % 2 == 1) ∧
      t.fld (Reg.LINK_CAMCFG (c.at 0 1)) 2 4 = c.at 1 1 / 16 % 16 ∧
      ((s.bond (c.at 0 1)).active = true → t.bit (Reg.LINK_CAMSTAT (c.at 0 1)) 6 = true ∧
        Keeps (inKeys [Reg.LINK_CAMCFG (c.at 0 1), Reg.LINK_CAMSTAT (c.at 0 1)]) [.mboxes, .bench] s t) ∧
      Same ([.mboxes, .bench] ++ laneParts) s t) ∧
  (∀ (wr : Bool) (op : Nat) (i : Fin 16 → Fin 64 →
    Instr), (op, i) = (if wr then (0x0207, .camRegWrite) else (0x0206, .camRegRead)) →
    Awaits op i (fun s c => s.camRefusals c true ++ [(!s.tenantIs c.tenant, St.noObject),
      (c.short (if wr then 8 + 4 * c.at 1 1 else 8) [(2, 2)] || c.at 1 1 == 0 || decide (56 < c.at 1 1) ||
        decide (c.at 4 4 % 4 ≠ 0), St.badParam),
      (!(s.bond (c.at 0 1)).active, St.state), (s.claimed 4 || (s.freeTag (c.at 0 1)).isNone, St.busy)])
    (fun s c => ∃ r ∈ (s.cam (c.at 0 1)).reqs, r.f = c.f ∧ r.slot = c.slot)
    (fun s c t => (∃ tag, s.freeTag (c.at 0 1) = some tag ∧ (t.cam (c.at 0 1)).reqs = (s.cam (c.at 0 1)).reqs ++
        [{ tag := tag, write := wr, count := c.at 1 1, f := c.f, slot := c.slot, t := s.devTime }]) ∧
      (∀ tag h words, s.freeTag (c.at 0 1) = some tag → words = (if wr then (c.payload.drop 8).take (4 * c.at 1 1) else []) →
        h = (if wr then 0xB1 else 0xB0) + (tag + (c.at 1 1 - 1) * 2 ^ 8 + c.at 4 4 * 2 ^ 16) * 256 → s.camA1 (c.at 0 1) = false →
        Waits s t (c.at 0 1) { cls := 3, hdr := pktHdr h, data := pktBlocks h (pktLen words) words }) ∧
      (∀ tag n body, s.freeTag (c.at 0 1) = some tag → s.camA1 (c.at 0 1) = true → s.posLane (c.at 0 1) 0 = some n →
        body = leBytes 1 (if wr then 4 else 3) ++ leBytes 1 tag ++ leBytes 1 (c.at 1 1) ++ leBytes 4 (c.at 4 4) ++
          (if wr then (c.payload.drop 8).take (4 * c.at 1 1) else []) →
        (t.lane n).a1Pkts = (s.lane n).a1Pkts ++ [body ++ (if wr then leBytes 4 (crc32 body) else leBytes 2 (crc16 body))]) ∧
      (∀ k, k ≠ c.at 0 1 → t.cam k = s.cam k) ∧ Keeps (inKeys []) [.cams, .lanes] s t)) ∧
  Serves 0x0208 .camRestart (fun s c => s.camRefusals c true ++ [(c.short 1 [], St.badParam), (s.claimed 3, St.busy)])
    (fun s c t _ => ((s.bond (c.at 0 1)).sw.isSome = true →
        (∀ n ∈ s.bondLanes (c.at 0 1), (t.lane n).deferred = (s.lane n).deferred ||| 4) ∧
        Keeps (inKeys []) [.lanes, .mboxes, .bench] s t) ∧
      ((s.bond (c.at 0 1)).sw = none → Told (s.bondRestart (c.at 0 1)) t) ∧
      Same ([.mboxes, .bench] ++ laneParts) s t) ∧
  Awaits 0x0209 .laneTest (fun s c => [
      (c.short 8 [(3, 1)] || decide (64 ≤ c.at 2 1) || c.at 2 1 / 4 % 4 == 3 || c.at 4 4 == 0 || decide (500000 < c.at 4 4) ||
        (c.at 2 1 % 4 != 0 && s.laneRx (c.at 0 2) != s.laneTx (c.at 0 2)), St.badParam),
      (decide (104 ≤ c.at 0 2), St.noObject),
      ((c.at 2 1 % 4 != 0 && s.bit (Reg.LANE_BOND (c.at 0 2)) 0) || !([0, 1, 9, 10].contains (s.laneSt (c.at 0 2))), St.state),
      (s.claimed 3, St.busy)])
    (fun s c => ∃ e ∈ s.bench.tests, e.2.2.1 = c.f ∧ e.2.2.2 = c.slot)
    (fun s c t => t.bench = { s.bench with tests := s.bench.tests ++ [(c.at 0 2, s.devTime + usTicks (c.at 4 4), c.f, c.slot)] } ∧
      t.rd (Reg.LANE_TEST (c.at 0 2)) = w32 (c.at 2 1) ∧ t.rd (Reg.LANE_PRBSERR (c.at 0 2)) = 0#32 ∧
      (c.at 2 1 % 4 ≠ 0 → t.laneSt (c.at 0 2) = 9) ∧
      Same [.regs, .reports, .causes, .expls, .lanes, .bench, .touch, .out] s t) ∧
  (∀ (s₀ s : State) (n : Fin 104) (dt : Nat) (e : Nat × Nat × Nat × Nat) (c : Cmd), s = s₀.pass dt → s₀.boot.mode = 0 →
    (s.bench.tests.find? (fun e => e.1 == n.val && decide (e.2.1 ≤ s.devTime)) = none →
      Goes (.testDurationEnd n dt) s₀ (fun t => t = s)) ∧
    (s.bench.tests.find? (fun e => e.1 == n.val && decide (e.2.1 ≤ s.devTime)) = some e →
      s.bench.running.find? (fun c => c.f == e.2.2.1 && c.slot == e.2.2.2) = some c → c.interim = false →
      Goes (.testDurationEnd n dt) s₀ (fun t =>
        Final t c St.ok (leBytes 4 (s.rdN (Reg.LANE_PRBSERR n.val)) ++ leBytes 1 (s.laneSt n.val)) ∧ e ∉ t.bench.tests ∧
        (∀ m, m ≠ n.val → t.lane m = s.lane m) ∧ Same ([.mboxes, .bench] ++ laneParts) s t)))

/-- Pipeline commands (Table 13.12, R38, R39, R185 to R190, R220, R224, R226, R399). A binding that fits gives each
pipeline its camera and stripe and its block length, and answers its line cache need; an unbinding ends them.
Context and table entries go into the shadow and its image; an ARM sets PEND; EN is written; the status is
reported. -/
def Obligations.PipelineCommands : Prop :=  Serves 0x0301 .pipeBind (fun s c => s.bindRefusals c)
    (fun s c t b => b = leBytes 4 (s.bindNeed c) ∧
      Told (((((s.bindStripes c).nozCount (c.at 0 1) (c.at 2 1 == 1)).keepSlack (c.at 0 1)).keepGrid (c.at 0 1)).autoTemper) t ∧
      ((∀ x ∈ s.bench.tables, x.1 ≠ c.at 0 1) → ∀ i < c.at 1 1, s.pipeEn (c.at (8 + i) 1) = false →
        t.pipeCam (c.at (8 + i) 1) = some (c.at 0 1) ∧ t.fld (Reg.PIPE_BIND (c.at (8 + i) 1)) 8 3 = i ∧
        t.rd (Reg.PIPE_BLKSEQ (c.at (8 + i) 1)) = 0#32 ∧
        t.rd (Reg.IMG (Reg.PIPE_BLK (c.at (8 + i) 1))) = w32 (s.bindLines c) ∧
        (s.pipeBit (c.at (8 + i) 1) 3 = false → t.rd (Reg.PIPE_BLK (c.at (8 + i) 1)) = w32 (s.bindLines c) ∧
          t.rd (Reg.PIPE_COLS (c.at (8 + i) 1)) = (s.stripeWords c (fmtWidth (s.camFmt (c.at 0 1))) i).2)) ∧
      ((∀ x ∈ s.bench.tables, x.1 ≠ c.at 0 1) →
        (∀ n ∈ c.bindPipes, s.pipeEn n = false ∧ s.pipeBit n 3 = false ∧ s.inGroup (c.at 0 1) n = true) →
        (c.at 0 1 ∉ s.bench.slackCams → t.fld (Reg.CRU_CAMCFG (c.at 0 1)) 0 12 = s.bindLines c) ∧
        ∀ g ∈ s.camGens (c.at 0 1),
          t.rd (Reg.TRG_TSBLK g) = w32 (if fmtArea (s.camFmt (c.at 0 1)) then 1 else s.bindLines c)) ∧
      (c.at 0 1 ∈ t.bench.nozCams ↔ c.at 2 1 = 1) ∧ Same [.regs, .pipes, .mboxes, .bench, .clk, .out] s t) ∧
  Serves 0x0302 .pipeUnbind (fun s c => s.camRefusals c true ++ [
      (c.short 1 [], St.badParam), (s.boundPipes (c.at 0 1) == [], St.noObject),
      ((s.camPipes (c.at 0 1)).any s.pipeEn, St.state), (s.claimed 5, St.busy)])
    (fun s c t _ => (∀ n ∈ s.boundPipes (c.at 0 1), t.rd (Reg.PIPE_BIND n) = 0#32) ∧ c.at 0 1 ∉ t.bench.nozCams ∧
      Same [.regs, .mboxes, .bench, .clk, .out] s t) ∧
  Serves 0x0303 .pipeContextWrite (fun s c => s.camRefusals c true ++ [
      (c.short 8 [(2, 6)] || !c.pairsForm 8 || (c.pairs 8).any (fun e => !pairOk (Reg.PIPE_COLS 0) 0x04 0x7C e || ctxBad e) ||
        (fmtArea (s.camFmt (c.at 0 1)) &&
          fldOf (c.pairVal 8 0x04 (w32 (s.camBlkLines (c.at 0 1)))) 0 11 != fmtHeight (s.camFmt (c.at 0 1))), St.badParam),
      (s.stripes (c.at 0 1) (c.at 1 1) == [], St.noObject), (s.claimed 5, St.busy),
      ((s.bench.nozCams.contains (c.at 0 1) &&
          !s.nozOk (c.at 0 1) (fldOf (c.pairVal 8 0x04 (w32 (s.camBlkLines (c.at 0 1)))) 0 11)) ||
        (s.bit (Reg.CRU_CAMCFG (c.at 0 1)) 16 && !s.imageOk c.tenant (c.at 0 1)
          (s.imageLoad (c.at 0 1) (fldOf (c.pairVal 8 0x7C (w32 (4 * s.camRingFmt (c.at 0 1)))) 2 2))), St.capacity)])
    (fun s c t _ => Told (((s.each (s.stripes (c.at 0 1) (c.at 1 1))
        (fun t n => t.each (c.pairs 8) (fun u e => u.fwShadow n (Reg.PIPE_COLS n + e.1) (w32 e.2)))).keepSlack (c.at 0 1)).keepGrid
          (c.at 0 1)) t ∧
      (∀ e, c.pairs 8 = [e] → ∀ n ∈ s.stripes (c.at 0 1) (c.at 1 1), s.pipeBit n 3 = false →
        Reg.PIPE_COLS n + e.1 ≠ Reg.PIPE_DPPITCH_I n → Reg.PIPE_COLS n + e.1 ≠ Reg.PIPE_DPPITCH_F n →
          t.rd (Reg.PIPE_COLS n + e.1) = w32 e.2 ∧ t.rd (Reg.IMG (Reg.PIPE_COLS n + e.1)) = w32 e.2) ∧
      Same [.regs, .pipes, .mboxes, .bench] s t) ∧
  Serves 0x0304 .pipeTableWrite (fun s c => s.camRefusals c true ++ [
      (c.short 16 [(3, 1), (8, 8)] || decide (c.len < 16 + 4 * c.at 6 2) || c.at 6 2 == 0 || decide (56 < c.at 6 2) ||
        decide (2 < c.at 1 1) || decide (2 < c.at 2 1) ||
        decide ((if c.at 1 1 = 0 then fmtWidth (s.camFmt (c.at 0 1)) else if c.at 1 1 = 1 then 1024 else 257) <
          c.at 4 2 + c.at 6 2) ||
        (c.at 1 1 == 2 && (List.range (c.at 6 2)).any (fun i => decide (c.at (19 + 4 * i) 1 ≠ 0))), St.badParam),
      (s.boundPipes (c.at 0 1) == [], St.noObject), (s.claimed 5, St.busy)])
    (fun s c t _ => Told (s.each (List.range (c.at 6 2)) (fun u i => u.tableEntry (c.at 0 1) (c.at 1 1)
        (if c.at 1 1 = 1 then 0 else c.at 2 1) (c.at 4 2 + i) (c.at (16 + 4 * i) 4))) t ∧
      Same [.regs, .pipes, .mboxes, .bench] s t) ∧
  Serves 0x0305 .pipeArm (fun s c => s.camRefusals c true ++ [
      (c.short 2 [] || decide (2 ≤ c.at 1 1), St.badParam), (s.camPipes (c.at 0 1) == [], St.noObject),
      (s.claimed 5 || (c.at 1 1 == 1 && s.claimed 1), St.busy)])
    (fun s c t _ => (∀ n ∈ s.camPipes (c.at 0 1), t.pipeBit n 2 = true) ∧
      (c.at 1 1 = 1 → ∀ g ∈ s.camGens (c.at 0 1), t.bit (Reg.TRG_TSSTAT g) 1 = true) ∧
      Keeps (fun k => (∃ n ∈ s.camPipes (c.at 0 1), k = Reg.PIPE_STAT n) ∨
        (c.at 1 1 = 1 ∧ ∃ g ∈ s.camGens (c.at 0 1), k = Reg.TRG_TSSTAT g)) [.gens, .mboxes, .bench] s t) ∧
  Serves 0x0306 .pipeEnable (fun s c => s.camRefusals c true ++ [
      (c.short 2 [] || decide (2 ≤ c.at 1 1), St.badParam), (s.camPipes (c.at 0 1) == [], St.noObject), (s.claimed 5, St.busy)])
    (fun s c t _ => (∀ n ∈ s.camPipes (c.at 0 1), t.pipeEn n = (c.at 1 1 == 1)) ∧
      Same [.regs, .reports, .pipes, .mboxes, .bench, .out] s t) ∧
  Serves 0x0307 .pipeStatus (fun s c => s.camRefusals c true ++ [
      (c.short 1 [], St.badParam), (s.boundPipes (c.at 0 1) == [], St.noObject)])
    (fun s c t b => Told s t ∧ b = (List.range 8).flatMap (fun st => (s.stripeOf (c.at 0 1) st).elim [] (fun n =>
      s.regsBytes [Reg.PIPE_STAT n, Reg.PIPE_OVF n, Reg.PIPE_GAPCNT n, Reg.PIPE_BLKSEQ n])))

/-- Axis and generator commands (Table 13.13, R24, R72, R81, R84, R399). AXIS_SET writes the registers of its list in
order, AXIS_CMD those bits of POS_AXCMD; an axis is read; a snapshot latches all eight positions with the time;
TS_SET writes a generator's registers with the least interval its camera needs; TS_CMD writes those bits of
TRG_TSCMD. -/
def Obligations.AxisCommands : Prop :=  Serves 0x0401 .axisSet (fun s c => s.axRefusals c ++ [
      (c.short 8 [(1, 7)] || !c.pairsForm 8 || (c.pairs 8).any (fun e => !pairOk (Reg.POS_AXEN 0) 0 0xDC e), St.badParam),
      (s.claimed 0, St.busy)])
    (fun s c t _ => Told (s.each (c.pairs 8) (fun t e => t.axRegWrite (c.at 0 1) e.1 (w32 e.2))) t ∧
      (∀ m, m ≠ c.at 0 1 → t.axis m = s.axis m) ∧
      Same [.regs, .reports, .causes, .expls, .events, .axes, .mboxes, .bench, .touch, .out] s t) ∧
  Serves 0x0402 .axisCmd (fun s c => s.axRefusals c ++ [
      (c.short 2 [] || decide (32 ≤ c.at 1 1), St.badParam), (s.claimed 0, St.busy)])
    (fun s c t _ => Told (s.axCmdWrite (c.at 0 1) (w32 (c.at 1 1))) t ∧ (∀ m, m ≠ c.at 0 1 → t.axis m = s.axis m) ∧
      Same [.regs, .axes, .mboxes, .bench, .out] s t) ∧
  Serves 0x0403 .axisRead (fun s c => [
      (c.short 1 [], St.badParam), (if c.at 0 1 < 8 then !s.usesAxis c.tenant (c.at 0 1) else c.tenant != 0, St.isolation),
      (decide (8 ≤ c.at 0 1), St.noObject)])
    (fun s c t b => Told s t ∧ b = leBytes 6 (s.axPos (c.at 0 1)).toNat ++ leBytes 6 (s.axHwm (c.at 0 1)).toNat ++
      s.regsBytes [Reg.POS_AXVEL (c.at 0 1), Reg.POS_AXSTAT (c.at 0 1), Reg.POS_AXSPD_LO (c.at 0 1),
        Reg.POS_AXSPD_LO (c.at 0 1) + 4] ++
      leBytes 6 (s.rd64 (Reg.POS_AXIDX_LO (c.at 0 1))) ++ leBytes 2 0 ++ s.regsBytes [Reg.POS_AXDRIFT (c.at 0 1)]) ∧
  Serves 0x0404 .posSnapshot (fun s c => [(c.short 0 [], St.badParam), (s.claimed 0, St.busy)])
    (fun s c t b => t.rd64 Reg.POS_SNAPT_LO = s.devTime % 2 ^ 64 ∧ (∀ n < 8, t.rd64 (Reg.POS_AXSNAP_LO n) = (s.axPos n).toNat) ∧
      b = leBytes 8 s.devTime ++
        (List.range 8).flatMap (fun n => leBytes 6 (if s.usesAxis c.tenant n then (s.axPos n).toNat else 0)) ∧
      Keeps (fun k => k = Reg.POS_SNAPT_LO ∨ k = Reg.POS_SNAPT_LO + 4 ∨
        ∃ n < 8, k = Reg.POS_AXSNAP_LO n ∨ k = Reg.POS_AXSNAP_LO n + 4) [.mboxes, .bench] s t) ∧
  Serves 0x0405 .tsSet (fun s c => s.genRefusals c ++ [
      (c.short 8 [(1, 7)] || !c.pairsForm 8 || (c.pairs 8).any (fun e => !pairOk (Reg.TRG_TSCTL 0) 0 0x30 e) ||
        s.tsBad (c.pairVal 8 0 (s.rd (Reg.TRG_TSCTL (c.at 0 1)))) (c.pairVal 8 0x20 (s.rd (Reg.TRG_TSXDLY (c.at 0 1)))),
          St.badParam),
      (s.tsForeign c.tenant (c.pairVal 8 0 (s.rd (Reg.TRG_TSCTL (c.at 0 1)))), St.isolation),
      (bitOf (c.pairVal 8 0 (s.rd (Reg.TRG_TSCTL (c.at 0 1)))) 10 &&
        !(s.cam (fldOf (c.pairVal 8 0 (s.rd (Reg.TRG_TSCTL (c.at 0 1)))) 3 7)).bound, St.noObject), (s.claimed 1, St.busy)])
    (fun s c t _ => (∀ v u, v = c.pairVal 8 0 (s.rd (Reg.TRG_TSCTL (c.at 0 1))) →
        u = s.each (c.pairs 8) (fun t e => t.tsRegWrite (c.at 0 1) e.1 (w32 e.2)) →
        (bitOf v 10 = true → t.fld (Reg.TRG_TSMINPER (c.at 0 1)) 0 20 =
            max (fldOf (c.pairVal 8 0x24 0#32) 0 20) (s.minPerOf (fldOf v 3 7)) % 2 ^ 20 ∧
          Told ((u.wr (Reg.TRG_TSMINPER (c.at 0 1)) (t.rd (Reg.TRG_TSMINPER (c.at 0 1)))).keepGrid (fldOf v 3 7)) t) ∧
        (bitOf v 10 = false → Told u t)) ∧
      (∀ g, g ≠ c.at 0 1 → t.gen g = s.gen g) ∧ Same [.regs, .gens, .pipes, .mboxes, .bench] s t) ∧
  Serves 0x0406 .tsCmd (fun s c => s.genRefusals c ++ [
      (c.short 2 [] || decide (16 ≤ c.at 1 1), St.badParam), (s.claimed 1, St.busy)])
    (fun s c t b => Told (s.tsCmdWrite (c.at 0 1) (w32 (c.at 1 1))) t ∧
      b = t.regsBytes [Reg.TRG_TSSTAT (c.at 0 1), Reg.TRG_TSTRIG (c.at 0 1), Reg.TRG_TSOVS (c.at 0 1), Reg.TRG_TSMISS (c.at 0 1),
        Reg.TRG_TSDROP (c.at 0 1), Reg.TRG_TSIDX (c.at 0 1)] ∧
      t.axes = s.axes ∧ t.devMem = s.devMem ∧ t.parts = s.parts)

/-- Compare list, pin and route commands (Table 13.13, R88, R90, R95, R97, R98, R106 to R109, R111). CL_SET gives a
list a ring and its control; CL_APPEND stores all its entries behind those that wait, or none; PIN_SET writes the
registers of its list in order; a route is written for one producer or one consumer, and a channel's sharing for
its tenants. -/
def Obligations.RouteCommands : Prop :=  Serves 0x0407 .clSet (fun s c => s.listRefusals c ++ [
      (c.short 8 [(2, 2)] || decide (32 ≤ c.at 1 1) || c.at 4 4 == 0 || decide (65536 < c.at 4 4), St.badParam),
      (!s.usesAxis c.tenant (c.at 1 1 / 2 % 8), St.isolation), (s.clEn (c.at 0 1), St.state), (s.claimed 1, St.busy),
      ((s.ringPlace c.tenant (c.at 0 1) (c.at 4 4)).isNone, St.capacity)])
    (fun s c t b => (∃ a, s.ringPlace c.tenant (c.at 0 1) (c.at 4 4) = some a ∧ b = leBytes 2 a ∧
        t.rd (Reg.TRG_CLBASE (c.at 0 1)) = w32 a ∧ (c.at 0 1, a, c.at 4 4) ∈ t.bench.clRings) ∧
      t.rd (Reg.TRG_CLSIZE (c.at 0 1)) = w32 (c.at 4 4) ∧ t.rd (Reg.TRG_CLCTL (c.at 0 1)) = w32 (c.at 1 1) ∧
      t.axes = s.axes ∧ t.gens = s.gens ∧ t.devMem = s.devMem) ∧
  Serves 0x0408 .clAppend (fun s c => s.listRefusals c ++ [
      (c.short 16 [(2, 14)] || c.at 1 1 == 0 || decide (14 < c.at 1 1) || decide (c.len < 16 + 16 * c.at 1 1) ||
        c.entries.any (fun e => entBad e || s.winBad (c.at 0 1) e), St.badParam),
      (c.entries.any (s.entForeign c.tenant), St.isolation), (s.claimed 1, St.busy),
      (decide ((s.clRd (c.at 0 1) + 2 * s.clSize (c.at 0 1) - s.clWr (c.at 0 1) - 1) % s.clSize (c.at 0 1) < c.at 1 1),
        St.capacity)])
    (fun s c t b => Told ((s.each c.entries.zipIdx (fun t e =>
        t.entStore (c.at 0 1) ((s.clWr (c.at 0 1) + e.2) % s.clSize (c.at 0 1)) e.1)).clWrWrite (c.at 0 1)
          (w32 ((s.clWr (c.at 0 1) + c.at 1 1) % s.clSize (c.at 0 1)))) t ∧ b = leBytes 2 (t.clWr (c.at 0 1)) ∧
      t.axes = s.axes ∧ t.gens = s.gens ∧ t.devMem = s.devMem) ∧
  Serves 0x0409 .clStatus (fun s c => s.listRefusals c ++ [(c.short 1 [], St.badParam)])
    (fun s c t b => Told s t ∧ b = s.regsBytes [Reg.TRG_CLWR (c.at 0 1), Reg.TRG_CLRD (c.at 0 1), Reg.TRG_CLDONE (c.at 0 1),
      Reg.TRG_CLMISS (c.at 0 1), Reg.TRG_CLWDROP (c.at 0 1), Reg.TRG_CLERR (c.at 0 1), Reg.TRG_CLSTAT (c.at 0 1)]) ∧
  Serves 0x040A .pinSet (fun s c => [
      (c.short 8 [(2, 6)] || decide (2 < c.at 0 1) || !c.pairsForm 8 ||
        (c.pairs 8).any (fun e => !pairOk (pinBlock (c.at 0 1) 0).1 0 (pinBlock (c.at 0 1) 0).2 e), St.badParam),
      (s.pinForeign c, St.isolation), (decide ((if c.at 0 1 = 0 then 32 else 16) ≤ c.at 1 1), St.noObject), (s.claimed 1, St.busy)])
    (fun s c t _ => Told (s.each (c.pairs 8) (fun t e => t.pinRegWrite (c.at 0 1) (c.at 1 1) e.1 (w32 e.2))) t ∧
      Same [.regs, .reports, .pins, .pairs, .mboxes, .bench, .out] s t) ∧
  Serves 0x040B .routePub (fun s c => [
      (c.short 4 [] || decide (2 ≤ c.at 3 1), St.badParam),
      (!s.owns c.tenant Part.evch (c.at 2 1) ||
        (!(c.at 0 2 == 1024 || c.at 0 2 == 1025) && s.producerOwner (c.at 0 2) != c.tenant), St.isolation),
      (!(c.at 0 2 == 1024 || c.at 0 2 == 1025) && decide (866 ≤ c.at 0 2), St.noObject),
      (s.claimed (if c.at 0 2 == 1024 || c.at 0 2 == 1025 then 1 else 2), St.busy),
      (c.at 3 1 == 1 && decide (352 ≤ c.at 0 2) && decide (c.at 0 2 < 864) && s.routeCycle true (c.at 0 2 - 352) (c.at 2 1),
        St.cycle)])
    (fun s c t _ => (c.at 0 2 < 866 → t.rd (Reg.EVR_PUB (c.at 0 2)) = w32 (c.at 2 1 + 256 * c.at 3 1) ∧
        Keeps (inKeys [Reg.EVR_PUB (c.at 0 2)]) [.mboxes, .bench] s t) ∧
      (866 ≤ c.at 0 2 → t.fld (Reg.TRG_EVMAP c.tenant) (16 * (c.at 0 2 - 1024)) 9 = c.at 2 1 + 256 * c.at 3 1 ∧
        Keeps (inKeys [Reg.TRG_EVMAP c.tenant]) [.mboxes, .bench] s t)) ∧
  Serves 0x040C .routeSub (fun s c => [
      (c.short 5 [] || decide (8 ≤ c.at 3 1) || decide (64 ≤ c.at 4 1), St.badParam),
      (s.consumerOwner (c.at 0 2) != c.tenant || !s.maySub c.tenant (c.at 2 1) ||
        (c.at 3 1 / 2 % 2 == 1 && s.gateForeign c.tenant (c.at 4 1)), St.isolation),
      (decide (641 ≤ c.at 0 2), St.noObject), (s.claimed 2 || (decide (c.at 0 2 < 32) && s.claimed 1), St.busy),
      (c.at 3 1 % 2 == 1 && decide (32 ≤ c.at 0 2) && decide (c.at 0 2 < 544) && s.routeCycle false (c.at 0 2 - 32) (c.at 2 1),
        St.cycle)])
    (fun s c t _ => t.fld (Reg.EVR_SUB (c.at 0 2)) 9 6 = c.at 4 1 ∧ t.bit (Reg.EVR_SUB (c.at 0 2)) 15 = (c.at 3 1 / 4 % 2 == 1) ∧
      t.bit (Reg.EVR_SUB (c.at 0 2)) 16 = (c.at 3 1 / 2 % 2 == 1) ∧
      (32 ≤ c.at 0 2 → t.fld (Reg.EVR_SUB (c.at 0 2)) 0 9 = c.at 2 1 + c.at 3 1 % 2 * 256 ∧
        Keeps (inKeys [Reg.EVR_SUB (c.at 0 2)]) [.mboxes, .bench] s t) ∧
      (c.at 0 2 < 32 → t.fld (Reg.TRG_PINCFG (c.at 0 2)) 2 9 = c.at 3 1 % 2 + 2 * c.at 2 1 ∧
        Keeps (inKeys [Reg.EVR_SUB (c.at 0 2), Reg.TRG_PINCFG (c.at 0 2)]) [.mboxes, .bench] s t)) ∧
  Serves 0x040D .routeShare (fun s c => [
      (c.short 4 [(1, 1)], St.badParam), (!s.owns c.tenant Part.evch (c.at 0 1), St.isolation), (s.claimed 2, St.busy)])
    (fun s c t _ => t.fld (Reg.EVR_CHTEN (c.at 0 1)) 16 16 = c.at 2 2 ∧
      t.fld (Reg.EVR_CHTEN (c.at 0 1)) 0 16 = s.fld (Reg.EVR_CHTEN (c.at 0 1)) 0 16 ∧
      Keeps (inKeys [Reg.EVR_CHTEN (c.at 0 1)]) [.mboxes, .bench] s t)

/-- Reference and assay commands (Table 13.14, R231, R233 to R236, R239, R242, R250, R399, R434). Alone, a page
descriptor is stored in the lowest free slot and is READY, a freed page leaves its slot, a placement joins its
view's queue; in a pair they wait for the partner. A view, the bytes of a render set and stage contexts are
written, and a set is published. -/
def Obligations.ReferenceCommands : Prop :=  Serves 0x0501 .refPageLoad (fun s c => [
      (c.short 80 [] || !pageOk (c.payload.take 80) || (s.pageBases c.tenant (c.payload.take 80)).isNone ||
        (s.comparing c.tenant).any (fun n => !bandOk (s.pipeCols n).2 (s.rd (Reg.ASY_XSCL n))
          (pgFmt (c.payload.take 80))), St.badParam),
      ((s.tenantPages c.tenant).any (fun e => pgId e.2 == pgId (c.payload.take 80)), St.state), (s.claimed 6, St.busy),
      (decide (s.pageQuota c.tenant ≤ (s.tenantPages c.tenant).length), St.capacity)])
    (fun s c t b => b = leBytes 2 s.freeSlotNo ∧ (s.fld Reg.TWIN_STAT 0 3 ≠ 2 →
      ∀ a, a = s.rd64 Reg.ASY_PGTAB_LO + 128 * s.freeSlotNo → t.pageSlot s.freeSlotNo = c.tenant + 1 ∧
        pgReady (t.pageDesc s.freeSlotNo) = true ∧ (∀ x, ¬ (a ≤ x ∧ x < a + 128) → memGet t.devMem x = memGet s.devMem x) ∧
        (c.payload.length = 240 → ∀ i < 15, memGet t.devMem (a + i) = nth c.payload i 0#8) ∧
        Keeps (inKeys []) [.pages, .memx, .devMem, .mboxes, .bench] s t)) ∧
  Serves 0x0502 .refPageFree (fun s c => [
      (c.short 4 [], St.badParam), ((s.findPage c.tenant (c.at 0 4)).isNone, St.noObject),
      (s.pagePlaces c.tenant (c.at 0 4) != [] || s.pageWaits c.tenant (c.at 0 4) || s.claimed 6, St.busy)])
    (fun s c t _ => s.fld Reg.TWIN_STAT 0 3 ≠ 2 → ∀ k d, s.findPage c.tenant (c.at 0 4) = some (k, d) →
      t.pageSlot k = 0 ∧ pgReady (t.pageDesc k) = false ∧
      (∀ x, x ≠ s.rd64 Reg.ASY_PGTAB_LO + 128 * k + 15 → memGet t.devMem x = memGet s.devMem x) ∧
      Keeps (inKeys []) [.pages, .twin, .memx, .devMem, .mboxes, .bench] s t) ∧
  Serves 0x0503 .refPlace (fun s c => s.viewRefusals c ++ [
      (c.short 14 [(1, 3)] || (s.viewLast (c.at 0 1)).any (fun q => decide (posDiff (posn (c.at 8 6)) q ≤ 0)), St.badParam),
      (s.claimed 6, St.busy),
      (decide (64 ≤ (s.view (c.at 0 1)).places.length + (s.viewWaits (c.at 0 1)).length), St.capacity)])
    (fun s c t b => ∀ v k, v = c.at 0 1 → k = s.viewNext v → b = leBytes 1 k ∧
      t.rd (Reg.ASY_PLQ v k 0) = w32 (c.at 4 4) ∧ t.rd (Reg.ASY_PLQ v k 1) = w32 (c.at 8 4) ∧
      t.rd (Reg.ASY_PLQ v k 2) = w32 (c.at 12 2) ∧
      (s.fld Reg.TWIN_STAT 0 3 ≠ 2 → (∃ p, (t.view v).places = (s.view v).places ++ [p] ∧ p.slot = k ∧ p.page = c.at 4 4 ∧
          p.pstart = posn (c.at 8 6)) ∧ (t.view v).count = (s.view v).count + 1 ∧
        t.rd (Reg.ASY_VQWR v) = w32 ((k + 1) % 64) ∧ (∀ m, m ≠ v → t.view m = s.view m) ∧
        Keeps (inKeys [Reg.ASY_PLQ v k 0, Reg.ASY_PLQ v k 1, Reg.ASY_PLQ v k 2, Reg.ASY_PLQ v k 3, Reg.ASY_VQWR v,
          Reg.ASY_VLATEPL v]) [.views, .mboxes, .bench] s t) ∧
      (s.fld Reg.TWIN_STAT 0 3 = 2 → s.fld Reg.TWIN_STAT 3 2 ≠ 0 → t.views = s.views ∧ ∃ x ∈ t.twin.items,
        x.kind = 2 ∧ x.a = v ∧ x.page = c.at 4 4 ∧ x.pstart = posn (c.at 8 6) ∧ x.own = some s.devTime)) ∧
  Serves 0x0504 .refViewSet (fun s c => s.viewRefusals c ++ [
      (c.short 8 [(2, 2)] || decide (16 ≤ c.at 1 1), St.badParam), (!s.usesAxis c.tenant (c.at 1 1 / 2), St.isolation),
      (s.claimed 6 || (s.fld (Reg.ASY_VCTL (c.at 0 1)) 1 3 != c.at 1 1 / 2 && s.viewNamed (c.at 0 1)), St.busy)])
    (fun s c t _ => ∀ v, v = c.at 0 1 → t.fld (Reg.ASY_VCTL v) 0 4 = c.at 1 1 ∧
      t.fld (Reg.ASY_VCTL v) 4 28 = s.fld (Reg.ASY_VCTL v) 4 28 ∧ t.rd (Reg.ASY_VGINIT v) = w32 (c.at 4 4) ∧
      t.rd (Reg.ASY_VG v) = (if s.bit (Reg.ASY_VCTL v) 0 = false ∧ c.at 1 1 % 2 = 1 then w32 (c.at 4 4)
        else s.rd (Reg.ASY_VG v)) ∧
      Keeps (inKeys [Reg.ASY_VCTL v, Reg.ASY_VGINIT v, Reg.ASY_VG v]) [.mboxes, .bench] s t) ∧
  Serves 0x0505 .renderSetWrite (fun s c => s.setRefusals c ++ [
      (c.short 16 [(1, 3), (10, 6)] || c.at 8 2 == 0 || decide (224 < c.at 8 2) || decide (c.len < 16 + c.at 8 2) ||
        decide (0xC000 < c.at 4 4 + c.at 8 2), St.badParam),
      (s.claimed 6 || s.bit Reg.ASY_RSSTAT (c.at 0 1), St.busy)])
    (fun s c t _ => ∀ a n, a = Reg.RSET (c.at 0 1) (c.at 4 4) → n = c.at 8 2 →
      (c.payload.length = 240 → t.rdBytes a n = (c.payload.drop 16).take n) ∧
      Keeps (fun k => a < k + 4 ∧ k < a + n) [.mboxes, .bench] s t) ∧
  Serves 0x0506 .renderSetPublish (fun s c => s.setRefusals c ++ [(c.short 1 [], St.badParam), (s.claimed 6, St.busy)])
    (fun s c t _ => t.bit Reg.ASY_RSSTAT (c.at 0 1) = true ∧ t.bit Reg.ASY_RSSTAT (8 + c.at 0 1) = true ∧
      (∀ n < 104, s.fld (Reg.ASY_CFG n) 8 3 = c.at 0 1 → t.bit (Reg.ASY_STAT n) 1 = true) ∧
      (∀ i < 1025, t.rd (Reg.RSET (c.at 0 1) (0xA900 + 4 * i)) = w32 (fEntry i)) ∧
      (s.regsWf = true → ∀ n < 104, (s.pipeCam n).isSome = true → s.fld (Reg.ASY_CFG n) 8 3 = c.at 0 1 → ∀ o < 0xC000,
        t.rd (Reg.IMG (Reg.ATAB n (1 - s.pipeBank n) o)) = t.rd (Reg.RSET (c.at 0 1) o)) ∧
      Keeps (fun k => k = Reg.ASY_RSSTAT ∨ (∃ i < 1025, k = Reg.RSET (c.at 0 1) (0xA900 + 4 * i)) ∨
        ∃ n < 104, s.fld (Reg.ASY_CFG n) 8 3 = c.at 0 1 ∧ (k = Reg.ASY_STAT n ∨ ((s.pipeCam n).isSome = true ∧
          ∃ o < 0xC000, k = Reg.IMG (Reg.ATAB n (1 - s.pipeBank n) o)))) [.mboxes, .bench] s t) ∧
  Serves 0x0507 .assayConfig (fun s c => s.camRefusals c true ++ [
      (c.short 8 [(2, 6)] || !c.pairsForm 8 || (c.pairs 8).any (fun e => !pairOk (Reg.ASY_CFG 0) 0 0x34 e) ||
        (s.stripes (c.at 0 1) (c.at 1 1)).any (s.asyBad c (c.at 0 1)), St.badParam),
      ((s.stripes (c.at 0 1) (c.at 1 1)).any (s.asyForeign c), St.isolation),
      (s.stripes (c.at 0 1) (c.at 1 1) == [], St.noObject), (s.claimed 6, St.busy)])
    (fun s c t _ => ∀ ps u, ps = s.stripes (c.at 0 1) (c.at 1 1) →
      u = s.each ps (fun t n => t.each (c.pairs 8) (fun u e => u.asyShadow n e.1 (w32 e.2))) →
        (ps.any (fun n => u.bit (Reg.ASY_CFG n) 0 || u.bit (Reg.ASY_CFG n) 5) = false → Told u t) ∧
        (ps.any (fun n => u.bit (Reg.ASY_CFG n) 0 || u.bit (Reg.ASY_CFG n) 5) = true → Told (u.alignCores (c.at 0 1)) t) ∧
        ((∃ e ∈ c.pairs 8, e.1 = 0) → ∀ n ∈ ps, t.bit (Reg.ASY_STAT n) 1 = true) ∧
        Same [.regs, .pipes, .mboxes, .bench] s t) ∧
  Serves 0x0508 .refPageStatus (fun _ c => [(c.short 4 [], St.badParam)])
    (fun s c t b => Told s t ∧ ∀ l e, l = s.pagePlaces c.tenant (c.at 0 4) → e = s.findPage c.tenant (c.at 0 4) →
      b = leBytes 1 (b2n e.isSome) ++ leBytes 1 l.length ++ leBytes 2 ((e.map (·.1)).getD 0) ++ leBytes 4 0 ++
        (l.take 16).flatMap (fun p => leBytes 1 p.1 ++ leBytes 1 0 ++ leBytes 6 p.2.pstart.toNat))

/-- Nozzle commands (Table 13.15, R38, R269 to R273, R281, R283, R307). A plane gets its registers, its owner stays;
segments join its new run, and a commit hands the run over; tracks are read, set back to their initial state,
masked; loads and snapshots of tracks wait in the transfer queue. -/
def Obligations.NozzleCommands : Prop :=  Serves 0x0601 .nozPlaneSet (fun s c => s.planeRefusals c ++ [
      (c.short 36 [(1, 3)] || s.planeBad (c.at 0 1) c.planeWords, St.badParam), (s.claimed 7, St.busy)])
    (fun s c t _ => ∀ p, p = c.at 0 1 →
      (∀ i, 1 ≤ i → i < 8 → t.rd (Reg.NOZ_PLCFG p + 4 * i) = w32 (c.at (4 + 4 * i) 4)) ∧
      t.fld (Reg.NOZ_PLCFG p) 0 24 = fldOf (w32 (c.at 4 4)) 0 24 ∧ t.planeOwner p = s.planeOwner p ∧
      Keeps (fun k => (∃ i < 8, k = Reg.NOZ_PLCFG p + 4 * i) ∨ k = Reg.NOZ_PLNWEAK p ∨ k = Reg.NOZ_PLNOUT p ∨
        k = Reg.NOZ_PLNDEV p) [.mboxes, .bench] s t) ∧
  Serves 0x0602 .nozMapWrite (fun s c => s.planeRefusals c ++ [
      (c.short 16 [(4, 12)] || c.at 1 1 == 0 || decide (14 < c.at 1 1) || decide (c.len < 16 + 16 * c.at 1 1) ||
        (c.at 2 2 != 0 && decide ((s.runOf (c.at 0 1)).2 < c.at 2 2)) || c.segs.any (s.segBad (c.at 0 1)) ||
        pairsMeet (s.runAfter c), St.badParam),
      (c.segs.any (fun g => s.foreign (s.planeOwner (c.at 0 1)) Part.cam 96 (sgCam g)), St.isolation), (s.claimed 7, St.busy),
      ((s.runPlace (c.at 0 1) (s.runAfter c).length).isNone, St.capacity)])
    (fun s c t b => b = leBytes 2 (s.runAfter c).length ∧ ∃ a, s.runPlace (c.at 0 1) (s.runAfter c).length = some a ∧
      (∀ i < (s.runAfter c).length, t.segNo (a + i) = nth (s.runAfter c) i 0) ∧
      (c.at 0 1, a, (s.runAfter c).length) ∈ t.bench.runs ∧
      Keeps (fun k => ∃ i < (s.runAfter c).length, ∃ w < 4, k = Reg.NOZ_SEG (a + i) w) [.mboxes, .bench] s t) ∧
  Serves 0x0603 .nozMapCommit (fun s c => s.planeRefusals c ++ [
      (c.short 1 [], St.badParam), ((s.runOf (c.at 0 1)).2 == 0, St.state), (s.claimed 7, St.busy),
      (!(s.wr (Reg.NOZ_PLMAP (c.at 0 1)) (w32 ((s.runOf (c.at 0 1)).1 + (s.runOf (c.at 0 1)).2 * 4096))).nozFits
        (s.bench.nozCams.map (fun k => (k, s.camBlkLines k))), St.capacity)])
    (fun s c t b => ∀ p r, p = c.at 0 1 → r = s.runOf p → b = leBytes 2 r.1 ++ leBytes 2 r.2 ∧
      t.rd (Reg.NOZ_PLMAPS p) = w32 (r.1 + r.2 * 4096) ∧ p ∈ t.noz.commits ∧ (∀ e ∈ t.bench.runs, e.1 ≠ p) ∧
      Keeps (inKeys [Reg.NOZ_PLMAPS p]) [.noz, .mboxes, .bench] s t) ∧
  Rests 0x0604 .nozTrackRead ∧
  (∀ s f slot c st, Runs s f slot 0x0604 c → st = Answer s c (s.planeRefusals c ++ [
      (c.short 10 [(1, 3)] || c.at 8 2 == 0 || decide (19 < c.at 8 2), St.badParam),
      (s.tracksForeign (c.at 0 1) (c.at 4 4) (c.at 8 2), St.isolation)]) →
    (st ≠ 0 → Goes (.nozTrackRead f slot) s (fun t => Final t c st [] ∧ Told s t)) ∧
    (st = 0 → Goes (.nozTrackRead f slot) s (fun t => Told s t ∧
      Final t c (if (List.range (c.at 8 2)).any (fun i => s.trkLost (c.at 4 4 + i)) then St.noObject else St.ok)
        ((List.range (c.at 8 2)).flatMap (fun i => if s.trkLost (c.at 4 4 + i) then List.replicate 12 0#8 else
          s.regsBytes [Reg.NOZ_TRK (c.at 4 4 + i) 0, Reg.NOZ_TRK (c.at 4 4 + i) 1, Reg.NOZ_TRK (c.at 4 4 + i) 2]))))) ∧
  Serves 0x0605 .nozTrackReset (fun s c => s.planeRefusals c ++ [
      (c.short 12 [(1, 3)] || c.at 8 4 == 0, St.badParam), (s.tracksForeign (c.at 0 1) (c.at 4 4) (c.at 8 4), St.isolation),
      (s.claimed 7, St.busy)])
    (fun s c t _ => (∀ i < c.at 8 4, t.rd (Reg.NOZ_TRK (c.at 4 4 + i) 0) = 0#32 ∧ t.rd (Reg.NOZ_TRK (c.at 4 4 + i) 1) = 0#32 ∧
        t.fld (Reg.NOZ_TRK (c.at 4 4 + i) 2) 0 31 = 0 ∧ t.trkMask (c.at 4 4 + i) = s.maskMap (c.at 4 4 + i)) ∧
      Keeps (fun k => (∃ i < c.at 8 4, ∃ w < 3, k = Reg.NOZ_TRK (c.at 4 4 + i) w) ∨ k = Reg.NOZ_PLNWEAK (c.at 0 1) ∨
        k = Reg.NOZ_PLNOUT (c.at 0 1) ∨ k = Reg.NOZ_PLNDEV (c.at 0 1)) [.mboxes, .bench] s t) ∧
  Serves 0x0606 .nozTrackMask (fun s c => s.planeRefusals c ++ [
      (c.short 13 [(1, 3)] || c.at 8 4 == 0 || decide (2 ≤ c.at 12 1), St.badParam),
      (s.tracksForeign (c.at 0 1) (c.at 4 4) (c.at 8 4), St.isolation), (s.claimed 7, St.busy)])
    (fun s c t _ => (∀ i < c.at 8 4, t.trkMask (c.at 4 4 + i) = (c.at 12 1 == 1) ∧
        t.maskMap (c.at 4 4 + i) = (c.at 12 1 == 1) ∧
        t.fld (Reg.NOZ_TRK (c.at 4 4 + i) 2) 0 31 = s.fld (Reg.NOZ_TRK (c.at 4 4 + i) 2) 0 31) ∧
      (∀ k, ¬ (c.at 4 4 ≤ k ∧ k < c.at 4 4 + c.at 8 4) → t.maskMap k = s.maskMap k) ∧
      Keeps (fun k => ∃ i < c.at 8 4, k = Reg.NOZ_TRK (c.at 4 4 + i) 2) [.noz, .mboxes, .bench] s t) ∧
  Queues 0x0607 .nozTrackLoad (fun s c => s.planeRefusals c ++ [
      (c.short 24 [(2, 2), (12, 4)] || c.at 8 4 == 0 || decide (2 ≤ c.at 1 1), St.badParam),
      (s.tracksForeign (c.at 0 1) (c.at 4 4) (c.at 8 4), St.isolation), (s.claimed 7, St.busy)]) ∧
  Queues 0x0608 .nozSnapshot (fun s c => s.planeRefusals c ++ [(c.short 24 [(2, 14)] || decide (2 ≤ c.at 1 1), St.badParam)]) ∧
  Serves 0x0609 .nozStatus (fun s c => s.planeRefusals c ++ [(c.short 1 [], St.badParam)])
    (fun s c t b => Told s t ∧ b = s.regsBytes [Reg.NOZ_PLNWEAK (c.at 0 1), Reg.NOZ_PLNOUT (c.at 0 1), Reg.NOZ_PLNDEV (c.at 0 1),
      Reg.NOZ_PLUPD (c.at 0 1), Reg.NOZ_SQ, Reg.NOZ_RPTQ, Reg.NOZ_STAT])

/-- Delivery and memory commands (Table 13.16, R291, R299, R301 to R307, R332). A ring gets its registers, a channel
and empty indices; a cleared ring loses what is staged for it and its channel; a camera gets its delivery
registers and capture ring; a block fetch waits in the transfer queue; a share is written; status is reported. -/
def Obligations.DeliveryCommands : Prop :=  Serves 0x0701 .dlvRingSet (fun s c => [
      (s.ringBad c, St.badParam), (!(c.at 3 1 / 2 % 2 == 1) && s.foreign c.tenant Part.cam 96 (c.at 4 1), St.isolation),
      (decide (16 ≤ c.at 0 1) || (!(c.at 3 1 / 2 % 2 == 1) && decide (96 ≤ c.at 4 1)), St.noObject),
      (s.ringEn c.tenant (c.at 0 1), St.state), (s.claimed 8, St.busy), ((s.ringChan c.tenant (c.at 1 1)).isNone, St.capacity)])
    (fun s c t b => c.tenant < 16 → ∃ ch, s.ringChan c.tenant (c.at 1 1) = some ch ∧ b = leBytes 2 ch ∧ ∀ u r, u = c.tenant →
      r = c.at 0 1 →
      t.rd (Reg.DLV_RCFG u r) = w32 (1 + c.at 1 1 * 2 + c.at 3 1 % 2 * 16 + c.at 4 1 % 128 * 32 + c.at 3 1 / 2 % 2 * 4096 +
        c.at 5 1 * 65536) ∧
      t.rd64 (Reg.DLV_RBASE_LO u r) = c.at 16 8 ∧ t.rd (Reg.DLV_RSIZE u r) = w32 (c.at 2 1) ∧
      t.rd64 (Reg.DLV_RWB_LO u r) = c.at 24 8 ∧ t.rd (Reg.DLV_RPIDX u r) = 0#32 ∧ t.rd (Reg.DLV_RCIDX u r) = 0#32 ∧
      t.rd (Reg.DLV_RMOD u r) = w32 (c.at 6 1 + c.at 8 2 * 256 + c.at 7 1 * 2 ^ 24) ∧
      t.rd64 (Reg.DLV_RDBASE_LO u r) = c.at 32 8 ∧ t.rd (Reg.DLV_RDSIZE u r) = w32 (c.at 10 2) ∧
      t.rd (Reg.DMA_CHOWN ch) = w32 (u + 48) ∧ t.ring u r = { ch := ch } ∧
      Keeps (fun k => (Reg.DLV_RCFG u r ≤ k ∧ k ≤ Reg.DLV_RSTAT u r) ∨ k = Reg.DMA_CHOWN ch) [.rings, .mboxes, .bench] s t) ∧
  Serves 0x0702 .dlvRingClear (fun s c => [
      (c.short 1 [], St.badParam), (decide (16 ≤ c.at 0 1), St.noObject), (s.claimed 8, St.busy)])
    (fun s c t _ => ∀ u r, u = c.tenant → r = c.at 0 1 → (s.ringEn u r = false → Told s t) ∧
      (s.ringEn u r = true → t.ringEn u r = false ∧ t.ring u r = {} ∧
        (u < 16 → (s.ring u r).ch < 512 → (∀ e ∈ (s.ring u r).staged, ∀ x, e.slot = some x → x.1 < 96) →
          t.fld (Reg.DLV_RLOST u r) 0 32 = satAdd 32 (s.fld (Reg.DLV_RLOST u r) 0 32) (s.ring u r).staged.length ∧
          t.bit (Reg.DMA_CHOWN (s.ring u r).ch) 5 = false) ∧
        Same [.regs, .crus, .rings, .mboxes, .bench] s t)) ∧
  Serves 0x0703 .camDeliverySet (fun s c => s.camRefusals c true ++ [
      (c.short 16 [(5, 3)] || decide (2 ≤ c.at 1 1) || decide (c.at 2 2 < 16 ∨ 4095 < c.at 2 2) || decide (c.at 4 1 < 2) ||
        decide (c.at 8 8 % 64 ≠ 0) || (s.devAddr c.tenant (c.at 8 8) (s.crBytes (c.at 0 1) (c.at 4 1))).isNone, St.badParam),
      (s.claimed 5 || ((s.devAddr c.tenant (c.at 8 8) (s.crBytes (c.at 0 1) (c.at 4 1)) !=
          some (s.rd64 (Reg.CRU_CAMCRBASE_LO (c.at 0 1))) || decide (c.at 4 1 ≠ s.fld (Reg.CRU_CAMCRCFG (c.at 0 1)) 0 8)) &&
        (s.cru (c.at 0 1)).slots.any (·.busy)), St.busy),
      (c.at 1 1 == 1 && !s.imageOk c.tenant (c.at 0 1) (s.imageLoad (c.at 0 1)
        (((s.camPipes (c.at 0 1)).head?).elim 0 (fun n => s.fld (Reg.PIPE_OUT n) 2 2))), St.capacity)])
    (fun s c t _ => ∃ a, s.devAddr c.tenant (c.at 8 8) (s.crBytes (c.at 0 1) (c.at 4 1)) = some a ∧ ∀ k, k = c.at 0 1 →
      t.rd (Reg.CRU_CAMCFG k) = w32 (c.at 2 2 + c.at 1 1 * 65536) ∧ t.rd (Reg.CRU_CAMCRCFG k) = w32 (c.at 4 1) ∧
      t.rd (Reg.CRU_CAMCRBASE_LO k) = w32 a ∧ t.rd (Reg.CRU_CAMCRBASE_LO k + 4) = w32 (a / 2 ^ 32) ∧
      (t.cru k = s.cru k ∨ (t.cru k = { s.cru k with slots := [] } ∧ t.fld (Reg.CRU_CAMCRSTAT k) 0 16 = 0)) ∧
      k ∈ t.bench.slackCams ∧ (∀ m, m ≠ k → t.cru m = s.cru m) ∧
      Keeps (inKeys [Reg.CRU_CAMCFG k, Reg.CRU_CAMCRBASE_LO k, Reg.CRU_CAMCRBASE_LO k + 4, Reg.CRU_CAMCRCFG k,
        Reg.CRU_CAMCRSTAT k]) [.crus, .mboxes, .bench] s t) ∧
  Queues 0x0704 .dlvBlockFetch (fun s c => s.camRefusals c false ++ [
      (c.short 8 [(2, 2)], St.badParam),
      (decide (16 ≤ c.at 1 1) || (s.keptSlot (c.at 0 1) (c.at 4 4)).isNone, St.noObject),
      (!(s.ringEn c.tenant (c.at 1 1) && s.ringKind c.tenant (c.at 1 1) == 4), St.state)]) ∧
  Serves 0x0705 .dlvShareSet (fun s c => [
      (c.short 5 [] || c.at 1 1 == 0 || c.at 4 1 == 0 || decide (64 < c.at 4 1) ||
        decide (1000 < (if c.at 0 1 = 0 then s.partSum 0 [] 12 2 + c.at 2 2
          else s.partSum (c.at 0 1) ((s.part (c.at 0 1)).take 10 ++ leBytes 1 (c.at 1 1) ++ ((s.part (c.at 0 1)).drop 11).take 1 ++
            leBytes 2 (c.at 2 2) ++ leBytes 1 (c.at 4 1) ++ (s.part (c.at 0 1)).drop 15) 12 2 +
            s.fld (Reg.DLV_TSHARE 0) 16 16)), St.badParam),
      (decide (16 ≤ c.at 0 1) || !s.tenantIs (c.at 0 1), St.noObject)])
    (fun s c t _ => ∀ u, u = c.at 0 1 → t.rd (Reg.DLV_TSHARE u) = w32 (c.at 1 1 + c.at 2 2 * 65536) ∧
      t.fld (Reg.DLV_TQ u) 0 8 = c.at 4 1 ∧ t.fld (Reg.DLV_TQ u) 8 24 = s.fld (Reg.DLV_TQ u) 8 24 ∧
      (u = 0 → t.parts = s.parts) ∧
      (u ≠ 0 → t.part u = (s.part u).take 10 ++ leBytes 1 (c.at 1 1) ++ ((s.part u).drop 11).take 1 ++ leBytes 2 (c.at 2 2) ++
        leBytes 1 (c.at 4 1) ++ (s.part u).drop 15) ∧ (∀ m, m ≠ u → t.part m = s.part m) ∧
      Keeps (inKeys [Reg.DLV_TSHARE u, Reg.DLV_TQ u]) [.parts, .mboxes, .bench] s t) ∧
  Serves 0x0706 .dlvStatus (fun _ c => [(c.short 1 [], St.badParam), (decide (16 ≤ c.at 0 1), St.noObject)])
    (fun s c t b => Told s t ∧ ∀ u r, u = c.tenant → r = c.at 0 1 → b = s.regsBytes [Reg.DLV_RPIDX u r, Reg.DLV_RCIDX u r,
      Reg.DLV_RLOST u r, Reg.DLV_RSTAT u r, Reg.DLV_TDEFER u, Reg.DLV_TREFUSE u, Reg.DLV_TQ u]) ∧
  Serves 0x070B .memStatus (fun _ c => [(c.short 0 [], St.badParam)])
    (fun s c t b => Told s t ∧ b = leBytes 1 (s.rangeBase c.tenant / 2 ^ 30) ++ leBytes 1 (s.rangeSize c.tenant / 2 ^ 30) ++
      leBytes 2 0 ++ s.regsBytes [Reg.MEM_PARTVIOL c.tenant] ++ leBytes 2 s.lcsUp ++ leBytes 2 (s.lcsUp * 256 / 10))

/-- DMA channel commands (Table 13.16, R332, R333, R338, R340, R343, R345, R405). A channel of the tenant's own, not
driven by the crucible, gets its configuration and its tenant; a register set is loaded into its shadow and given
GO; CTL acts as the command bits of DMA_CHCMD do; its status is reported. No other channel changes. -/
def Obligations.DmaCommands : Prop :=  Serves 0x0707 .dmaChanSet (fun s c => s.chanRefusals c ++ [
      (c.short 32 [(12, 4)] || decide (32 ≤ c.at 2 1) || decide (2 < c.at 3 1) || decide (512 ≤ c.at 4 2) ||
        decide ((if c.tenant = 0 then 2048 else 64) ≤ c.at 6 2) || decide (2 ^ 24 ≤ c.at 8 4) || decide (c.at 16 8 % 64 ≠ 0) ||
        decide (c.at 24 8 % 8 ≠ 0), St.badParam),
      (c.at 3 1 == 2 && !s.owns c.tenant Part.dmach (c.at 4 2), St.isolation), (!s.dmaOn (c.at 0 2), St.state),
      (s.claimed 8 || s.chBusy (c.at 0 2), St.busy),
      (c.at 3 1 == 2 && closesCycle (s.routeEdges.filter (fun e => e.2 != c.at 0 2 + 256 || decide (e.1 < 256)))
        (c.at 4 2 + 256) (c.at 0 2 + 256), St.cycle)])
    (fun s c t _ => ∀ ch, ch = c.at 0 2 → t.rd (Reg.DMA_CHCFG ch) = w32 (c.at 2 1 + c.at 6 2 * 32) ∧
      t.fld (Reg.DMA_CHOWN ch) 0 5 = (c.tenant + 16) % 32 ∧ t.fld (Reg.DMA_CHOWN ch) 5 27 = s.fld (Reg.DMA_CHOWN ch) 5 27 ∧
      t.rd (Reg.DMA_CHPACE ch) = w32 (c.at 3 1 + c.at 4 2 * 4) ∧ t.rd (Reg.DMA_CHSTALL ch) = w32 (c.at 8 4) ∧
      t.rd64 (Reg.DMA_CHHEAD_LO ch) = c.at 16 8 ∧ t.rd64 (Reg.DMA_CHWB_LO ch) = c.at 24 8 ∧
      Keeps (inKeys [Reg.DMA_CHCFG ch, Reg.DMA_CHOWN ch, Reg.DMA_CHPACE ch, Reg.DMA_CHSTALL ch, Reg.DMA_CHHEAD_LO ch,
        Reg.DMA_CHHEAD_LO ch + 4, Reg.DMA_CHWB_LO ch, Reg.DMA_CHWB_LO ch + 4]) [.mboxes, .bench] s t) ∧
  Serves 0x0708 .dmaChanLoad (fun s c => s.chanRefusals c ++ [
      (c.short 46 [(2, 6)], St.badParam), (!s.dmaOn (c.at 0 2), St.state), (s.claimed 8 || s.chShValid (c.at 0 2), St.busy)])
    (fun s c t _ => ∀ ch, ch = c.at 0 2 → (∀ i < 9, t.rd (Reg.DMA_CHCFG ch + 0x100 + 4 * i) = w32 (c.at (8 + 4 * i) 4)) ∧
      t.rd (Reg.DMA_CHCFG ch + 0x124) = w32 (c.at 44 2) ∧
      (s.chLinked ch = true ∨ (s.chan ch).desc.isSome = true ∨ s.chSt ch = 5 ∨ s.chSt ch = 6 → t.chShValid ch = true ∧
        t.chans = s.chans) ∧
      (s.chLinked ch = false → (s.chan ch).desc = none → s.chSt ch ≠ 5 → s.chSt ch ≠ 6 → t.chShValid ch = false ∧
        (t.chan ch).desc = some (t.regDesc ch 0x100)) ∧
      (∀ m, m ≠ ch → t.chan m = s.chan m) ∧ Same [.regs, .chans, .mboxes, .bench] s t) ∧
  Serves 0x0709 .dmaChanCtl (fun s c => s.chanRefusals c ++ [
      (c.short 3 [] || decide (16 ≤ c.at 2 1), St.badParam), (!s.dmaOn (c.at 0 2), St.state), (s.claimed 8, St.busy)])
    (fun s c t _ => Told (s.chCtl (c.at 0 2) (bitOf (w32 (c.at 2 1)) 0) (bitOf (w32 (c.at 2 1)) 1) (bitOf (w32 (c.at 2 1)) 2)
        (bitOf (w32 (c.at 2 1)) 3)) t ∧ (∀ m, m ≠ c.at 0 2 → t.chan m = s.chan m) ∧
      Same [.regs, .reports, .chans, .mboxes, .bench, .out] s t) ∧
  Serves 0x070A .dmaChanStatus (fun s c => s.chanRefusals c ++ [(c.short 2 [], St.badParam)])
    (fun s c t b => Told s t ∧ ∀ ch, ch = c.at 0 2 → b = s.regsBytes [Reg.DMA_CHSTAT ch, Reg.DMA_CHDONE ch, Reg.DMA_CHCRED ch,
      Reg.DMA_CHCUR_LO ch, Reg.DMA_CHCUR_LO ch + 4])

/-- Twin commands (Table 13.17, R432, R441 to R443). The status is reported; PAIR sets PAIRROLE and arms the request;
FENCE fences this device at once, or asks the partner and waits; UNFENCE rejoins as FOLLOW; HANDOVER names Th and
waits; UNPAIR dissolves the pair. -/
def Obligations.TwinCommands : Prop :=  Serves 0x0801 .twinStatus (fun _ c => [(c.short 0 [], St.badParam)])
    (fun s _ t b => Told s t ∧ b = leBytes 1 (s.fld Reg.TWIN_STAT 0 3) ++ leBytes 1 (s.fld Reg.TWIN_STAT 3 2) ++
      leBytes 2 (s.fld Reg.TWIN_EPOCH 0 16) ++ leBytes 4 (s.rdN Reg.TWIN_HBMISS) ++ leBytes 4 (s.fld Reg.TWIN_DIGERR 0 16) ++
      leBytes 1 (b2n s.witNow + 2 * b2n s.hbNow + 4 * b2n (s.bit Reg.TWIN_STAT 7))) ∧
  Serves 0x0802 .twinPair (fun s c => [
      (c.short 1 [] || decide (1 < c.at 0 1), St.badParam), (!s.pairOpen, St.state), (s.claimed 10, St.busy)])
    (fun s c t _ => t.fld Reg.TWIN_CTL 2 1 = c.at 0 1 ∧ Told ((s.setFld Reg.TWIN_CTL 2 1 (c.at 0 1)).pairArm) t ∧
      (s.twin.peerArmed = false → s.twin.peerState ≠ 1 → t.bit Reg.TWIN_STAT 9 = true ∧
        t.fld Reg.TWIN_STAT 0 3 = s.fld Reg.TWIN_STAT 0 3)) ∧
  Rests 0x0803 .twinFence ∧
  (∀ s f slot c, Runs s f slot 0x0803 c → ∀ ask : Prop,
    (ask ↔ c.at 0 1 = 1 ∧ c.short 1 [] = false ∧ s.hbNow = true ∧ s.claimed 10 = false ∧ s.twin.fenceT = none ∧
      (s.tenantIs c.tenant = true ∨ c.f ≠ 0)) →
    (s.twin.fenceCmd = some (c.f, c.slot) → Goes (.twinFence f slot) s (fun t => t = s)) ∧
    (s.twin.fenceCmd ≠ some (c.f, c.slot) → ask → Goes (.twinFence f slot) s (fun t =>
      t.twin = { s.twin with
        fenceT := some s.devTime, fenceCmd := some (c.f, c.slot), txq := Sent s [ctrlPkt (leBytes 1 3)] } ∧
      Keeps (inKeys []) [.twin] s t)) ∧
    (s.twin.fenceCmd ≠ some (c.f, c.slot) → ¬ ask → Served (.twinFence f slot) s c [
        (c.short 1 [] || decide (1 < c.at 0 1), St.badParam), (decide (c.at 0 1 = 1) && !s.hbNow, St.state),
        (s.claimed 10 || (decide (c.at 0 1 = 1) && s.twin.fenceT.isSome), St.busy)]
      (fun t _ => (s.bit Reg.TWIN_STAT 7 = true → Told s t) ∧ (s.bit Reg.TWIN_STAT 7 = false → Told s.twinFence t ∧
        t.bit Reg.TWIN_STAT 7 = true ∧ TwinAt t 5 1)))) ∧
  Serves 0x0804 .twinUnfence (fun s c => [(c.short 0 [], St.badParam), (!s.unfenceOpen, St.state), (s.claimed 10, St.busy)])
    (fun s _ t _ => Told s.twinUnfence t ∧ t.bit Reg.TWIN_STAT 7 = false ∧ TwinAt t 1 1 ∧ t.twin.step = 1 ∧
      t.fld Reg.TWIN_CTL 2 1 = 1) ∧
  Awaits 0x0805 .twinHandover (fun s c => [
      (c.short 0 [], St.badParam), (!s.handoverOpen, St.state), (s.anyInlay || s.claimed 10, St.busy)])
    (fun s c => s.twin.hoCmd = some (c.f, c.slot))
    (fun s c t => t.twin = { s.twin with
        th := some (s.devTime + usTicks 1050), hoT := s.devTime, hoLead := true, hoOk := false, hoCmd := some (c.f, c.slot)
        txq := Sent s [ctrlPkt (leBytes 1 4 ++ leBytes 8 (s.devTime + usTicks 1050))] } ∧
      t.bit Reg.TWIN_STAT 10 = true ∧ Keeps (inKeys [Reg.TWIN_STAT]) [.twin] s t) ∧
  Serves 0x0806 .twinUnpair (fun s c => [(c.short 0 [], St.badParam), (s.claimed 10, St.busy)])
    (fun s _ t _ => Told s.unpairHere t ∧ (s.bit Reg.TWIN_STAT 7 = false →
      (s.fld Reg.TWIN_STAT 3 2 ≠ 1 → TwinAt t 0 2 ∧ t.bit Reg.TWIN_STAT 9 = false) ∧
      (s.fld Reg.TWIN_STAT 3 2 = 1 → TwinAt t 5 1 ∧ t.bit Reg.TWIN_STAT 7 = true)))

/-- Fault commands (Table 13.18, R488, R493, R497). Up to three queued records are read and go; a source that exists
is forced, any other force is counted and refused; the quiet time is set; the recovery counts are reported.
Firmware image commands (Table 13.19, R413 to R416). What runs is reported; a staged image that passes every check
is verified, one that fails names its first failed check; a verified image goes into the inactive slot; an
activation begins an update restart, and waits for its end. -/
def Obligations.FaultAndFirmwareCommands : Prop :=
  (Serves 0x0901 .faultRead (fun _ c => [(c.short 1 [] || decide (c.at 0 1 = 0) || decide (3 < c.at 0 1), St.badParam)])
    (fun s c t b => b = leBytes 8 ((s.mbox c.f).faults.take (c.at 0 1)).length ++
        ((s.mbox c.f).faults.take (c.at 0 1)).flatMap id ∧
      (t.mbox c.f).faults = (s.mbox c.f).faults.drop (c.at 0 1) ∧ Told s t) ∧
  Rests 0x0903 .faultForce ∧
  (∀ s f slot c, Runs s f slot 0x0903 c → ∀ ok : Prop,
    (ok ↔ c.at 0 1 < 15 ∧ c.at 2 2 / 256 = c.at 0 1 ∧ 1 ≤ c.at 2 2 % 256 ∧ c.at 2 2 % 256 ≤ sigCount (c.at 0 1) ∧
      srcExists (c.at 0 1) (c.at 2 2 % 256) (c.at 4 2) = true) →
    (c.short 6 [(1, 1)] = true → Goes (.faultForce f slot) s (fun t => Final t c St.badParam [] ∧ Told s t)) ∧
    (c.short 6 [(1, 1)] = false → ok → Served (.faultForce f slot) s c []
      (fun t _ => Told (s.force (c.at 0 1) (c.at 2 2 % 256) (c.at 4 2)) t)) ∧
    (c.short 6 [(1, 1)] = false → ¬ ok → Goes (.faultForce f slot) s (fun t => Final t c St.badParam [] ∧
      t.fld Reg.TOUCH_FORCECNT 16 16 = satAdd 16 (s.fld Reg.TOUCH_FORCECNT 16 16) 1 ∧
      Keeps (inKeys [Reg.TOUCH_FORCECNT]) [.mboxes, .bench] s t))) ∧
  Serves 0x0904 .faultConfig (fun _ c => [(c.short 8 [(1, 3)] || decide (14 < c.at 0 1) || decide (c.at 4 4 < 1000) ||
      decide (10000000 < c.at 4 4), St.badParam)])
    (fun s c t _ => t.fld (Reg.TOUCH_CLSCFG (c.at 0 1)) 0 24 = c.at 4 4 ∧
      t.fld (Reg.TOUCH_CLSCFG (c.at 0 1)) 24 8 = s.fld (Reg.TOUCH_CLSCFG (c.at 0 1)) 24 8 ∧
      Keeps (inKeys [Reg.TOUCH_CLSCFG (c.at 0 1)]) [.mboxes, .bench] s t) ∧
  Serves 0x0905 .faultCounters (fun _ c => [(c.short 0 [], St.badParam)])
    (fun s _ t b => Told s t ∧ b = (List.range 16).flatMap (fun k => leBytes 2 (s.fld (Reg.TOUCH_RECOV k) 0 16)))) ∧
  (Serves 0x0B01 .fwInfo (fun _ c => [(c.short 0 [], St.badParam)]) (fun s _ t b => Told s t ∧ b = s.markFirmware) ∧
  Queues 0x0B02 .fwStage (fun s c => [
      (c.short 20 [(1, 7)] || decide (2 ≤ c.at 0 1) || decide (2 ^ 24 < c.at 16 4), St.badParam), (s.fwBusy, St.busy)]) ∧
  Rests 0x0B03 .fwVerify ∧
  (∀ s f slot c, Runs s f slot 0x0B03 c → ∀ st img, img = s.bench.staged.getD [] →
    st = Answer s c [(c.short 0 [], St.badParam), (s.bench.staged.isNone, St.state), (s.fwBusy, St.busy)] →
    (st ≠ 0 → Goes (.fwVerify f slot) s (fun t => Final t c st [] ∧ Told s t)) ∧
    (st = 0 → Goes (.fwVerify f slot) s (fun t => Told s t ∧
      (s.fwCheck img = 0 → Final t c St.ok (leBytes 4 (leAt img 4 4) ++ leBytes 4 (leAt img 16 4)) ∧ t.bench.verified = true) ∧
      (s.fwCheck img = 7 → Final t c St.state []) ∧
      (s.fwCheck img ≠ 0 → s.fwCheck img ≠ 7 → Final t c St.authFailed (leBytes 1 (s.fwCheck img)))))) ∧
  Serves 0x0B04 .fwCommit (fun s c => [
      (c.short 0 [], St.badParam), (!s.bench.verified, St.state), (s.activating, St.busy)])
    (fun s _ t b => Told s t ∧ t.bench.boot = s.bench.boot ∧ t.bench.bootSeq = s.bench.bootSeq ∧
      (s.bootB = false → b = leBytes 1 1 ∧ t.bench.slotB = s.bench.staged.getD [] ∧ t.bench.slotA = s.bench.slotA) ∧
      (s.bootB = true → b = leBytes 1 0 ∧ t.bench.slotA = s.bench.staged.getD [] ∧ t.bench.slotB = s.bench.slotB)) ∧
  Awaits 0x0B05 .fwActivate (fun s c => [
      (c.short 1 [] || decide (2 ≤ c.at 0 1), St.badParam), (!s.bench.verified, St.state), (s.activating, St.busy)])
    (fun s c => ∃ a, s.bench.activate = some a ∧ a.1.f = c.f ∧ a.1.slot = c.slot)
    (fun s c t => t.bench.activate = some (c, c.at 0 1 == 1, s.devTime) ∧ t.bench.restart = some (2, s.devTime) ∧
      t.bench.bells = [] ∧ t.bit Reg.BENCH_STAT 8 = true ∧
      (s.fld Reg.TWIN_STAT 0 3 ≠ 1 → t.bit Reg.BENCH_STAT 9 = true ∧
        (∀ f < 16, t.bit (Reg.MBX_STAT f) 1 = true ∧ t.bit (Reg.MBX_STAT f) 2 = true) ∧
        Keeps (fun k => k = Reg.BENCH_STAT ∨ ∃ f < 16, k = Reg.MBX_STAT f) [.bench] s t)))

/-- Clock and power commands (Table 13.18, R348, R451, R455, R465, R466, R469 to R472). A group's point and its
automatic choice are set, and the answer waits for a move that has begun; a domain ramps, or its channels stop
before it goes off, and the answer waits; the timebase prefers a source, and the answer waits for a switch that
has begun; status is reported. -/
def Obligations.ClockCommands : Prop :=  Serves 0x0A01 .clkStatus (fun _ c => [(c.short 0 [], St.badParam)])
    (fun s _ t b => Told s t ∧ b = leBytes 1 (s.fld Reg.CLK_TBSTAT 0 1) ++
      (List.range 8).flatMap (fun k => leBytes 1 (s.fld (Reg.CLK_TPSTAT k) 0 3)) ++
      leBytes 1 (b2n (s.bit Reg.CLK_MON 0) + 2 * b2n (s.bit Reg.CLK_MON 1) + 4 * s.fld Reg.CLK_TBSTAT 1 1)) ∧
  Awaits 0x0A02 .temperSet (fun s c => [
      (c.short 3 [] || decide (2 ≤ c.at 2 1) || (!(c.at 2 1 % 2 == 1) && decide (5 < c.at 1 1)), St.badParam),
      (decide (8 ≤ c.at 0 1) || s.clk.iso.contains (c.at 0 1), St.noObject),
      (s.pwr.hot || !s.domOn (16 + c.at 0 1), St.state), (s.claimed 11, St.busy),
      (decide ((if (c.at 2 1 % 2 == 1) = true then s.needPoint (c.at 0 1) else c.at 1 1) < s.needPoint (c.at 0 1)), St.capacity)])
    (fun s c => ∃ x ∈ s.clk.temper, (c.f, c.slot) ∈ x.cmds)
    (fun s c t => ∀ k p, k = c.at 0 1 → p = (if c.at 2 1 % 2 = 1 then s.needPoint k else c.at 1 1) →
      t.rd (Reg.CLK_TPCFG k) = w32 p ∧ (k ∈ t.bench.auto ↔ c.at 2 1 % 2 = 1) ∧
      (s.temperOf k = none → s.tpPoint k = p → Final t c St.ok [] ∧
        Keeps (inKeys [Reg.CLK_TPCFG k]) [.mboxes, .bench] s t) ∧
      ((s.temperOf k).isSome = true ∨ s.tpPoint k ≠ p → (∃ x, t.temperOf k = some x ∧ (c.f, c.slot) ∈ x.cmds) ∧
        Keeps (inKeys [Reg.CLK_TPCFG k, Reg.CLK_TPSTAT k, Reg.CLK_PLLCFG (6 + k), Reg.CLK_PLLSTAT (6 + k)]) [.clk, .bench] s t)) ∧
  Awaits 0x0A03 .pwrDomain (fun s c => [
      (c.short 2 [] || decide (2 ≤ c.at 1 1) || c.at 0 1 == 0 || c.at 0 1 == 1 || c.at 0 1 == 3, St.badParam),
      (decide (24 ≤ c.at 0 1), St.noObject),
      (if (c.at 1 1 == 1) = true then !(domPre (c.at 0 1)).all s.domOn
        else ((domDeps (c.at 0 1)).filter s.domOn != [] &&
          (!c.force || ((domDeps (c.at 0 1)).filter s.domOn).contains 3)), St.state),
      (s.claimed 12 || (!(c.at 1 1 == 1) && !c.force && s.domOn (c.at 0 1) && s.domBound (c.at 0 1)), St.busy)])
    (fun s c => ∃ x ∈ s.pwr.cmds, x.2.2 = (c.f, c.slot))
    (fun s c t => ∀ (d : Nat) (on there : Bool), d = c.at 0 1 → on = (c.at 1 1 == 1) →
      there = (s.domOn d == on && !s.pwr.ramp.any (fun e => e.1 == d) && !s.pwr.drain.any (fun e => e.1 == d)) →
      (there = true → Final t c St.ok [] ∧ Told s t) ∧
      (there = false → (d, on, c.f, c.slot) ∈ t.pwr.cmds ∧
        (on = true → s.pwr.ramp = none → s.pwr.drain = none → t.pwr.ramp = some (d, s.devTime) ∧
          t.fld (Reg.PWR_DSTAT d) 0 5 = 25 ∧ t.bit (Reg.PWR_CTL d) 0 = true ∧
          Keeps (inKeys [Reg.PWR_DSTAT d, Reg.PWR_CTL d]) [.pwr] s t) ∧
        (on = true → s.pwr.ramp.isSome = true ∨ s.pwr.drain.isSome = true → t.pwr.wait = s.pwr.wait ++ [(d, true)] ∧
          t.bit (Reg.PWR_CTL d) 0 = true ∧ Keeps (inKeys [Reg.PWR_CTL d]) [.pwr] s t) ∧
        (on = false → t.pwr.stopWait = s.pwr.stopWait ++ [(d, s.devTime)] ∧
          (∀ ch, ch ∉ s.domChans d → t.chan ch = s.chan ch) ∧
          Keeps (fun k => ∃ ch ∈ s.domChans d, k = Reg.DMA_CHSTAT ch) [.chans, .pwr] s t))) ∧
  Awaits 0x0A04 .clkSource (fun s c => [
      (c.short 1 [] || decide (2 ≤ c.at 0 1), St.badParam), (s.claimed 11 || s.bit Reg.CLK_TBSTAT 1, St.busy)])
    (fun s c => s.clk.swCmd = some (c.f, c.slot))
    (fun s c t => t.fld Reg.CLK_TBSEL 0 1 = c.at 0 1 ∧ (s.clk.sw = none →
      (∀ p a, p = c.at 0 1 → a = s.fld Reg.CLK_TBSTAT 0 1 →
        (s.bit Reg.CLK_MON p = true ∧ s.bit Reg.CLK_MON a = true ∧ a ≠ p →
          t.clk.sw = some (p, s.devTime, false) ∧ t.clk.swCmd = some (c.f, c.slot) ∧ t.bit Reg.CLK_TBSTAT 1 = true ∧
          Keeps (inKeys [Reg.CLK_TBSEL, Reg.CLK_TBSTAT]) [.clk] s t) ∧
        (¬ (s.bit Reg.CLK_MON p = true ∧ s.bit Reg.CLK_MON a = true ∧ a ≠ p) → t.clk.sw = none ∧ Final t c St.ok [] ∧
          Keeps (inKeys [Reg.CLK_TBSEL, Reg.CLK_TBSTAT]) [.clk, .mboxes, .bench] s t)))) ∧
  Serves 0x0A05 .pwrStatus (fun _ c => [(c.short 0 [], St.badParam)])
    (fun s _ t b => Told s t ∧ b = leBytes 3 (s.fld Reg.PWR_ON 0 24) ++ leBytes 1 0 ++ leBytes 2 (s.fld Reg.PWR_TEMP 0 16) ++
      leBytes 2 (s.fld Reg.PWR_POWER 0 16))

/-- Witness and heartbeat (R67, R420, R424, R426, R430, R439, Tables 14.2, 14.5, 14.6, 14.7, 14.9). The witness
toggles and the heartbeat leaves in their times; a valid heartbeat is taken and shows the partner, and a higher
epoch fences a device that leads; with both signs gone the FOLLOW takes over and the LEAD goes on alone, with the
heartbeat gone the pair parts, with the witness gone it is noted. -/
def Obligations.TwinSigns : Prop := ∀ (s₀ s : State) (dt : Nat), s = s₀.pass dt → s.boot.mode = 0 →
  (∀ go : Bool, go = (s.twinEn && !s.twinFenced && decide (s.twin.tAlive + 400 ≤ s.devTime)) →
    (go = false → Goes (.witnessToggle dt) s₀ (fun t => t = s)) ∧
    (go = true → Goes (.witnessToggle dt) s₀ (fun t =>
      t.twin = { s.twin with alive := !s.twin.alive, tAlive := s.devTime } ∧
      t.out = .alive (!s.twin.alive) s.devTime :: s.out ∧ Keeps (inKeys []) [.twin, .out] s t))) ∧
  (∀ go dig : Bool, go = (s.twinEn && decide (s.twin.tSeq + usTicks 1 ≤ s.devTime)) →
    dig = (s.paired && decide (s.twin.cfgT + usTicks 100000 ≤ s.devTime)) →
    (go = false → Goes (.theartSend dt) s₀ (fun t => t = s)) ∧
    (go = true → Goes (.theartSend dt) s₀ (fun t => t.twin = { s.twin with
        seq := (s.twin.seq + 1) % 2 ^ 32, tSeq := s.devTime, cfgT := if dig then s.devTime else s.twin.cfgT
        txq := Sent s (twinPkt 0 0xD0 0 8 s.heartData ::
          (if dig then [ctrlPkt (leBytes 1 11 ++ leBytes 8 (s.rd64 Reg.TWIN_CFGDIG_LO))] else [])) } ∧
      Keeps (inKeys []) [.twin] s t))) ∧
  Goes (.witnessEdge dt) s₀ (fun t => t.twin = { s.twin with witT := some s.devTime, lostWit := false } ∧
    Keeps (inKeys [Reg.HOSTEP_WAKESTAT]) [.twin, .out] s t) ∧
  (∀ i, i = Instr.witnessAbsent dt ∨ i = Instr.heartbeatAbsent dt →
    (s.twinEn = false → Goes i s₀ (fun t => t = s)) ∧
    (s.twinEn = true → s.hbGone = true → s.witGone = true →
      (s.twinActs = true → s.twinRole = 1 → Goes i s₀ (fun t => TwinAt t 4 0 ∧
        t.fld Reg.TWIN_EPOCH 0 16 = epochNext s s.twin.peerEpoch ∧ t.bit Reg.LINK_ROLE 16 = false ∧
        t.bit Reg.TRG_ROLE 0 = false ∧ (∃ r ∈ t.reports, r.sig = 0xB01 ∧ r.level = 4) ∧ Same twinParts s t)) ∧
      (s.twinActs = true → s.twinRole ≠ 1 → Goes i s₀ (fun t => TwinAt t 4 0 ∧
        t.fld Reg.TWIN_EPOCH 0 16 = s.fld Reg.TWIN_EPOCH 0 16 ∧ (∃ r ∈ t.reports, r.sig = 0xB02 ∧ r.level = 2) ∧
        Same twinParts s t)) ∧
      (s.twinActs = false → s.twinState = 1 → s.twinRole = 1 → Goes i s₀ (fun t => TwinAt t 5 1 ∧
        t.bit Reg.TWIN_STAT 7 = true ∧ Same twinParts s t)) ∧
      (s.twinActs = false → s.twinState = 1 → s.twinRole ≠ 1 → Goes i s₀ (fun t =>
        TwinAt t (s.twin.prevState % 8) (s.twin.prevRole % 4) ∧ t.twin.step = 0 ∧ t.bit Reg.TWIN_IRQ 8 = true ∧
        Same twinParts s t)) ∧
      (s.twinActs = false → s.twinState ≠ 1 → Goes i s₀ (fun t => t = s))) ∧
    (s.twinEn = true → s.hbGone = true → s.witGone = false → s.twinActs = true → s.twin.lostHb = false →
      (s.witNow = true → Goes i s₀ (fun t => TwinAt t 3 s.twinRole ∧ t.bit Reg.TWIN_IRQ 2 = true ∧ t.twin.lostHb = true ∧
        (∃ r ∈ t.reports, r.sig = 0xB03 ∧ r.level = 2) ∧ Same twinParts s t)) ∧
      (s.witNow = false → Goes i s₀ (fun t => t = s))) ∧
    (s.twinEn = true → s.hbGone = false → s.witGone = true → s.hbNow = true → s.twinActs = true → s.twin.lostWit = false →
      Goes i s₀ (fun t => t.twin = { s.twin with lostWit := true } ∧ t.bit Reg.TWIN_IRQ 3 = true ∧
        (∃ r ∈ t.reports, r.sig = 0xB04 ∧ r.level = 0) ∧
        Keeps (inKeysI [Reg.TWIN_IRQ]) [.reports, .twin, .out] s t))) ∧
  (∀ (n : Fin 8) (rx : LaneRx) (u : State), u = s.each (laneBlks rx) (fun t b => t.blkCount (104 + n.val) b) →
    (pktHeader (laneBlks rx) = none → Goes (.theart n rx dt) s₀ (fun t => t = u)) ∧
    (∀ h rest p d take, pktHeader (laneBlks rx) = some (h, rest) → (p.hdr, p.data, p.cut) = (h, pktData 8 rest) → d = p.data →
      take = (u.twinEn && u.laneSt (104 + n.val) == 6 && pktHdrOk p 0xD0 && pktWhole p 8 && u.hbNew (leAt d 0 4)) →
      (take = false → Goes (.theart n rx dt) s₀ (fun t => t = u)) ∧
      (take = true → Goes (.theart n rx dt) s₀ (fun t => t.twin.hbT = some u.devTime ∧ t.twin.hbSeq = some (leAt d 0 4) ∧
        t.twin.peerState = leAt d 4 1 ∧ t.twin.peerRole = leAt d 5 1 ∧ t.twin.peerEpoch = leAt d 6 2 ∧
        t.twin.peerArmed = (leAt d 8 1 / 2 % 2 == 1) ∧ t.bit Reg.TWIN_STAT 11 = (leAt d 8 1 % 2 == 1) ∧
        (∀ k, u.hbAhead (leAt d 0 4) = some k → k < 2 ^ 31 → t.fld Reg.TWIN_HBMISS 0 32 =
          satAdd 32 (u.fld Reg.TWIN_HBMISS 0 32) (k - 1)) ∧
        (u.bit Reg.LINK_ROLE 16 = false → u.twinEpoch < leAt d 6 2 → u.twin.hoLead = false →
          TwinAt t 5 1 ∧ t.bit Reg.TWIN_STAT 7 = true ∧ ∃ r ∈ t.reports, r.sig = 0xB0A ∧ r.level = 2) ∧
        (∀ a < 8, u.twinState = 2 → u.axEn a = true → (u.axis a).twinRun = 3 →
          u.rdN (Reg.POS_AXTWTOL a) < (posDiff (u.axPos a) (posn (leAt d (12 + 6 * a) 6))).natAbs →
          t.bit (Reg.POS_AXSTAT a) 7 = true) ∧
        Same twinParts u t))))

/-- Pairing (R427, R428, R432, R433, R437, Table 14.4). A round shows the offset and the delay of its four stamps and
TIMEOK, and slews the FOLLOW; the partner's answer is shown and its checks pass or fail the pairing; at Ts the
FOLLOW adopts positions and views and the LEAD sends them; track copies are stored; a parted pair whose heartbeat
is back rejoins. -/
def Obligations.TwinPairing : Prop := ∀ (s₀ s : State) (dt : Nat), s = s₀.pass dt → s.boot.mode = 0 →
  (∀ (t1 t2 t3 t4 : BitVec 64) (ofs dly : Int), ofs = 8 * (sgn 64 (t2 - t1).toNat - sgn 64 (t4 - t3).toNat) →
    dly = 8 * (sgn 64 (t2 - t1).toNat + sgn 64 (t4 - t3).toNat) →
    (s.twinEn = false ∨ ((s.twinRole = 0 ∨ s.twinState = 3) ∧ s.roundDue = false) →
      Goes (.twinTimeRound t1 t2 t3 t4 dt) s₀ (fun t => t = s)) ∧
    (s.twinEn = true → s.twinState = 1 ∨ s.twinState = 2 → (s.twinRole = 0 → s.roundDue = true) →
      Goes (.twinTimeRound t1 t2 t3 t4 dt) s₀ (fun t =>
      t.rd Reg.TWIN_TOFS = w32 (low 32 ofs) ∧ t.fld Reg.TWIN_TDLY 0 24 = low 24 dly ∧
      t.twin.roundT = some s.devTime ∧ t.twin.roundSeq = (s.twin.roundSeq + 1) % 2 ^ 32 ∧
      (ofs.natAbs ≤ s.fld Reg.TWIN_TLIM 0 16 → t.bit Reg.TWIN_STAT 8 = true) ∧
      (s.fld Reg.TWIN_TLIM 0 16 < ofs.natAbs → t.bit Reg.TWIN_STAT 8 = false ∧ t.bit Reg.TWIN_IRQ 6 = true ∧
        ∃ r ∈ t.reports, r.sig = 0xB06 ∧ r.level = 1) ∧
      (s.twinState = 2 → t.fld Reg.TWIN_STAT 0 3 = 2 ∧
        (s.twinRole = 0 → t.slew = s.slew ∧ t.twin.txq = Sent s [
          twinPkt 1 0x92 0 2 (leBytes 4 s.twin.roundSeq ++ leBytes 8 t1.toNat),
          twinPkt 1 0x94 0 3 (leBytes 4 s.twin.roundSeq ++ leBytes 8 (low 64 ofs) ++ leBytes 4 (low 32 dly))]) ∧
        (s.twinRole = 1 → t.slew = { s.slew with left := ofs } ∧ t.twin.txq = Sent s [
          twinPkt 1 0x93 0 3 (leBytes 4 s.twin.roundSeq ++ leBytes 8 t2.toNat ++ leBytes 8 t3.toNat)]) ∧
        Keeps (inKeysI [Reg.TWIN_TOFS, Reg.TWIN_TDLY, Reg.TWIN_STAT, Reg.TWIN_IRQ]) [.slew, .reports, .twin, .out] s t) ∧
      (s.twinState = 1 → s.twin.step = 2 → 1 ≤ s.twin.good → ofs.natAbs ≤ s.fld Reg.TWIN_TLIM 0 16 → t.twin.step = 3 ∧
        (s.twinRole = 0 → t.twin.ts = some (s.devTime + usTicks 100))) ∧ Same twinParts s t)) ∧
    (s.twinEn = true → s.twinState = 3 → s.twinRole = 1 → s.roundDue = true →
      (s.camsOfs = none → Goes (.twinTimeRound t1 t2 t3 t4 dt) s₀ (fun t => t = s)) ∧
      (∀ o, s.camsOfs = some o → Goes (.twinTimeRound t1 t2 t3 t4 dt) s₀ (fun t => t.slew = { s.slew with left := -o } ∧
        t.twin = { s.twin with roundT := some s.devTime } ∧ Keeps (inKeys []) [.slew, .twin] s t)))) ∧
  (∀ (serial own peer : BitVec 64) (ver : Word) (ep : BitVec 16) (follow fenced : Bool),
    (s.twinState = 1 → s.twin.step = 1 → Goes (.pairq serial ver peer own ep follow fenced dt) s₀ (fun t =>
      t.rd64 Reg.TWIN_PEERSER_LO = serial.toNat ∧ t.rd Reg.TWIN_PEERVER = ver ∧ t.rd64 Reg.TWIN_PEERCFG_LO = peer.toNat ∧
      t.rd64 Reg.TWIN_CFGDIG_LO = own.toNat ∧ t.twin.peerEpoch = ep.toNat ∧
      (s.pairqOk ver peer own ep follow fenced = true → t.twin.step = 2 ∧ t.twin.good = 0 ∧ TwinAt t 1 s.twinRole ∧
        (s.twinRole = 0 → s.twin.rejoin = false → t.fld Reg.TWIN_EPOCH 0 16 = epochNext s ep.toNat)) ∧
      (s.pairqOk ver peer own ep follow fenced = false → t.twin.step = 0 ∧ t.bit Reg.TWIN_STAT 9 = false ∧
        TwinAt t (s.twin.prevState % 8) (s.twin.prevRole % 4) ∧ t.bit Reg.TWIN_IRQ 8 = true ∧
        ∃ r ∈ t.reports, r.sig = 0xB0B ∧ r.level = 0) ∧ Same twinParts s t)) ∧
    (s.twinState = 1 → s.twin.step ≠ 1 → Goes (.pairq serial ver peer own ep follow fenced dt) s₀ (fun t => t = s)) ∧
    (∀ go : Bool, go = (s.pairReady && (s.twin.peerArmed || s.twin.peerState == 1) && s.hbNow && (s.bond 96).active) →
      (s.twinState ≠ 1 → go = false → Goes (.pairq serial ver peer own ep follow fenced dt) s₀ (fun t => t = s)) ∧
      (s.twinState ≠ 1 → go = true → Goes (.pairq serial ver peer own ep follow fenced dt) s₀ (fun t =>
        t.rd64 Reg.TWIN_PEERSER_LO = serial.toNat ∧ t.rd Reg.TWIN_PEERVER = ver ∧ t.rd64 Reg.TWIN_PEERCFG_LO = peer.toNat ∧
        t.rd64 Reg.TWIN_CFGDIG_LO = own.toNat ∧ Same twinParts s t)))) ∧
  (∀ (m : TwinSnap), (m.axes.map (·.1)).Nodup → (m.views.map (·.1)).Nodup →
    (s.twin.ts = none → Goes (.pairingTs m dt) s₀ (fun t => t = s)) ∧
    (∀ ts, s.twin.ts = some ts →
      (¬ (s.twinState = 1 ∧ s.twin.step = 3 ∧ ts ≤ s.devTime) → Goes (.pairingTs m dt) s₀ (fun t => t = s)) ∧
      (s.twinState = 1 → s.twin.step = 3 → ts ≤ s.devTime → s.twinRole = 1 → Goes (.pairingTs m dt) s₀ (fun t =>
        (∀ e ∈ m.axes, s.axEn e.1.val = true → t.rdPos (Reg.POS_AXPOS_LO e.1.val) = e.2.1 ∧
          t.rdPos (Reg.POS_AXHWM_LO e.1.val) = e.2.2) ∧
        (∀ e ∈ m.views, t.rd (Reg.ASY_VG e.1.val) = e.2) ∧ t.host = s.host ∧ t.hostMem = s.hostMem ∧ t.parts = s.parts)) ∧
      (s.twinState = 1 → s.twin.step = 3 → ts ≤ s.devTime → s.twinRole = 0 → Goes (.pairingTs m dt) s₀ (fun t =>
        t.twin.txq = ((s.twinCtrl (leBytes 1 10 ++ s.snapBytes)).tracksSend).twin.txq ∧ t.twin.tracksT = some s.devTime ∧
        Same twinParts s t)))) ∧
  (∀ (first : BitVec 20) (bytes : List Byte) (last : Bool),
    (s.twinState = 1 → s.twinRole = 1 → 4 ≤ s.twin.step → Goes (.bulk (.tracks first bytes last) dt) s₀ (fun t =>
      (∀ k < bytes.length / 12, first.toNat + k < 1048576 → ∀ w < 3,
        t.rd (Reg.NOZ_TRK (first.toNat + k) w) = w32 (leAt bytes (12 * k + 4 * w) 4)) ∧
      (last = false → Keeps (fun j => ∃ k < bytes.length / 12, first.toNat + k < 1048576 ∧ ∃ w < 3,
        j = Reg.NOZ_TRK (first.toNat + k) w) [] s t) ∧
      (last = true → t.twin.tracksT = some s.devTime) ∧ Same twinParts s t)) ∧
    (¬ (s.twinState = 1 ∧ s.twinRole = 1 ∧ 4 ≤ s.twin.step) → Goes (.bulk (.tracks first bytes last) dt) s₀ (fun t => t = s))) ∧
  (∀ go : Bool, go = (s.twinEn && s.twinState == 3 && s.hbNow &&
    s.twin.hbSince.any (fun t => decide (t + usTicks 100 ≤ s.devTime))) →
    (go = true → Goes (.rejoin dt) s₀ (fun t => TwinAt t 1 s.twinRole ∧ t.twin.step = 1 ∧ t.twin.rejoin = true ∧
      t.twin.prevState = 3 ∧ t.fld Reg.TWIN_EPOCH 0 16 = s.fld Reg.TWIN_EPOCH 0 16 ∧ Same twinParts s t)) ∧
    (go = false → Goes (.rejoin dt) s₀ (fun t => t = s)))

/-- Exchanges of a pair (R423, R434 to R437, R441, R442, Table 14.5). What the partner holds, activates, names, asks
or compares has its effect only in the states and roles the manual gives; a digest that meets the tag that waits
for it releases the tag, another is kept; a nozzle change is matched or kept, and counted when unmatched for 1 s;
lasting differences are reported. -/
def Obligations.TwinExchanges : Prop := ∀ (s₀ s : State) (dt : Nat), s = s₀.pass dt → s.boot.mode = 0 →
  (∀ m, s.twinEn = false → Goes (.ctrl m dt) s₀ (fun t => t = s)) ∧
  (s.twinEn = true →
    (∀ x, (s.paired = false → Goes (.ctrl (.held x) dt) s₀ (fun t => t = s)) ∧
      (s.paired = true → s.twinRole = 1 → Goes (.ctrl (.held x) dt) s₀ (fun t =>
        (∃ y ∈ t.twin.items, y.same (itemOf x) = true ∧ y.peer = some s.devTime) ∧ Keeps (inKeys []) [.twin] s t))) ∧
    (∀ x act, (¬ (s.paired = true ∧ s.twinRole = 1) ∨ s.twin.items.find? (fun y => y.same (itemOf x)) = none →
        Goes (.ctrl (.activate x act) dt) s₀ (fun t => t = s)) ∧
      (∀ y, s.paired = true → s.twinRole = 1 → s.twin.items.find? (fun y => y.same (itemOf x)) = some y →
        Goes (.ctrl (.activate x act) dt) s₀ (fun t => t = s.itemAct y act))) ∧
    (∀ v g, (¬ (s.paired = true ∧ s.twinRole = 1) → Goes (.ctrl (.viewG v g) dt) s₀ (fun t => t = s)) ∧
      (s.paired = true → s.twinRole = 1 → Goes (.ctrl (.viewG v g) dt) s₀ (fun t => t.rd (Reg.ASY_VG v.val) = g ∧
        Keeps (inKeys [Reg.ASY_VG v.val, Reg.TWIN_DIFF]) [.asys, .views] s t))) ∧
    (∀ ts, (s.twinState = 1 ∧ s.twinRole = 1 ∧ s.twin.step = 3 → Goes (.ctrl (.snapshotAt ts) dt) s₀ (fun t =>
        t.twin = { s.twin with ts := some ts.toNat } ∧ Keeps (inKeys []) [.twin] s t)) ∧
      (¬ (s.twinState = 1 ∧ s.twinRole = 1 ∧ s.twin.step = 3) → Goes (.ctrl (.snapshotAt ts) dt) s₀ (fun t => t = s))) ∧
    (s.twinFenced = true → Goes (.ctrl .fence dt) s₀ (fun t => t = s)) ∧
    (s.twinFenced = false → Goes (.ctrl .fence dt) s₀ (fun t => TwinAt t 5 1 ∧ t.bit Reg.TWIN_STAT 7 = true ∧ Same twinParts s t)) ∧
    (∀ th, (¬ (s.paired = true ∧ s.twinRole = 1) → Goes (.ctrl (.handover th) dt) s₀ (fun t => t = s)) ∧
      (s.paired = true → s.twinRole = 1 → s.anyInlay = true → Goes (.ctrl (.handover th) dt) s₀ (fun t =>
        t.twin = { s.twin with txq := Sent s [ctrlPkt (leBytes 1 6)] } ∧ Keeps (inKeys []) [.twin] s t)) ∧
      (s.paired = true → s.twinRole = 1 → s.anyInlay = false → Goes (.ctrl (.handover th) dt) s₀ (fun t =>
        t.twin = { s.twin with th := some th.toNat, hoLead := false, txq := Sent s [ctrlPkt (leBytes 1 5)] } ∧
        t.bit Reg.TWIN_STAT 10 = true ∧ Keeps (inKeys [Reg.TWIN_STAT]) [.twin] s t))) ∧
    (s.twin.hoLead = false → Goes (.ctrl .handoverOk dt) s₀ (fun t => t = s) ∧ Goes (.ctrl .handoverBusy dt) s₀ (fun t => t = s)) ∧
    (s.twin.hoLead = true → Goes (.ctrl .handoverOk dt) s₀ (fun t => t.twin = { s.twin with hoOk := true } ∧
        Keeps (inKeys []) [.twin] s t) ∧
      Goes (.ctrl .handoverBusy dt) s₀ (fun t => t.twin.th = none ∧ t.twin.hoLead = false ∧ t.bit Reg.TWIN_STAT 10 = false ∧
        Keeps (inKeys [Reg.TWIN_STAT]) [.twin, .mboxes, .bench] s t)) ∧
    (s.twinRole = 1 → Goes (.ctrl .handoverOff dt) s₀ (fun t => t.twin.th = none ∧ t.bit Reg.TWIN_STAT 10 = false ∧
      Keeps (inKeys [Reg.TWIN_STAT]) [.twin, .mboxes, .bench] s t)) ∧
    (s.twinRole ≠ 1 → Goes (.ctrl .handoverOff dt) s₀ (fun t => t = s)) ∧
    (s.twinFenced = true → Goes (.ctrl .unpair dt) s₀ (fun t => t = s)) ∧
    (s.twinFenced = false → Goes (.ctrl .unpair dt) s₀ (fun t => (s.twinRole = 1 → TwinAt t 5 1) ∧ (s.twinRole ≠ 1 → TwinAt t 0 2) ∧
      Same twinParts s t)) ∧
    (∀ own peer, Goes (.ctrl (.cfgdig own peer) dt) s₀ (fun t => t.rd64 Reg.TWIN_CFGDIG_LO = own.toNat ∧
      t.rd64 Reg.TWIN_PEERCFG_LO = peer.toNat ∧ t.twin.cfgRun = (if own = peer then 0 else s.twin.cfgRun + 1) ∧
      Keeps (inKeys [Reg.TWIN_CFGDIG_LO, Reg.TWIN_CFGDIG_LO + 4, Reg.TWIN_PEERCFG_LO, Reg.TWIN_PEERCFG_LO + 4]) [.twin] s t))) ∧
  (∀ b row, (s.paired = true → Goes (.bulk (.request b row) dt) s₀ (fun t => t =
      s.twinBulk (((List.range 128).map (trackAt b.val row.val)).flatMap s.trackBytes))) ∧
    (s.paired = false → Goes (.bulk (.request b row) dt) s₀ (fun t => t = s))) ∧
  (∀ (c : Fin 96) (seq : Word) (dig : BitVec 64),
    (¬ (s.paired = true ∨ (s.twinState = 1 ∧ c.val ∈ s.twin.joined)) → Goes (.digest c seq dig dt) s₀ (fun t => t = s)) ∧
    (s.paired = true → (s.cru c.val).blocks = [] →
      (∀ e ∈ s.twin.ownDig, ¬ (e.1 = c.val ∧ e.2.1 = seq.toNat)) → Goes (.digest c seq dig dt) s₀ (fun t =>
        t.twin = { s.twin with peerDig := s.twin.peerDig ++ [(c.val, seq.toNat, dig.toNat)] } ∧ Keeps (inKeys []) [.twin] s t)) ∧
    (∀ b rest tag, s.paired = true → (s.cru c.val).blocks = b :: rest → b.tag = some tag → b.seq = seq.toNat →
      Goes (.digest c seq dig dt) s₀ (fun t =>
        (t.cru c.val).blocks = rest.filter (fun k => !(k.run == b.run && k.i0 == b.i0)) ∧
        t.fld Reg.TWIN_DIGCMP 0 32 = (s.fld Reg.TWIN_DIGCMP 0 32 + 1) % 2 ^ 32 ∧
        (b.digest = dig.toNat → t.fld Reg.TWIN_DIGERR 0 16 = s.fld Reg.TWIN_DIGERR 0 16) ∧
        (b.digest ≠ dig.toNat → t.fld Reg.TWIN_DIGERR 0 16 = satAdd 16 (s.fld Reg.TWIN_DIGERR 0 16) 1 ∧
          t.bit Reg.TWIN_IRQ 4 = true ∧ ∃ r ∈ t.reports, r.sig = 0xB07 ∧ r.src = c.val) ∧
        Same [.regs, .reports, .events, .pipes, .crus, .rings, .memx, .devMem, .out] s t))) ∧
  (∀ (k : BitVec 20) (st : Fin 8) (n : BitVec 24),
    (s.paired = false → Goes (.nozdelta k st n dt) s₀ (fun t => t = s)) ∧
    (s.paired = true → (∀ e ∈ s.twin.nozOwn, ¬ (e.1 = k.toNat ∧ e.2.1 = st.val)) → Goes (.nozdelta k st n dt) s₀ (fun t =>
      t.twin = { s.twin with nozPeer := s.twin.nozPeer ++ [(k.toNat, st.val, s.devTime)] } ∧ Keeps (inKeys []) [.twin] s t)) ∧
    (∀ e rest, s.paired = true → s.twin.nozOwn = e :: rest → e.1 = k.toNat → e.2.1 = st.val →
      Goes (.nozdelta k st n dt) s₀ (fun t => t.twin = { s.twin with nozOwn := rest } ∧ Keeps (inKeys []) [.twin] s t))) ∧
  (∀ l, l = s.twin.nozPeer.filter (fun e => decide (e.2.2 + usTicks 1000000 ≤ s.devTime) &&
      s.twin.tracksT.all (fun k => decide (k + usTicks 1000000 ≤ e.2.2))) → Goes (.nozdiff dt) s₀ (fun t =>
    (∀ e ∈ t.twin.nozPeer ++ t.twin.nozOwn, s.devTime < e.2.2 + usTicks 1000000) ∧
    t.fld Reg.TWIN_DIFF 0 16 = satAdd 16 (s.fld Reg.TWIN_DIFF 0 16) l.length ∧ t.reports.length = s.reports.length + l.length ∧
    Keeps (inKeysI [Reg.TWIN_DIFF, Reg.TWIN_IRQ]) [.reports, .twin, .out] s t)) ∧
  (s.paired = false → Goes (.cfgdiff dt) s₀ (fun t => t = s)) ∧
  (s.paired = true → s.twin.items = [] →
    (s.twin.cfgRun < 10 → Goes (.cfgdiff dt) s₀ (fun t => t = s)) ∧
    (10 ≤ s.twin.cfgRun → Goes (.cfgdiff dt) s₀ (fun t => t.twin.cfgRun = 0 ∧ t.bit Reg.TWIN_IRQ 5 = true ∧
      (∃ r ∈ t.reports, r.sig = 0xB08 ∧ r.level = 0) ∧
      Keeps (inKeysI [Reg.TWIN_IRQ]) [.reports, .twin, .out] s t)))

/-- Handover and the time limits of its command (R429, R441, R442). At Th the FOLLOW leads under a new epoch and the
former LEAD floats its pins; 2 µs later that one follows; without a confirmation within 1 ms of the request, or
without a fenced heartbeat within 1 ms, the command ends with TIMEOUT. Outside its conditions each of the four
changes nothing. The bits of TWIN_CMD (R426, R432, R441 to R443, R447). PAIR arms the request, and the device
takes the role it was armed with; FENCE fences this device, FENCEPEER asks the partner to fence itself while its
heartbeat is present; UNFENCE rejoins as FOLLOW; HANDOVER names Th; UNPAIR dissolves the pair, and a FOLLOW is
fenced by it; CLRCNT clears the four counters. Where its conditions do not hold a bit changes nothing. -/
def Obligations.TwinHandover : Prop :=
  (∀ (s₀ s : State) (dt : Nat), s = s₀.pass dt → s₀.boot.mode = 0 →
  (∀ go : Bool, go = (s.paired && s.twin.th.any (fun th => decide (th ≤ s.devTime))) →
    (go = false → Goes (.handoverInstant dt) s₀ (fun t => t = s)) ∧
    (go = true → s.twinRole = 1 → Goes (.handoverInstant dt) s₀ (fun t => TwinAt t 2 0 ∧ t.twin.th = none ∧
      t.bit Reg.TWIN_STAT 10 = false ∧ t.fld Reg.TWIN_EPOCH 0 16 = epochNext s s.twin.peerEpoch ∧
      t.bit Reg.LINK_ROLE 16 = false ∧ t.bit Reg.TRG_ROLE 0 = false ∧
      t.fld Reg.TWIN_EVCNT 16 8 = satAdd 8 (s.fld Reg.TWIN_EVCNT 16 8) 1 ∧ Same twinParts s t)) ∧
    (go = true → s.twinRole ≠ 1 → s.twin.hoOk = true → Goes (.handoverInstant dt) s₀ (fun t => t.bit Reg.TRG_ROLE 0 = true ∧
      Keeps (inKeys [Reg.TRG_ROLE]) [.out] s t)) ∧
    (go = true → s.twinRole ≠ 1 → s.twin.hoOk = false → Goes (.handoverInstant dt) s₀ (fun t => t = s))) ∧
  (∀ go : Bool, go = (s.paired && s.twinRole == 0 && s.twin.hoOk && s.twin.th.any (fun th => decide (th + usTicks 2 ≤ s.devTime))) →
    (go = false → Goes (.handoverEnd dt) s₀ (fun t => t = s)) ∧
    (go = true → Goes (.handoverEnd dt) s₀ (fun t => TwinAt t 2 1 ∧ t.twin.th = none ∧ t.bit Reg.TWIN_STAT 10 = false ∧
      t.bit Reg.LINK_ROLE 16 = true ∧ t.bit Reg.TRG_ROLE 0 = true ∧
      t.fld Reg.TWIN_EVCNT 16 8 = satAdd 8 (s.fld Reg.TWIN_EVCNT 16 8) 1 ∧
      (∀ c, s.twin.hoCmd = some (c.f, c.slot) → s.bench.running.find? (fun x => x.f == c.f && x.slot == c.slot && !x.interim) =
        some c → ∀ x ∈ t.bench.running, ¬ (x.f = c.f ∧ x.slot = c.slot)) ∧ Same twinParts s t))) ∧
  (∀ go : Bool, go = (s.twin.hoLead && !s.twin.hoOk && decide (s.twin.hoT + usTicks 1000 ≤ s.devTime)) →
    (go = false → Goes (.handoverTimeout dt) s₀ (fun t => t = s)) ∧
    (go = true → Goes (.handoverTimeout dt) s₀ (fun t => t.twin.th = none ∧ t.twin.hoLead = false ∧ t.bit Reg.TWIN_STAT 10 = false ∧
      t.twin.txq = Sent s [ctrlPkt (leBytes 1 8)] ∧
      (∀ c, s.twin.hoCmd = some (c.f, c.slot) → s.bench.running.find? (fun x => x.f == c.f && x.slot == c.slot && !x.interim) =
        some c → Final t c St.timeout []) ∧
      Keeps (inKeys [Reg.TWIN_STAT]) [.twin, .mboxes, .bench] s t))) ∧
  (∀ go : Bool, go = s.twin.fenceT.any (fun t0 => decide (t0 + usTicks 1000 ≤ s.devTime)) →
    (go = false → Goes (.fencePeerTimeout dt) s₀ (fun t => t = s)) ∧
    (go = true → Goes (.fencePeerTimeout dt) s₀ (fun t => t.twin.fenceT = none ∧ t.twin.fenceCmd = none ∧
      (∀ c, s.twin.fenceCmd = some (c.f, c.slot) → s.bench.running.find? (fun x => x.f == c.f && x.slot == c.slot && !x.interim) =
        some c → Final t c St.timeout []) ∧
      Keeps (inKeys []) [.twin, .mboxes, .bench] s t)))) ∧
  (∀ s : State, Up s Reg.TWIN_CMD →
  (s.pairOpen = false → Goes .twinCmdPair s (fun t => t = s)) ∧
  (s.pairOpen = true → s.twin.peerArmed = false → s.twin.peerState ≠ 1 →
    Goes .twinCmdPair s (fun t => t.bit Reg.TWIN_STAT 9 = true ∧
    TwinAt t s.twinState s.twinRole ∧
    (s.fld Reg.TWIN_CTL 2 1 = 1 → t.bit Reg.LINK_ROLE 16 = true ∧ t.bit Reg.TRG_ROLE 0 = true) ∧
    (s.fld Reg.TWIN_CTL 2 1 ≠ 1 → t.bit Reg.LINK_ROLE 16 = false ∧ t.bit Reg.TRG_ROLE 0 = false) ∧
      Same [.regs, .lanes, .out] s t)) ∧
  (s.twinFenced = true → Goes .twinCmdFence s (fun t => t = s)) ∧
  (s.twinFenced = false → Goes .twinCmdFence s (fun t => TwinAt t 5 1 ∧ t.bit Reg.TWIN_STAT 7 = true ∧
    (∀ f < 16, t.bit (Reg.MBX_STAT f) 3 = true) ∧ Same twinParts s t)) ∧
  (s.hbNow = false → Goes .twinCmdFencepeer s (fun t => t = s)) ∧
  (s.hbNow = true → Goes .twinCmdFencepeer s (fun t =>
    t.twin = { s.twin with fenceT := some s.devTime, fenceCmd := none, txq := Sent s [ctrlPkt (leBytes 1 3)] } ∧
    Keeps (inKeys []) [.twin] s t)) ∧
  (s.unfenceOpen = false → Goes .twinCmdUnfence s (fun t => t = s)) ∧
  (s.unfenceOpen = true → Goes .twinCmdUnfence s (fun t => TwinAt t 1 1 ∧ t.bit Reg.TWIN_STAT 7 = false ∧ t.twin.step = 1 ∧
    (∀ f < 16, t.bit (Reg.MBX_STAT f) 3 = false) ∧ Same twinParts s t)) ∧
  (s.handoverOpen = false ∨ s.anyInlay = true → Goes .twinCmdHandover s (fun t => t = s)) ∧
  (s.handoverOpen = true → s.anyInlay = false → Goes .twinCmdHandover s (fun t => t.twin = { s.twin with
      th := some (s.devTime + usTicks 1050), hoT := s.devTime, hoLead := true, hoOk := false, hoCmd := none
      txq := Sent s [ctrlPkt (leBytes 1 4 ++ leBytes 8 (s.devTime + usTicks 1050))] } ∧
    t.bit Reg.TWIN_STAT 10 = true ∧ Keeps (inKeys [Reg.TWIN_STAT]) [.twin] s t)) ∧
  (s.twinFenced = false → s.twinRole ≠ 1 → Goes .twinCmdUnpair s (fun t => TwinAt t 0 2 ∧ t.bit Reg.TWIN_STAT 9 = false ∧
    t.bit Reg.LINK_ROLE 16 = false ∧ t.bit Reg.TRG_ROLE 0 = false ∧ Same twinParts s t)) ∧
  (s.twinFenced = false → s.twinRole = 1 → Goes .twinCmdUnpair s (fun t => TwinAt t 5 1 ∧ t.bit Reg.TWIN_STAT 7 = true ∧
    Same twinParts s t)) ∧
  (s.twinFenced = true → Goes .twinCmdUnpair s (fun t => TwinAt t 0 2 ∧ t.bit Reg.TWIN_STAT 7 = false ∧ Same twinParts s t)) ∧
  Goes .twinClrcnt s (fun t => t.rd Reg.TWIN_HBMISS = 0#32 ∧ t.rd Reg.TWIN_DIGCMP = 0#32 ∧ t.rd Reg.TWIN_DIGERR = 0#32 ∧
    t.rd Reg.TWIN_DIFF = 0#32 ∧
    Keeps (inKeys [Reg.TWIN_HBMISS, Reg.TWIN_DIGCMP, Reg.TWIN_DIGERR, Reg.TWIN_DIFF]) [] s t))

/-- The references of the timebase (R450 to R455, Table 15.2). The loss of PCIE_REFCLK is recorded at L0. The loss of
REF_IN, or of a twin-recovered clock that exists, is recorded: where the lost source was active and the other is
good, the device falls back, at L1; where the other is not good, it holds over, at L4; a source that was not
active moves nothing, at L0; a switch that has begun goes on, and an input that is lost already only counts its 4
µs afresh. A reference that has shown no loss for 4 µs is good, and may begin the hold-off of PREF, which with
AUTOREV after 8 ms begins the return; TBSWITCH begins it at once; the switch ends with the timebase on its target.
What passes with time (R12, R380, R427). Device time goes on by the ticks that pass, but for at most one in 1,024
while a slew is due; what leaves the block is added to what has left; no register reads otherwise, and nothing
changes beside device time and its slew, the lanes and what they send, rounds that begin as their TSYNC leaves,
the twin link's queue, and the link's idleness. A block that sends nothing adds nothing. -/
def Obligations.ClockReferences : Prop :=
  (∀ (s₀ s : State) (r : Fin 3) (dt : Nat), s = s₀.pass dt →
  (s₀.boot.mode = 0 → 2 ≤ s.fld Reg.GLB_BOOTSTAT 0 4 →
    (s.bit Reg.CLK_MON r.val = false → Goes (.referenceLoss r dt) s₀ (fun t => t.bit Reg.CLK_MON r.val = false ∧
      t.clk = { s.clk with lostT := s.clk.lostT.filter (fun e => e.1 != r.val) ++ [(r.val, s.devTime)] } ∧
      Keeps (inKeys [Reg.CLK_MON]) [.clk] s t)) ∧
    (s.bit Reg.CLK_MON r.val = true → r.val = 2 → Goes (.referenceLoss r dt) s₀ (fun t =>
      t.bit Reg.CLK_MON 2 = false ∧ t.bit Reg.CLK_IRQ 3 = true ∧ t.reports = s.reports ++ refReports true 2 0 s.devTime ∧
      Keeps (inKeysI [Reg.CLK_MON, Reg.CLK_IRQ, Reg.TOUCH_CLSSTAT 12]) [.reports, .causes, .clk, .out] s t)) ∧
    (∀ told, s.bit Reg.CLK_MON r.val = true → r.val ≠ 2 → told = (r.val == 0 || s.twinClk) → Goes (.referenceLoss r dt) s₀ (fun t =>
      t.bit Reg.CLK_MON r.val = false ∧ (told = true → t.bit Reg.CLK_IRQ (1 + r.val) = true) ∧
      (s.clk.sw = none → s.tbSrc = r.val → s.bit Reg.CLK_MON (1 - r.val) = true →
        t.clk.sw = some (1 - r.val, s.devTime, true) ∧ t.bit Reg.CLK_TBSTAT 1 = true ∧ t.bit Reg.CLK_TBSTAT 2 = true ∧
        t.fld Reg.CLK_SWCNT 0 8 = satAdd 8 (s.fld Reg.CLK_SWCNT 0 8) 1 ∧
        t.reports = s.reports ++ refReports told r.val 1 s.devTime) ∧
      (s.clk.sw = none → s.tbSrc = r.val → s.bit Reg.CLK_MON (1 - r.val) = false →
        t.clk.sw = none ∧ t.bit Reg.CLK_TBSTAT 2 = true ∧ t.reports = s.reports ++ refReports told r.val 4 s.devTime) ∧
      (s.clk.sw = none → s.tbSrc ≠ r.val →
        t.clk.sw = none ∧ t.reports = s.reports ++ refReports told r.val 0 s.devTime ∧
        (s.tbPref = r.val → t.clk.holdT = none ∧ t.bit Reg.CLK_TBSTAT 3 = false)) ∧
      (∀ x, s.clk.sw = some x → t.clk.sw = some x ∧
        t.reports = s.reports ++ (if x.1 ≠ r.val ∧ s.tbSrc = r.val then refReports told r.val 1 s.devTime else [])) ∧
      Keeps (inKeysI [Reg.CLK_MON, Reg.CLK_IRQ, Reg.CLK_TBSTAT, Reg.CLK_SWCNT, Reg.TOUCH_CLSSTAT 12])
        [.reports, .causes, .clk, .out] s t))) ∧
  (s₀.boot.mode = 0 →
    (s.fld Reg.GLB_BOOTSTAT 0 4 < 2 → Goes (.referenceLoss r dt) s₀ (fun t => t.bit Reg.CLK_MON r.val = false ∧
      Keeps (inKeys [Reg.CLK_MON]) [] s₀ t)) ∧
    ((r.val = 1 ∧ s.twinClk = false) ∨ s.refQuiet r.val = false → Goes (.referenceGood r dt) s₀ (fun t => t = s)) ∧
    ((r.val = 1 → s.twinClk = true) → s.refQuiet r.val = true → Goes (.referenceGood r dt) s₀ (fun t =>
      t.bit Reg.CLK_MON r.val = true ∧ t.hasCause 12 (1 + r.val) r.val = false ∧
      (r.val = s.tbPref → s.tbSrc ≠ r.val → s.bit Reg.CLK_TBSEL 1 = true → s.clk.sw = none → s.clk.holdT = none →
        t.clk.holdT = some s.devTime ∧ t.bit Reg.CLK_TBSTAT 3 = true) ∧
      Keeps (inKeys [Reg.CLK_MON, Reg.CLK_TBSTAT, Reg.TOUCH_CLSSTAT 12]) [.causes, .expls, .touch, .clk] s t))) ∧
  (s₀.boot.mode = 3 ∨ s₀.boot.mode = 5 → Goes (.referenceLoss r dt) s₀ (fun t => t = s₀) ∧
    Goes (.referenceGood r dt) s₀ (fun t => t = s₀)) ∧
  (s₀.boot.mode = 1 ∨ s₀.boot.mode = 2 ∨ s₀.boot.mode = 4 →
    Goes (.referenceLoss r dt) s₀ (fun t => t.bit Reg.CLK_MON r.val = false ∧ Keeps (inKeys [Reg.CLK_MON]) [] s₀ t) ∧
    (r.val ≠ 1 → Goes (.referenceGood r dt) s₀ (fun t => t.bit Reg.CLK_MON r.val = true ∧ Keeps (inKeys [Reg.CLK_MON]) [] s₀ t))) ∧
  (s₀.boot.mode = 0 →
    (s.clk.sw = none → Goes (.tbpllRelock dt) s₀ (fun t => t = s)) ∧
    (∀ tgt t0 fb, s.clk.sw = some (tgt, t0, fb) → s.bit Reg.CLK_MON tgt = true → (Reg.CLK_CMD, 0) ∉ s.now.again →
      Goes (.tbpllRelock dt) s₀ (fun t =>
        t.tbSrc = tgt % 2 ∧ t.bit Reg.CLK_TBSTAT 1 = false ∧ t.bit Reg.CLK_TBSTAT 2 = false ∧ t.bit Reg.CLK_TBSTAT 4 = true ∧
        t.bit Reg.CLK_IRQ 0 = true ∧ t.clk.sw = none ∧ t.clk.swCmd = none ∧ Same [.regs, .mboxes, .bench, .clk, .out] s t)) ∧
    (∀ t0, s.clk.holdT = some t0 → t0 + usTicks 8000 ≤ s.devTime → s.bit Reg.CLK_TBSEL 1 = true →
      s.bit Reg.CLK_MON s.tbPref = true → s.bit Reg.CLK_MON s.tbSrc = true → s.clk.sw = none → Goes (.holdoffEnd dt) s₀ (fun t =>
        t.clk.sw = some (s.tbPref, s.devTime, false) ∧ t.bit Reg.CLK_TBSTAT 1 = true ∧ t.bit Reg.CLK_TBSTAT 3 = false ∧
        t.fld Reg.CLK_SWCNT 8 8 = satAdd 8 (s.fld Reg.CLK_SWCNT 8 8) 1 ∧
        Keeps (inKeys [Reg.CLK_TBSTAT, Reg.CLK_SWCNT]) [.clk] s t)) ∧
    ((∀ t0, s.clk.holdT = some t0 → s.devTime < t0 + usTicks 8000) ∨ s.bit Reg.CLK_TBSEL 1 = false →
      Goes (.holdoffEnd dt) s₀ (fun t => t = s))) ∧
  (Up s₀ Reg.CLK_CMD →
    (s₀.bit Reg.CLK_MON s₀.tbPref = true → s₀.tbSrc ≠ s₀.tbPref → s₀.clk.sw = none → Goes .tbswitch s₀ (fun t =>
      t.clk.sw = some (s₀.tbPref, s₀.devTime, false) ∧ t.bit Reg.CLK_TBSTAT 1 = true ∧
        Keeps (inKeys [Reg.CLK_TBSTAT]) [.clk] s₀ t)) ∧
    (s₀.bit Reg.CLK_MON s₀.tbPref = false ∨ s₀.tbSrc = s₀.tbPref ∨ s₀.clk.sw.isSome = true → Goes .tbswitch s₀ (fun t =>
      Keeps (inKeys []) [] s₀ t)))) ∧
  (∀ (s : State) (dt : Nat),
  (s.pass dt).devTime = s.after dt ∧ (s.slew.left = 0 → s.after dt = s.devTime + dt) ∧
  s.devTime + dt ≤ s.after dt + (s.slew.acc + dt) / 1024 ∧ s.after dt ≤ s.devTime + dt + (s.slew.acc + dt) / 1024 ∧
  (s.pass dt).slew.left.natAbs ≤ s.slew.left.natAbs ∧
  (s.pass dt).idleT = (if s.linkIdle then s.idleT else s.after dt) ∧
  (∃ l, (s.pass dt).out = l ++ s.out) ∧
  ((∀ n < 112, ¬ (2 ≤ s.laneSt n ∧ s.laneSt n ≤ 8) ∧ s.laneSt n ≠ 11 ∧ s.laneSt n ≠ 12 ∧ s.laneGen n = false) → s.twin.txq = [] →
    (s.pass dt).out = s.out ∧ (s.pass dt).lanes = s.lanes) ∧
  Keeps (inKeys []) [.devTime, .idleT, .slew, .lanes, .out, .cams, .twin, .freeIdx] s (s.pass dt))

/-- The domain clocks (R456 to R463). A write of CLK_MUX begins a switch, but not of the timebase's own clocks, of a
group with a bound pipeline or of a multiplexer that is BUSY; a switch ends, or after 50 µs the watchdog ends it
with MUXHANG: L1 for a group, whose pipelines are held, L4 for any other; a switch needs both its clocks. A PLL
that loses lock takes its clocks to bypass, with PLLUNLOCK at L2 and the group isolated, or at L4, or with the
host link down for HPLL. A write of CLK_PLLCFG slews PLL 1 to 5, which takes its time; a clock enable can be set
only in a domain that is on. With CLK_LOCK closed writes change nothing and LOCKED is noted. -/
def Obligations.ClockDomains : Prop := ∀ (s : State),
  (∀ (d : Fin 15) (v : Word), Up s (Reg.CLK_MUX d.val) →
    (s.unlocked .clk = false → Goes (.clkMuxWrite d v) s (Reports 0xE01 4 0 s)) ∧
    (s.unlocked .clk = true →
      (d.val ≤ 1 ∨ s.bit (Reg.CLK_MUXSTAT d.val) 1 = true ∨
        (2 ≤ d.val ∧ d.val ≤ 9 ∧ ∃ n ∈ groupPipes (d.val - 2), s.bit (Reg.PIPE_BIND n) 0 = true) →
        Goes (.clkMuxWrite d v) s (fun t => t = s)) ∧
      (2 ≤ d.val → s.bit (Reg.CLK_MUXSTAT d.val) 1 = false →
        (d.val ≤ 9 → ∀ n ∈ groupPipes (d.val - 2), s.bit (Reg.PIPE_BIND n) 0 = false) →
        Goes (.clkMuxWrite d v) s (fun t => t.rd (Reg.CLK_MUX d.val) = v &&& 1#32 ∧
          (bitOf v 0 = s.bit (Reg.CLK_MUXSTAT d.val) 0 → Keeps (inKeys [Reg.CLK_MUX d.val]) [] s t) ∧
          (bitOf v 0 ≠ s.bit (Reg.CLK_MUXSTAT d.val) 0 → t.bit (Reg.CLK_MUXSTAT d.val) 1 = true ∧
            t.clk.mux = s.clk.mux ++ [(d.val, b2n (bitOf v 0), s.devTime)]) ∧
          Keeps (inKeys [Reg.CLK_MUX d.val, Reg.CLK_MUXSTAT d.val]) [.clk] s t)))) ∧
  (∀ (s₀ : State) (d : Fin 15) (dt : Nat), s = s₀.pass dt → s.boot.mode = 0 →
    (s.clk.mux.find? (fun e => e.1 == d.val) = none → Goes (.muxSwitchDone d dt) s₀ (fun t => t = s) ∧
      Goes (.muxhang d dt) s₀ (fun t => t = s)) ∧
    (∀ k sel t0 runs, s.clk.mux.find? (fun e => e.1 == d.val) = some (k, sel, t0) →
      runs = (s.clockRuns d.val (s.fld (Reg.CLK_MUXSTAT d.val) 0 1) && s.clockRuns d.val sel) →
      (runs = false → Goes (.muxSwitchDone d dt) s₀ (fun t => t = s)) ∧
      (runs = true → Goes (.muxSwitchDone d dt) s₀ (fun t =>
        t.fld (Reg.CLK_MUXSTAT d.val) 0 1 = sel % 2 ∧ t.bit (Reg.CLK_MUXSTAT d.val) 1 = false ∧
        t.clk.mux = s.clk.mux.filter (fun e => e.1 != d.val) ∧ Keeps (inKeys [Reg.CLK_MUXSTAT d.val]) [.clk] s t)) ∧
      (s.devTime < t0 + usTicks 50 → Goes (.muxhang d dt) s₀ (fun t => t = s)) ∧
      (t0 + usTicks 50 ≤ s.devTime → Goes (.muxhang d dt) s₀ (fun t =>
        t.fld (Reg.CLK_MUXSTAT d.val) 0 1 = sel % 2 ∧ t.bit (Reg.CLK_MUXSTAT d.val) 1 = false ∧
        t.bit (Reg.CLK_MUXSTAT d.val) 2 = true ∧ t.bit Reg.CLK_IRQ 5 = true ∧
        t.fld Reg.CLK_SWCNT 16 8 = satAdd 8 (s.fld Reg.CLK_SWCNT 16 8) 1 ∧
        t.clk.mux = s.clk.mux.filter (fun e => e.1 != d.val) ∧
        t.reports = s.reports ++ [{
          sig := 0xC05, src := d.val, level := if 2 ≤ d.val ∧ d.val ≤ 9 then 1 else 4, t := s.devTime }] ∧
        (∀ n, 2 ≤ d.val → d.val ≤ 9 → n ∈ groupPipes (d.val - 2) → s.pipeRun n = true →
          (t.pipe n).inq = [] ∧ (t.pipe n).hold = none ∧ t.bit (Reg.PIPE_STAT n) 0 = false ∧ t.bit (Reg.PIPE_STAT n) 7 = true) ∧
        (∀ n, ¬ (2 ≤ d.val ∧ d.val ≤ 9 ∧ n ∈ groupPipes (d.val - 2)) → t.pipe n = s.pipe n) ∧
        Keeps (inKeysI ([Reg.CLK_MUXSTAT d.val, Reg.CLK_SWCNT, Reg.CLK_IRQ] ++ (groupPipes (d.val - 2)).map Reg.PIPE_STAT))
          [.reports, .pipes, .clk, .out] s t)))) ∧
  (∀ (s₀ : State) (n : Fin 14) (dt : Nat), s = s₀.pass dt → s.boot.mode = 0 →
    (6 ≤ n.val → s.domOn (10 + n.val) = false → Goes (.pllunlock n dt) s₀ (fun t => t = s)) ∧
    (6 ≤ n.val → s.domOn (10 + n.val) = true → Goes (.pllunlock n dt) s₀ (fun t =>
      t.bit (Reg.CLK_PLLSTAT n.val) 0 = false ∧ t.bit Reg.CLK_MON (8 + n.val) = false ∧ t.bit Reg.CLK_IRQ 4 = true ∧
      t.bit (Reg.CLK_MUXSTAT (n.val - 4)) 0 = false ∧ n.val - 6 ∈ t.clk.iso ∧ t.temperOf (n.val - 6) = none ∧
      { sig := 0xC04, src := n.val, level := 2, t := s.devTime } ∈ t.reports ∧
      Same [.regs, .reports, .events, .pipes, .asys, .memx, .chans, .engines, .mboxes, .bench, .clk, .devMem, .hostMem,
        .out] s t)) ∧
    (n.val = 3 → Goes (.pllunlock n dt) s₀ (fun t =>
      t.bit (Reg.CLK_PLLSTAT 3) 0 = false ∧ t.bit Reg.CLK_MON 11 = false ∧ t.bit Reg.CLK_IRQ 4 = true ∧
      t.bit (Reg.CLK_MUXSTAT 12) 0 = false ∧
      (s.bit Reg.HOSTEP_LINK 14 = true → s.boot.perst = false → t.rd Reg.HOSTEP_LINK = 0#32 ∧
        { sig := 0x90A, src := 0, level := 4, t := s.devTime } ∈ t.reports) ∧
      Same [.regs, .reports, .events, .memx, .chans, .engines, .devMem, .hostMem, .out] s t)) ∧
    (n.val < 6 → n.val ≠ 3 → Goes (.pllunlock n dt) s₀ (fun t =>
      t.bit (Reg.CLK_PLLSTAT n.val) 0 = false ∧ t.bit Reg.CLK_MON (8 + n.val) = false ∧ t.bit Reg.CLK_IRQ 4 = true ∧
      (∀ d ∈ pllClocks n.val, t.bit (Reg.CLK_MUXSTAT d) 0 = false) ∧
      t.reports = s.reports ++ [{ sig := 0xC04, src := n.val, level := 4, t := s.devTime }] ∧
      Keeps (inKeysI ([Reg.CLK_PLLSTAT n.val, Reg.CLK_MON, Reg.CLK_IRQ] ++ (pllClocks n.val).map Reg.CLK_MUXSTAT))
        [.reports, .out] s t))) ∧
  (∀ (n : Fin 14) (v : Word), Up s (Reg.CLK_PLLCFG n.val) →
    (n.val = 0 ∨ 6 ≤ n.val → Goes (.pllcfgWrite n v) s (fun t => t = s)) ∧
    (1 ≤ n.val → n.val ≤ 5 →
      (s.unlocked .clk = false → Goes (.pllcfgWrite n v) s (Reports 0xE01 4 0 s)) ∧
      (s.unlocked .clk = true → fldOf v 0 12 = s.fld (Reg.CLK_PLLCFG n.val) 0 12 → Goes (.pllcfgWrite n v) s (fun t => t = s)) ∧
      (s.unlocked .clk = true → fldOf v 0 12 ≠ s.fld (Reg.CLK_PLLCFG n.val) 0 12 → Goes (.pllcfgWrite n v) s (fun t =>
        t.rd (Reg.CLK_PLLCFG n.val) = w32 (fldOf v 0 12) ∧ t.bit (Reg.CLK_PLLSTAT n.val) 1 = true ∧
        t.clk.slew = s.clk.slew.filter (fun e => e.1 != n.val) ++ [(n.val, fldOf v 0 12, s.devTime)] ∧
        Keeps (inKeys [Reg.CLK_PLLCFG n.val, Reg.CLK_PLLSTAT n.val]) [.clk] s t)))) ∧
  (∀ (s₀ : State) (n : Fin 14) (dt : Nat), s = s₀.pass dt → s.boot.mode = 0 →
    (s.clk.slew.find? (fun e => e.1 == n.val) = none → Goes (.slewDone n dt) s₀ (fun t => t = s)) ∧
    (∀ k m t0 e, s.clk.slew.find? (fun e => e.1 == n.val) = some (k, m, t0) →
      e = t0 + slewTicks (s.fld (Reg.CLK_PLLSTAT n.val) 16 12) m →
      (s.devTime < e → Goes (.slewDone n dt) s₀ (fun t => t = s)) ∧
      (e ≤ s.devTime → Goes (.slewDone n dt) s₀ (fun t =>
        t.fld (Reg.CLK_PLLSTAT n.val) 16 12 = m % 4096 ∧ t.bit (Reg.CLK_PLLSTAT n.val) 1 = false ∧
        t.clk.slew = s.clk.slew.filter (fun e => e.1 != n.val) ∧ Keeps (inKeys [Reg.CLK_PLLSTAT n.val]) [.clk] s t)))) ∧
  (∀ (w : Fin 8) (v : Word), Up s (Reg.CLK_GATE w.val) →
    (s.unlocked .clk = false → Goes (.clkGateWrite w v) s (Reports 0xE01 4 0 s)) ∧
    (s.unlocked .clk = true → Goes (.clkGateWrite w v) s (fun t =>
      (∀ i < 32, t.bit (Reg.CLK_GATE w.val) i =
        (bitOf v i && decide (32 * w.val + i < 247) && s.domOn (gateDom (32 * w.val + i)))) ∧
      Keeps (inKeys [Reg.CLK_GATE w.val]) [] s t)))

/-- The temper sequencer and the temperature (R465 to R467, R473). A write of CLK_TPCFG starts a move of a group that
stands elsewhere, is powered and in service; each point takes a ramp and a slew, voltage first when it rises; a
move ends at its target, or after 50 µs with TEMPERTMO. A regulator's fault isolates its group. A sample sets
PWR_TEMP and PWR_POWER; THERMWARN comes at L0, THERMHOT at L2 and the limit of 115 °C at L4; while the device is
hot, each 1 ms takes every group above TP0 down by one point. -/
def Obligations.TemperMoves : Prop :=  (∀ (s : State) (k : Fin 8) (v : Word), Up s (Reg.CLK_TPCFG k.val) →
    (s.unlocked .clk = false → Goes (.tpcfgWrite k v) s (Reports 0xE01 4 0 s)) ∧
    (∀ p g, s.unlocked .clk = true → p = s.tpPoint k.val → g = min 5 (fldOf v 0 3) →
      Goes (.tpcfgWrite k v) s (fun t => t.rd (Reg.CLK_TPCFG k.val) = w32 (fldOf v 0 3) ∧
        (∀ x, s.temperOf k.val = some x → t.temperOf k.val = some (if g = s.tpTarget k.val then x else { x with t0 := s.devTime }) ∧
          Keeps (inKeys [Reg.CLK_TPCFG k.val]) [.clk] s t) ∧
        (s.temperOf k.val = none → p = g ∨ s.domOn (16 + k.val) = false ∨ k.val ∈ s.clk.iso →
          Keeps (inKeys [Reg.CLK_TPCFG k.val]) [] s t) ∧
        (s.temperOf k.val = none → p ≠ g → s.domOn (16 + k.val) = true → k.val ∉ s.clk.iso →
          t.bit (Reg.CLK_TPSTAT k.val) 3 = true ∧ t.temperOf k.val = some {
            k := k.val, volt := decide (p < g), next := if p < g then p + 1 else p - 1, t := s.devTime, t0 := s.devTime,
              cmds := [] } ∧
          (g < p → t.fld (Reg.CLK_PLLCFG (6 + k.val)) 0 12 = tpFreq (p - 1) ∧ t.bit (Reg.CLK_PLLSTAT (6 + k.val)) 1 = true)) ∧
        Keeps (inKeys [Reg.CLK_TPCFG k.val, Reg.CLK_TPSTAT k.val, Reg.CLK_PLLCFG (6 + k.val), Reg.CLK_PLLSTAT (6 + k.val)])
          [.clk] s t))) ∧
  (∀ (s₀ s : State) (k : Fin 8) (dt : Nat), s = s₀.pass dt → s₀.boot.mode = 0 →
    (s.temperOf k.val = none → Goes (.temperStepDone k dt) s₀ (fun t => t = s) ∧
      Goes (.tempertmo k dt) s₀ (fun t => t = s)) ∧
    (∀ x, s.temperOf k.val = some x →
      (s.devTime < x.t + s.temperTicks x → Goes (.temperStepDone k dt) s₀ (fun t => t = s)) ∧
      (x.t + s.temperTicks x ≤ s.devTime → Goes (.temperStepDone k dt) s₀ (fun t =>
        (x.volt = true → t.fld (Reg.CLK_TPSTAT k.val) 16 10 = tpVolt x.next) ∧
        (x.volt = false → t.fld (Reg.CLK_PLLSTAT (6 + k.val)) 16 12 = tpFreq x.next) ∧
        (x.volt = decide (s.tpPoint k.val < x.next) →
          t.tpPoint k.val = s.tpPoint k.val ∧ t.temperOf k.val = some { x with volt := !x.volt, t := s.devTime }) ∧
        (x.volt ≠ decide (s.tpPoint k.val < x.next) → t.tpPoint k.val = x.next % 8 ∧
          (x.next % 8 = s.tpTarget k.val →
            t.temperOf k.val = none ∧ t.bit (Reg.CLK_TPSTAT k.val) 3 = false ∧ t.bit Reg.CLK_IRQ 6 = true) ∧
          (x.next % 8 ≠ s.tpTarget k.val → t.bit (Reg.CLK_TPSTAT k.val) 3 = true ∧
            (t.temperOf k.val).map (fun y => (y.t, y.t0, y.cmds)) = some (s.devTime, x.t0, x.cmds))) ∧
        Keeps (inKeysI [Reg.CLK_TPSTAT k.val, Reg.CLK_PLLCFG (6 + k.val), Reg.CLK_PLLSTAT (6 + k.val), Reg.CLK_IRQ])
          [.mboxes, .bench, .clk, .out] s t)) ∧
      (s.devTime < x.t0 + usTicks 50 → Goes (.tempertmo k dt) s₀ (fun t => t = s)) ∧
      (x.t0 + usTicks 50 ≤ s.devTime → Goes (.tempertmo k dt) s₀ (fun t =>
        t.reports = s.reports ++ [{ sig := 0xD02, src := k.val, level := 2, t := s.devTime }] ∧ t.temperOf k.val = none ∧
        t.bit (Reg.CLK_TPSTAT k.val) 3 = false ∧
        (∀ c, (s.bench.running.find? (fun y => y.f == c.f && y.slot == c.slot && !y.interim)) = some c → x.cmds = [(c.f, c.slot)] →
          Final t c St.timeout []) ∧
        Keeps (inKeys [Reg.CLK_TPSTAT k.val, Reg.CLK_PLLSTAT (6 + k.val)]) [.reports, .mboxes, .bench, .clk] s t))) ∧
    (s.domOn (16 + k.val) = false → Goes (.ivrfault k dt) s₀ (fun t => t = s)) ∧
    (s.domOn (16 + k.val) = true → Goes (.ivrfault k dt) s₀ (fun t =>
      { sig := 0xD01, src := k.val, level := 2, t := s.devTime } ∈ t.reports ∧ t.bit Reg.PWR_IRQ 3 = true ∧
      k.val ∈ t.clk.iso ∧ t.temperOf k.val = none ∧
      Same [.regs, .reports, .events, .pipes, .asys, .memx, .chans, .engines, .mboxes, .bench, .clk, .devMem, .hostMem,
        .out] s t))) ∧
  (∀ (s₀ s : State) (temp : BitVec 16) (sensor : Fin 32) (power : BitVec 16) (dt : Nat) (warn : Int),
    s = (if s₀.boot.mode = 0 then s₀.pass dt else s₀) → warn = 16 * (s.fld Reg.PWR_THERM 0 8 : Int) →
    (s₀.boot.mode ≠ 0 → s₀.boot.mode ≠ 4 → Goes (.tempSample temp sensor power dt) s₀ (fun t => t = s)) ∧
    (s₀.boot.mode = 4 → Goes (.tempSample temp sensor power dt) s₀ (fun t =>
      t.rd Reg.PWR_TEMP = w32 (temp.toNat + sensor.val * 65536) ∧ t.rd Reg.PWR_POWER = w32 power.toNat ∧
      Keeps (inKeys [Reg.PWR_TEMP, Reg.PWR_POWER]) [.boot, .out] s t)) ∧
    (s₀.boot.mode = 0 → s.pwr.tempT.any (fun t0 => decide (s.devTime < t0 + usTicks 100)) = true →
      Goes (.tempSample temp sensor power dt) s₀ (fun t => t = s)) ∧
    (s₀.boot.mode = 0 → s.pwr.tempT.any (fun t0 => decide (s.devTime < t0 + usTicks 100)) = false →
      Goes (.tempSample temp sensor power dt) s₀ (fun t => t.pwr.tempT = some s.devTime ∧
        t.rd Reg.PWR_TEMP = w32 (temp.toNat + sensor.val * 65536) ∧ t.rd Reg.PWR_POWER = w32 power.toNat ∧
        (warn ≤ temp.toInt → s.pwr.warn = false → s.hasCause 13 5 sensor.val = false →
          { sig := 0xD05, src := sensor.val, level := 0, t := s.devTime } ∈ t.reports ∧ t.bit Reg.PWR_IRQ 4 = true) ∧
        (warn ≤ temp.toInt → 16 * (s.fld Reg.PWR_THERM 8 8 : Int) ≤ temp.toInt → s.pwr.hot = false →
          s.hasCause 13 6 sensor.val = false → { sig := 0xD06, src := sensor.val, level := 2, t := s.devTime } ∈ t.reports ∧
            t.bit Reg.PWR_IRQ 5 = true ∧ t.pwr.hot = true ∧ t.pwr.hotT = s.devTime) ∧
        (1840 ≤ temp.toInt → s.hasCause 13 7 sensor.val = false →
          { sig := 0xD07, src := sensor.val, level := 4, t := s.devTime } ∈ t.reports) ∧
        (temp.toInt < warn → t.pwr.hot = false ∧ t.hasCause 13 5 sensor.val = false) ∧
        Keeps (inKeysI ([Reg.PWR_TEMP, Reg.PWR_POWER, Reg.PWR_IRQ, Reg.TOUCH_CLSSTAT 13, Reg.HOSTEP_WAKESTAT] ++
            (List.range 8).map Reg.CLK_TPCFG ++ (List.range 8).map Reg.CLK_TPSTAT ++
            (List.range 8).map (fun k => Reg.CLK_PLLCFG (6 + k)) ++ (List.range 8).map (fun k => Reg.CLK_PLLSTAT (6 + k))))
          [.reports, .causes, .expls, .clk, .pwr, .touch, .out] s t))) ∧
  (∀ (s₀ s : State) (dt : Nat), s = s₀.pass dt → s₀.boot.mode = 0 →
    (s.pwr.hot = false ∨ s.devTime < s.pwr.hotT + usTicks 1000 → Goes (.thermhotStep dt) s₀ (fun t => t = s)) ∧
    (s.pwr.hot = true → s.pwr.hotT + usTicks 1000 ≤ s.devTime → Goes (.thermhotStep dt) s₀ (fun t =>
      t.pwr.hotT = s.devTime ∧
      (∀ k < 8, s.tpPoint k ≠ 0 → t.rd (Reg.CLK_TPCFG k) = w32 (s.tpPoint k - 1) ∧ ∃ e ∈ t.pwr.lowered, e.1 = k) ∧
      (∀ k < 8, s.tpPoint k = 0 → t.rd (Reg.CLK_TPCFG k) = s.rd (Reg.CLK_TPCFG k)) ∧
      Keeps (inKeys ((List.range 8).map Reg.CLK_TPCFG ++ (List.range 8).map Reg.CLK_TPSTAT ++
        (List.range 8).map (fun k => Reg.CLK_PLLCFG (6 + k)) ++ (List.range 8).map (fun k => Reg.CLK_PLLSTAT (6 + k))))
        [.clk, .pwr] s t)))

/-- Power domains (R468 to R472, R348). A write of PWR_CTL ramps a domain on, or drains it; while another ramps or
drains it waits; one whose prerequisites or dependents forbid it sets PWR_IRQ.REFUSED and changes no domain;
PD_AON, PD_IO and PD_BENCH are not switched. A domain that is on shows it; one not on within its time is left off
with PWRTMO; writes held 4 µs into a drain are counted as lost; a domain that is off has lost its state and its
clock enables. A forced power-off goes on once its channels have stopped. -/
def Obligations.PowerDomains : Prop := ∀ d : Fin 24,
  (∀ (s : State) (v : Word), Up s (Reg.PWR_CTL d.val) →
    (s.unlocked .pwr = false → Goes (.pwrCtlWrite d v) s (Reports 0xE01 5 0 s)) ∧
    (s.unlocked .pwr = true →
      (d.val = 0 ∨ d.val = 1 ∨ d.val = 3 → Goes (.pwrCtlWrite d v) s (fun t => t = s)) ∧
      (d.val ≠ 0 → d.val ≠ 1 → d.val ≠ 3 →
        ((bitOf v 0 = true ∧ ∃ e ∈ domPre d.val, s.domOn e = false) ∨ (bitOf v 0 = false ∧ ∃ e ∈ domDeps d.val, s.domOn e = true) →
          Goes (.pwrCtlWrite d v) s (fun t => t.bit Reg.PWR_IRQ 6 = true ∧ Keeps (inKeysI [Reg.PWR_IRQ]) [.out] s t)) ∧
        (bitOf v 0 = true → (∀ e ∈ domPre d.val, s.domOn e = true) →
          (s.pwr.ramp.isSome = true ∨ s.pwr.drain.isSome = true → Goes (.pwrCtlWrite d v) s (fun t =>
            t.pwr.wait = s.pwr.wait ++ [(d.val, true)] ∧ t.bit (Reg.PWR_CTL d.val) 0 = true ∧
            Keeps (inKeys [Reg.PWR_CTL d.val]) [.pwr] s t)) ∧
          (s.pwr.ramp = none → s.pwr.drain = none → s.domOn d.val = true → Goes (.pwrCtlWrite d v) s (fun t =>
            Keeps (inKeys []) [.pwr, .mboxes, .bench] s t)) ∧
          (s.pwr.ramp = none → s.pwr.drain = none → s.domOn d.val = false → Goes (.pwrCtlWrite d v) s (fun t =>
            t.pwr.ramp = some (d.val, s.devTime) ∧ t.fld (Reg.PWR_DSTAT d.val) 0 5 = 25 ∧ t.bit (Reg.PWR_CTL d.val) 0 = true ∧
            Keeps (inKeys [Reg.PWR_DSTAT d.val, Reg.PWR_CTL d.val]) [.pwr] s t))) ∧
        (bitOf v 0 = false → (∀ e ∈ domDeps d.val, s.domOn e = false) →
          (s.pwr.ramp.isSome = true ∨ s.pwr.drain.isSome = true → Goes (.pwrCtlWrite d v) s (fun t =>
            t.pwr.wait = s.pwr.wait ++ [(d.val, false)] ∧ t.bit (Reg.PWR_CTL d.val) 0 = false ∧
            Keeps (inKeys [Reg.PWR_CTL d.val]) [.pwr] s t)) ∧
          (s.pwr.ramp = none → s.pwr.drain = none → s.domOn d.val = false → Goes (.pwrCtlWrite d v) s (fun t =>
            Keeps (inKeys []) [.pwr, .mboxes, .bench] s t)) ∧
          (s.pwr.ramp = none → s.pwr.drain = none → s.domOn d.val = true → Goes (.pwrCtlWrite d v) s (fun t =>
            t.pwr.drain = some (d.val, s.devTime) ∧ t.fld (Reg.PWR_DSTAT d.val) 0 3 = 4 ∧ t.bit (Reg.PWR_CTL d.val) 0 = false ∧
            Keeps (inKeys [Reg.PWR_DSTAT d.val, Reg.PWR_CTL d.val]) [.pwr] s t)))))) ∧
  (∀ (s₀ s : State) (dt : Nat), s = s₀.pass dt → s₀.boot.mode = 0 →
    ((∀ e, s.pwr.ramp = some e → e.1 ≠ d.val) → (∀ bad, Goes (.powerOnDone ⟨d, bad⟩ dt) s₀ (fun t => t = s)) ∧
      Goes (.pwrtmo d dt) s₀ (fun t => t = s)) ∧
    ((∀ e, s.pwr.drain = some e → e.1 ≠ d.val) → Goes (.powerOffDone d dt) s₀ (fun t => t = s) ∧
      ∀ n, Goes (.draintmo d n dt) s₀ (fun t => t = s)) ∧
    (∀ t0 bad, s.pwr.ramp = some (d.val, t0) → s.pwr.wait = [] → s.host.d3save = [] → Goes (.powerOnDone ⟨d, bad⟩ dt) s₀ (fun t =>
      t.domOn d.val = true ∧ t.bit (Reg.PWR_CTL d.val) 0 = true ∧ t.fld (Reg.PWR_DSTAT d.val) 0 5 = 3 ∧
      t.fld (Reg.PWR_DSTAT d.val) 16 16 = (s.fld (Reg.PWR_DSTAT d.val) 16 16 + 1) % 65536 ∧ t.bit Reg.PWR_IRQ 0 = true ∧
      t.pwr.ramp = none ∧
      (16 ≤ d.val → t.tpPoint (d.val - 16) = 0 ∧ t.fld (Reg.CLK_TPSTAT (d.val - 16)) 16 10 = 600 ∧ d.val - 16 ∉ t.clk.iso ∧
        (bad = [] → t.bit Reg.PIPE_SPRUE (d.val - 16) = true ∧ t.bit Reg.PIPE_SPRUE (d.val - 8) = false) ∧
        ((∃ b ∈ bad, b.val = 12) → t.bit Reg.PIPE_SPRUE (d.val - 16) = false ∧
          ∃ r ∈ t.reports, r.sig = 0x206 ∧ r.src = 13 * (d.val - 16) + 12 ∧ r.level = 0)) ∧
      (d.val < 16 → Keeps (inKeysI [Reg.PWR_ON, Reg.PWR_CTL d.val, Reg.PWR_DSTAT d.val, Reg.PWR_IRQ])
        [.pwr, .mboxes, .bench, .out] s t) ∧
      (16 ≤ d.val → bad = [] → Keeps (inKeysI [Reg.PWR_ON, Reg.PWR_CTL d.val, Reg.PWR_DSTAT d.val, Reg.PWR_IRQ,
        Reg.CLK_TPSTAT (d.val - 16), Reg.CLK_PLLSTAT (d.val - 10), Reg.CLK_PLLCFG (d.val - 10), Reg.CLK_MON, Reg.PIPE_SPRUE])
        [.clk, .pwr, .mboxes, .bench, .out] s t) ∧
      Same [.regs, .reports, .pipes, .asys, .crus, .mboxes, .bench, .clk, .pwr, .out] s t)) ∧
    (∀ t0, s.pwr.ramp = some (d.val, t0) →
      (s.devTime < t0 + usTicks (domLimit d.val) → Goes (.pwrtmo d dt) s₀ (fun t => t = s)) ∧
      (t0 + usTicks (domLimit d.val) ≤ s.devTime → s.pwr.wait = [] → Goes (.pwrtmo d dt) s₀ (fun t =>
        t.pwr.ramp = none ∧ t.fld (Reg.PWR_DSTAT d.val) 0 5 = 24 ∧ t.bit (Reg.PWR_CTL d.val) 0 = false ∧
          t.bit Reg.PWR_IRQ 7 = true ∧
        t.reports = s.reports ++ [{ sig := 0xD03, src := d.val, level := 2, t := s.devTime }] ∧
        Keeps (inKeysI [Reg.PWR_DSTAT d.val, Reg.PWR_CTL d.val, Reg.PWR_IRQ])
          [.reports, .pwr, .mboxes, .bench, .out] s t))) ∧
    (∀ t0 n, s.pwr.drain = some (d.val, t0) →
      (s.devTime < t0 + usTicks 4 → Goes (.draintmo d n dt) s₀ (fun t => t = s)) ∧
      (t0 + usTicks 4 ≤ s.devTime → Goes (.draintmo d n dt) s₀ (fun t =>
        t.rdN Reg.PWR_DRAINCNT = satAdd 32 (s.rdN Reg.PWR_DRAINCNT) n ∧ t.bit Reg.PWR_IRQ 2 = true ∧
        t.reports = s.reports ++ [{ sig := 0xD04, src := d.val, level := 1, t := s.devTime }] ∧
        Keeps (inKeysI [Reg.PWR_DRAINCNT, Reg.PWR_IRQ]) [.reports, .out] s t))) ∧
    (∀ t0, s.pwr.drain = some (d.val, t0) → s.pwr.wait = [] → Goes (.powerOffDone d dt) s₀ (fun t =>
      t.domOn d.val = false ∧ t.bit (Reg.PWR_CTL d.val) 0 = false ∧ t.fld (Reg.PWR_DSTAT d.val) 0 5 = 24 ∧
      t.bit Reg.PWR_IRQ 1 = true ∧ t.pwr.drain = none ∧ (∀ b < 247, gateDom b = d.val → t.clkOn b = false) ∧
      (d.val = 6 → t.axes = [] ∧ t.gens = [] ∧ t.lists = [] ∧ t.sched = []) ∧
      (8 ≤ d.val → d.val < 16 → ∀ n, n < 104 → n / 13 = d.val - 8 → t.lane n = {}) ∧
      (16 ≤ d.val → ∀ n, n / 13 = d.val - 16 → t.pipe n = {} ∧ t.asy n = {}) ∧
      Same [.regs, .reports, .causes, .expls, .events, .axes, .gens, .lists, .pins, .pairs, .trigIns, .sched, .lanes, .bonds,
        .pipes, .asys, .views, .pages, .twin, .memx, .chans, .engines, .mboxes, .bench, .clk, .pwr, .touch, .devMem, .hostMem,
          .out] s t)) ∧
    ((∀ e ∈ s.pwr.stopWait, e.1 ≠ d.val) → Goes (.stopWaitEnd d dt) s₀ (fun t => t = s)) ∧
    (∀ e, s.pwr.stopWait.find? (fun e => e.1 == d.val) = some e →
      (s.domChans d.val ≠ [] → s.devTime < e.2 + usTicks 10000 → Goes (.stopWaitEnd d dt) s₀ (fun t => t = s)) ∧
      (s.domChans d.val = [] → s.domOn d.val = true → (∀ k ∈ domDeps d.val, s.domOn k = false) → s.pwr.ramp = none →
        s.pwr.drain = none → Goes (.stopWaitEnd d dt) s₀ (fun t =>
          t.pwr.stopWait = s.pwr.stopWait.filter (fun e => e.1 != d.val) ∧ t.pwr.drain = some (d.val, s.devTime) ∧
          t.fld (Reg.PWR_DSTAT d.val) 0 3 = 4 ∧ t.bit (Reg.PWR_CTL d.val) 0 = false ∧
          Keeps (inKeys [Reg.PWR_DSTAT d.val, Reg.PWR_CTL d.val]) [.pwr] s t)) ∧
      (e.2 + usTicks 10000 ≤ s.devTime → Goes (.stopWaitEnd d dt) s₀ (fun t => (∀ x ∈ t.pwr.stopWait, x.1 ≠ d.val) ∧
        Same [.regs, .reports, .events, .memx, .chans, .engines, .mboxes, .bench, .pwr, .devMem, .hostMem, .out] s t))))

/-- The record store (R478 to R480, R484, R485, R487, R490, R497, R498). A report with no open window of its signature
writes the next record, with the level its class's unacknowledged state gives it, and marks its class; one
explained by another fault is SECONDARY and leaves UNACK and LEVEL; one inside an open window joins that record. A
report at L4 on a device in operation and not paired resets it, and the record survives. Windows close after 2 µs;
sources whose explanation has expired report again; firmware hands the oldest unread record to PF0 and to the
tenant that owns its source. -/
def Obligations.FaultRecords : Prop := ∀ (s₀ s : State) (dt : Nat), s = s₀.pass dt → s.boot.mode = 0 →
  (s.reports = [] → Goes (.faultReport dt) s₀ (fun t => t = s)) ∧
  (∀ (r : Report) rest c n x e, pickReport s.reports = some r → rest = s.reports.erase r → c = r.sig / 256 → c < 15 →
    r.sig < 65536 →
    r.src < 65536 → r.src / 2 ^ mapShift c (r.sig % 256) < 128 → r.level ≤ 4 → n = s.rdN Reg.TOUCH_RECWR →
      x = s.explainedBy r.t c r.src →
    e = (if x.isSome then min r.level 1 else s.effLevel c r.level) →
    (∀ o ∈ s.touch.opens, r.t < o.t + usTicks 2) →
    ((∀ o ∈ s.touch.opens, o.sig ≠ r.sig) → e ≤ 1 → Goes (.faultReport dt) s₀ (fun t =>
      t.reports = rest ∧ t.rdN Reg.TOUCH_RECWR = (n + 1) % 2 ^ 32 ∧ { seq := n, sig := r.sig, t := r.t } ∈ t.touch.opens ∧
      t.fld (Reg.TOUCH_REC n 0) 0 4 = c ∧ t.fld (Reg.TOUCH_REC n 0) 8 3 = e ∧ t.fld (Reg.TOUCH_REC n 0) 11 3 = r.level ∧
      t.bit (Reg.TOUCH_REC n 0) 14 = x.isSome ∧ t.bit (Reg.TOUCH_REC n 0) 15 = r.forced ∧
      t.fld (Reg.TOUCH_REC n 0) 16 16 = r.sig ∧ t.fld (Reg.TOUCH_REC n 1) 0 16 = r.src ∧ t.rdN (Reg.TOUCH_REC n 2) = 1 ∧
      t.rdN (Reg.TOUCH_REC n 3) = n ∧ t.bit (Reg.TOUCH_CLSSTAT c) 3 = true ∧ t.bit Reg.TOUCH_STAT c = true ∧
      t.fld (Reg.TOUCH_CLSSTAT c) 16 16 = n % 65536 ∧ t.bit Reg.TOUCH_IRQ 0 = true ∧
      (x = none → t.bit (Reg.TOUCH_CLSSTAT c) 4 = true ∧ t.bit Reg.TOUCH_STAT (16 + c) = true ∧
        t.fld (Reg.TOUCH_CLSSTAT c) 0 3 = if s.clsUnack c then max (s.clsLevel c) e else e) ∧
      (x.isSome = true → t.bit (Reg.TOUCH_CLSSTAT c) 4 = s.bit (Reg.TOUCH_CLSSTAT c) 4 ∧
        t.fld (Reg.TOUCH_CLSSTAT c) 0 3 = s.fld (Reg.TOUCH_CLSSTAT c) 0 3) ∧
      Keeps (inUnits [3]) [.reports, .expls, .touch, .out] s t)) ∧
    (∀ o, s.touch.opens.find? (fun o => o.sig == r.sig) = some o → s.rdN (Reg.TOUCH_REC o.seq 3) = o.seq →
      s.fld (Reg.TOUCH_REC o.seq 0) 8 3 ≤ 1 → Goes (.faultReport dt) s₀ (fun t =>
        t.reports = rest ∧ t.rd Reg.TOUCH_RECWR = s.rd Reg.TOUCH_RECWR ∧ t.touch.opens = s.touch.opens ∧
        t.rdN (Reg.TOUCH_REC o.seq 2) = satAdd 32 (s.rdN (Reg.TOUCH_REC o.seq 2)) 1 ∧
        t.rd (Reg.TOUCH_CLSSTAT c) = s.rd (Reg.TOUCH_CLSSTAT c) ∧
        Keeps (inUnits [3]) [.reports, .expls, .touch] s t)) ∧
    ((∀ o ∈ s.touch.opens, o.sig ≠ r.sig) → r.level = 4 → x = none → r.sig ≠ 0xB01 → c ≠ 11 → e = 4 → s.twinState ≠ 1 →
      s.twinState ≠ 2 → s.twinState ≠ 3 → s.bit Reg.GLB_CTL 0 = false → s.fld Reg.GLB_BOOTSTAT 0 4 = 10 →
      s.fld Reg.GLB_BOOTSTAT 4 4 ≠ 2 → Goes (.faultReport dt) s₀ (fun t =>
        t.boot.mode = 2 ∧ t.fld Reg.GLB_RSTCAUSE 0 4 = l4Cause r.sig ∧
        t.fld Reg.GLB_RSTCAUSE 16 16 = (s.fld Reg.GLB_RSTCAUSE 16 16 + 1) % 65536 ∧
        t.rdN Reg.TOUCH_L4SEQ = n % 2 ^ 31 + 2 ^ 31 ∧ t.rdN Reg.TOUCH_RECWR = (n + 1) % 2 ^ 32 ∧
        t.fld (Reg.TOUCH_REC n 0) 16 16 = r.sig ∧ Fresh t ∧ t.hostMem = s.hostMem ∧ t.pending = s.pending))) ∧
  (s.reports = [] → Goes (.coalesceWindowClose dt) s₀ (fun t =>
    (∀ o ∈ t.touch.opens, o ∈ s.touch.opens ∧ s.devTime < o.t + usTicks 2) ∧
    (∀ o ∈ s.touch.opens, o.t + usTicks 2 ≤ s.devTime → s.rdN (Reg.TOUCH_REC o.seq 3) = o.seq →
      t.bit (Reg.TOUCH_REC o.seq 1) 18 = false) ∧
    (∀ n, (∀ o ∈ s.touch.opens, o.seq % 256 ≠ n % 256) → ∀ w < 16, t.rd (Reg.TOUCH_REC n w) = s.rd (Reg.TOUCH_REC n w)) ∧
    Keeps (inUnits [3]) [.touch] s t)) ∧
  (∀ live : Nat → Bool, (∀ n, live n = s.expls.any (fun e => e.seq == n && s.explLive s.devTime e)) →
    Goes (.secondaryExpiry dt) s₀ (fun t =>
      t.touch.second = s.touch.second.filter (fun e => live e.2.2.2) ∧
      ((∀ e ∈ s.touch.second, e.1 / 256 ≠ 0) →
        (∀ e ∈ s.touch.second, live e.2.2.2 = false → s.hasCause (e.1 / 256) (e.1 % 256) e.2.1 = true →
          { sig := e.1, src := e.2.1, level := e.2.2.1, t := s.devTime } ∈ t.reports) ∧
        Keeps (inKeys []) [.reports, .touch] s t) ∧
      ((∀ e ∈ s.touch.second, live e.2.2.2 = true ∨ s.hasCause (e.1 / 256) (e.1 % 256) e.2.1 = false) →
        t.reports = s.reports ∧ Keeps (inKeys []) [.touch] s t) ∧
      Same [.regs, .reports, .causes, .expls, .events, .lanes, .bonds, .cams, .twin, .clk, .touch, .out] s t)) ∧
  (∀ w r b own, w = s.rdN Reg.TOUCH_RECWR →
    r = (if 256 < (w + 2 ^ 32 - s.rdN Reg.TOUCH_RECRD) % 2 ^ 32 then (w + 2 ^ 32 - 256) % 2 ^ 32 else s.rdN Reg.TOUCH_RECRD) →
    b = s.recBytes r → own = leAt b 7 1 / 16 →
    (r = w ∨ s.fwServes = false → Goes (.recordRead dt) s₀ (fun t => t = s)) ∧
    (r ≠ w → s.fwServes = true → Goes (.recordRead dt) s₀ (fun t =>
      t.rdN Reg.TOUCH_RECRD = (r + 1) % 2 ^ 32 ∧
      (∀ f, f = 0 ∨ f = own → (t.mbox f).faults =
        ((s.mbox f).faults ++ [b]).drop (((s.mbox f).faults ++ [b]).length - 64)) ∧
      (∀ f, f ≠ 0 → f ≠ own → (t.mbox f).faults = (s.mbox f).faults) ∧
      Keeps (inKeys (Reg.TOUCH_RECRD :: (List.range 16).map Reg.MBX_NOTLOST)) [.mboxes] s t)))

/-- The classes of faults (R483, R488, R493). A class at rest for QUIET recovers and counts it; a forced cause ends
after 1 µs; a force of a source that does not exist does nothing and counts; one of a bench core or of a
generator's TRIGDROP reports with FORCED. A tenant reset that firmware completes frees the tenant's pending
commands and its planes. -/
def Obligations.FaultClasses : Prop := (∀ (s₀ s : State) (dt : Nat), s = s₀.pass dt → s.boot.mode = 0 →
  (∀ c : Fin 15,
    (s.clsQuiet c.val = false → Goes (.classRecovery c dt) s₀ (fun t => t = s)) ∧
    (s.clsQuiet c.val = true → c.val ≠ 5 → Goes (.classRecovery c dt) s₀ (fun t =>
      t.bit (Reg.TOUCH_CLSSTAT c.val) 3 = false ∧ t.bit (Reg.TOUCH_CLSSTAT c.val) 4 = false ∧
      t.fld (Reg.TOUCH_CLSSTAT c.val) 0 3 = 0 ∧ t.bit Reg.TOUCH_STAT c.val = false ∧ t.bit Reg.TOUCH_STAT (16 + c.val) = false ∧
      t.rd (Reg.TOUCH_ARRAY c.val) = 0#32 ∧ t.bit Reg.TOUCH_IRQ 4 = true ∧
      t.fld (Reg.TOUCH_RECOV c.val) 0 16 = satAdd 16 (s.fld (Reg.TOUCH_RECOV c.val) 0 16) 1 ∧
      Keeps (inKeysI [Reg.TOUCH_CLSSTAT c.val, Reg.TOUCH_STAT, Reg.TOUCH_ARRAY c.val, Reg.TOUCH_RECOV c.val, Reg.TOUCH_IRQ])
        [.out] s t)) ∧
    (s.clsQuiet 5 = true → c.val = 5 → Goes (.classRecovery c dt) s₀ (fun t =>
      (∀ n < 8, t.axHold n = false) ∧ Same [.regs, .events, .axes, .out] s t))) ∧
  Goes (.causeEnd dt) s₀ (fun t =>
    t.touch.forced = s.touch.forced.filter (fun e => decide (s.devTime < e.2.2)) ∧
    (∀ e ∈ s.touch.forced, e.2.2 ≤ s.devTime → t.hasCause (e.1 / 256) (e.1 % 256) e.2.1 = false) ∧
    ((∀ e ∈ s.touch.forced, s.devTime < e.2.2) → t = s) ∧
    Same [.regs, .causes, .expls, .touch] s t) ∧
  (∀ k : Fin 16,
    ((∀ r ∈ s.touch.resets, r.t ≠ k.val) → Goes (.tenantResetDone k dt) s₀ (fun t => t = s)) ∧
    (s.bench.restart.isSome = true ∨ s.bench.inlay.isSome = true → Goes (.tenantResetDone k dt) s₀ (fun t => t = s)) ∧
    (∀ r, s.touch.resets.find? (fun r => r.t == k.val) = some r → s.bench.restart = none → s.bench.inlay = none →
      Goes (.tenantResetDone k dt) s₀ (fun t =>
        t.touch.resets = s.touch.resets.filter (fun x => x.t != k.val) ∧ (t.mbox k.val).mask = 0x7FFF ∧
        (r.cause ≠ 2 → r.cmds = [] → (∀ x ∈ s.bench.running, x.interim = false) →
          ∀ x ∈ t.bench.running, x ∈ s.bench.running ∧ x.tenant ≠ k.val) ∧
        (∀ x ∈ s.bench.running, (x.f, x.slot) ∈ r.cmds → x.interim = false → ∀ y ∈ t.bench.running,
          ¬ (y.f = x.f ∧ y.slot = x.slot)) ∧
        Same [.regs, .reports, .causes, .expls, .events, .lanes, .bonds, .cams, .asys, .views, .pages, .xfers, .noz, .twin,
          .memx, .mboxes, .bench, .clk, .pwr, .touch, .devMem, .out] s t)))) ∧
  (∀ (s : State) (c i src : Nat), Up s Reg.TOUCH_FORCECMD → c = s.fld Reg.TOUCH_FORCE 0 4 → i = s.fld Reg.TOUCH_FORCE 8 8 →
    src = s.fld Reg.TOUCH_FORCE 16 16 →
    (¬ (c < 15 ∧ 1 ≤ i ∧ i ≤ sigCount c ∧ srcExists c i src = true) → Goes .touchForceGo s (fun t =>
      t.fld Reg.TOUCH_FORCECNT 16 16 = satAdd 16 (s.fld Reg.TOUCH_FORCECNT 16 16) 1 ∧ Keeps (inKeys [Reg.TOUCH_FORCECNT]) [] s t)) ∧
    (c = 10 → 1 ≤ i → i ≤ 6 → srcExists 10 i src = true → Goes .touchForceGo s (fun t =>
      t.fld Reg.TOUCH_FORCECNT 0 16 = satAdd 16 (s.fld Reg.TOUCH_FORCECNT 0 16) 1 ∧
      t.reports = s.reports ++ [{
        sig := 0xA00 + i, src := src, level := s.baseLevel 10 i src, t := s.devTime, forced := true }] ∧
      Keeps (inKeys [Reg.TOUCH_FORCECNT]) [.reports] s t)) ∧
    (c = 6 → i = 4 → src < 96 → Goes .touchForceGo s (fun t =>
      t.fld Reg.TOUCH_FORCECNT 0 16 = satAdd 16 (s.fld Reg.TOUCH_FORCECNT 0 16) 1 ∧
      t.rdN (Reg.TRG_TSDROP src) = satAdd 32 (s.rdN (Reg.TRG_TSDROP src)) 1 ∧
      t.reports = s.reports ++ [{ sig := 0x604, src := src, level := s.baseLevel 6 4 src, t := s.devTime, forced := true }] ∧
      Keeps (inKeys [Reg.TOUCH_FORCECNT, Reg.TRG_TSDROP src]) [.reports] s t)))

/-- An acknowledgement (R486), by TOUCH_ACK or FAULT_ACK: UNACK and LEVEL of the class clear, with its TOUCH_ARRAY;
ACTIVE, the records, every other class and every reaction stand. -/
def Obligations.Acknowledgement : Prop :=  (∀ (s : State) (v : Word), Up s Reg.TOUCH_ACK → Goes (.touchAck v) s (fun t =>
    Acked (bitOf v) s t ∧
    Keeps (fun k => k = Reg.TOUCH_STAT ∨ ∃ c < 16, bitOf v c = true ∧ (k = Reg.TOUCH_CLSSTAT c ∨ k = Reg.TOUCH_ARRAY c)) [] s t)) ∧
  Serves 0x0902 .faultAck (fun _ c => [(c.short 1 [] || decide (14 < c.at 0 1), St.badParam)])
    (fun s c t _ => ∀ k, k = c.at 0 1 → Acked (fun n => n == k) s t ∧
      Keeps (inKeys [Reg.TOUCH_CLSSTAT k, Reg.TOUCH_STAT, Reg.TOUCH_ARRAY k]) [.mboxes, .bench] s t)

/-- Resets and the supply (R502, R503, R513, R524). PCIE_PERST_N holds the device in reset with CAUSE 1, and its
release starts it up; the key in GLB_RESET resets it with CAUSE 5, unless the start-up has stopped for good
(R510), and 10 µs later it starts up; main power that returns resets it with CAUSE 6; power-on clears everything;
the loss of main power leaves the always-on domain, the loss of the always-on rails nothing. Requests of a quench,
and the test port (R502, R514 to R517). QUENCH_N low for 40 ns while QPINEN is set, the key in GLB_QUENCH and the
test port's QUENCH freeze a device past stage 2, QUENCHED set and its output pins in the states of Table 17.4; a
request before stage 3, or by a shorter pulse, does nothing. READADDR answers in a quench; READDATA then gives the
word there, counts the address on and changes nothing of the device. TRST_N resets the test port alone. -/
def Obligations.Resets : Prop :=
  (∀ (s : State),
  Goes .por s (fun t => t.boot.mode = (if s.boot.perst then 1 else 0) ∧ Fresh t ∧ t.bootGen = s.bootGen + 1 ∧
    (∀ k, k ≠ Reg.BENCH_SVNMIN → t.rd k = resetOf t.bootGen k) ∧ t.pending = s.pending ∧ t.hostMem = s.hostMem) ∧
  Goes .alwaysOnRailLoss s (fun t => t.boot.mode = 5 ∧ Fresh t ∧ t.bootGen = s.bootGen + 1 ∧
    (∀ k, k ≠ Reg.BENCH_SVNMIN → t.rd k = resetOf t.bootGen k) ∧ t.pending = s.pending ∧ t.hostMem = s.hostMem) ∧
  (s.boot.mode < 4 → Goes .perstAssert s (fun t => t.boot.mode = 1 ∧ t.boot.perst = true ∧ ResetBy [] 1 s t)) ∧
  (4 ≤ s.boot.mode → Goes .perstAssert s (fun t => t.boot = { s.boot with perst := true } ∧ Keeps (inKeys []) [.boot] s t)) ∧
  Goes .perstRelease s (fun t => t.boot.perst = false ∧ t.boot.mode = (if s.boot.mode = 1 then 0 else s.boot.mode) ∧
    Keeps (inKeys []) [.boot] s t) ∧
  (∀ v : Word, Up s Reg.GLB_RESET →
    (v = 0xD1E5#32 → s.fld Reg.GLB_BOOTSTAT 4 4 ≠ 2 → Goes (.glbReset v) s (fun t => t.boot.mode = 2 ∧ ResetBy [] 5 s t)) ∧
    (v ≠ 0xD1E5#32 ∨ s.fld Reg.GLB_BOOTSTAT 4 4 = 2 → Goes (.glbReset v) s (fun t => t = s))) ∧
  (∀ dt, (s.boot.mode = 2 → s.boot.t + usTicks 10 ≤ s.after dt → Goes (.internalResetEnd dt) s (fun t =>
      t.boot.mode = 0 ∧ t.devTime = 0 ∧ Keeps (inKeys []) [.devTime, .boot] (s.pass dt) t)) ∧
    (s.boot.mode = 2 → s.after dt < s.boot.t + usTicks 10 → Goes (.internalResetEnd dt) s (fun t => t = s.pass dt)) ∧
    (s.boot.mode = 0 → Goes (.internalResetEnd dt) s (fun t => t = s.pass dt)) ∧
    (s.boot.mode ≠ 0 → s.boot.mode ≠ 2 → Goes (.internalResetEnd dt) s (fun t => t = s))) ∧
  (s.boot.mode ≠ 4 → s.boot.mode ≠ 5 → Goes .mainPowerLoss s (fun t => t.boot.mode = 4 ∧ RecordsKept s t ∧ Fresh t ∧
    t.rd Reg.GLB_RSTCAUSE = s.rd Reg.GLB_RSTCAUSE ∧ t.rd Reg.PWR_THERM = s.rd Reg.PWR_THERM ∧
    t.rd Reg.PWR_TEMP = s.rd Reg.PWR_TEMP ∧ t.pending = s.pending ∧ t.hostMem = s.hostMem)) ∧
  (s.boot.mode = 4 ∨ s.boot.mode = 5 → Goes .mainPowerLoss s (fun t => t = s)) ∧
  (s.boot.mode = 4 → Goes .mainPowerReturn s (fun t => t.boot.mode = (if s.boot.perst then 1 else 0) ∧
    t.rd Reg.HOSTEP_WAKESTAT = w32 s.boot.woke ∧ ResetBy [Reg.HOSTEP_WAKESTAT] 6 s t)) ∧
  (s.boot.mode ≠ 4 → Goes .mainPowerReturn s (fun t => t = s))) ∧
  (∀ (s : State),
  (∀ dt, (s.boot.mode = 0 → 3 ≤ s.fld Reg.GLB_BOOTSTAT 0 4 → s.bit Reg.GLB_CTL 1 = true → 64 ≤ dt →
      Goes (.quenchN dt) s (fun t => t.boot.mode = 3 ∧ t.bit Reg.GLB_RSTCAUSE 4 = true ∧
        t.bit Reg.GLB_RSTCAUSE 5 = false ∧ Keeps (inKeys [Reg.GLB_RSTCAUSE]) [.boot, .out] (s.pass 64) t)) ∧
    (s.boot.mode = 0 → s.fld Reg.GLB_BOOTSTAT 0 4 < 3 ∨ s.bit Reg.GLB_CTL 1 = false ∨ dt < 64 →
      Goes (.quenchN dt) s (fun t => t = s.pass dt)) ∧
    (s.boot.mode ≠ 0 → Goes (.quenchN dt) s (fun t => t = s))) ∧
  (∀ v : Word, Up s Reg.GLB_QUENCH →
    (v = 0xC0DA#32 → 3 ≤ s.fld Reg.GLB_BOOTSTAT 0 4 → Goes (.glbQuench v) s (fun t => t.boot.mode = 3 ∧
      t.bit Reg.GLB_RSTCAUSE 4 = true ∧ t.bit Reg.GLB_RSTCAUSE 5 = true ∧
      (∀ p < 32, s.pinDriven p = true → .float p s.devTime ∈ t.out) ∧ (s.twin.alive = true → .alive false s.devTime ∈ t.out) ∧
      Keeps (inKeys [Reg.GLB_RSTCAUSE]) [.boot, .out] s t)) ∧
    (v ≠ 0xC0DA#32 ∨ s.fld Reg.GLB_BOOTSTAT 0 4 < 3 → Goes (.glbQuench v) s (fun t => t = s))) ∧
  Goes .trstN s (fun t => t.boot = { s.boot with ir := 2, addr := 0, data := 0 } ∧ Keeps (inKeys []) [.boot] s t) ∧
  (∀ (ir : BitVec 8) (dr : BitVec 40),
    (s.boot.mode = 5 → Goes (.tapInstruction ir dr) s (fun t => t = s)) ∧
    (s.boot.mode ≠ 5 →
      (ir = 0x02#8 → Goes (.tapInstruction ir dr) s (fun t => t.boot = { s.boot with ir := 2 } ∧
        t.out = .tap 32 (Config.revIndex.toNat * 2 ^ 28 + 0x9624 * 2 ^ 12 + Config.jtagMaker.toNat * 2 + 1) :: s.out ∧
        Keeps (inKeys []) [.boot, .out] s t)) ∧
      (ir = 0x20#8 → s.boot.mode = 0 → 3 ≤ s.fld Reg.GLB_BOOTSTAT 0 4 → Goes (.tapInstruction ir dr) s (fun t =>
        t.boot.mode = 3 ∧ t.boot.ir = 0x20 ∧ t.bit Reg.GLB_RSTCAUSE 4 = true ∧
        Keeps (inKeys [Reg.GLB_RSTCAUSE]) [.freeIdx, .boot, .out] s t)) ∧
      (ir = 0x20#8 → s.boot.mode ≠ 0 ∨ s.fld Reg.GLB_BOOTSTAT 0 4 < 3 → Goes (.tapInstruction ir dr) s (fun t =>
        t.boot = { s.boot with ir := 0x20 } ∧ Keeps (inKeys []) [.freeIdx, .boot] s t)) ∧
      (ir = 0x21#8 → Goes (.tapInstruction ir dr) s (fun t =>
        t.boot = { s.boot with ir := 0x21, addr := if s.boot.mode = 3 then dr else s.boot.addr } ∧
        Keeps (inKeys []) [.boot] s t)) ∧
      (ir ≠ 0x02#8 → ir ≠ 0x20#8 → ir ≠ 0x21#8 → Goes (.tapInstruction ir dr) s (fun t =>
        t.boot = { s.boot with ir := ir.toNat } ∧ Keeps (inKeys []) [.boot] s t)))) ∧
  (s.boot.mode = 3 → s.boot.ir = 0x22 → Goes .readdata s (fun t =>
    t.out = .tap 72 (s.probe s.boot.addr.toNat).1 :: s.out ∧ t.boot.mode = 3 ∧
    t.boot.addr.toNat = s.boot.addr.toNat / 2 ^ 36 * 2 ^ 36 + (s.boot.addr.toNat + 1) % 2 ^ 36 ∧
    (∀ w, s.boot.addr.toNat = w → 8 * w < 0x4000000 → s.domOn (busDomain (8 * w)) = false → busDomain (8 * w) ≠ 0 →
      t.out = .tap 72 (0xFF * 2 ^ 64) :: s.out) ∧
    Keeps (inKeys []) [.freeIdx, .boot, .out] s t)) ∧
  (s.boot.mode ≠ 3 ∨ s.boot.ir ≠ 0x22 → Goes .readdata s (fun t => t = s)))

/-- The start-up (R504 to R509, Table 17.2). A stage ends only where nothing has stopped the start-up, and WAITREF
only with its reference. The stages turn on the timebase, whose device time then counts from 0, the host domain,
the fabric and the bench, read the board block, map memory around failed pseudo-channels, run the image of the
active slot or else of the other, turn on the capture domains and the units' clocks, and set READY in every
function. An image in BAR2 runs where the start-up waits for one. -/
def Obligations.StartUp : Prop := ∀ (s₀ s : State) (bad : List (Fin 5 × Nat)) (dt : Nat), s = s₀.pass dt → s.boot.mode = 0 →
  (s.stageOpen = false → Goes (.startupStage bad dt) s₀ (fun t => t = s)) ∧
  (∀ st, st = s.fld Reg.GLB_BOOTSTAT 0 4 → s.stageOpen = true →
    (st = 0 → Goes (.startupStage bad dt) s₀ (fun t =>
      t.fld Reg.GLB_BOOTSTAT 0 4 = 1 ∧ Keeps (inKeys [Reg.GLB_BOOTSTAT]) [] s t)) ∧
    (st = 1 → Goes (.startupStage bad dt) s₀ (fun t =>
      t.fld Reg.GLB_BOOTSTAT 0 4 = 2 ∧ t.devTime = 0 ∧ t.boot.tR = s.boot.tR + s.devTime ∧
      t.bit (Reg.CLK_PLLSTAT 0) 0 = true ∧ t.bit Reg.CLK_MON 8 = true ∧ t.rd (Reg.CLK_MUX 0) = 1#32 ∧ t.rd (Reg.CLK_MUX 1) = 1#32 ∧
      Keeps (inKeys [Reg.GLB_BOOTSTAT, Reg.CLK_PLLSTAT 0, Reg.CLK_MON, Reg.CLK_MUX 0, Reg.CLK_MUX 1, Reg.CLK_MUXSTAT 0,
        Reg.CLK_MUXSTAT 1]) [.devTime, .boot] s t)) ∧
    (st = 2 → Goes (.startupStage bad dt) s₀ (fun t =>
      t.fld Reg.GLB_BOOTSTAT 0 4 = 3 ∧ t.domOn 1 = true ∧ t.bit (Reg.CLK_PLLSTAT 3) 0 = true ∧ Same [.regs, .out] s t)) ∧
    (st = 3 → Goes (.startupStage bad dt) s₀ (fun t =>
      t.fld Reg.GLB_BOOTSTAT 0 4 = 4 ∧ t.domOn 2 = true ∧ t.domOn 3 = true ∧ t.clkOn 224 = true ∧
      Same [.regs, .out] s t)) ∧
    (st = 4 → Goes (.startupStage bad dt) s₀ (fun t => t.fld Reg.GLB_BOOTSTAT 0 4 = 5 ∧
      (if crc32 (Config.boardBlock.take 8) = leAt Config.boardBlock 8 4 ∧ 12 ≤ Config.boardBlock.length then
        t.host.subsys = leAt Config.boardBlock 0 4 ∧ t.fld Reg.HOSTEP_VFMEMSZ 0 3 = leAt Config.boardBlock 4 1 % 8
      else t.fld Reg.GLB_BOOTSTAT 4 4 = 3) ∧
      Keeps (inKeys [Reg.GLB_BOOTSTAT, Reg.HOSTEP_VFMEMSZ]) [.host] s t)) ∧
    (st = 5 → bad = [] → Goes (.startupStage bad dt) s₀ (fun t => t.fld Reg.GLB_BOOTSTAT 0 4 = 6 ∧ t.domOn 4 = true ∧
      t.domOn 5 = true ∧ t.clkOn 229 = true ∧ t.clkOn 230 = true ∧ t.bit Reg.MEM_CTL 0 = true ∧
      (∀ l < 60, t.rd (Reg.MEM_PCMAP l) = w32 (32 * (l / 30) + l % 30)) ∧ t.memx = { s.memx with monT := s.devTime } ∧
      Same [.regs, .memx, .out] s t)) ∧
    (st = 6 → ∀ img oth, img = s.flashSlot s.bootB → oth = s.flashSlot (!s.bootB) → Goes (.startupStage bad dt) s₀ (fun t =>
      t.fld Reg.GLB_BOOTSTAT 0 4 = 7 ∧
      (s.bootCheck img = 0 → t.bench = { s.bench with fw := imageInfo img } ∧ t.bit Reg.GLB_BOOTSTAT 8 = s.bootB) ∧
      (s.bootCheck img ≠ 0 → s.bootCheck oth = 0 → t.bench = { s.bench with fw := imageInfo oth } ∧
        t.bit Reg.GLB_BOOTSTAT 8 = !s.bootB ∧ t.bit Reg.GLB_BOOTSTAT 9 = true) ∧
      (s.bootCheck img ≠ 0 → s.bootCheck oth ≠ 0 → t.bench = s.bench ∧ t.fld Reg.GLB_BOOTSTAT 4 4 = 1) ∧
      Keeps (inKeys [Reg.GLB_BOOTSTAT]) [.bench] s t)) ∧
    (st = 7 → Goes (.startupStage bad dt) s₀ (fun t => t.fld Reg.GLB_BOOTSTAT 0 4 = 8 ∧ (∀ d, 6 ≤ d → d < 24 → t.domOn d = true) ∧
      t.clkOn 225 = true ∧ t.clkOn 226 = true ∧ t.clkOn 227 = true ∧ Same [.regs, .clk, .out] s t)) ∧
    (st = 8 → bad = [] → Goes (.startupStage bad dt) s₀ (fun t => t.fld Reg.GLB_BOOTSTAT 0 4 = 9 ∧
      (∀ b < 247, t.clkOn b = true) ∧ (∀ k < 8, t.bit Reg.LANE_SPRUE k = true ∧ t.bit Reg.PIPE_SPRUE k = true) ∧
      t.bench.failed = [] ∧ Same [.regs, .bench] s t)) ∧
    (st = 9 → s.host.d3wait = false → (∀ b < 32, (s.nbank b).waiting = []) → (∀ e < 16, s.bit (Reg.DMA_ENGSTAT e) 10 = false) →
      s.bit Reg.MEM_STAT 3 = false → Goes (.startupStage bad dt) s₀ (fun t => t.fld Reg.GLB_BOOTSTAT 0 4 = 10 ∧
      (∀ f < 16, t.bit (Reg.MBX_STAT f) 0 = true ∧ (0 < f → t.bit (Reg.MBX_STAT f) 4 = true)) ∧ t.fld Reg.GLB_BOOTSTAT 14 2 = 0 ∧
      t.fld Reg.GLB_BOOTTIME 0 20 = (s.boot.tR + s.devTime) / usTicks 1000 % 2 ^ 20 ∧ Same [.regs, .host] s t))) ∧
  (Up s Reg.GLB_BOOTCMD →
    (s.fld Reg.GLB_BOOTSTAT 0 4 = 7 → s.fld Reg.GLB_BOOTSTAT 4 4 = 1 →
      ∀ img, img = (s.devRead 0 (s.fld Reg.GLB_RECOVLEN 0 25)).1 → Goes .loadmem s (fun t =>
        (s.bootCheck img = 0 → t.bench = { s.bench with fw := imageInfo img } ∧ t.fld Reg.GLB_BOOTSTAT 4 4 = 0 ∧
          t.bit Reg.GLB_BOOTSTAT 10 = true) ∧
        (s.bootCheck img ≠ 0 → t = s) ∧ Keeps (inKeys [Reg.GLB_BOOTSTAT]) [.bench] s t)) ∧
    (s.fld Reg.GLB_BOOTSTAT 0 4 ≠ 7 ∨ s.fld Reg.GLB_BOOTSTAT 4 4 ≠ 1 → Goes .loadmem s (fun t => t = s)))

end Statements
end

