-- ==== Sys2Proof/Laws/Store.lean ====
section
/-!
SUPPORT. What the sparse stores and the byte memories do: a read after a write, and the canonical form kept by every
operation that writes one.
-/
namespace Sys2Proof.Machine
open Sys2Proof

theorem sget_sdel {α : Type} (d : Nat → α) (l : List (Nat × α)) (k j : Nat) :
    sget d (sdel k l) j = if j = k then d j else sget d l j := by
  induction l with
  | nil => simp [sdel, sget]
  | cons e r ih =>
    obtain ⟨i, v⟩ := e
    by_cases hi : i = k
    · subst hi
      by_cases hj : j = i
      · subst hj; simpa [sdel] using ih
      · simp only [sdel, if_true, ih, sget, if_neg hj, if_neg (fun h => hj (Eq.symm h))]
    · simp only [sdel, if_neg hi, sget, ih]
      by_cases hj : j = k
      · subst hj; simp [hi]
      · simp [hj]

theorem sget_sins {α : Type} (d : Nat → α) (l : List (Nat × α)) (k j : Nat) (v : α) :
    sget d (sins k v l) j = if j = k then v else sget d l j := by
  induction l with
  | nil => simp [sins, sget, eq_comm]
  | cons e r ih =>
    obtain ⟨i, w⟩ := e
    unfold sins
    split
    · simp [sget, eq_comm]
    · split
      · rename_i h
        subst h
        by_cases hj : j = k
        · subst hj; simp [sget]
        · simp [sget, hj, show ¬ k = j from fun h => hj (Eq.symm h)]
      · rename_i h
        by_cases hj : j = k
        · subst hj
          simp only [sget, ih]
          rw [if_neg (fun he => h he.symm)]
          simp
        · simp only [sget, ih, if_neg hj]

/-- A read after a write gives the value written, and every other key reads as before. -/
theorem sget_sset {α : Type} [DecidableEq α] (d : Nat → α) (l : List (Nat × α)) (k j : Nat) (v : α) :
    sget d (sset d l k v) j = if j = k then v else sget d l j := by
  unfold sset
  split
  · rename_i h; rw [sget_sdel]; split
    · rename_i hj; rw [hj, h]
    · rfl
  · exact sget_sins d l k j v

theorem risesAbove_mono {α : Type} {a b : Nat} {l : List (Nat × α)} (h : risesAbove b l = true) (hab : a ≤ b) :
    risesAbove a l = true := by
  cases l with
  | nil => rfl
  | cons e r =>
    simp only [risesAbove, Bool.and_eq_true, decide_eq_true_eq] at h ⊢
    exact ⟨Nat.lt_of_le_of_lt hab h.1, h.2⟩

theorem risesAbove_tail {α : Type} {b k : Nat} {v : α} {l : List (Nat × α)} (h : risesAbove b ((k, v) :: l) = true) :
    risesAbove b l = true := by
  simp [risesAbove] at h
  exact risesAbove_mono h.2 (Nat.le_of_lt h.1)

theorem risesAbove_sdel {α : Type} (k b : Nat) (l : List (Nat × α)) (h : risesAbove b l = true) :
    risesAbove b (sdel k l) = true := by
  induction l generalizing b with
  | nil => rfl
  | cons e r ih =>
    obtain ⟨i, v⟩ := e
    unfold sdel
    split
    · exact ih b (risesAbove_tail h)
    · simp [risesAbove] at h ⊢
      exact ⟨h.1, ih i h.2⟩

theorem risesAbove_sins {α : Type} (k b : Nat) (v : α) (l : List (Nat × α)) (h : risesAbove b l = true) (hb : b < k) :
    risesAbove b (sins k v l) = true := by
  induction l generalizing b with
  | nil => simp [sins, risesAbove, hb]
  | cons e r ih =>
    obtain ⟨i, w⟩ := e
    simp [risesAbove] at h
    unfold sins
    split
    · rename_i hk; simp [risesAbove, hb, hk, h.2]
    · split
      · rename_i _ hk; subst hk; simp [risesAbove, h]
      · rename_i h1 h2
        simp [risesAbove, h.1]
        exact ih i h.2 (by omega)

theorem rises_of_risesAbove {α : Type} {b : Nat} {l : List (Nat × α)} (h : risesAbove b l = true) : rises l = true := by
  cases l with
  | nil => rfl
  | cons e r => simp [risesAbove] at h; exact h.2

theorem rises_sdel {α : Type} (k : Nat) (l : List (Nat × α)) (h : rises l = true) : rises (sdel k l) = true := by
  cases l with
  | nil => rfl
  | cons e r =>
    obtain ⟨i, v⟩ := e
    unfold sdel
    split
    · exact rises_of_risesAbove (risesAbove_sdel k i r h)
    · exact risesAbove_sdel k i r h

theorem rises_sins {α : Type} (k : Nat) (v : α) (l : List (Nat × α)) (h : rises l = true) : rises (sins k v l) = true := by
  cases l with
  | nil => rfl
  | cons e r =>
    obtain ⟨i, w⟩ := e
    unfold sins
    split
    · rename_i hk; simp [rises, risesAbove, hk]; exact h
    · split
      · rename_i _ hk; subst hk; exact h
      · exact risesAbove_sins k i v r h (by omega)

theorem noDefault_sdel {α : Type} [DecidableEq α] (d : Nat → α) (k : Nat) (l : List (Nat × α))
    (h : noDefault d l = true) : noDefault d (sdel k l) = true := by
  induction l with
  | nil => rfl
  | cons e r ih =>
    obtain ⟨i, v⟩ := e
    simp only [noDefault, List.all_cons, Bool.and_eq_true] at h
    unfold sdel
    split
    · exact ih h.2
    · simp only [noDefault, List.all_cons, Bool.and_eq_true]
      exact ⟨h.1, ih h.2⟩

theorem noDefault_sins {α : Type} [DecidableEq α] (d : Nat → α) (k : Nat) (v : α) (l : List (Nat × α))
    (h : noDefault d l = true) (hv : v ≠ d k) : noDefault d (sins k v l) = true := by
  induction l with
  | nil => simp [sins, noDefault, hv]
  | cons e r ih =>
    obtain ⟨i, w⟩ := e
    have h' := h
    simp only [noDefault, List.all_cons, Bool.and_eq_true] at h
    unfold sins
    split
    · simp only [noDefault, List.all_cons, Bool.and_eq_true]
      exact ⟨by simpa using hv, h⟩
    · split
      · simp only [noDefault, List.all_cons, Bool.and_eq_true]
        exact ⟨by simpa using hv, h.2⟩
      · simp only [noDefault, List.all_cons, Bool.and_eq_true]
        exact ⟨h.1, ih h.2⟩

/-- A write keeps the canonical form. -/
theorem swf_sset {α : Type} [DecidableEq α] (d : Nat → α) (l : List (Nat × α)) (k : Nat) (v : α)
    (h : swf d l = true) : swf d (sset d l k v) = true := by
  simp only [swf, Bool.and_eq_true] at h ⊢
  unfold sset
  split
  · exact ⟨rises_sdel k l h.1, noDefault_sdel d k l h.2⟩
  · rename_i hv
    exact ⟨rises_sins k v l h.1, noDefault_sins d k v l h.2 hv⟩

theorem risesAbove_filter {α : Type} (p : Nat × α → Bool) (b : Nat) (l : List (Nat × α)) (h : risesAbove b l = true) :
    risesAbove b (l.filter p) = true := by
  induction l generalizing b with
  | nil => rfl
  | cons e r ih =>
    obtain ⟨i, v⟩ := e
    rw [List.filter_cons]
    split
    · simp [risesAbove] at h ⊢
      exact ⟨h.1, ih i h.2⟩
    · exact ih b (risesAbove_tail h)

/-- Keeping some entries keeps the canonical form. -/
theorem swf_filter {α : Type} [DecidableEq α] (d : Nat → α) (p : Nat × α → Bool) (l : List (Nat × α))
    (h : swf d l = true) : swf d (l.filter p) = true := by
  simp only [swf, Bool.and_eq_true] at h ⊢
  refine ⟨?_, ?_⟩
  · cases l with
    | nil => rfl
    | cons e r =>
      obtain ⟨i, v⟩ := e
      rw [List.filter_cons]
      split
      · exact risesAbove_filter p i r h.1
      · exact rises_of_risesAbove (risesAbove_filter p i r h.1)
  · have h2 := h.2
    simp only [noDefault, List.all_eq_true, List.mem_filter] at h2 ⊢
    intro e he
    exact h2 e he.1

theorem sget_skeep {α : Type} (d : Nat → α) (p : Nat → Bool) (l : List (Nat × α)) (j : Nat) :
    sget d (skeep p l) j = if p j then sget d l j else d j := by
  unfold skeep
  induction l with
  | nil => simp [sget]
  | cons e r ih =>
    obtain ⟨i, v⟩ := e
    rw [List.filter_cons]
    by_cases hi : p i = true
    · simp only [hi, if_true, sget, ih]
      by_cases hj : i = j
      · subst hj; simp [hi]
      · simp [hj]
    · simp only [hi, sget]
      by_cases hj : i = j
      · subst hj; simpa [hi] using ih
      · simpa [hj] using ih

/-! ## Byte memories -/

/-- The byte at an address after one byte has been written. -/
theorem memGet_sset (m : List Host.Cell) (a j : Nat) (b : Byte) :
    memGet (sset (fun _ => 0#8) m a b) j = if j = a then b else memGet m j := sget_sset _ m a j b

/-- Writing bytes keeps the canonical form of a memory. -/
theorem memWrite_wf (m : List Host.Cell) (a : Nat) (bs : List Byte) (h : Memory.wf m = true) :
    Memory.wf (memWrite m a bs) = true := by
  induction bs generalizing m a with
  | nil => exact h
  | cons b r ih => exact ih _ _ (swf_sset _ m a b h)

/-- A write reaches the bytes it names and no other. -/
theorem memGet_memWrite (m : List Host.Cell) (a : Nat) (bs : List Byte) (j : Nat) :
    memGet (memWrite m a bs) j = if a ≤ j ∧ j < a + bs.length then nth bs (j - a) 0#8 else memGet m j := by
  induction bs generalizing m a with
  | nil =>
    have h : ¬ (a ≤ j ∧ j < a + ([] : List Byte).length) := by simp only [List.length_nil]; omega
    exact (if_neg h).symm
  | cons b r ih =>
    show memGet (memWrite (sset (fun _ => 0#8) m a b) (a + 1) r) j = _
    rw [ih, memGet_sset]
    by_cases h1 : j = a
    · subst h1
      have : ¬ (j + 1 ≤ j ∧ j < j + 1 + r.length) := by omega
      have h2 : j ≤ j ∧ j < j + (b :: r).length := by simp
      rw [if_neg this, if_pos h2, if_pos rfl]
      simp [nth]
    · by_cases h2 : a + 1 ≤ j ∧ j < a + 1 + r.length
      · have h3 : a ≤ j ∧ j < a + (b :: r).length := by simp; omega
        rw [if_pos h2, if_pos h3]
        have : j - a = (j - (a + 1)) + 1 := by omega
        rw [this]; simp [nth]
      · have h3 : ¬ (a ≤ j ∧ j < a + (b :: r).length) := by simp; omega
        rw [if_neg h2, if_neg h3, if_neg h1]

end Sys2Proof.Machine
end

