-- ==== Sys2Proof/Laws/State.lean ====
section
/-!
SUPPORT. One lemma for each field of the state and each basic update: which field an update writes and that it leaves every
other field as it was. All are true by definition; with them no proof unfolds a record update. Each is proved as id rfl, so
that simp rewrites with it: a step that simp takes by definition alone makes the kernel compare whole states.
-/
namespace Sys2Proof.Machine
open Sys2Proof

/-! ## wr -/

@[simp] theorem State.wr_pending (s : State) (k : Nat) (v : Word) : (s.wr k v).pending = s.pending := id rfl
@[simp] theorem State.wr_devTime (s : State) (k : Nat) (v : Word) : (s.wr k v).devTime = s.devTime := id rfl
@[simp] theorem State.wr_bootGen (s : State) (k : Nat) (v : Word) : (s.wr k v).bootGen = s.bootGen := id rfl
@[simp] theorem State.wr_freeIdx (s : State) (k : Nat) (v : Word) : (s.wr k v).freeIdx = s.freeIdx := id rfl
@[simp] theorem State.wr_hiLatch (s : State) (k : Nat) (v : Word) : (s.wr k v).hiLatch = s.hiLatch := id rfl
@[simp] theorem State.wr_tick (s : State) (k : Nat) (v : Word) : (s.wr k v).tick = s.tick := id rfl
@[simp] theorem State.wr_idleT (s : State) (k : Nat) (v : Word) : (s.wr k v).idleT = s.idleT := id rfl
@[simp] theorem State.wr_slew (s : State) (k : Nat) (v : Word) : (s.wr k v).slew = s.slew := id rfl
@[simp] theorem State.wr_reports (s : State) (k : Nat) (v : Word) : (s.wr k v).reports = s.reports := id rfl
@[simp] theorem State.wr_causes (s : State) (k : Nat) (v : Word) : (s.wr k v).causes = s.causes := id rfl
@[simp] theorem State.wr_expls (s : State) (k : Nat) (v : Word) : (s.wr k v).expls = s.expls := id rfl
@[simp] theorem State.wr_events (s : State) (k : Nat) (v : Word) : (s.wr k v).events = s.events := id rfl
@[simp] theorem State.wr_axes (s : State) (k : Nat) (v : Word) : (s.wr k v).axes = s.axes := id rfl
@[simp] theorem State.wr_gens (s : State) (k : Nat) (v : Word) : (s.wr k v).gens = s.gens := id rfl
@[simp] theorem State.wr_lists (s : State) (k : Nat) (v : Word) : (s.wr k v).lists = s.lists := id rfl
@[simp] theorem State.wr_pins (s : State) (k : Nat) (v : Word) : (s.wr k v).pins = s.pins := id rfl
@[simp] theorem State.wr_pairs (s : State) (k : Nat) (v : Word) : (s.wr k v).pairs = s.pairs := id rfl
@[simp] theorem State.wr_trigIns (s : State) (k : Nat) (v : Word) : (s.wr k v).trigIns = s.trigIns := id rfl
@[simp] theorem State.wr_sched (s : State) (k : Nat) (v : Word) : (s.wr k v).sched = s.sched := id rfl
@[simp] theorem State.wr_lanes (s : State) (k : Nat) (v : Word) : (s.wr k v).lanes = s.lanes := id rfl
@[simp] theorem State.wr_bonds (s : State) (k : Nat) (v : Word) : (s.wr k v).bonds = s.bonds := id rfl
@[simp] theorem State.wr_cams (s : State) (k : Nat) (v : Word) : (s.wr k v).cams = s.cams := id rfl
@[simp] theorem State.wr_pipes (s : State) (k : Nat) (v : Word) : (s.wr k v).pipes = s.pipes := id rfl
@[simp] theorem State.wr_asys (s : State) (k : Nat) (v : Word) : (s.wr k v).asys = s.asys := id rfl
@[simp] theorem State.wr_views (s : State) (k : Nat) (v : Word) : (s.wr k v).views = s.views := id rfl
@[simp] theorem State.wr_pages (s : State) (k : Nat) (v : Word) : (s.wr k v).pages = s.pages := id rfl
@[simp] theorem State.wr_crus (s : State) (k : Nat) (v : Word) : (s.wr k v).crus = s.crus := id rfl
@[simp] theorem State.wr_rings (s : State) (k : Nat) (v : Word) : (s.wr k v).rings = s.rings := id rfl
@[simp] theorem State.wr_xfers (s : State) (k : Nat) (v : Word) : (s.wr k v).xfers = s.xfers := id rfl
@[simp] theorem State.wr_host (s : State) (k : Nat) (v : Word) : (s.wr k v).host = s.host := id rfl
@[simp] theorem State.wr_noz (s : State) (k : Nat) (v : Word) : (s.wr k v).noz = s.noz := id rfl
@[simp] theorem State.wr_nbanks (s : State) (k : Nat) (v : Word) : (s.wr k v).nbanks = s.nbanks := id rfl
@[simp] theorem State.wr_twin (s : State) (k : Nat) (v : Word) : (s.wr k v).twin = s.twin := id rfl
@[simp] theorem State.wr_memx (s : State) (k : Nat) (v : Word) : (s.wr k v).memx = s.memx := id rfl
@[simp] theorem State.wr_chans (s : State) (k : Nat) (v : Word) : (s.wr k v).chans = s.chans := id rfl
@[simp] theorem State.wr_engines (s : State) (k : Nat) (v : Word) : (s.wr k v).engines = s.engines := id rfl
@[simp] theorem State.wr_mboxes (s : State) (k : Nat) (v : Word) : (s.wr k v).mboxes = s.mboxes := id rfl
@[simp] theorem State.wr_bench (s : State) (k : Nat) (v : Word) : (s.wr k v).bench = s.bench := id rfl
@[simp] theorem State.wr_clk (s : State) (k : Nat) (v : Word) : (s.wr k v).clk = s.clk := id rfl
@[simp] theorem State.wr_pwr (s : State) (k : Nat) (v : Word) : (s.wr k v).pwr = s.pwr := id rfl
@[simp] theorem State.wr_touch (s : State) (k : Nat) (v : Word) : (s.wr k v).touch = s.touch := id rfl
@[simp] theorem State.wr_boot (s : State) (k : Nat) (v : Word) : (s.wr k v).boot = s.boot := id rfl
@[simp] theorem State.wr_devMem (s : State) (k : Nat) (v : Word) : (s.wr k v).devMem = s.devMem := id rfl
@[simp] theorem State.wr_hostMem (s : State) (k : Nat) (v : Word) : (s.wr k v).hostMem = s.hostMem := id rfl
@[simp] theorem State.wr_parts (s : State) (k : Nat) (v : Word) : (s.wr k v).parts = s.parts := id rfl
@[simp] theorem State.wr_out (s : State) (k : Nat) (v : Word) : (s.wr k v).out = s.out := id rfl

/-! ## setFld -/

@[simp] theorem State.setFld_pending (s : State) (k lo n v : Nat) : (s.setFld k lo n v).pending = s.pending := id rfl
@[simp] theorem State.setFld_devTime (s : State) (k lo n v : Nat) : (s.setFld k lo n v).devTime = s.devTime := id rfl
@[simp] theorem State.setFld_bootGen (s : State) (k lo n v : Nat) : (s.setFld k lo n v).bootGen = s.bootGen := id rfl
@[simp] theorem State.setFld_freeIdx (s : State) (k lo n v : Nat) : (s.setFld k lo n v).freeIdx = s.freeIdx := id rfl
@[simp] theorem State.setFld_hiLatch (s : State) (k lo n v : Nat) : (s.setFld k lo n v).hiLatch = s.hiLatch := id rfl
@[simp] theorem State.setFld_tick (s : State) (k lo n v : Nat) : (s.setFld k lo n v).tick = s.tick := id rfl
@[simp] theorem State.setFld_idleT (s : State) (k lo n v : Nat) : (s.setFld k lo n v).idleT = s.idleT := id rfl
@[simp] theorem State.setFld_slew (s : State) (k lo n v : Nat) : (s.setFld k lo n v).slew = s.slew := id rfl
@[simp] theorem State.setFld_reports (s : State) (k lo n v : Nat) : (s.setFld k lo n v).reports = s.reports := id rfl
@[simp] theorem State.setFld_causes (s : State) (k lo n v : Nat) : (s.setFld k lo n v).causes = s.causes := id rfl
@[simp] theorem State.setFld_expls (s : State) (k lo n v : Nat) : (s.setFld k lo n v).expls = s.expls := id rfl
@[simp] theorem State.setFld_events (s : State) (k lo n v : Nat) : (s.setFld k lo n v).events = s.events := id rfl
@[simp] theorem State.setFld_axes (s : State) (k lo n v : Nat) : (s.setFld k lo n v).axes = s.axes := id rfl
@[simp] theorem State.setFld_gens (s : State) (k lo n v : Nat) : (s.setFld k lo n v).gens = s.gens := id rfl
@[simp] theorem State.setFld_lists (s : State) (k lo n v : Nat) : (s.setFld k lo n v).lists = s.lists := id rfl
@[simp] theorem State.setFld_pins (s : State) (k lo n v : Nat) : (s.setFld k lo n v).pins = s.pins := id rfl
@[simp] theorem State.setFld_pairs (s : State) (k lo n v : Nat) : (s.setFld k lo n v).pairs = s.pairs := id rfl
@[simp] theorem State.setFld_trigIns (s : State) (k lo n v : Nat) : (s.setFld k lo n v).trigIns = s.trigIns := id rfl
@[simp] theorem State.setFld_sched (s : State) (k lo n v : Nat) : (s.setFld k lo n v).sched = s.sched := id rfl
@[simp] theorem State.setFld_lanes (s : State) (k lo n v : Nat) : (s.setFld k lo n v).lanes = s.lanes := id rfl
@[simp] theorem State.setFld_bonds (s : State) (k lo n v : Nat) : (s.setFld k lo n v).bonds = s.bonds := id rfl
@[simp] theorem State.setFld_cams (s : State) (k lo n v : Nat) : (s.setFld k lo n v).cams = s.cams := id rfl
@[simp] theorem State.setFld_pipes (s : State) (k lo n v : Nat) : (s.setFld k lo n v).pipes = s.pipes := id rfl
@[simp] theorem State.setFld_asys (s : State) (k lo n v : Nat) : (s.setFld k lo n v).asys = s.asys := id rfl
@[simp] theorem State.setFld_views (s : State) (k lo n v : Nat) : (s.setFld k lo n v).views = s.views := id rfl
@[simp] theorem State.setFld_pages (s : State) (k lo n v : Nat) : (s.setFld k lo n v).pages = s.pages := id rfl
@[simp] theorem State.setFld_crus (s : State) (k lo n v : Nat) : (s.setFld k lo n v).crus = s.crus := id rfl
@[simp] theorem State.setFld_rings (s : State) (k lo n v : Nat) : (s.setFld k lo n v).rings = s.rings := id rfl
@[simp] theorem State.setFld_xfers (s : State) (k lo n v : Nat) : (s.setFld k lo n v).xfers = s.xfers := id rfl
@[simp] theorem State.setFld_host (s : State) (k lo n v : Nat) : (s.setFld k lo n v).host = s.host := id rfl
@[simp] theorem State.setFld_noz (s : State) (k lo n v : Nat) : (s.setFld k lo n v).noz = s.noz := id rfl
@[simp] theorem State.setFld_nbanks (s : State) (k lo n v : Nat) : (s.setFld k lo n v).nbanks = s.nbanks := id rfl
@[simp] theorem State.setFld_twin (s : State) (k lo n v : Nat) : (s.setFld k lo n v).twin = s.twin := id rfl
@[simp] theorem State.setFld_memx (s : State) (k lo n v : Nat) : (s.setFld k lo n v).memx = s.memx := id rfl
@[simp] theorem State.setFld_chans (s : State) (k lo n v : Nat) : (s.setFld k lo n v).chans = s.chans := id rfl
@[simp] theorem State.setFld_engines (s : State) (k lo n v : Nat) : (s.setFld k lo n v).engines = s.engines := id rfl
@[simp] theorem State.setFld_mboxes (s : State) (k lo n v : Nat) : (s.setFld k lo n v).mboxes = s.mboxes := id rfl
@[simp] theorem State.setFld_bench (s : State) (k lo n v : Nat) : (s.setFld k lo n v).bench = s.bench := id rfl
@[simp] theorem State.setFld_clk (s : State) (k lo n v : Nat) : (s.setFld k lo n v).clk = s.clk := id rfl
@[simp] theorem State.setFld_pwr (s : State) (k lo n v : Nat) : (s.setFld k lo n v).pwr = s.pwr := id rfl
@[simp] theorem State.setFld_touch (s : State) (k lo n v : Nat) : (s.setFld k lo n v).touch = s.touch := id rfl
@[simp] theorem State.setFld_boot (s : State) (k lo n v : Nat) : (s.setFld k lo n v).boot = s.boot := id rfl
@[simp] theorem State.setFld_devMem (s : State) (k lo n v : Nat) : (s.setFld k lo n v).devMem = s.devMem := id rfl
@[simp] theorem State.setFld_hostMem (s : State) (k lo n v : Nat) : (s.setFld k lo n v).hostMem = s.hostMem := id rfl
@[simp] theorem State.setFld_parts (s : State) (k lo n v : Nat) : (s.setFld k lo n v).parts = s.parts := id rfl
@[simp] theorem State.setFld_out (s : State) (k lo n v : Nat) : (s.setFld k lo n v).out = s.out := id rfl

/-! ## setBit -/

@[simp] theorem State.setBit_pending (s : State) (k i : Nat) (b : Bool) : (s.setBit k i b).pending = s.pending := id rfl
@[simp] theorem State.setBit_devTime (s : State) (k i : Nat) (b : Bool) : (s.setBit k i b).devTime = s.devTime := id rfl
@[simp] theorem State.setBit_bootGen (s : State) (k i : Nat) (b : Bool) : (s.setBit k i b).bootGen = s.bootGen := id rfl
@[simp] theorem State.setBit_freeIdx (s : State) (k i : Nat) (b : Bool) : (s.setBit k i b).freeIdx = s.freeIdx := id rfl
@[simp] theorem State.setBit_hiLatch (s : State) (k i : Nat) (b : Bool) : (s.setBit k i b).hiLatch = s.hiLatch := id rfl
@[simp] theorem State.setBit_tick (s : State) (k i : Nat) (b : Bool) : (s.setBit k i b).tick = s.tick := id rfl
@[simp] theorem State.setBit_idleT (s : State) (k i : Nat) (b : Bool) : (s.setBit k i b).idleT = s.idleT := id rfl
@[simp] theorem State.setBit_slew (s : State) (k i : Nat) (b : Bool) : (s.setBit k i b).slew = s.slew := id rfl
@[simp] theorem State.setBit_reports (s : State) (k i : Nat) (b : Bool) : (s.setBit k i b).reports = s.reports := id rfl
@[simp] theorem State.setBit_causes (s : State) (k i : Nat) (b : Bool) : (s.setBit k i b).causes = s.causes := id rfl
@[simp] theorem State.setBit_expls (s : State) (k i : Nat) (b : Bool) : (s.setBit k i b).expls = s.expls := id rfl
@[simp] theorem State.setBit_events (s : State) (k i : Nat) (b : Bool) : (s.setBit k i b).events = s.events := id rfl
@[simp] theorem State.setBit_axes (s : State) (k i : Nat) (b : Bool) : (s.setBit k i b).axes = s.axes := id rfl
@[simp] theorem State.setBit_gens (s : State) (k i : Nat) (b : Bool) : (s.setBit k i b).gens = s.gens := id rfl
@[simp] theorem State.setBit_lists (s : State) (k i : Nat) (b : Bool) : (s.setBit k i b).lists = s.lists := id rfl
@[simp] theorem State.setBit_pins (s : State) (k i : Nat) (b : Bool) : (s.setBit k i b).pins = s.pins := id rfl
@[simp] theorem State.setBit_pairs (s : State) (k i : Nat) (b : Bool) : (s.setBit k i b).pairs = s.pairs := id rfl
@[simp] theorem State.setBit_trigIns (s : State) (k i : Nat) (b : Bool) : (s.setBit k i b).trigIns = s.trigIns := id rfl
@[simp] theorem State.setBit_sched (s : State) (k i : Nat) (b : Bool) : (s.setBit k i b).sched = s.sched := id rfl
@[simp] theorem State.setBit_lanes (s : State) (k i : Nat) (b : Bool) : (s.setBit k i b).lanes = s.lanes := id rfl
@[simp] theorem State.setBit_bonds (s : State) (k i : Nat) (b : Bool) : (s.setBit k i b).bonds = s.bonds := id rfl
@[simp] theorem State.setBit_cams (s : State) (k i : Nat) (b : Bool) : (s.setBit k i b).cams = s.cams := id rfl
@[simp] theorem State.setBit_pipes (s : State) (k i : Nat) (b : Bool) : (s.setBit k i b).pipes = s.pipes := id rfl
@[simp] theorem State.setBit_asys (s : State) (k i : Nat) (b : Bool) : (s.setBit k i b).asys = s.asys := id rfl
@[simp] theorem State.setBit_views (s : State) (k i : Nat) (b : Bool) : (s.setBit k i b).views = s.views := id rfl
@[simp] theorem State.setBit_pages (s : State) (k i : Nat) (b : Bool) : (s.setBit k i b).pages = s.pages := id rfl
@[simp] theorem State.setBit_crus (s : State) (k i : Nat) (b : Bool) : (s.setBit k i b).crus = s.crus := id rfl
@[simp] theorem State.setBit_rings (s : State) (k i : Nat) (b : Bool) : (s.setBit k i b).rings = s.rings := id rfl
@[simp] theorem State.setBit_xfers (s : State) (k i : Nat) (b : Bool) : (s.setBit k i b).xfers = s.xfers := id rfl
@[simp] theorem State.setBit_host (s : State) (k i : Nat) (b : Bool) : (s.setBit k i b).host = s.host := id rfl
@[simp] theorem State.setBit_noz (s : State) (k i : Nat) (b : Bool) : (s.setBit k i b).noz = s.noz := id rfl
@[simp] theorem State.setBit_nbanks (s : State) (k i : Nat) (b : Bool) : (s.setBit k i b).nbanks = s.nbanks := id rfl
@[simp] theorem State.setBit_twin (s : State) (k i : Nat) (b : Bool) : (s.setBit k i b).twin = s.twin := id rfl
@[simp] theorem State.setBit_memx (s : State) (k i : Nat) (b : Bool) : (s.setBit k i b).memx = s.memx := id rfl
@[simp] theorem State.setBit_chans (s : State) (k i : Nat) (b : Bool) : (s.setBit k i b).chans = s.chans := id rfl
@[simp] theorem State.setBit_engines (s : State) (k i : Nat) (b : Bool) : (s.setBit k i b).engines = s.engines := id rfl
@[simp] theorem State.setBit_mboxes (s : State) (k i : Nat) (b : Bool) : (s.setBit k i b).mboxes = s.mboxes := id rfl
@[simp] theorem State.setBit_bench (s : State) (k i : Nat) (b : Bool) : (s.setBit k i b).bench = s.bench := id rfl
@[simp] theorem State.setBit_clk (s : State) (k i : Nat) (b : Bool) : (s.setBit k i b).clk = s.clk := id rfl
@[simp] theorem State.setBit_pwr (s : State) (k i : Nat) (b : Bool) : (s.setBit k i b).pwr = s.pwr := id rfl
@[simp] theorem State.setBit_touch (s : State) (k i : Nat) (b : Bool) : (s.setBit k i b).touch = s.touch := id rfl
@[simp] theorem State.setBit_boot (s : State) (k i : Nat) (b : Bool) : (s.setBit k i b).boot = s.boot := id rfl
@[simp] theorem State.setBit_devMem (s : State) (k i : Nat) (b : Bool) : (s.setBit k i b).devMem = s.devMem := id rfl
@[simp] theorem State.setBit_hostMem (s : State) (k i : Nat) (b : Bool) : (s.setBit k i b).hostMem = s.hostMem := id rfl
@[simp] theorem State.setBit_parts (s : State) (k i : Nat) (b : Bool) : (s.setBit k i b).parts = s.parts := id rfl
@[simp] theorem State.setBit_out (s : State) (k i : Nat) (b : Bool) : (s.setBit k i b).out = s.out := id rfl

/-! ## addSat -/

@[simp] theorem State.addSat_pending (s : State) (k lo n d : Nat) : (s.addSat k lo n d).pending = s.pending := id rfl
@[simp] theorem State.addSat_devTime (s : State) (k lo n d : Nat) : (s.addSat k lo n d).devTime = s.devTime := id rfl
@[simp] theorem State.addSat_bootGen (s : State) (k lo n d : Nat) : (s.addSat k lo n d).bootGen = s.bootGen := id rfl
@[simp] theorem State.addSat_freeIdx (s : State) (k lo n d : Nat) : (s.addSat k lo n d).freeIdx = s.freeIdx := id rfl
@[simp] theorem State.addSat_hiLatch (s : State) (k lo n d : Nat) : (s.addSat k lo n d).hiLatch = s.hiLatch := id rfl
@[simp] theorem State.addSat_tick (s : State) (k lo n d : Nat) : (s.addSat k lo n d).tick = s.tick := id rfl
@[simp] theorem State.addSat_idleT (s : State) (k lo n d : Nat) : (s.addSat k lo n d).idleT = s.idleT := id rfl
@[simp] theorem State.addSat_slew (s : State) (k lo n d : Nat) : (s.addSat k lo n d).slew = s.slew := id rfl
@[simp] theorem State.addSat_reports (s : State) (k lo n d : Nat) : (s.addSat k lo n d).reports = s.reports := id rfl
@[simp] theorem State.addSat_causes (s : State) (k lo n d : Nat) : (s.addSat k lo n d).causes = s.causes := id rfl
@[simp] theorem State.addSat_expls (s : State) (k lo n d : Nat) : (s.addSat k lo n d).expls = s.expls := id rfl
@[simp] theorem State.addSat_events (s : State) (k lo n d : Nat) : (s.addSat k lo n d).events = s.events := id rfl
@[simp] theorem State.addSat_axes (s : State) (k lo n d : Nat) : (s.addSat k lo n d).axes = s.axes := id rfl
@[simp] theorem State.addSat_gens (s : State) (k lo n d : Nat) : (s.addSat k lo n d).gens = s.gens := id rfl
@[simp] theorem State.addSat_lists (s : State) (k lo n d : Nat) : (s.addSat k lo n d).lists = s.lists := id rfl
@[simp] theorem State.addSat_pins (s : State) (k lo n d : Nat) : (s.addSat k lo n d).pins = s.pins := id rfl
@[simp] theorem State.addSat_pairs (s : State) (k lo n d : Nat) : (s.addSat k lo n d).pairs = s.pairs := id rfl
@[simp] theorem State.addSat_trigIns (s : State) (k lo n d : Nat) : (s.addSat k lo n d).trigIns = s.trigIns := id rfl
@[simp] theorem State.addSat_sched (s : State) (k lo n d : Nat) : (s.addSat k lo n d).sched = s.sched := id rfl
@[simp] theorem State.addSat_lanes (s : State) (k lo n d : Nat) : (s.addSat k lo n d).lanes = s.lanes := id rfl
@[simp] theorem State.addSat_bonds (s : State) (k lo n d : Nat) : (s.addSat k lo n d).bonds = s.bonds := id rfl
@[simp] theorem State.addSat_cams (s : State) (k lo n d : Nat) : (s.addSat k lo n d).cams = s.cams := id rfl
@[simp] theorem State.addSat_pipes (s : State) (k lo n d : Nat) : (s.addSat k lo n d).pipes = s.pipes := id rfl
@[simp] theorem State.addSat_asys (s : State) (k lo n d : Nat) : (s.addSat k lo n d).asys = s.asys := id rfl
@[simp] theorem State.addSat_views (s : State) (k lo n d : Nat) : (s.addSat k lo n d).views = s.views := id rfl
@[simp] theorem State.addSat_pages (s : State) (k lo n d : Nat) : (s.addSat k lo n d).pages = s.pages := id rfl
@[simp] theorem State.addSat_crus (s : State) (k lo n d : Nat) : (s.addSat k lo n d).crus = s.crus := id rfl
@[simp] theorem State.addSat_rings (s : State) (k lo n d : Nat) : (s.addSat k lo n d).rings = s.rings := id rfl
@[simp] theorem State.addSat_xfers (s : State) (k lo n d : Nat) : (s.addSat k lo n d).xfers = s.xfers := id rfl
@[simp] theorem State.addSat_host (s : State) (k lo n d : Nat) : (s.addSat k lo n d).host = s.host := id rfl
@[simp] theorem State.addSat_noz (s : State) (k lo n d : Nat) : (s.addSat k lo n d).noz = s.noz := id rfl
@[simp] theorem State.addSat_nbanks (s : State) (k lo n d : Nat) : (s.addSat k lo n d).nbanks = s.nbanks := id rfl
@[simp] theorem State.addSat_twin (s : State) (k lo n d : Nat) : (s.addSat k lo n d).twin = s.twin := id rfl
@[simp] theorem State.addSat_memx (s : State) (k lo n d : Nat) : (s.addSat k lo n d).memx = s.memx := id rfl
@[simp] theorem State.addSat_chans (s : State) (k lo n d : Nat) : (s.addSat k lo n d).chans = s.chans := id rfl
@[simp] theorem State.addSat_engines (s : State) (k lo n d : Nat) : (s.addSat k lo n d).engines = s.engines := id rfl
@[simp] theorem State.addSat_mboxes (s : State) (k lo n d : Nat) : (s.addSat k lo n d).mboxes = s.mboxes := id rfl
@[simp] theorem State.addSat_bench (s : State) (k lo n d : Nat) : (s.addSat k lo n d).bench = s.bench := id rfl
@[simp] theorem State.addSat_clk (s : State) (k lo n d : Nat) : (s.addSat k lo n d).clk = s.clk := id rfl
@[simp] theorem State.addSat_pwr (s : State) (k lo n d : Nat) : (s.addSat k lo n d).pwr = s.pwr := id rfl
@[simp] theorem State.addSat_touch (s : State) (k lo n d : Nat) : (s.addSat k lo n d).touch = s.touch := id rfl
@[simp] theorem State.addSat_boot (s : State) (k lo n d : Nat) : (s.addSat k lo n d).boot = s.boot := id rfl
@[simp] theorem State.addSat_devMem (s : State) (k lo n d : Nat) : (s.addSat k lo n d).devMem = s.devMem := id rfl
@[simp] theorem State.addSat_hostMem (s : State) (k lo n d : Nat) : (s.addSat k lo n d).hostMem = s.hostMem := id rfl
@[simp] theorem State.addSat_parts (s : State) (k lo n d : Nat) : (s.addSat k lo n d).parts = s.parts := id rfl
@[simp] theorem State.addSat_out (s : State) (k lo n d : Nat) : (s.addSat k lo n d).out = s.out := id rfl

/-! ## addWrap -/

@[simp] theorem State.addWrap_pending (s : State) (k lo n d : Nat) : (s.addWrap k lo n d).pending = s.pending := id rfl
@[simp] theorem State.addWrap_devTime (s : State) (k lo n d : Nat) : (s.addWrap k lo n d).devTime = s.devTime := id rfl
@[simp] theorem State.addWrap_bootGen (s : State) (k lo n d : Nat) : (s.addWrap k lo n d).bootGen = s.bootGen := id rfl
@[simp] theorem State.addWrap_freeIdx (s : State) (k lo n d : Nat) : (s.addWrap k lo n d).freeIdx = s.freeIdx := id rfl
@[simp] theorem State.addWrap_hiLatch (s : State) (k lo n d : Nat) : (s.addWrap k lo n d).hiLatch = s.hiLatch := id rfl
@[simp] theorem State.addWrap_tick (s : State) (k lo n d : Nat) : (s.addWrap k lo n d).tick = s.tick := id rfl
@[simp] theorem State.addWrap_idleT (s : State) (k lo n d : Nat) : (s.addWrap k lo n d).idleT = s.idleT := id rfl
@[simp] theorem State.addWrap_slew (s : State) (k lo n d : Nat) : (s.addWrap k lo n d).slew = s.slew := id rfl
@[simp] theorem State.addWrap_reports (s : State) (k lo n d : Nat) : (s.addWrap k lo n d).reports = s.reports := id rfl
@[simp] theorem State.addWrap_causes (s : State) (k lo n d : Nat) : (s.addWrap k lo n d).causes = s.causes := id rfl
@[simp] theorem State.addWrap_expls (s : State) (k lo n d : Nat) : (s.addWrap k lo n d).expls = s.expls := id rfl
@[simp] theorem State.addWrap_events (s : State) (k lo n d : Nat) : (s.addWrap k lo n d).events = s.events := id rfl
@[simp] theorem State.addWrap_axes (s : State) (k lo n d : Nat) : (s.addWrap k lo n d).axes = s.axes := id rfl
@[simp] theorem State.addWrap_gens (s : State) (k lo n d : Nat) : (s.addWrap k lo n d).gens = s.gens := id rfl
@[simp] theorem State.addWrap_lists (s : State) (k lo n d : Nat) : (s.addWrap k lo n d).lists = s.lists := id rfl
@[simp] theorem State.addWrap_pins (s : State) (k lo n d : Nat) : (s.addWrap k lo n d).pins = s.pins := id rfl
@[simp] theorem State.addWrap_pairs (s : State) (k lo n d : Nat) : (s.addWrap k lo n d).pairs = s.pairs := id rfl
@[simp] theorem State.addWrap_trigIns (s : State) (k lo n d : Nat) : (s.addWrap k lo n d).trigIns = s.trigIns := id rfl
@[simp] theorem State.addWrap_sched (s : State) (k lo n d : Nat) : (s.addWrap k lo n d).sched = s.sched := id rfl
@[simp] theorem State.addWrap_lanes (s : State) (k lo n d : Nat) : (s.addWrap k lo n d).lanes = s.lanes := id rfl
@[simp] theorem State.addWrap_bonds (s : State) (k lo n d : Nat) : (s.addWrap k lo n d).bonds = s.bonds := id rfl
@[simp] theorem State.addWrap_cams (s : State) (k lo n d : Nat) : (s.addWrap k lo n d).cams = s.cams := id rfl
@[simp] theorem State.addWrap_pipes (s : State) (k lo n d : Nat) : (s.addWrap k lo n d).pipes = s.pipes := id rfl
@[simp] theorem State.addWrap_asys (s : State) (k lo n d : Nat) : (s.addWrap k lo n d).asys = s.asys := id rfl
@[simp] theorem State.addWrap_views (s : State) (k lo n d : Nat) : (s.addWrap k lo n d).views = s.views := id rfl
@[simp] theorem State.addWrap_pages (s : State) (k lo n d : Nat) : (s.addWrap k lo n d).pages = s.pages := id rfl
@[simp] theorem State.addWrap_crus (s : State) (k lo n d : Nat) : (s.addWrap k lo n d).crus = s.crus := id rfl
@[simp] theorem State.addWrap_rings (s : State) (k lo n d : Nat) : (s.addWrap k lo n d).rings = s.rings := id rfl
@[simp] theorem State.addWrap_xfers (s : State) (k lo n d : Nat) : (s.addWrap k lo n d).xfers = s.xfers := id rfl
@[simp] theorem State.addWrap_host (s : State) (k lo n d : Nat) : (s.addWrap k lo n d).host = s.host := id rfl
@[simp] theorem State.addWrap_noz (s : State) (k lo n d : Nat) : (s.addWrap k lo n d).noz = s.noz := id rfl
@[simp] theorem State.addWrap_nbanks (s : State) (k lo n d : Nat) : (s.addWrap k lo n d).nbanks = s.nbanks := id rfl
@[simp] theorem State.addWrap_twin (s : State) (k lo n d : Nat) : (s.addWrap k lo n d).twin = s.twin := id rfl
@[simp] theorem State.addWrap_memx (s : State) (k lo n d : Nat) : (s.addWrap k lo n d).memx = s.memx := id rfl
@[simp] theorem State.addWrap_chans (s : State) (k lo n d : Nat) : (s.addWrap k lo n d).chans = s.chans := id rfl
@[simp] theorem State.addWrap_engines (s : State) (k lo n d : Nat) : (s.addWrap k lo n d).engines = s.engines := id rfl
@[simp] theorem State.addWrap_mboxes (s : State) (k lo n d : Nat) : (s.addWrap k lo n d).mboxes = s.mboxes := id rfl
@[simp] theorem State.addWrap_bench (s : State) (k lo n d : Nat) : (s.addWrap k lo n d).bench = s.bench := id rfl
@[simp] theorem State.addWrap_clk (s : State) (k lo n d : Nat) : (s.addWrap k lo n d).clk = s.clk := id rfl
@[simp] theorem State.addWrap_pwr (s : State) (k lo n d : Nat) : (s.addWrap k lo n d).pwr = s.pwr := id rfl
@[simp] theorem State.addWrap_touch (s : State) (k lo n d : Nat) : (s.addWrap k lo n d).touch = s.touch := id rfl
@[simp] theorem State.addWrap_boot (s : State) (k lo n d : Nat) : (s.addWrap k lo n d).boot = s.boot := id rfl
@[simp] theorem State.addWrap_devMem (s : State) (k lo n d : Nat) : (s.addWrap k lo n d).devMem = s.devMem := id rfl
@[simp] theorem State.addWrap_hostMem (s : State) (k lo n d : Nat) : (s.addWrap k lo n d).hostMem = s.hostMem := id rfl
@[simp] theorem State.addWrap_parts (s : State) (k lo n d : Nat) : (s.addWrap k lo n d).parts = s.parts := id rfl
@[simp] theorem State.addWrap_out (s : State) (k lo n d : Nat) : (s.addWrap k lo n d).out = s.out := id rfl

/-! ## wr64 -/

@[simp] theorem State.wr64_pending (s : State) (k v : Nat) : (s.wr64 k v).pending = s.pending := id rfl
@[simp] theorem State.wr64_devTime (s : State) (k v : Nat) : (s.wr64 k v).devTime = s.devTime := id rfl
@[simp] theorem State.wr64_bootGen (s : State) (k v : Nat) : (s.wr64 k v).bootGen = s.bootGen := id rfl
@[simp] theorem State.wr64_freeIdx (s : State) (k v : Nat) : (s.wr64 k v).freeIdx = s.freeIdx := id rfl
@[simp] theorem State.wr64_hiLatch (s : State) (k v : Nat) : (s.wr64 k v).hiLatch = s.hiLatch := id rfl
@[simp] theorem State.wr64_tick (s : State) (k v : Nat) : (s.wr64 k v).tick = s.tick := id rfl
@[simp] theorem State.wr64_idleT (s : State) (k v : Nat) : (s.wr64 k v).idleT = s.idleT := id rfl
@[simp] theorem State.wr64_slew (s : State) (k v : Nat) : (s.wr64 k v).slew = s.slew := id rfl
@[simp] theorem State.wr64_reports (s : State) (k v : Nat) : (s.wr64 k v).reports = s.reports := id rfl
@[simp] theorem State.wr64_causes (s : State) (k v : Nat) : (s.wr64 k v).causes = s.causes := id rfl
@[simp] theorem State.wr64_expls (s : State) (k v : Nat) : (s.wr64 k v).expls = s.expls := id rfl
@[simp] theorem State.wr64_events (s : State) (k v : Nat) : (s.wr64 k v).events = s.events := id rfl
@[simp] theorem State.wr64_axes (s : State) (k v : Nat) : (s.wr64 k v).axes = s.axes := id rfl
@[simp] theorem State.wr64_gens (s : State) (k v : Nat) : (s.wr64 k v).gens = s.gens := id rfl
@[simp] theorem State.wr64_lists (s : State) (k v : Nat) : (s.wr64 k v).lists = s.lists := id rfl
@[simp] theorem State.wr64_pins (s : State) (k v : Nat) : (s.wr64 k v).pins = s.pins := id rfl
@[simp] theorem State.wr64_pairs (s : State) (k v : Nat) : (s.wr64 k v).pairs = s.pairs := id rfl
@[simp] theorem State.wr64_trigIns (s : State) (k v : Nat) : (s.wr64 k v).trigIns = s.trigIns := id rfl
@[simp] theorem State.wr64_sched (s : State) (k v : Nat) : (s.wr64 k v).sched = s.sched := id rfl
@[simp] theorem State.wr64_lanes (s : State) (k v : Nat) : (s.wr64 k v).lanes = s.lanes := id rfl
@[simp] theorem State.wr64_bonds (s : State) (k v : Nat) : (s.wr64 k v).bonds = s.bonds := id rfl
@[simp] theorem State.wr64_cams (s : State) (k v : Nat) : (s.wr64 k v).cams = s.cams := id rfl
@[simp] theorem State.wr64_pipes (s : State) (k v : Nat) : (s.wr64 k v).pipes = s.pipes := id rfl
@[simp] theorem State.wr64_asys (s : State) (k v : Nat) : (s.wr64 k v).asys = s.asys := id rfl
@[simp] theorem State.wr64_views (s : State) (k v : Nat) : (s.wr64 k v).views = s.views := id rfl
@[simp] theorem State.wr64_pages (s : State) (k v : Nat) : (s.wr64 k v).pages = s.pages := id rfl
@[simp] theorem State.wr64_crus (s : State) (k v : Nat) : (s.wr64 k v).crus = s.crus := id rfl
@[simp] theorem State.wr64_rings (s : State) (k v : Nat) : (s.wr64 k v).rings = s.rings := id rfl
@[simp] theorem State.wr64_xfers (s : State) (k v : Nat) : (s.wr64 k v).xfers = s.xfers := id rfl
@[simp] theorem State.wr64_host (s : State) (k v : Nat) : (s.wr64 k v).host = s.host := id rfl
@[simp] theorem State.wr64_noz (s : State) (k v : Nat) : (s.wr64 k v).noz = s.noz := id rfl
@[simp] theorem State.wr64_nbanks (s : State) (k v : Nat) : (s.wr64 k v).nbanks = s.nbanks := id rfl
@[simp] theorem State.wr64_twin (s : State) (k v : Nat) : (s.wr64 k v).twin = s.twin := id rfl
@[simp] theorem State.wr64_memx (s : State) (k v : Nat) : (s.wr64 k v).memx = s.memx := id rfl
@[simp] theorem State.wr64_chans (s : State) (k v : Nat) : (s.wr64 k v).chans = s.chans := id rfl
@[simp] theorem State.wr64_engines (s : State) (k v : Nat) : (s.wr64 k v).engines = s.engines := id rfl
@[simp] theorem State.wr64_mboxes (s : State) (k v : Nat) : (s.wr64 k v).mboxes = s.mboxes := id rfl
@[simp] theorem State.wr64_bench (s : State) (k v : Nat) : (s.wr64 k v).bench = s.bench := id rfl
@[simp] theorem State.wr64_clk (s : State) (k v : Nat) : (s.wr64 k v).clk = s.clk := id rfl
@[simp] theorem State.wr64_pwr (s : State) (k v : Nat) : (s.wr64 k v).pwr = s.pwr := id rfl
@[simp] theorem State.wr64_touch (s : State) (k v : Nat) : (s.wr64 k v).touch = s.touch := id rfl
@[simp] theorem State.wr64_boot (s : State) (k v : Nat) : (s.wr64 k v).boot = s.boot := id rfl
@[simp] theorem State.wr64_devMem (s : State) (k v : Nat) : (s.wr64 k v).devMem = s.devMem := id rfl
@[simp] theorem State.wr64_hostMem (s : State) (k v : Nat) : (s.wr64 k v).hostMem = s.hostMem := id rfl
@[simp] theorem State.wr64_parts (s : State) (k v : Nat) : (s.wr64 k v).parts = s.parts := id rfl
@[simp] theorem State.wr64_out (s : State) (k v : Nat) : (s.wr64 k v).out = s.out := id rfl

/-! ## setAxis -/

@[simp] theorem State.setAxis_pending (s : State) (n : Nat) (x : Axis) : (s.setAxis n x).pending = s.pending := id rfl
@[simp] theorem State.setAxis_devTime (s : State) (n : Nat) (x : Axis) : (s.setAxis n x).devTime = s.devTime := id rfl
@[simp] theorem State.setAxis_bootGen (s : State) (n : Nat) (x : Axis) : (s.setAxis n x).bootGen = s.bootGen := id rfl
@[simp] theorem State.setAxis_freeIdx (s : State) (n : Nat) (x : Axis) : (s.setAxis n x).freeIdx = s.freeIdx := id rfl
@[simp] theorem State.setAxis_regs (s : State) (n : Nat) (x : Axis) : (s.setAxis n x).regs = s.regs := id rfl
@[simp] theorem State.setAxis_hiLatch (s : State) (n : Nat) (x : Axis) : (s.setAxis n x).hiLatch = s.hiLatch := id rfl
@[simp] theorem State.setAxis_tick (s : State) (n : Nat) (x : Axis) : (s.setAxis n x).tick = s.tick := id rfl
@[simp] theorem State.setAxis_idleT (s : State) (n : Nat) (x : Axis) : (s.setAxis n x).idleT = s.idleT := id rfl
@[simp] theorem State.setAxis_slew (s : State) (n : Nat) (x : Axis) : (s.setAxis n x).slew = s.slew := id rfl
@[simp] theorem State.setAxis_reports (s : State) (n : Nat) (x : Axis) : (s.setAxis n x).reports = s.reports := id rfl
@[simp] theorem State.setAxis_causes (s : State) (n : Nat) (x : Axis) : (s.setAxis n x).causes = s.causes := id rfl
@[simp] theorem State.setAxis_expls (s : State) (n : Nat) (x : Axis) : (s.setAxis n x).expls = s.expls := id rfl
@[simp] theorem State.setAxis_events (s : State) (n : Nat) (x : Axis) : (s.setAxis n x).events = s.events := id rfl
@[simp] theorem State.setAxis_axis (s : State) (n : Nat) (x : Axis) (j : Nat) :
    (s.setAxis n x).axis j = if j = n then x else s.axis j := sget_sset _ _ _ _ _
@[simp] theorem State.setAxis_gens (s : State) (n : Nat) (x : Axis) : (s.setAxis n x).gens = s.gens := id rfl
@[simp] theorem State.setAxis_lists (s : State) (n : Nat) (x : Axis) : (s.setAxis n x).lists = s.lists := id rfl
@[simp] theorem State.setAxis_pins (s : State) (n : Nat) (x : Axis) : (s.setAxis n x).pins = s.pins := id rfl
@[simp] theorem State.setAxis_pairs (s : State) (n : Nat) (x : Axis) : (s.setAxis n x).pairs = s.pairs := id rfl
@[simp] theorem State.setAxis_trigIns (s : State) (n : Nat) (x : Axis) : (s.setAxis n x).trigIns = s.trigIns := id rfl
@[simp] theorem State.setAxis_sched (s : State) (n : Nat) (x : Axis) : (s.setAxis n x).sched = s.sched := id rfl
@[simp] theorem State.setAxis_lanes (s : State) (n : Nat) (x : Axis) : (s.setAxis n x).lanes = s.lanes := id rfl
@[simp] theorem State.setAxis_bonds (s : State) (n : Nat) (x : Axis) : (s.setAxis n x).bonds = s.bonds := id rfl
@[simp] theorem State.setAxis_cams (s : State) (n : Nat) (x : Axis) : (s.setAxis n x).cams = s.cams := id rfl
@[simp] theorem State.setAxis_pipes (s : State) (n : Nat) (x : Axis) : (s.setAxis n x).pipes = s.pipes := id rfl
@[simp] theorem State.setAxis_asys (s : State) (n : Nat) (x : Axis) : (s.setAxis n x).asys = s.asys := id rfl
@[simp] theorem State.setAxis_views (s : State) (n : Nat) (x : Axis) : (s.setAxis n x).views = s.views := id rfl
@[simp] theorem State.setAxis_pages (s : State) (n : Nat) (x : Axis) : (s.setAxis n x).pages = s.pages := id rfl
@[simp] theorem State.setAxis_crus (s : State) (n : Nat) (x : Axis) : (s.setAxis n x).crus = s.crus := id rfl
@[simp] theorem State.setAxis_rings (s : State) (n : Nat) (x : Axis) : (s.setAxis n x).rings = s.rings := id rfl
@[simp] theorem State.setAxis_xfers (s : State) (n : Nat) (x : Axis) : (s.setAxis n x).xfers = s.xfers := id rfl
@[simp] theorem State.setAxis_host (s : State) (n : Nat) (x : Axis) : (s.setAxis n x).host = s.host := id rfl
@[simp] theorem State.setAxis_noz (s : State) (n : Nat) (x : Axis) : (s.setAxis n x).noz = s.noz := id rfl
@[simp] theorem State.setAxis_nbanks (s : State) (n : Nat) (x : Axis) : (s.setAxis n x).nbanks = s.nbanks := id rfl
@[simp] theorem State.setAxis_twin (s : State) (n : Nat) (x : Axis) : (s.setAxis n x).twin = s.twin := id rfl
@[simp] theorem State.setAxis_memx (s : State) (n : Nat) (x : Axis) : (s.setAxis n x).memx = s.memx := id rfl
@[simp] theorem State.setAxis_chans (s : State) (n : Nat) (x : Axis) : (s.setAxis n x).chans = s.chans := id rfl
@[simp] theorem State.setAxis_engines (s : State) (n : Nat) (x : Axis) : (s.setAxis n x).engines = s.engines := id rfl
@[simp] theorem State.setAxis_mboxes (s : State) (n : Nat) (x : Axis) : (s.setAxis n x).mboxes = s.mboxes := id rfl
@[simp] theorem State.setAxis_bench (s : State) (n : Nat) (x : Axis) : (s.setAxis n x).bench = s.bench := id rfl
@[simp] theorem State.setAxis_clk (s : State) (n : Nat) (x : Axis) : (s.setAxis n x).clk = s.clk := id rfl
@[simp] theorem State.setAxis_pwr (s : State) (n : Nat) (x : Axis) : (s.setAxis n x).pwr = s.pwr := id rfl
@[simp] theorem State.setAxis_touch (s : State) (n : Nat) (x : Axis) : (s.setAxis n x).touch = s.touch := id rfl
@[simp] theorem State.setAxis_boot (s : State) (n : Nat) (x : Axis) : (s.setAxis n x).boot = s.boot := id rfl
@[simp] theorem State.setAxis_devMem (s : State) (n : Nat) (x : Axis) : (s.setAxis n x).devMem = s.devMem := id rfl
@[simp] theorem State.setAxis_hostMem (s : State) (n : Nat) (x : Axis) : (s.setAxis n x).hostMem = s.hostMem := id rfl
@[simp] theorem State.setAxis_parts (s : State) (n : Nat) (x : Axis) : (s.setAxis n x).parts = s.parts := id rfl
@[simp] theorem State.setAxis_out (s : State) (n : Nat) (x : Axis) : (s.setAxis n x).out = s.out := id rfl
@[simp] theorem State.setAxis_rd (s : State) (n : Nat) (x : Axis) (j : Nat) : (s.setAxis n x).rd j = s.rd j := id rfl

/-! ## setGen -/

@[simp] theorem State.setGen_pending (s : State) (n : Nat) (x : Gen) : (s.setGen n x).pending = s.pending := id rfl
@[simp] theorem State.setGen_devTime (s : State) (n : Nat) (x : Gen) : (s.setGen n x).devTime = s.devTime := id rfl
@[simp] theorem State.setGen_bootGen (s : State) (n : Nat) (x : Gen) : (s.setGen n x).bootGen = s.bootGen := id rfl
@[simp] theorem State.setGen_freeIdx (s : State) (n : Nat) (x : Gen) : (s.setGen n x).freeIdx = s.freeIdx := id rfl
@[simp] theorem State.setGen_regs (s : State) (n : Nat) (x : Gen) : (s.setGen n x).regs = s.regs := id rfl
@[simp] theorem State.setGen_hiLatch (s : State) (n : Nat) (x : Gen) : (s.setGen n x).hiLatch = s.hiLatch := id rfl
@[simp] theorem State.setGen_tick (s : State) (n : Nat) (x : Gen) : (s.setGen n x).tick = s.tick := id rfl
@[simp] theorem State.setGen_idleT (s : State) (n : Nat) (x : Gen) : (s.setGen n x).idleT = s.idleT := id rfl
@[simp] theorem State.setGen_slew (s : State) (n : Nat) (x : Gen) : (s.setGen n x).slew = s.slew := id rfl
@[simp] theorem State.setGen_reports (s : State) (n : Nat) (x : Gen) : (s.setGen n x).reports = s.reports := id rfl
@[simp] theorem State.setGen_causes (s : State) (n : Nat) (x : Gen) : (s.setGen n x).causes = s.causes := id rfl
@[simp] theorem State.setGen_expls (s : State) (n : Nat) (x : Gen) : (s.setGen n x).expls = s.expls := id rfl
@[simp] theorem State.setGen_events (s : State) (n : Nat) (x : Gen) : (s.setGen n x).events = s.events := id rfl
@[simp] theorem State.setGen_axes (s : State) (n : Nat) (x : Gen) : (s.setGen n x).axes = s.axes := id rfl
@[simp] theorem State.setGen_gen (s : State) (n : Nat) (x : Gen) (j : Nat) :
    (s.setGen n x).gen j = if j = n then x else s.gen j := sget_sset _ _ _ _ _
@[simp] theorem State.setGen_lists (s : State) (n : Nat) (x : Gen) : (s.setGen n x).lists = s.lists := id rfl
@[simp] theorem State.setGen_pins (s : State) (n : Nat) (x : Gen) : (s.setGen n x).pins = s.pins := id rfl
@[simp] theorem State.setGen_pairs (s : State) (n : Nat) (x : Gen) : (s.setGen n x).pairs = s.pairs := id rfl
@[simp] theorem State.setGen_trigIns (s : State) (n : Nat) (x : Gen) : (s.setGen n x).trigIns = s.trigIns := id rfl
@[simp] theorem State.setGen_sched (s : State) (n : Nat) (x : Gen) : (s.setGen n x).sched = s.sched := id rfl
@[simp] theorem State.setGen_lanes (s : State) (n : Nat) (x : Gen) : (s.setGen n x).lanes = s.lanes := id rfl
@[simp] theorem State.setGen_bonds (s : State) (n : Nat) (x : Gen) : (s.setGen n x).bonds = s.bonds := id rfl
@[simp] theorem State.setGen_cams (s : State) (n : Nat) (x : Gen) : (s.setGen n x).cams = s.cams := id rfl
@[simp] theorem State.setGen_pipes (s : State) (n : Nat) (x : Gen) : (s.setGen n x).pipes = s.pipes := id rfl
@[simp] theorem State.setGen_asys (s : State) (n : Nat) (x : Gen) : (s.setGen n x).asys = s.asys := id rfl
@[simp] theorem State.setGen_views (s : State) (n : Nat) (x : Gen) : (s.setGen n x).views = s.views := id rfl
@[simp] theorem State.setGen_pages (s : State) (n : Nat) (x : Gen) : (s.setGen n x).pages = s.pages := id rfl
@[simp] theorem State.setGen_crus (s : State) (n : Nat) (x : Gen) : (s.setGen n x).crus = s.crus := id rfl
@[simp] theorem State.setGen_rings (s : State) (n : Nat) (x : Gen) : (s.setGen n x).rings = s.rings := id rfl
@[simp] theorem State.setGen_xfers (s : State) (n : Nat) (x : Gen) : (s.setGen n x).xfers = s.xfers := id rfl
@[simp] theorem State.setGen_host (s : State) (n : Nat) (x : Gen) : (s.setGen n x).host = s.host := id rfl
@[simp] theorem State.setGen_noz (s : State) (n : Nat) (x : Gen) : (s.setGen n x).noz = s.noz := id rfl
@[simp] theorem State.setGen_nbanks (s : State) (n : Nat) (x : Gen) : (s.setGen n x).nbanks = s.nbanks := id rfl
@[simp] theorem State.setGen_twin (s : State) (n : Nat) (x : Gen) : (s.setGen n x).twin = s.twin := id rfl
@[simp] theorem State.setGen_memx (s : State) (n : Nat) (x : Gen) : (s.setGen n x).memx = s.memx := id rfl
@[simp] theorem State.setGen_chans (s : State) (n : Nat) (x : Gen) : (s.setGen n x).chans = s.chans := id rfl
@[simp] theorem State.setGen_engines (s : State) (n : Nat) (x : Gen) : (s.setGen n x).engines = s.engines := id rfl
@[simp] theorem State.setGen_mboxes (s : State) (n : Nat) (x : Gen) : (s.setGen n x).mboxes = s.mboxes := id rfl
@[simp] theorem State.setGen_bench (s : State) (n : Nat) (x : Gen) : (s.setGen n x).bench = s.bench := id rfl
@[simp] theorem State.setGen_clk (s : State) (n : Nat) (x : Gen) : (s.setGen n x).clk = s.clk := id rfl
@[simp] theorem State.setGen_pwr (s : State) (n : Nat) (x : Gen) : (s.setGen n x).pwr = s.pwr := id rfl
@[simp] theorem State.setGen_touch (s : State) (n : Nat) (x : Gen) : (s.setGen n x).touch = s.touch := id rfl
@[simp] theorem State.setGen_boot (s : State) (n : Nat) (x : Gen) : (s.setGen n x).boot = s.boot := id rfl
@[simp] theorem State.setGen_devMem (s : State) (n : Nat) (x : Gen) : (s.setGen n x).devMem = s.devMem := id rfl
@[simp] theorem State.setGen_hostMem (s : State) (n : Nat) (x : Gen) : (s.setGen n x).hostMem = s.hostMem := id rfl
@[simp] theorem State.setGen_parts (s : State) (n : Nat) (x : Gen) : (s.setGen n x).parts = s.parts := id rfl
@[simp] theorem State.setGen_out (s : State) (n : Nat) (x : Gen) : (s.setGen n x).out = s.out := id rfl
@[simp] theorem State.setGen_rd (s : State) (n : Nat) (x : Gen) (j : Nat) : (s.setGen n x).rd j = s.rd j := id rfl

/-! ## setClist -/

@[simp] theorem State.setClist_pending (s : State) (n : Nat) (x : CList) : (s.setClist n x).pending = s.pending := id rfl
@[simp] theorem State.setClist_devTime (s : State) (n : Nat) (x : CList) : (s.setClist n x).devTime = s.devTime := id rfl
@[simp] theorem State.setClist_bootGen (s : State) (n : Nat) (x : CList) : (s.setClist n x).bootGen = s.bootGen := id rfl
@[simp] theorem State.setClist_freeIdx (s : State) (n : Nat) (x : CList) : (s.setClist n x).freeIdx = s.freeIdx := id rfl
@[simp] theorem State.setClist_regs (s : State) (n : Nat) (x : CList) : (s.setClist n x).regs = s.regs := id rfl
@[simp] theorem State.setClist_hiLatch (s : State) (n : Nat) (x : CList) : (s.setClist n x).hiLatch = s.hiLatch := id rfl
@[simp] theorem State.setClist_tick (s : State) (n : Nat) (x : CList) : (s.setClist n x).tick = s.tick := id rfl
@[simp] theorem State.setClist_idleT (s : State) (n : Nat) (x : CList) : (s.setClist n x).idleT = s.idleT := id rfl
@[simp] theorem State.setClist_slew (s : State) (n : Nat) (x : CList) : (s.setClist n x).slew = s.slew := id rfl
@[simp] theorem State.setClist_reports (s : State) (n : Nat) (x : CList) : (s.setClist n x).reports = s.reports := id rfl
@[simp] theorem State.setClist_causes (s : State) (n : Nat) (x : CList) : (s.setClist n x).causes = s.causes := id rfl
@[simp] theorem State.setClist_expls (s : State) (n : Nat) (x : CList) : (s.setClist n x).expls = s.expls := id rfl
@[simp] theorem State.setClist_events (s : State) (n : Nat) (x : CList) : (s.setClist n x).events = s.events := id rfl
@[simp] theorem State.setClist_axes (s : State) (n : Nat) (x : CList) : (s.setClist n x).axes = s.axes := id rfl
@[simp] theorem State.setClist_gens (s : State) (n : Nat) (x : CList) : (s.setClist n x).gens = s.gens := id rfl
@[simp] theorem State.setClist_clist (s : State) (n : Nat) (x : CList) (j : Nat) :
    (s.setClist n x).clist j = if j = n then x else s.clist j := sget_sset _ _ _ _ _
@[simp] theorem State.setClist_pins (s : State) (n : Nat) (x : CList) : (s.setClist n x).pins = s.pins := id rfl
@[simp] theorem State.setClist_pairs (s : State) (n : Nat) (x : CList) : (s.setClist n x).pairs = s.pairs := id rfl
@[simp] theorem State.setClist_trigIns (s : State) (n : Nat) (x : CList) : (s.setClist n x).trigIns = s.trigIns := id rfl
@[simp] theorem State.setClist_sched (s : State) (n : Nat) (x : CList) : (s.setClist n x).sched = s.sched := id rfl
@[simp] theorem State.setClist_lanes (s : State) (n : Nat) (x : CList) : (s.setClist n x).lanes = s.lanes := id rfl
@[simp] theorem State.setClist_bonds (s : State) (n : Nat) (x : CList) : (s.setClist n x).bonds = s.bonds := id rfl
@[simp] theorem State.setClist_cams (s : State) (n : Nat) (x : CList) : (s.setClist n x).cams = s.cams := id rfl
@[simp] theorem State.setClist_pipes (s : State) (n : Nat) (x : CList) : (s.setClist n x).pipes = s.pipes := id rfl
@[simp] theorem State.setClist_asys (s : State) (n : Nat) (x : CList) : (s.setClist n x).asys = s.asys := id rfl
@[simp] theorem State.setClist_views (s : State) (n : Nat) (x : CList) : (s.setClist n x).views = s.views := id rfl
@[simp] theorem State.setClist_pages (s : State) (n : Nat) (x : CList) : (s.setClist n x).pages = s.pages := id rfl
@[simp] theorem State.setClist_crus (s : State) (n : Nat) (x : CList) : (s.setClist n x).crus = s.crus := id rfl
@[simp] theorem State.setClist_rings (s : State) (n : Nat) (x : CList) : (s.setClist n x).rings = s.rings := id rfl
@[simp] theorem State.setClist_xfers (s : State) (n : Nat) (x : CList) : (s.setClist n x).xfers = s.xfers := id rfl
@[simp] theorem State.setClist_host (s : State) (n : Nat) (x : CList) : (s.setClist n x).host = s.host := id rfl
@[simp] theorem State.setClist_noz (s : State) (n : Nat) (x : CList) : (s.setClist n x).noz = s.noz := id rfl
@[simp] theorem State.setClist_nbanks (s : State) (n : Nat) (x : CList) : (s.setClist n x).nbanks = s.nbanks := id rfl
@[simp] theorem State.setClist_twin (s : State) (n : Nat) (x : CList) : (s.setClist n x).twin = s.twin := id rfl
@[simp] theorem State.setClist_memx (s : State) (n : Nat) (x : CList) : (s.setClist n x).memx = s.memx := id rfl
@[simp] theorem State.setClist_chans (s : State) (n : Nat) (x : CList) : (s.setClist n x).chans = s.chans := id rfl
@[simp] theorem State.setClist_engines (s : State) (n : Nat) (x : CList) : (s.setClist n x).engines = s.engines := id rfl
@[simp] theorem State.setClist_mboxes (s : State) (n : Nat) (x : CList) : (s.setClist n x).mboxes = s.mboxes := id rfl
@[simp] theorem State.setClist_bench (s : State) (n : Nat) (x : CList) : (s.setClist n x).bench = s.bench := id rfl
@[simp] theorem State.setClist_clk (s : State) (n : Nat) (x : CList) : (s.setClist n x).clk = s.clk := id rfl
@[simp] theorem State.setClist_pwr (s : State) (n : Nat) (x : CList) : (s.setClist n x).pwr = s.pwr := id rfl
@[simp] theorem State.setClist_touch (s : State) (n : Nat) (x : CList) : (s.setClist n x).touch = s.touch := id rfl
@[simp] theorem State.setClist_boot (s : State) (n : Nat) (x : CList) : (s.setClist n x).boot = s.boot := id rfl
@[simp] theorem State.setClist_devMem (s : State) (n : Nat) (x : CList) : (s.setClist n x).devMem = s.devMem := id rfl
@[simp] theorem State.setClist_hostMem (s : State) (n : Nat) (x : CList) : (s.setClist n x).hostMem = s.hostMem := id rfl
@[simp] theorem State.setClist_parts (s : State) (n : Nat) (x : CList) : (s.setClist n x).parts = s.parts := id rfl
@[simp] theorem State.setClist_out (s : State) (n : Nat) (x : CList) : (s.setClist n x).out = s.out := id rfl
@[simp] theorem State.setClist_rd (s : State) (n : Nat) (x : CList) (j : Nat) : (s.setClist n x).rd j = s.rd j := id rfl

/-! ## setPin -/

@[simp] theorem State.setPin_pending (s : State) (n : Nat) (x : Pin) : (s.setPin n x).pending = s.pending := id rfl
@[simp] theorem State.setPin_devTime (s : State) (n : Nat) (x : Pin) : (s.setPin n x).devTime = s.devTime := id rfl
@[simp] theorem State.setPin_bootGen (s : State) (n : Nat) (x : Pin) : (s.setPin n x).bootGen = s.bootGen := id rfl
@[simp] theorem State.setPin_freeIdx (s : State) (n : Nat) (x : Pin) : (s.setPin n x).freeIdx = s.freeIdx := id rfl
@[simp] theorem State.setPin_regs (s : State) (n : Nat) (x : Pin) : (s.setPin n x).regs = s.regs := id rfl
@[simp] theorem State.setPin_hiLatch (s : State) (n : Nat) (x : Pin) : (s.setPin n x).hiLatch = s.hiLatch := id rfl
@[simp] theorem State.setPin_tick (s : State) (n : Nat) (x : Pin) : (s.setPin n x).tick = s.tick := id rfl
@[simp] theorem State.setPin_idleT (s : State) (n : Nat) (x : Pin) : (s.setPin n x).idleT = s.idleT := id rfl
@[simp] theorem State.setPin_slew (s : State) (n : Nat) (x : Pin) : (s.setPin n x).slew = s.slew := id rfl
@[simp] theorem State.setPin_reports (s : State) (n : Nat) (x : Pin) : (s.setPin n x).reports = s.reports := id rfl
@[simp] theorem State.setPin_causes (s : State) (n : Nat) (x : Pin) : (s.setPin n x).causes = s.causes := id rfl
@[simp] theorem State.setPin_expls (s : State) (n : Nat) (x : Pin) : (s.setPin n x).expls = s.expls := id rfl
@[simp] theorem State.setPin_events (s : State) (n : Nat) (x : Pin) : (s.setPin n x).events = s.events := id rfl
@[simp] theorem State.setPin_axes (s : State) (n : Nat) (x : Pin) : (s.setPin n x).axes = s.axes := id rfl
@[simp] theorem State.setPin_gens (s : State) (n : Nat) (x : Pin) : (s.setPin n x).gens = s.gens := id rfl
@[simp] theorem State.setPin_lists (s : State) (n : Nat) (x : Pin) : (s.setPin n x).lists = s.lists := id rfl
@[simp] theorem State.setPin_pin (s : State) (n : Nat) (x : Pin) (j : Nat) :
    (s.setPin n x).pin j = if j = n then x else s.pin j := sget_sset _ _ _ _ _
@[simp] theorem State.setPin_pairs (s : State) (n : Nat) (x : Pin) : (s.setPin n x).pairs = s.pairs := id rfl
@[simp] theorem State.setPin_trigIns (s : State) (n : Nat) (x : Pin) : (s.setPin n x).trigIns = s.trigIns := id rfl
@[simp] theorem State.setPin_sched (s : State) (n : Nat) (x : Pin) : (s.setPin n x).sched = s.sched := id rfl
@[simp] theorem State.setPin_lanes (s : State) (n : Nat) (x : Pin) : (s.setPin n x).lanes = s.lanes := id rfl
@[simp] theorem State.setPin_bonds (s : State) (n : Nat) (x : Pin) : (s.setPin n x).bonds = s.bonds := id rfl
@[simp] theorem State.setPin_cams (s : State) (n : Nat) (x : Pin) : (s.setPin n x).cams = s.cams := id rfl
@[simp] theorem State.setPin_pipes (s : State) (n : Nat) (x : Pin) : (s.setPin n x).pipes = s.pipes := id rfl
@[simp] theorem State.setPin_asys (s : State) (n : Nat) (x : Pin) : (s.setPin n x).asys = s.asys := id rfl
@[simp] theorem State.setPin_views (s : State) (n : Nat) (x : Pin) : (s.setPin n x).views = s.views := id rfl
@[simp] theorem State.setPin_pages (s : State) (n : Nat) (x : Pin) : (s.setPin n x).pages = s.pages := id rfl
@[simp] theorem State.setPin_crus (s : State) (n : Nat) (x : Pin) : (s.setPin n x).crus = s.crus := id rfl
@[simp] theorem State.setPin_rings (s : State) (n : Nat) (x : Pin) : (s.setPin n x).rings = s.rings := id rfl
@[simp] theorem State.setPin_xfers (s : State) (n : Nat) (x : Pin) : (s.setPin n x).xfers = s.xfers := id rfl
@[simp] theorem State.setPin_host (s : State) (n : Nat) (x : Pin) : (s.setPin n x).host = s.host := id rfl
@[simp] theorem State.setPin_noz (s : State) (n : Nat) (x : Pin) : (s.setPin n x).noz = s.noz := id rfl
@[simp] theorem State.setPin_nbanks (s : State) (n : Nat) (x : Pin) : (s.setPin n x).nbanks = s.nbanks := id rfl
@[simp] theorem State.setPin_twin (s : State) (n : Nat) (x : Pin) : (s.setPin n x).twin = s.twin := id rfl
@[simp] theorem State.setPin_memx (s : State) (n : Nat) (x : Pin) : (s.setPin n x).memx = s.memx := id rfl
@[simp] theorem State.setPin_chans (s : State) (n : Nat) (x : Pin) : (s.setPin n x).chans = s.chans := id rfl
@[simp] theorem State.setPin_engines (s : State) (n : Nat) (x : Pin) : (s.setPin n x).engines = s.engines := id rfl
@[simp] theorem State.setPin_mboxes (s : State) (n : Nat) (x : Pin) : (s.setPin n x).mboxes = s.mboxes := id rfl
@[simp] theorem State.setPin_bench (s : State) (n : Nat) (x : Pin) : (s.setPin n x).bench = s.bench := id rfl
@[simp] theorem State.setPin_clk (s : State) (n : Nat) (x : Pin) : (s.setPin n x).clk = s.clk := id rfl
@[simp] theorem State.setPin_pwr (s : State) (n : Nat) (x : Pin) : (s.setPin n x).pwr = s.pwr := id rfl
@[simp] theorem State.setPin_touch (s : State) (n : Nat) (x : Pin) : (s.setPin n x).touch = s.touch := id rfl
@[simp] theorem State.setPin_boot (s : State) (n : Nat) (x : Pin) : (s.setPin n x).boot = s.boot := id rfl
@[simp] theorem State.setPin_devMem (s : State) (n : Nat) (x : Pin) : (s.setPin n x).devMem = s.devMem := id rfl
@[simp] theorem State.setPin_hostMem (s : State) (n : Nat) (x : Pin) : (s.setPin n x).hostMem = s.hostMem := id rfl
@[simp] theorem State.setPin_parts (s : State) (n : Nat) (x : Pin) : (s.setPin n x).parts = s.parts := id rfl
@[simp] theorem State.setPin_out (s : State) (n : Nat) (x : Pin) : (s.setPin n x).out = s.out := id rfl
@[simp] theorem State.setPin_rd (s : State) (n : Nat) (x : Pin) (j : Nat) : (s.setPin n x).rd j = s.rd j := id rfl

/-! ## setPair -/

@[simp] theorem State.setPair_pending (s : State) (n : Nat) (x : Pair) : (s.setPair n x).pending = s.pending := id rfl
@[simp] theorem State.setPair_devTime (s : State) (n : Nat) (x : Pair) : (s.setPair n x).devTime = s.devTime := id rfl
@[simp] theorem State.setPair_bootGen (s : State) (n : Nat) (x : Pair) : (s.setPair n x).bootGen = s.bootGen := id rfl
@[simp] theorem State.setPair_freeIdx (s : State) (n : Nat) (x : Pair) : (s.setPair n x).freeIdx = s.freeIdx := id rfl
@[simp] theorem State.setPair_regs (s : State) (n : Nat) (x : Pair) : (s.setPair n x).regs = s.regs := id rfl
@[simp] theorem State.setPair_hiLatch (s : State) (n : Nat) (x : Pair) : (s.setPair n x).hiLatch = s.hiLatch := id rfl
@[simp] theorem State.setPair_tick (s : State) (n : Nat) (x : Pair) : (s.setPair n x).tick = s.tick := id rfl
@[simp] theorem State.setPair_idleT (s : State) (n : Nat) (x : Pair) : (s.setPair n x).idleT = s.idleT := id rfl
@[simp] theorem State.setPair_slew (s : State) (n : Nat) (x : Pair) : (s.setPair n x).slew = s.slew := id rfl
@[simp] theorem State.setPair_reports (s : State) (n : Nat) (x : Pair) : (s.setPair n x).reports = s.reports := id rfl
@[simp] theorem State.setPair_causes (s : State) (n : Nat) (x : Pair) : (s.setPair n x).causes = s.causes := id rfl
@[simp] theorem State.setPair_expls (s : State) (n : Nat) (x : Pair) : (s.setPair n x).expls = s.expls := id rfl
@[simp] theorem State.setPair_events (s : State) (n : Nat) (x : Pair) : (s.setPair n x).events = s.events := id rfl
@[simp] theorem State.setPair_axes (s : State) (n : Nat) (x : Pair) : (s.setPair n x).axes = s.axes := id rfl
@[simp] theorem State.setPair_gens (s : State) (n : Nat) (x : Pair) : (s.setPair n x).gens = s.gens := id rfl
@[simp] theorem State.setPair_lists (s : State) (n : Nat) (x : Pair) : (s.setPair n x).lists = s.lists := id rfl
@[simp] theorem State.setPair_pins (s : State) (n : Nat) (x : Pair) : (s.setPair n x).pins = s.pins := id rfl
@[simp] theorem State.setPair_pair (s : State) (n : Nat) (x : Pair) (j : Nat) :
    (s.setPair n x).pair j = if j = n then x else s.pair j := sget_sset _ _ _ _ _
@[simp] theorem State.setPair_trigIns (s : State) (n : Nat) (x : Pair) : (s.setPair n x).trigIns = s.trigIns := id rfl
@[simp] theorem State.setPair_sched (s : State) (n : Nat) (x : Pair) : (s.setPair n x).sched = s.sched := id rfl
@[simp] theorem State.setPair_lanes (s : State) (n : Nat) (x : Pair) : (s.setPair n x).lanes = s.lanes := id rfl
@[simp] theorem State.setPair_bonds (s : State) (n : Nat) (x : Pair) : (s.setPair n x).bonds = s.bonds := id rfl
@[simp] theorem State.setPair_cams (s : State) (n : Nat) (x : Pair) : (s.setPair n x).cams = s.cams := id rfl
@[simp] theorem State.setPair_pipes (s : State) (n : Nat) (x : Pair) : (s.setPair n x).pipes = s.pipes := id rfl
@[simp] theorem State.setPair_asys (s : State) (n : Nat) (x : Pair) : (s.setPair n x).asys = s.asys := id rfl
@[simp] theorem State.setPair_views (s : State) (n : Nat) (x : Pair) : (s.setPair n x).views = s.views := id rfl
@[simp] theorem State.setPair_pages (s : State) (n : Nat) (x : Pair) : (s.setPair n x).pages = s.pages := id rfl
@[simp] theorem State.setPair_crus (s : State) (n : Nat) (x : Pair) : (s.setPair n x).crus = s.crus := id rfl
@[simp] theorem State.setPair_rings (s : State) (n : Nat) (x : Pair) : (s.setPair n x).rings = s.rings := id rfl
@[simp] theorem State.setPair_xfers (s : State) (n : Nat) (x : Pair) : (s.setPair n x).xfers = s.xfers := id rfl
@[simp] theorem State.setPair_host (s : State) (n : Nat) (x : Pair) : (s.setPair n x).host = s.host := id rfl
@[simp] theorem State.setPair_noz (s : State) (n : Nat) (x : Pair) : (s.setPair n x).noz = s.noz := id rfl
@[simp] theorem State.setPair_nbanks (s : State) (n : Nat) (x : Pair) : (s.setPair n x).nbanks = s.nbanks := id rfl
@[simp] theorem State.setPair_twin (s : State) (n : Nat) (x : Pair) : (s.setPair n x).twin = s.twin := id rfl
@[simp] theorem State.setPair_memx (s : State) (n : Nat) (x : Pair) : (s.setPair n x).memx = s.memx := id rfl
@[simp] theorem State.setPair_chans (s : State) (n : Nat) (x : Pair) : (s.setPair n x).chans = s.chans := id rfl
@[simp] theorem State.setPair_engines (s : State) (n : Nat) (x : Pair) : (s.setPair n x).engines = s.engines := id rfl
@[simp] theorem State.setPair_mboxes (s : State) (n : Nat) (x : Pair) : (s.setPair n x).mboxes = s.mboxes := id rfl
@[simp] theorem State.setPair_bench (s : State) (n : Nat) (x : Pair) : (s.setPair n x).bench = s.bench := id rfl
@[simp] theorem State.setPair_clk (s : State) (n : Nat) (x : Pair) : (s.setPair n x).clk = s.clk := id rfl
@[simp] theorem State.setPair_pwr (s : State) (n : Nat) (x : Pair) : (s.setPair n x).pwr = s.pwr := id rfl
@[simp] theorem State.setPair_touch (s : State) (n : Nat) (x : Pair) : (s.setPair n x).touch = s.touch := id rfl
@[simp] theorem State.setPair_boot (s : State) (n : Nat) (x : Pair) : (s.setPair n x).boot = s.boot := id rfl
@[simp] theorem State.setPair_devMem (s : State) (n : Nat) (x : Pair) : (s.setPair n x).devMem = s.devMem := id rfl
@[simp] theorem State.setPair_hostMem (s : State) (n : Nat) (x : Pair) : (s.setPair n x).hostMem = s.hostMem := id rfl
@[simp] theorem State.setPair_parts (s : State) (n : Nat) (x : Pair) : (s.setPair n x).parts = s.parts := id rfl
@[simp] theorem State.setPair_out (s : State) (n : Nat) (x : Pair) : (s.setPair n x).out = s.out := id rfl
@[simp] theorem State.setPair_rd (s : State) (n : Nat) (x : Pair) (j : Nat) : (s.setPair n x).rd j = s.rd j := id rfl

/-! ## setTrigIn -/

@[simp] theorem State.setTrigIn_pending (s : State) (n : Nat) (x : TrigIn) : (s.setTrigIn n x).pending = s.pending := id rfl
@[simp] theorem State.setTrigIn_devTime (s : State) (n : Nat) (x : TrigIn) : (s.setTrigIn n x).devTime = s.devTime := id rfl
@[simp] theorem State.setTrigIn_bootGen (s : State) (n : Nat) (x : TrigIn) : (s.setTrigIn n x).bootGen = s.bootGen := id rfl
@[simp] theorem State.setTrigIn_freeIdx (s : State) (n : Nat) (x : TrigIn) : (s.setTrigIn n x).freeIdx = s.freeIdx := id rfl
@[simp] theorem State.setTrigIn_regs (s : State) (n : Nat) (x : TrigIn) : (s.setTrigIn n x).regs = s.regs := id rfl
@[simp] theorem State.setTrigIn_hiLatch (s : State) (n : Nat) (x : TrigIn) : (s.setTrigIn n x).hiLatch = s.hiLatch := id rfl
@[simp] theorem State.setTrigIn_tick (s : State) (n : Nat) (x : TrigIn) : (s.setTrigIn n x).tick = s.tick := id rfl
@[simp] theorem State.setTrigIn_idleT (s : State) (n : Nat) (x : TrigIn) : (s.setTrigIn n x).idleT = s.idleT := id rfl
@[simp] theorem State.setTrigIn_slew (s : State) (n : Nat) (x : TrigIn) : (s.setTrigIn n x).slew = s.slew := id rfl
@[simp] theorem State.setTrigIn_reports (s : State) (n : Nat) (x : TrigIn) : (s.setTrigIn n x).reports = s.reports := id rfl
@[simp] theorem State.setTrigIn_causes (s : State) (n : Nat) (x : TrigIn) : (s.setTrigIn n x).causes = s.causes := id rfl
@[simp] theorem State.setTrigIn_expls (s : State) (n : Nat) (x : TrigIn) : (s.setTrigIn n x).expls = s.expls := id rfl
@[simp] theorem State.setTrigIn_events (s : State) (n : Nat) (x : TrigIn) : (s.setTrigIn n x).events = s.events := id rfl
@[simp] theorem State.setTrigIn_axes (s : State) (n : Nat) (x : TrigIn) : (s.setTrigIn n x).axes = s.axes := id rfl
@[simp] theorem State.setTrigIn_gens (s : State) (n : Nat) (x : TrigIn) : (s.setTrigIn n x).gens = s.gens := id rfl
@[simp] theorem State.setTrigIn_lists (s : State) (n : Nat) (x : TrigIn) : (s.setTrigIn n x).lists = s.lists := id rfl
@[simp] theorem State.setTrigIn_pins (s : State) (n : Nat) (x : TrigIn) : (s.setTrigIn n x).pins = s.pins := id rfl
@[simp] theorem State.setTrigIn_pairs (s : State) (n : Nat) (x : TrigIn) : (s.setTrigIn n x).pairs = s.pairs := id rfl
@[simp] theorem State.setTrigIn_trigIn (s : State) (n : Nat) (x : TrigIn) (j : Nat) :
    (s.setTrigIn n x).trigIn j = if j = n then x else s.trigIn j := sget_sset _ _ _ _ _
@[simp] theorem State.setTrigIn_sched (s : State) (n : Nat) (x : TrigIn) : (s.setTrigIn n x).sched = s.sched := id rfl
@[simp] theorem State.setTrigIn_lanes (s : State) (n : Nat) (x : TrigIn) : (s.setTrigIn n x).lanes = s.lanes := id rfl
@[simp] theorem State.setTrigIn_bonds (s : State) (n : Nat) (x : TrigIn) : (s.setTrigIn n x).bonds = s.bonds := id rfl
@[simp] theorem State.setTrigIn_cams (s : State) (n : Nat) (x : TrigIn) : (s.setTrigIn n x).cams = s.cams := id rfl
@[simp] theorem State.setTrigIn_pipes (s : State) (n : Nat) (x : TrigIn) : (s.setTrigIn n x).pipes = s.pipes := id rfl
@[simp] theorem State.setTrigIn_asys (s : State) (n : Nat) (x : TrigIn) : (s.setTrigIn n x).asys = s.asys := id rfl
@[simp] theorem State.setTrigIn_views (s : State) (n : Nat) (x : TrigIn) : (s.setTrigIn n x).views = s.views := id rfl
@[simp] theorem State.setTrigIn_pages (s : State) (n : Nat) (x : TrigIn) : (s.setTrigIn n x).pages = s.pages := id rfl
@[simp] theorem State.setTrigIn_crus (s : State) (n : Nat) (x : TrigIn) : (s.setTrigIn n x).crus = s.crus := id rfl
@[simp] theorem State.setTrigIn_rings (s : State) (n : Nat) (x : TrigIn) : (s.setTrigIn n x).rings = s.rings := id rfl
@[simp] theorem State.setTrigIn_xfers (s : State) (n : Nat) (x : TrigIn) : (s.setTrigIn n x).xfers = s.xfers := id rfl
@[simp] theorem State.setTrigIn_host (s : State) (n : Nat) (x : TrigIn) : (s.setTrigIn n x).host = s.host := id rfl
@[simp] theorem State.setTrigIn_noz (s : State) (n : Nat) (x : TrigIn) : (s.setTrigIn n x).noz = s.noz := id rfl
@[simp] theorem State.setTrigIn_nbanks (s : State) (n : Nat) (x : TrigIn) : (s.setTrigIn n x).nbanks = s.nbanks := id rfl
@[simp] theorem State.setTrigIn_twin (s : State) (n : Nat) (x : TrigIn) : (s.setTrigIn n x).twin = s.twin := id rfl
@[simp] theorem State.setTrigIn_memx (s : State) (n : Nat) (x : TrigIn) : (s.setTrigIn n x).memx = s.memx := id rfl
@[simp] theorem State.setTrigIn_chans (s : State) (n : Nat) (x : TrigIn) : (s.setTrigIn n x).chans = s.chans := id rfl
@[simp] theorem State.setTrigIn_engines (s : State) (n : Nat) (x : TrigIn) : (s.setTrigIn n x).engines = s.engines := id rfl
@[simp] theorem State.setTrigIn_mboxes (s : State) (n : Nat) (x : TrigIn) : (s.setTrigIn n x).mboxes = s.mboxes := id rfl
@[simp] theorem State.setTrigIn_bench (s : State) (n : Nat) (x : TrigIn) : (s.setTrigIn n x).bench = s.bench := id rfl
@[simp] theorem State.setTrigIn_clk (s : State) (n : Nat) (x : TrigIn) : (s.setTrigIn n x).clk = s.clk := id rfl
@[simp] theorem State.setTrigIn_pwr (s : State) (n : Nat) (x : TrigIn) : (s.setTrigIn n x).pwr = s.pwr := id rfl
@[simp] theorem State.setTrigIn_touch (s : State) (n : Nat) (x : TrigIn) : (s.setTrigIn n x).touch = s.touch := id rfl
@[simp] theorem State.setTrigIn_boot (s : State) (n : Nat) (x : TrigIn) : (s.setTrigIn n x).boot = s.boot := id rfl
@[simp] theorem State.setTrigIn_devMem (s : State) (n : Nat) (x : TrigIn) : (s.setTrigIn n x).devMem = s.devMem := id rfl
@[simp] theorem State.setTrigIn_hostMem (s : State) (n : Nat) (x : TrigIn) : (s.setTrigIn n x).hostMem = s.hostMem := id rfl
@[simp] theorem State.setTrigIn_parts (s : State) (n : Nat) (x : TrigIn) : (s.setTrigIn n x).parts = s.parts := id rfl
@[simp] theorem State.setTrigIn_out (s : State) (n : Nat) (x : TrigIn) : (s.setTrigIn n x).out = s.out := id rfl
@[simp] theorem State.setTrigIn_rd (s : State) (n : Nat) (x : TrigIn) (j : Nat) : (s.setTrigIn n x).rd j = s.rd j := id rfl

/-! ## setLane -/

@[simp] theorem State.setLane_pending (s : State) (n : Nat) (x : LaneX) : (s.setLane n x).pending = s.pending := id rfl
@[simp] theorem State.setLane_devTime (s : State) (n : Nat) (x : LaneX) : (s.setLane n x).devTime = s.devTime := id rfl
@[simp] theorem State.setLane_bootGen (s : State) (n : Nat) (x : LaneX) : (s.setLane n x).bootGen = s.bootGen := id rfl
@[simp] theorem State.setLane_freeIdx (s : State) (n : Nat) (x : LaneX) : (s.setLane n x).freeIdx = s.freeIdx := id rfl
@[simp] theorem State.setLane_regs (s : State) (n : Nat) (x : LaneX) : (s.setLane n x).regs = s.regs := id rfl
@[simp] theorem State.setLane_hiLatch (s : State) (n : Nat) (x : LaneX) : (s.setLane n x).hiLatch = s.hiLatch := id rfl
@[simp] theorem State.setLane_tick (s : State) (n : Nat) (x : LaneX) : (s.setLane n x).tick = s.tick := id rfl
@[simp] theorem State.setLane_idleT (s : State) (n : Nat) (x : LaneX) : (s.setLane n x).idleT = s.idleT := id rfl
@[simp] theorem State.setLane_slew (s : State) (n : Nat) (x : LaneX) : (s.setLane n x).slew = s.slew := id rfl
@[simp] theorem State.setLane_reports (s : State) (n : Nat) (x : LaneX) : (s.setLane n x).reports = s.reports := id rfl
@[simp] theorem State.setLane_causes (s : State) (n : Nat) (x : LaneX) : (s.setLane n x).causes = s.causes := id rfl
@[simp] theorem State.setLane_expls (s : State) (n : Nat) (x : LaneX) : (s.setLane n x).expls = s.expls := id rfl
@[simp] theorem State.setLane_events (s : State) (n : Nat) (x : LaneX) : (s.setLane n x).events = s.events := id rfl
@[simp] theorem State.setLane_axes (s : State) (n : Nat) (x : LaneX) : (s.setLane n x).axes = s.axes := id rfl
@[simp] theorem State.setLane_gens (s : State) (n : Nat) (x : LaneX) : (s.setLane n x).gens = s.gens := id rfl
@[simp] theorem State.setLane_lists (s : State) (n : Nat) (x : LaneX) : (s.setLane n x).lists = s.lists := id rfl
@[simp] theorem State.setLane_pins (s : State) (n : Nat) (x : LaneX) : (s.setLane n x).pins = s.pins := id rfl
@[simp] theorem State.setLane_pairs (s : State) (n : Nat) (x : LaneX) : (s.setLane n x).pairs = s.pairs := id rfl
@[simp] theorem State.setLane_trigIns (s : State) (n : Nat) (x : LaneX) : (s.setLane n x).trigIns = s.trigIns := id rfl
@[simp] theorem State.setLane_sched (s : State) (n : Nat) (x : LaneX) : (s.setLane n x).sched = s.sched := id rfl
@[simp] theorem State.setLane_lane (s : State) (n : Nat) (x : LaneX) (j : Nat) :
    (s.setLane n x).lane j = if j = n then x else s.lane j := sget_sset _ _ _ _ _
@[simp] theorem State.setLane_bonds (s : State) (n : Nat) (x : LaneX) : (s.setLane n x).bonds = s.bonds := id rfl
@[simp] theorem State.setLane_cams (s : State) (n : Nat) (x : LaneX) : (s.setLane n x).cams = s.cams := id rfl
@[simp] theorem State.setLane_pipes (s : State) (n : Nat) (x : LaneX) : (s.setLane n x).pipes = s.pipes := id rfl
@[simp] theorem State.setLane_asys (s : State) (n : Nat) (x : LaneX) : (s.setLane n x).asys = s.asys := id rfl
@[simp] theorem State.setLane_views (s : State) (n : Nat) (x : LaneX) : (s.setLane n x).views = s.views := id rfl
@[simp] theorem State.setLane_pages (s : State) (n : Nat) (x : LaneX) : (s.setLane n x).pages = s.pages := id rfl
@[simp] theorem State.setLane_crus (s : State) (n : Nat) (x : LaneX) : (s.setLane n x).crus = s.crus := id rfl
@[simp] theorem State.setLane_rings (s : State) (n : Nat) (x : LaneX) : (s.setLane n x).rings = s.rings := id rfl
@[simp] theorem State.setLane_xfers (s : State) (n : Nat) (x : LaneX) : (s.setLane n x).xfers = s.xfers := id rfl
@[simp] theorem State.setLane_host (s : State) (n : Nat) (x : LaneX) : (s.setLane n x).host = s.host := id rfl
@[simp] theorem State.setLane_noz (s : State) (n : Nat) (x : LaneX) : (s.setLane n x).noz = s.noz := id rfl
@[simp] theorem State.setLane_nbanks (s : State) (n : Nat) (x : LaneX) : (s.setLane n x).nbanks = s.nbanks := id rfl
@[simp] theorem State.setLane_twin (s : State) (n : Nat) (x : LaneX) : (s.setLane n x).twin = s.twin := id rfl
@[simp] theorem State.setLane_memx (s : State) (n : Nat) (x : LaneX) : (s.setLane n x).memx = s.memx := id rfl
@[simp] theorem State.setLane_chans (s : State) (n : Nat) (x : LaneX) : (s.setLane n x).chans = s.chans := id rfl
@[simp] theorem State.setLane_engines (s : State) (n : Nat) (x : LaneX) : (s.setLane n x).engines = s.engines := id rfl
@[simp] theorem State.setLane_mboxes (s : State) (n : Nat) (x : LaneX) : (s.setLane n x).mboxes = s.mboxes := id rfl
@[simp] theorem State.setLane_bench (s : State) (n : Nat) (x : LaneX) : (s.setLane n x).bench = s.bench := id rfl
@[simp] theorem State.setLane_clk (s : State) (n : Nat) (x : LaneX) : (s.setLane n x).clk = s.clk := id rfl
@[simp] theorem State.setLane_pwr (s : State) (n : Nat) (x : LaneX) : (s.setLane n x).pwr = s.pwr := id rfl
@[simp] theorem State.setLane_touch (s : State) (n : Nat) (x : LaneX) : (s.setLane n x).touch = s.touch := id rfl
@[simp] theorem State.setLane_boot (s : State) (n : Nat) (x : LaneX) : (s.setLane n x).boot = s.boot := id rfl
@[simp] theorem State.setLane_devMem (s : State) (n : Nat) (x : LaneX) : (s.setLane n x).devMem = s.devMem := id rfl
@[simp] theorem State.setLane_hostMem (s : State) (n : Nat) (x : LaneX) : (s.setLane n x).hostMem = s.hostMem := id rfl
@[simp] theorem State.setLane_parts (s : State) (n : Nat) (x : LaneX) : (s.setLane n x).parts = s.parts := id rfl
@[simp] theorem State.setLane_out (s : State) (n : Nat) (x : LaneX) : (s.setLane n x).out = s.out := id rfl
@[simp] theorem State.setLane_rd (s : State) (n : Nat) (x : LaneX) (j : Nat) : (s.setLane n x).rd j = s.rd j := id rfl

/-! ## setBond -/

@[simp] theorem State.setBond_pending (s : State) (n : Nat) (x : Bond) : (s.setBond n x).pending = s.pending := id rfl
@[simp] theorem State.setBond_devTime (s : State) (n : Nat) (x : Bond) : (s.setBond n x).devTime = s.devTime := id rfl
@[simp] theorem State.setBond_bootGen (s : State) (n : Nat) (x : Bond) : (s.setBond n x).bootGen = s.bootGen := id rfl
@[simp] theorem State.setBond_freeIdx (s : State) (n : Nat) (x : Bond) : (s.setBond n x).freeIdx = s.freeIdx := id rfl
@[simp] theorem State.setBond_regs (s : State) (n : Nat) (x : Bond) : (s.setBond n x).regs = s.regs := id rfl
@[simp] theorem State.setBond_hiLatch (s : State) (n : Nat) (x : Bond) : (s.setBond n x).hiLatch = s.hiLatch := id rfl
@[simp] theorem State.setBond_tick (s : State) (n : Nat) (x : Bond) : (s.setBond n x).tick = s.tick := id rfl
@[simp] theorem State.setBond_idleT (s : State) (n : Nat) (x : Bond) : (s.setBond n x).idleT = s.idleT := id rfl
@[simp] theorem State.setBond_slew (s : State) (n : Nat) (x : Bond) : (s.setBond n x).slew = s.slew := id rfl
@[simp] theorem State.setBond_reports (s : State) (n : Nat) (x : Bond) : (s.setBond n x).reports = s.reports := id rfl
@[simp] theorem State.setBond_causes (s : State) (n : Nat) (x : Bond) : (s.setBond n x).causes = s.causes := id rfl
@[simp] theorem State.setBond_expls (s : State) (n : Nat) (x : Bond) : (s.setBond n x).expls = s.expls := id rfl
@[simp] theorem State.setBond_events (s : State) (n : Nat) (x : Bond) : (s.setBond n x).events = s.events := id rfl
@[simp] theorem State.setBond_axes (s : State) (n : Nat) (x : Bond) : (s.setBond n x).axes = s.axes := id rfl
@[simp] theorem State.setBond_gens (s : State) (n : Nat) (x : Bond) : (s.setBond n x).gens = s.gens := id rfl
@[simp] theorem State.setBond_lists (s : State) (n : Nat) (x : Bond) : (s.setBond n x).lists = s.lists := id rfl
@[simp] theorem State.setBond_pins (s : State) (n : Nat) (x : Bond) : (s.setBond n x).pins = s.pins := id rfl
@[simp] theorem State.setBond_pairs (s : State) (n : Nat) (x : Bond) : (s.setBond n x).pairs = s.pairs := id rfl
@[simp] theorem State.setBond_trigIns (s : State) (n : Nat) (x : Bond) : (s.setBond n x).trigIns = s.trigIns := id rfl
@[simp] theorem State.setBond_sched (s : State) (n : Nat) (x : Bond) : (s.setBond n x).sched = s.sched := id rfl
@[simp] theorem State.setBond_lanes (s : State) (n : Nat) (x : Bond) : (s.setBond n x).lanes = s.lanes := id rfl
@[simp] theorem State.setBond_bond (s : State) (n : Nat) (x : Bond) (j : Nat) :
    (s.setBond n x).bond j = if j = n then x else s.bond j := sget_sset _ _ _ _ _
@[simp] theorem State.setBond_cams (s : State) (n : Nat) (x : Bond) : (s.setBond n x).cams = s.cams := id rfl
@[simp] theorem State.setBond_pipes (s : State) (n : Nat) (x : Bond) : (s.setBond n x).pipes = s.pipes := id rfl
@[simp] theorem State.setBond_asys (s : State) (n : Nat) (x : Bond) : (s.setBond n x).asys = s.asys := id rfl
@[simp] theorem State.setBond_views (s : State) (n : Nat) (x : Bond) : (s.setBond n x).views = s.views := id rfl
@[simp] theorem State.setBond_pages (s : State) (n : Nat) (x : Bond) : (s.setBond n x).pages = s.pages := id rfl
@[simp] theorem State.setBond_crus (s : State) (n : Nat) (x : Bond) : (s.setBond n x).crus = s.crus := id rfl
@[simp] theorem State.setBond_rings (s : State) (n : Nat) (x : Bond) : (s.setBond n x).rings = s.rings := id rfl
@[simp] theorem State.setBond_xfers (s : State) (n : Nat) (x : Bond) : (s.setBond n x).xfers = s.xfers := id rfl
@[simp] theorem State.setBond_host (s : State) (n : Nat) (x : Bond) : (s.setBond n x).host = s.host := id rfl
@[simp] theorem State.setBond_noz (s : State) (n : Nat) (x : Bond) : (s.setBond n x).noz = s.noz := id rfl
@[simp] theorem State.setBond_nbanks (s : State) (n : Nat) (x : Bond) : (s.setBond n x).nbanks = s.nbanks := id rfl
@[simp] theorem State.setBond_twin (s : State) (n : Nat) (x : Bond) : (s.setBond n x).twin = s.twin := id rfl
@[simp] theorem State.setBond_memx (s : State) (n : Nat) (x : Bond) : (s.setBond n x).memx = s.memx := id rfl
@[simp] theorem State.setBond_chans (s : State) (n : Nat) (x : Bond) : (s.setBond n x).chans = s.chans := id rfl
@[simp] theorem State.setBond_engines (s : State) (n : Nat) (x : Bond) : (s.setBond n x).engines = s.engines := id rfl
@[simp] theorem State.setBond_mboxes (s : State) (n : Nat) (x : Bond) : (s.setBond n x).mboxes = s.mboxes := id rfl
@[simp] theorem State.setBond_bench (s : State) (n : Nat) (x : Bond) : (s.setBond n x).bench = s.bench := id rfl
@[simp] theorem State.setBond_clk (s : State) (n : Nat) (x : Bond) : (s.setBond n x).clk = s.clk := id rfl
@[simp] theorem State.setBond_pwr (s : State) (n : Nat) (x : Bond) : (s.setBond n x).pwr = s.pwr := id rfl
@[simp] theorem State.setBond_touch (s : State) (n : Nat) (x : Bond) : (s.setBond n x).touch = s.touch := id rfl
@[simp] theorem State.setBond_boot (s : State) (n : Nat) (x : Bond) : (s.setBond n x).boot = s.boot := id rfl
@[simp] theorem State.setBond_devMem (s : State) (n : Nat) (x : Bond) : (s.setBond n x).devMem = s.devMem := id rfl
@[simp] theorem State.setBond_hostMem (s : State) (n : Nat) (x : Bond) : (s.setBond n x).hostMem = s.hostMem := id rfl
@[simp] theorem State.setBond_parts (s : State) (n : Nat) (x : Bond) : (s.setBond n x).parts = s.parts := id rfl
@[simp] theorem State.setBond_out (s : State) (n : Nat) (x : Bond) : (s.setBond n x).out = s.out := id rfl
@[simp] theorem State.setBond_rd (s : State) (n : Nat) (x : Bond) (j : Nat) : (s.setBond n x).rd j = s.rd j := id rfl

/-! ## setCam -/

@[simp] theorem State.setCam_pending (s : State) (n : Nat) (x : Cam) : (s.setCam n x).pending = s.pending := id rfl
@[simp] theorem State.setCam_devTime (s : State) (n : Nat) (x : Cam) : (s.setCam n x).devTime = s.devTime := id rfl
@[simp] theorem State.setCam_bootGen (s : State) (n : Nat) (x : Cam) : (s.setCam n x).bootGen = s.bootGen := id rfl
@[simp] theorem State.setCam_freeIdx (s : State) (n : Nat) (x : Cam) : (s.setCam n x).freeIdx = s.freeIdx := id rfl
@[simp] theorem State.setCam_regs (s : State) (n : Nat) (x : Cam) : (s.setCam n x).regs = s.regs := id rfl
@[simp] theorem State.setCam_hiLatch (s : State) (n : Nat) (x : Cam) : (s.setCam n x).hiLatch = s.hiLatch := id rfl
@[simp] theorem State.setCam_tick (s : State) (n : Nat) (x : Cam) : (s.setCam n x).tick = s.tick := id rfl
@[simp] theorem State.setCam_idleT (s : State) (n : Nat) (x : Cam) : (s.setCam n x).idleT = s.idleT := id rfl
@[simp] theorem State.setCam_slew (s : State) (n : Nat) (x : Cam) : (s.setCam n x).slew = s.slew := id rfl
@[simp] theorem State.setCam_reports (s : State) (n : Nat) (x : Cam) : (s.setCam n x).reports = s.reports := id rfl
@[simp] theorem State.setCam_causes (s : State) (n : Nat) (x : Cam) : (s.setCam n x).causes = s.causes := id rfl
@[simp] theorem State.setCam_expls (s : State) (n : Nat) (x : Cam) : (s.setCam n x).expls = s.expls := id rfl
@[simp] theorem State.setCam_events (s : State) (n : Nat) (x : Cam) : (s.setCam n x).events = s.events := id rfl
@[simp] theorem State.setCam_axes (s : State) (n : Nat) (x : Cam) : (s.setCam n x).axes = s.axes := id rfl
@[simp] theorem State.setCam_gens (s : State) (n : Nat) (x : Cam) : (s.setCam n x).gens = s.gens := id rfl
@[simp] theorem State.setCam_lists (s : State) (n : Nat) (x : Cam) : (s.setCam n x).lists = s.lists := id rfl
@[simp] theorem State.setCam_pins (s : State) (n : Nat) (x : Cam) : (s.setCam n x).pins = s.pins := id rfl
@[simp] theorem State.setCam_pairs (s : State) (n : Nat) (x : Cam) : (s.setCam n x).pairs = s.pairs := id rfl
@[simp] theorem State.setCam_trigIns (s : State) (n : Nat) (x : Cam) : (s.setCam n x).trigIns = s.trigIns := id rfl
@[simp] theorem State.setCam_sched (s : State) (n : Nat) (x : Cam) : (s.setCam n x).sched = s.sched := id rfl
@[simp] theorem State.setCam_lanes (s : State) (n : Nat) (x : Cam) : (s.setCam n x).lanes = s.lanes := id rfl
@[simp] theorem State.setCam_bonds (s : State) (n : Nat) (x : Cam) : (s.setCam n x).bonds = s.bonds := id rfl
@[simp] theorem State.setCam_cam (s : State) (n : Nat) (x : Cam) (j : Nat) :
    (s.setCam n x).cam j = if j = n then x else s.cam j := sget_sset _ _ _ _ _
@[simp] theorem State.setCam_pipes (s : State) (n : Nat) (x : Cam) : (s.setCam n x).pipes = s.pipes := id rfl
@[simp] theorem State.setCam_asys (s : State) (n : Nat) (x : Cam) : (s.setCam n x).asys = s.asys := id rfl
@[simp] theorem State.setCam_views (s : State) (n : Nat) (x : Cam) : (s.setCam n x).views = s.views := id rfl
@[simp] theorem State.setCam_pages (s : State) (n : Nat) (x : Cam) : (s.setCam n x).pages = s.pages := id rfl
@[simp] theorem State.setCam_crus (s : State) (n : Nat) (x : Cam) : (s.setCam n x).crus = s.crus := id rfl
@[simp] theorem State.setCam_rings (s : State) (n : Nat) (x : Cam) : (s.setCam n x).rings = s.rings := id rfl
@[simp] theorem State.setCam_xfers (s : State) (n : Nat) (x : Cam) : (s.setCam n x).xfers = s.xfers := id rfl
@[simp] theorem State.setCam_host (s : State) (n : Nat) (x : Cam) : (s.setCam n x).host = s.host := id rfl
@[simp] theorem State.setCam_noz (s : State) (n : Nat) (x : Cam) : (s.setCam n x).noz = s.noz := id rfl
@[simp] theorem State.setCam_nbanks (s : State) (n : Nat) (x : Cam) : (s.setCam n x).nbanks = s.nbanks := id rfl
@[simp] theorem State.setCam_twin (s : State) (n : Nat) (x : Cam) : (s.setCam n x).twin = s.twin := id rfl
@[simp] theorem State.setCam_memx (s : State) (n : Nat) (x : Cam) : (s.setCam n x).memx = s.memx := id rfl
@[simp] theorem State.setCam_chans (s : State) (n : Nat) (x : Cam) : (s.setCam n x).chans = s.chans := id rfl
@[simp] theorem State.setCam_engines (s : State) (n : Nat) (x : Cam) : (s.setCam n x).engines = s.engines := id rfl
@[simp] theorem State.setCam_mboxes (s : State) (n : Nat) (x : Cam) : (s.setCam n x).mboxes = s.mboxes := id rfl
@[simp] theorem State.setCam_bench (s : State) (n : Nat) (x : Cam) : (s.setCam n x).bench = s.bench := id rfl
@[simp] theorem State.setCam_clk (s : State) (n : Nat) (x : Cam) : (s.setCam n x).clk = s.clk := id rfl
@[simp] theorem State.setCam_pwr (s : State) (n : Nat) (x : Cam) : (s.setCam n x).pwr = s.pwr := id rfl
@[simp] theorem State.setCam_touch (s : State) (n : Nat) (x : Cam) : (s.setCam n x).touch = s.touch := id rfl
@[simp] theorem State.setCam_boot (s : State) (n : Nat) (x : Cam) : (s.setCam n x).boot = s.boot := id rfl
@[simp] theorem State.setCam_devMem (s : State) (n : Nat) (x : Cam) : (s.setCam n x).devMem = s.devMem := id rfl
@[simp] theorem State.setCam_hostMem (s : State) (n : Nat) (x : Cam) : (s.setCam n x).hostMem = s.hostMem := id rfl
@[simp] theorem State.setCam_parts (s : State) (n : Nat) (x : Cam) : (s.setCam n x).parts = s.parts := id rfl
@[simp] theorem State.setCam_out (s : State) (n : Nat) (x : Cam) : (s.setCam n x).out = s.out := id rfl
@[simp] theorem State.setCam_rd (s : State) (n : Nat) (x : Cam) (j : Nat) : (s.setCam n x).rd j = s.rd j := id rfl

/-! ## setPipe -/

@[simp] theorem State.setPipe_pending (s : State) (n : Nat) (x : Pipe) : (s.setPipe n x).pending = s.pending := id rfl
@[simp] theorem State.setPipe_devTime (s : State) (n : Nat) (x : Pipe) : (s.setPipe n x).devTime = s.devTime := id rfl
@[simp] theorem State.setPipe_bootGen (s : State) (n : Nat) (x : Pipe) : (s.setPipe n x).bootGen = s.bootGen := id rfl
@[simp] theorem State.setPipe_freeIdx (s : State) (n : Nat) (x : Pipe) : (s.setPipe n x).freeIdx = s.freeIdx := id rfl
@[simp] theorem State.setPipe_regs (s : State) (n : Nat) (x : Pipe) : (s.setPipe n x).regs = s.regs := id rfl
@[simp] theorem State.setPipe_hiLatch (s : State) (n : Nat) (x : Pipe) : (s.setPipe n x).hiLatch = s.hiLatch := id rfl
@[simp] theorem State.setPipe_tick (s : State) (n : Nat) (x : Pipe) : (s.setPipe n x).tick = s.tick := id rfl
@[simp] theorem State.setPipe_idleT (s : State) (n : Nat) (x : Pipe) : (s.setPipe n x).idleT = s.idleT := id rfl
@[simp] theorem State.setPipe_slew (s : State) (n : Nat) (x : Pipe) : (s.setPipe n x).slew = s.slew := id rfl
@[simp] theorem State.setPipe_reports (s : State) (n : Nat) (x : Pipe) : (s.setPipe n x).reports = s.reports := id rfl
@[simp] theorem State.setPipe_causes (s : State) (n : Nat) (x : Pipe) : (s.setPipe n x).causes = s.causes := id rfl
@[simp] theorem State.setPipe_expls (s : State) (n : Nat) (x : Pipe) : (s.setPipe n x).expls = s.expls := id rfl
@[simp] theorem State.setPipe_events (s : State) (n : Nat) (x : Pipe) : (s.setPipe n x).events = s.events := id rfl
@[simp] theorem State.setPipe_axes (s : State) (n : Nat) (x : Pipe) : (s.setPipe n x).axes = s.axes := id rfl
@[simp] theorem State.setPipe_gens (s : State) (n : Nat) (x : Pipe) : (s.setPipe n x).gens = s.gens := id rfl
@[simp] theorem State.setPipe_lists (s : State) (n : Nat) (x : Pipe) : (s.setPipe n x).lists = s.lists := id rfl
@[simp] theorem State.setPipe_pins (s : State) (n : Nat) (x : Pipe) : (s.setPipe n x).pins = s.pins := id rfl
@[simp] theorem State.setPipe_pairs (s : State) (n : Nat) (x : Pipe) : (s.setPipe n x).pairs = s.pairs := id rfl
@[simp] theorem State.setPipe_trigIns (s : State) (n : Nat) (x : Pipe) : (s.setPipe n x).trigIns = s.trigIns := id rfl
@[simp] theorem State.setPipe_sched (s : State) (n : Nat) (x : Pipe) : (s.setPipe n x).sched = s.sched := id rfl
@[simp] theorem State.setPipe_lanes (s : State) (n : Nat) (x : Pipe) : (s.setPipe n x).lanes = s.lanes := id rfl
@[simp] theorem State.setPipe_bonds (s : State) (n : Nat) (x : Pipe) : (s.setPipe n x).bonds = s.bonds := id rfl
@[simp] theorem State.setPipe_cams (s : State) (n : Nat) (x : Pipe) : (s.setPipe n x).cams = s.cams := id rfl
@[simp] theorem State.setPipe_pipe (s : State) (n : Nat) (x : Pipe) (j : Nat) :
    (s.setPipe n x).pipe j = if j = n then x else s.pipe j := sget_sset _ _ _ _ _
@[simp] theorem State.setPipe_asys (s : State) (n : Nat) (x : Pipe) : (s.setPipe n x).asys = s.asys := id rfl
@[simp] theorem State.setPipe_views (s : State) (n : Nat) (x : Pipe) : (s.setPipe n x).views = s.views := id rfl
@[simp] theorem State.setPipe_pages (s : State) (n : Nat) (x : Pipe) : (s.setPipe n x).pages = s.pages := id rfl
@[simp] theorem State.setPipe_crus (s : State) (n : Nat) (x : Pipe) : (s.setPipe n x).crus = s.crus := id rfl
@[simp] theorem State.setPipe_rings (s : State) (n : Nat) (x : Pipe) : (s.setPipe n x).rings = s.rings := id rfl
@[simp] theorem State.setPipe_xfers (s : State) (n : Nat) (x : Pipe) : (s.setPipe n x).xfers = s.xfers := id rfl
@[simp] theorem State.setPipe_host (s : State) (n : Nat) (x : Pipe) : (s.setPipe n x).host = s.host := id rfl
@[simp] theorem State.setPipe_noz (s : State) (n : Nat) (x : Pipe) : (s.setPipe n x).noz = s.noz := id rfl
@[simp] theorem State.setPipe_nbanks (s : State) (n : Nat) (x : Pipe) : (s.setPipe n x).nbanks = s.nbanks := id rfl
@[simp] theorem State.setPipe_twin (s : State) (n : Nat) (x : Pipe) : (s.setPipe n x).twin = s.twin := id rfl
@[simp] theorem State.setPipe_memx (s : State) (n : Nat) (x : Pipe) : (s.setPipe n x).memx = s.memx := id rfl
@[simp] theorem State.setPipe_chans (s : State) (n : Nat) (x : Pipe) : (s.setPipe n x).chans = s.chans := id rfl
@[simp] theorem State.setPipe_engines (s : State) (n : Nat) (x : Pipe) : (s.setPipe n x).engines = s.engines := id rfl
@[simp] theorem State.setPipe_mboxes (s : State) (n : Nat) (x : Pipe) : (s.setPipe n x).mboxes = s.mboxes := id rfl
@[simp] theorem State.setPipe_bench (s : State) (n : Nat) (x : Pipe) : (s.setPipe n x).bench = s.bench := id rfl
@[simp] theorem State.setPipe_clk (s : State) (n : Nat) (x : Pipe) : (s.setPipe n x).clk = s.clk := id rfl
@[simp] theorem State.setPipe_pwr (s : State) (n : Nat) (x : Pipe) : (s.setPipe n x).pwr = s.pwr := id rfl
@[simp] theorem State.setPipe_touch (s : State) (n : Nat) (x : Pipe) : (s.setPipe n x).touch = s.touch := id rfl
@[simp] theorem State.setPipe_boot (s : State) (n : Nat) (x : Pipe) : (s.setPipe n x).boot = s.boot := id rfl
@[simp] theorem State.setPipe_devMem (s : State) (n : Nat) (x : Pipe) : (s.setPipe n x).devMem = s.devMem := id rfl
@[simp] theorem State.setPipe_hostMem (s : State) (n : Nat) (x : Pipe) : (s.setPipe n x).hostMem = s.hostMem := id rfl
@[simp] theorem State.setPipe_parts (s : State) (n : Nat) (x : Pipe) : (s.setPipe n x).parts = s.parts := id rfl
@[simp] theorem State.setPipe_out (s : State) (n : Nat) (x : Pipe) : (s.setPipe n x).out = s.out := id rfl
@[simp] theorem State.setPipe_rd (s : State) (n : Nat) (x : Pipe) (j : Nat) : (s.setPipe n x).rd j = s.rd j := id rfl

/-! ## setAsy -/

@[simp] theorem State.setAsy_pending (s : State) (n : Nat) (x : Asy) : (s.setAsy n x).pending = s.pending := id rfl
@[simp] theorem State.setAsy_devTime (s : State) (n : Nat) (x : Asy) : (s.setAsy n x).devTime = s.devTime := id rfl
@[simp] theorem State.setAsy_bootGen (s : State) (n : Nat) (x : Asy) : (s.setAsy n x).bootGen = s.bootGen := id rfl
@[simp] theorem State.setAsy_freeIdx (s : State) (n : Nat) (x : Asy) : (s.setAsy n x).freeIdx = s.freeIdx := id rfl
@[simp] theorem State.setAsy_regs (s : State) (n : Nat) (x : Asy) : (s.setAsy n x).regs = s.regs := id rfl
@[simp] theorem State.setAsy_hiLatch (s : State) (n : Nat) (x : Asy) : (s.setAsy n x).hiLatch = s.hiLatch := id rfl
@[simp] theorem State.setAsy_tick (s : State) (n : Nat) (x : Asy) : (s.setAsy n x).tick = s.tick := id rfl
@[simp] theorem State.setAsy_idleT (s : State) (n : Nat) (x : Asy) : (s.setAsy n x).idleT = s.idleT := id rfl
@[simp] theorem State.setAsy_slew (s : State) (n : Nat) (x : Asy) : (s.setAsy n x).slew = s.slew := id rfl
@[simp] theorem State.setAsy_reports (s : State) (n : Nat) (x : Asy) : (s.setAsy n x).reports = s.reports := id rfl
@[simp] theorem State.setAsy_causes (s : State) (n : Nat) (x : Asy) : (s.setAsy n x).causes = s.causes := id rfl
@[simp] theorem State.setAsy_expls (s : State) (n : Nat) (x : Asy) : (s.setAsy n x).expls = s.expls := id rfl
@[simp] theorem State.setAsy_events (s : State) (n : Nat) (x : Asy) : (s.setAsy n x).events = s.events := id rfl
@[simp] theorem State.setAsy_axes (s : State) (n : Nat) (x : Asy) : (s.setAsy n x).axes = s.axes := id rfl
@[simp] theorem State.setAsy_gens (s : State) (n : Nat) (x : Asy) : (s.setAsy n x).gens = s.gens := id rfl
@[simp] theorem State.setAsy_lists (s : State) (n : Nat) (x : Asy) : (s.setAsy n x).lists = s.lists := id rfl
@[simp] theorem State.setAsy_pins (s : State) (n : Nat) (x : Asy) : (s.setAsy n x).pins = s.pins := id rfl
@[simp] theorem State.setAsy_pairs (s : State) (n : Nat) (x : Asy) : (s.setAsy n x).pairs = s.pairs := id rfl
@[simp] theorem State.setAsy_trigIns (s : State) (n : Nat) (x : Asy) : (s.setAsy n x).trigIns = s.trigIns := id rfl
@[simp] theorem State.setAsy_sched (s : State) (n : Nat) (x : Asy) : (s.setAsy n x).sched = s.sched := id rfl
@[simp] theorem State.setAsy_lanes (s : State) (n : Nat) (x : Asy) : (s.setAsy n x).lanes = s.lanes := id rfl
@[simp] theorem State.setAsy_bonds (s : State) (n : Nat) (x : Asy) : (s.setAsy n x).bonds = s.bonds := id rfl
@[simp] theorem State.setAsy_cams (s : State) (n : Nat) (x : Asy) : (s.setAsy n x).cams = s.cams := id rfl
@[simp] theorem State.setAsy_pipes (s : State) (n : Nat) (x : Asy) : (s.setAsy n x).pipes = s.pipes := id rfl
@[simp] theorem State.setAsy_asy (s : State) (n : Nat) (x : Asy) (j : Nat) :
    (s.setAsy n x).asy j = if j = n then x else s.asy j := sget_sset _ _ _ _ _
@[simp] theorem State.setAsy_views (s : State) (n : Nat) (x : Asy) : (s.setAsy n x).views = s.views := id rfl
@[simp] theorem State.setAsy_pages (s : State) (n : Nat) (x : Asy) : (s.setAsy n x).pages = s.pages := id rfl
@[simp] theorem State.setAsy_crus (s : State) (n : Nat) (x : Asy) : (s.setAsy n x).crus = s.crus := id rfl
@[simp] theorem State.setAsy_rings (s : State) (n : Nat) (x : Asy) : (s.setAsy n x).rings = s.rings := id rfl
@[simp] theorem State.setAsy_xfers (s : State) (n : Nat) (x : Asy) : (s.setAsy n x).xfers = s.xfers := id rfl
@[simp] theorem State.setAsy_host (s : State) (n : Nat) (x : Asy) : (s.setAsy n x).host = s.host := id rfl
@[simp] theorem State.setAsy_noz (s : State) (n : Nat) (x : Asy) : (s.setAsy n x).noz = s.noz := id rfl
@[simp] theorem State.setAsy_nbanks (s : State) (n : Nat) (x : Asy) : (s.setAsy n x).nbanks = s.nbanks := id rfl
@[simp] theorem State.setAsy_twin (s : State) (n : Nat) (x : Asy) : (s.setAsy n x).twin = s.twin := id rfl
@[simp] theorem State.setAsy_memx (s : State) (n : Nat) (x : Asy) : (s.setAsy n x).memx = s.memx := id rfl
@[simp] theorem State.setAsy_chans (s : State) (n : Nat) (x : Asy) : (s.setAsy n x).chans = s.chans := id rfl
@[simp] theorem State.setAsy_engines (s : State) (n : Nat) (x : Asy) : (s.setAsy n x).engines = s.engines := id rfl
@[simp] theorem State.setAsy_mboxes (s : State) (n : Nat) (x : Asy) : (s.setAsy n x).mboxes = s.mboxes := id rfl
@[simp] theorem State.setAsy_bench (s : State) (n : Nat) (x : Asy) : (s.setAsy n x).bench = s.bench := id rfl
@[simp] theorem State.setAsy_clk (s : State) (n : Nat) (x : Asy) : (s.setAsy n x).clk = s.clk := id rfl
@[simp] theorem State.setAsy_pwr (s : State) (n : Nat) (x : Asy) : (s.setAsy n x).pwr = s.pwr := id rfl
@[simp] theorem State.setAsy_touch (s : State) (n : Nat) (x : Asy) : (s.setAsy n x).touch = s.touch := id rfl
@[simp] theorem State.setAsy_boot (s : State) (n : Nat) (x : Asy) : (s.setAsy n x).boot = s.boot := id rfl
@[simp] theorem State.setAsy_devMem (s : State) (n : Nat) (x : Asy) : (s.setAsy n x).devMem = s.devMem := id rfl
@[simp] theorem State.setAsy_hostMem (s : State) (n : Nat) (x : Asy) : (s.setAsy n x).hostMem = s.hostMem := id rfl
@[simp] theorem State.setAsy_parts (s : State) (n : Nat) (x : Asy) : (s.setAsy n x).parts = s.parts := id rfl
@[simp] theorem State.setAsy_out (s : State) (n : Nat) (x : Asy) : (s.setAsy n x).out = s.out := id rfl
@[simp] theorem State.setAsy_rd (s : State) (n : Nat) (x : Asy) (j : Nat) : (s.setAsy n x).rd j = s.rd j := id rfl

/-! ## setView -/

@[simp] theorem State.setView_pending (s : State) (n : Nat) (x : View) : (s.setView n x).pending = s.pending := id rfl
@[simp] theorem State.setView_devTime (s : State) (n : Nat) (x : View) : (s.setView n x).devTime = s.devTime := id rfl
@[simp] theorem State.setView_bootGen (s : State) (n : Nat) (x : View) : (s.setView n x).bootGen = s.bootGen := id rfl
@[simp] theorem State.setView_freeIdx (s : State) (n : Nat) (x : View) : (s.setView n x).freeIdx = s.freeIdx := id rfl
@[simp] theorem State.setView_regs (s : State) (n : Nat) (x : View) : (s.setView n x).regs = s.regs := id rfl
@[simp] theorem State.setView_hiLatch (s : State) (n : Nat) (x : View) : (s.setView n x).hiLatch = s.hiLatch := id rfl
@[simp] theorem State.setView_tick (s : State) (n : Nat) (x : View) : (s.setView n x).tick = s.tick := id rfl
@[simp] theorem State.setView_idleT (s : State) (n : Nat) (x : View) : (s.setView n x).idleT = s.idleT := id rfl
@[simp] theorem State.setView_slew (s : State) (n : Nat) (x : View) : (s.setView n x).slew = s.slew := id rfl
@[simp] theorem State.setView_reports (s : State) (n : Nat) (x : View) : (s.setView n x).reports = s.reports := id rfl
@[simp] theorem State.setView_causes (s : State) (n : Nat) (x : View) : (s.setView n x).causes = s.causes := id rfl
@[simp] theorem State.setView_expls (s : State) (n : Nat) (x : View) : (s.setView n x).expls = s.expls := id rfl
@[simp] theorem State.setView_events (s : State) (n : Nat) (x : View) : (s.setView n x).events = s.events := id rfl
@[simp] theorem State.setView_axes (s : State) (n : Nat) (x : View) : (s.setView n x).axes = s.axes := id rfl
@[simp] theorem State.setView_gens (s : State) (n : Nat) (x : View) : (s.setView n x).gens = s.gens := id rfl
@[simp] theorem State.setView_lists (s : State) (n : Nat) (x : View) : (s.setView n x).lists = s.lists := id rfl
@[simp] theorem State.setView_pins (s : State) (n : Nat) (x : View) : (s.setView n x).pins = s.pins := id rfl
@[simp] theorem State.setView_pairs (s : State) (n : Nat) (x : View) : (s.setView n x).pairs = s.pairs := id rfl
@[simp] theorem State.setView_trigIns (s : State) (n : Nat) (x : View) : (s.setView n x).trigIns = s.trigIns := id rfl
@[simp] theorem State.setView_sched (s : State) (n : Nat) (x : View) : (s.setView n x).sched = s.sched := id rfl
@[simp] theorem State.setView_lanes (s : State) (n : Nat) (x : View) : (s.setView n x).lanes = s.lanes := id rfl
@[simp] theorem State.setView_bonds (s : State) (n : Nat) (x : View) : (s.setView n x).bonds = s.bonds := id rfl
@[simp] theorem State.setView_cams (s : State) (n : Nat) (x : View) : (s.setView n x).cams = s.cams := id rfl
@[simp] theorem State.setView_pipes (s : State) (n : Nat) (x : View) : (s.setView n x).pipes = s.pipes := id rfl
@[simp] theorem State.setView_asys (s : State) (n : Nat) (x : View) : (s.setView n x).asys = s.asys := id rfl
@[simp] theorem State.setView_view (s : State) (n : Nat) (x : View) (j : Nat) :
    (s.setView n x).view j = if j = n then x else s.view j := sget_sset _ _ _ _ _
@[simp] theorem State.setView_pages (s : State) (n : Nat) (x : View) : (s.setView n x).pages = s.pages := id rfl
@[simp] theorem State.setView_crus (s : State) (n : Nat) (x : View) : (s.setView n x).crus = s.crus := id rfl
@[simp] theorem State.setView_rings (s : State) (n : Nat) (x : View) : (s.setView n x).rings = s.rings := id rfl
@[simp] theorem State.setView_xfers (s : State) (n : Nat) (x : View) : (s.setView n x).xfers = s.xfers := id rfl
@[simp] theorem State.setView_host (s : State) (n : Nat) (x : View) : (s.setView n x).host = s.host := id rfl
@[simp] theorem State.setView_noz (s : State) (n : Nat) (x : View) : (s.setView n x).noz = s.noz := id rfl
@[simp] theorem State.setView_nbanks (s : State) (n : Nat) (x : View) : (s.setView n x).nbanks = s.nbanks := id rfl
@[simp] theorem State.setView_twin (s : State) (n : Nat) (x : View) : (s.setView n x).twin = s.twin := id rfl
@[simp] theorem State.setView_memx (s : State) (n : Nat) (x : View) : (s.setView n x).memx = s.memx := id rfl
@[simp] theorem State.setView_chans (s : State) (n : Nat) (x : View) : (s.setView n x).chans = s.chans := id rfl
@[simp] theorem State.setView_engines (s : State) (n : Nat) (x : View) : (s.setView n x).engines = s.engines := id rfl
@[simp] theorem State.setView_mboxes (s : State) (n : Nat) (x : View) : (s.setView n x).mboxes = s.mboxes := id rfl
@[simp] theorem State.setView_bench (s : State) (n : Nat) (x : View) : (s.setView n x).bench = s.bench := id rfl
@[simp] theorem State.setView_clk (s : State) (n : Nat) (x : View) : (s.setView n x).clk = s.clk := id rfl
@[simp] theorem State.setView_pwr (s : State) (n : Nat) (x : View) : (s.setView n x).pwr = s.pwr := id rfl
@[simp] theorem State.setView_touch (s : State) (n : Nat) (x : View) : (s.setView n x).touch = s.touch := id rfl
@[simp] theorem State.setView_boot (s : State) (n : Nat) (x : View) : (s.setView n x).boot = s.boot := id rfl
@[simp] theorem State.setView_devMem (s : State) (n : Nat) (x : View) : (s.setView n x).devMem = s.devMem := id rfl
@[simp] theorem State.setView_hostMem (s : State) (n : Nat) (x : View) : (s.setView n x).hostMem = s.hostMem := id rfl
@[simp] theorem State.setView_parts (s : State) (n : Nat) (x : View) : (s.setView n x).parts = s.parts := id rfl
@[simp] theorem State.setView_out (s : State) (n : Nat) (x : View) : (s.setView n x).out = s.out := id rfl
@[simp] theorem State.setView_rd (s : State) (n : Nat) (x : View) (j : Nat) : (s.setView n x).rd j = s.rd j := id rfl

/-! ## setPageSlot -/

@[simp] theorem State.setPageSlot_pending (s : State) (k t : Nat) : (s.setPageSlot k t).pending = s.pending := id rfl
@[simp] theorem State.setPageSlot_devTime (s : State) (k t : Nat) : (s.setPageSlot k t).devTime = s.devTime := id rfl
@[simp] theorem State.setPageSlot_bootGen (s : State) (k t : Nat) : (s.setPageSlot k t).bootGen = s.bootGen := id rfl
@[simp] theorem State.setPageSlot_freeIdx (s : State) (k t : Nat) : (s.setPageSlot k t).freeIdx = s.freeIdx := id rfl
@[simp] theorem State.setPageSlot_regs (s : State) (k t : Nat) : (s.setPageSlot k t).regs = s.regs := id rfl
@[simp] theorem State.setPageSlot_hiLatch (s : State) (k t : Nat) : (s.setPageSlot k t).hiLatch = s.hiLatch := id rfl
@[simp] theorem State.setPageSlot_tick (s : State) (k t : Nat) : (s.setPageSlot k t).tick = s.tick := id rfl
@[simp] theorem State.setPageSlot_idleT (s : State) (k t : Nat) : (s.setPageSlot k t).idleT = s.idleT := id rfl
@[simp] theorem State.setPageSlot_slew (s : State) (k t : Nat) : (s.setPageSlot k t).slew = s.slew := id rfl
@[simp] theorem State.setPageSlot_reports (s : State) (k t : Nat) : (s.setPageSlot k t).reports = s.reports := id rfl
@[simp] theorem State.setPageSlot_causes (s : State) (k t : Nat) : (s.setPageSlot k t).causes = s.causes := id rfl
@[simp] theorem State.setPageSlot_expls (s : State) (k t : Nat) : (s.setPageSlot k t).expls = s.expls := id rfl
@[simp] theorem State.setPageSlot_events (s : State) (k t : Nat) : (s.setPageSlot k t).events = s.events := id rfl
@[simp] theorem State.setPageSlot_axes (s : State) (k t : Nat) : (s.setPageSlot k t).axes = s.axes := id rfl
@[simp] theorem State.setPageSlot_gens (s : State) (k t : Nat) : (s.setPageSlot k t).gens = s.gens := id rfl
@[simp] theorem State.setPageSlot_lists (s : State) (k t : Nat) : (s.setPageSlot k t).lists = s.lists := id rfl
@[simp] theorem State.setPageSlot_pins (s : State) (k t : Nat) : (s.setPageSlot k t).pins = s.pins := id rfl
@[simp] theorem State.setPageSlot_pairs (s : State) (k t : Nat) : (s.setPageSlot k t).pairs = s.pairs := id rfl
@[simp] theorem State.setPageSlot_trigIns (s : State) (k t : Nat) : (s.setPageSlot k t).trigIns = s.trigIns := id rfl
@[simp] theorem State.setPageSlot_sched (s : State) (k t : Nat) : (s.setPageSlot k t).sched = s.sched := id rfl
@[simp] theorem State.setPageSlot_lanes (s : State) (k t : Nat) : (s.setPageSlot k t).lanes = s.lanes := id rfl
@[simp] theorem State.setPageSlot_bonds (s : State) (k t : Nat) : (s.setPageSlot k t).bonds = s.bonds := id rfl
@[simp] theorem State.setPageSlot_cams (s : State) (k t : Nat) : (s.setPageSlot k t).cams = s.cams := id rfl
@[simp] theorem State.setPageSlot_pipes (s : State) (k t : Nat) : (s.setPageSlot k t).pipes = s.pipes := id rfl
@[simp] theorem State.setPageSlot_asys (s : State) (k t : Nat) : (s.setPageSlot k t).asys = s.asys := id rfl
@[simp] theorem State.setPageSlot_views (s : State) (k t : Nat) : (s.setPageSlot k t).views = s.views := id rfl
@[simp] theorem State.setPageSlot_pageSlot (s : State) (k t : Nat) (j : Nat) :
    (s.setPageSlot k t).pageSlot j = if j = k then t else s.pageSlot j := sget_sset _ _ _ _ _
@[simp] theorem State.setPageSlot_crus (s : State) (k t : Nat) : (s.setPageSlot k t).crus = s.crus := id rfl
@[simp] theorem State.setPageSlot_rings (s : State) (k t : Nat) : (s.setPageSlot k t).rings = s.rings := id rfl
@[simp] theorem State.setPageSlot_xfers (s : State) (k t : Nat) : (s.setPageSlot k t).xfers = s.xfers := id rfl
@[simp] theorem State.setPageSlot_host (s : State) (k t : Nat) : (s.setPageSlot k t).host = s.host := id rfl
@[simp] theorem State.setPageSlot_noz (s : State) (k t : Nat) : (s.setPageSlot k t).noz = s.noz := id rfl
@[simp] theorem State.setPageSlot_nbanks (s : State) (k t : Nat) : (s.setPageSlot k t).nbanks = s.nbanks := id rfl
@[simp] theorem State.setPageSlot_twin (s : State) (k t : Nat) : (s.setPageSlot k t).twin = s.twin := id rfl
@[simp] theorem State.setPageSlot_memx (s : State) (k t : Nat) : (s.setPageSlot k t).memx = s.memx := id rfl
@[simp] theorem State.setPageSlot_chans (s : State) (k t : Nat) : (s.setPageSlot k t).chans = s.chans := id rfl
@[simp] theorem State.setPageSlot_engines (s : State) (k t : Nat) : (s.setPageSlot k t).engines = s.engines := id rfl
@[simp] theorem State.setPageSlot_mboxes (s : State) (k t : Nat) : (s.setPageSlot k t).mboxes = s.mboxes := id rfl
@[simp] theorem State.setPageSlot_bench (s : State) (k t : Nat) : (s.setPageSlot k t).bench = s.bench := id rfl
@[simp] theorem State.setPageSlot_clk (s : State) (k t : Nat) : (s.setPageSlot k t).clk = s.clk := id rfl
@[simp] theorem State.setPageSlot_pwr (s : State) (k t : Nat) : (s.setPageSlot k t).pwr = s.pwr := id rfl
@[simp] theorem State.setPageSlot_touch (s : State) (k t : Nat) : (s.setPageSlot k t).touch = s.touch := id rfl
@[simp] theorem State.setPageSlot_boot (s : State) (k t : Nat) : (s.setPageSlot k t).boot = s.boot := id rfl
@[simp] theorem State.setPageSlot_devMem (s : State) (k t : Nat) : (s.setPageSlot k t).devMem = s.devMem := id rfl
@[simp] theorem State.setPageSlot_hostMem (s : State) (k t : Nat) : (s.setPageSlot k t).hostMem = s.hostMem := id rfl
@[simp] theorem State.setPageSlot_parts (s : State) (k t : Nat) : (s.setPageSlot k t).parts = s.parts := id rfl
@[simp] theorem State.setPageSlot_out (s : State) (k t : Nat) : (s.setPageSlot k t).out = s.out := id rfl
@[simp] theorem State.setPageSlot_rd (s : State) (k t : Nat) (j : Nat) : (s.setPageSlot k t).rd j = s.rd j := id rfl

/-! ## setCru -/

@[simp] theorem State.setCru_pending (s : State) (n : Nat) (x : Cru) : (s.setCru n x).pending = s.pending := id rfl
@[simp] theorem State.setCru_devTime (s : State) (n : Nat) (x : Cru) : (s.setCru n x).devTime = s.devTime := id rfl
@[simp] theorem State.setCru_bootGen (s : State) (n : Nat) (x : Cru) : (s.setCru n x).bootGen = s.bootGen := id rfl
@[simp] theorem State.setCru_freeIdx (s : State) (n : Nat) (x : Cru) : (s.setCru n x).freeIdx = s.freeIdx := id rfl
@[simp] theorem State.setCru_regs (s : State) (n : Nat) (x : Cru) : (s.setCru n x).regs = s.regs := id rfl
@[simp] theorem State.setCru_hiLatch (s : State) (n : Nat) (x : Cru) : (s.setCru n x).hiLatch = s.hiLatch := id rfl
@[simp] theorem State.setCru_tick (s : State) (n : Nat) (x : Cru) : (s.setCru n x).tick = s.tick := id rfl
@[simp] theorem State.setCru_idleT (s : State) (n : Nat) (x : Cru) : (s.setCru n x).idleT = s.idleT := id rfl
@[simp] theorem State.setCru_slew (s : State) (n : Nat) (x : Cru) : (s.setCru n x).slew = s.slew := id rfl
@[simp] theorem State.setCru_reports (s : State) (n : Nat) (x : Cru) : (s.setCru n x).reports = s.reports := id rfl
@[simp] theorem State.setCru_causes (s : State) (n : Nat) (x : Cru) : (s.setCru n x).causes = s.causes := id rfl
@[simp] theorem State.setCru_expls (s : State) (n : Nat) (x : Cru) : (s.setCru n x).expls = s.expls := id rfl
@[simp] theorem State.setCru_events (s : State) (n : Nat) (x : Cru) : (s.setCru n x).events = s.events := id rfl
@[simp] theorem State.setCru_axes (s : State) (n : Nat) (x : Cru) : (s.setCru n x).axes = s.axes := id rfl
@[simp] theorem State.setCru_gens (s : State) (n : Nat) (x : Cru) : (s.setCru n x).gens = s.gens := id rfl
@[simp] theorem State.setCru_lists (s : State) (n : Nat) (x : Cru) : (s.setCru n x).lists = s.lists := id rfl
@[simp] theorem State.setCru_pins (s : State) (n : Nat) (x : Cru) : (s.setCru n x).pins = s.pins := id rfl
@[simp] theorem State.setCru_pairs (s : State) (n : Nat) (x : Cru) : (s.setCru n x).pairs = s.pairs := id rfl
@[simp] theorem State.setCru_trigIns (s : State) (n : Nat) (x : Cru) : (s.setCru n x).trigIns = s.trigIns := id rfl
@[simp] theorem State.setCru_sched (s : State) (n : Nat) (x : Cru) : (s.setCru n x).sched = s.sched := id rfl
@[simp] theorem State.setCru_lanes (s : State) (n : Nat) (x : Cru) : (s.setCru n x).lanes = s.lanes := id rfl
@[simp] theorem State.setCru_bonds (s : State) (n : Nat) (x : Cru) : (s.setCru n x).bonds = s.bonds := id rfl
@[simp] theorem State.setCru_cams (s : State) (n : Nat) (x : Cru) : (s.setCru n x).cams = s.cams := id rfl
@[simp] theorem State.setCru_pipes (s : State) (n : Nat) (x : Cru) : (s.setCru n x).pipes = s.pipes := id rfl
@[simp] theorem State.setCru_asys (s : State) (n : Nat) (x : Cru) : (s.setCru n x).asys = s.asys := id rfl
@[simp] theorem State.setCru_views (s : State) (n : Nat) (x : Cru) : (s.setCru n x).views = s.views := id rfl
@[simp] theorem State.setCru_pages (s : State) (n : Nat) (x : Cru) : (s.setCru n x).pages = s.pages := id rfl
@[simp] theorem State.setCru_cru (s : State) (n : Nat) (x : Cru) (j : Nat) :
    (s.setCru n x).cru j = if j = n then x else s.cru j := sget_sset _ _ _ _ _
@[simp] theorem State.setCru_rings (s : State) (n : Nat) (x : Cru) : (s.setCru n x).rings = s.rings := id rfl
@[simp] theorem State.setCru_xfers (s : State) (n : Nat) (x : Cru) : (s.setCru n x).xfers = s.xfers := id rfl
@[simp] theorem State.setCru_host (s : State) (n : Nat) (x : Cru) : (s.setCru n x).host = s.host := id rfl
@[simp] theorem State.setCru_noz (s : State) (n : Nat) (x : Cru) : (s.setCru n x).noz = s.noz := id rfl
@[simp] theorem State.setCru_nbanks (s : State) (n : Nat) (x : Cru) : (s.setCru n x).nbanks = s.nbanks := id rfl
@[simp] theorem State.setCru_twin (s : State) (n : Nat) (x : Cru) : (s.setCru n x).twin = s.twin := id rfl
@[simp] theorem State.setCru_memx (s : State) (n : Nat) (x : Cru) : (s.setCru n x).memx = s.memx := id rfl
@[simp] theorem State.setCru_chans (s : State) (n : Nat) (x : Cru) : (s.setCru n x).chans = s.chans := id rfl
@[simp] theorem State.setCru_engines (s : State) (n : Nat) (x : Cru) : (s.setCru n x).engines = s.engines := id rfl
@[simp] theorem State.setCru_mboxes (s : State) (n : Nat) (x : Cru) : (s.setCru n x).mboxes = s.mboxes := id rfl
@[simp] theorem State.setCru_bench (s : State) (n : Nat) (x : Cru) : (s.setCru n x).bench = s.bench := id rfl
@[simp] theorem State.setCru_clk (s : State) (n : Nat) (x : Cru) : (s.setCru n x).clk = s.clk := id rfl
@[simp] theorem State.setCru_pwr (s : State) (n : Nat) (x : Cru) : (s.setCru n x).pwr = s.pwr := id rfl
@[simp] theorem State.setCru_touch (s : State) (n : Nat) (x : Cru) : (s.setCru n x).touch = s.touch := id rfl
@[simp] theorem State.setCru_boot (s : State) (n : Nat) (x : Cru) : (s.setCru n x).boot = s.boot := id rfl
@[simp] theorem State.setCru_devMem (s : State) (n : Nat) (x : Cru) : (s.setCru n x).devMem = s.devMem := id rfl
@[simp] theorem State.setCru_hostMem (s : State) (n : Nat) (x : Cru) : (s.setCru n x).hostMem = s.hostMem := id rfl
@[simp] theorem State.setCru_parts (s : State) (n : Nat) (x : Cru) : (s.setCru n x).parts = s.parts := id rfl
@[simp] theorem State.setCru_out (s : State) (n : Nat) (x : Cru) : (s.setCru n x).out = s.out := id rfl
@[simp] theorem State.setCru_rd (s : State) (n : Nat) (x : Cru) (j : Nat) : (s.setCru n x).rd j = s.rd j := id rfl

/-! ## setRing -/

@[simp] theorem State.setRing_pending (s : State) (f r : Nat) (x : Ring) : (s.setRing f r x).pending = s.pending := id rfl
@[simp] theorem State.setRing_devTime (s : State) (f r : Nat) (x : Ring) : (s.setRing f r x).devTime = s.devTime := id rfl
@[simp] theorem State.setRing_bootGen (s : State) (f r : Nat) (x : Ring) : (s.setRing f r x).bootGen = s.bootGen := id rfl
@[simp] theorem State.setRing_freeIdx (s : State) (f r : Nat) (x : Ring) : (s.setRing f r x).freeIdx = s.freeIdx := id rfl
@[simp] theorem State.setRing_regs (s : State) (f r : Nat) (x : Ring) : (s.setRing f r x).regs = s.regs := id rfl
@[simp] theorem State.setRing_hiLatch (s : State) (f r : Nat) (x : Ring) : (s.setRing f r x).hiLatch = s.hiLatch := id rfl
@[simp] theorem State.setRing_tick (s : State) (f r : Nat) (x : Ring) : (s.setRing f r x).tick = s.tick := id rfl
@[simp] theorem State.setRing_idleT (s : State) (f r : Nat) (x : Ring) : (s.setRing f r x).idleT = s.idleT := id rfl
@[simp] theorem State.setRing_slew (s : State) (f r : Nat) (x : Ring) : (s.setRing f r x).slew = s.slew := id rfl
@[simp] theorem State.setRing_reports (s : State) (f r : Nat) (x : Ring) : (s.setRing f r x).reports = s.reports := id rfl
@[simp] theorem State.setRing_causes (s : State) (f r : Nat) (x : Ring) : (s.setRing f r x).causes = s.causes := id rfl
@[simp] theorem State.setRing_expls (s : State) (f r : Nat) (x : Ring) : (s.setRing f r x).expls = s.expls := id rfl
@[simp] theorem State.setRing_events (s : State) (f r : Nat) (x : Ring) : (s.setRing f r x).events = s.events := id rfl
@[simp] theorem State.setRing_axes (s : State) (f r : Nat) (x : Ring) : (s.setRing f r x).axes = s.axes := id rfl
@[simp] theorem State.setRing_gens (s : State) (f r : Nat) (x : Ring) : (s.setRing f r x).gens = s.gens := id rfl
@[simp] theorem State.setRing_lists (s : State) (f r : Nat) (x : Ring) : (s.setRing f r x).lists = s.lists := id rfl
@[simp] theorem State.setRing_pins (s : State) (f r : Nat) (x : Ring) : (s.setRing f r x).pins = s.pins := id rfl
@[simp] theorem State.setRing_pairs (s : State) (f r : Nat) (x : Ring) : (s.setRing f r x).pairs = s.pairs := id rfl
@[simp] theorem State.setRing_trigIns (s : State) (f r : Nat) (x : Ring) : (s.setRing f r x).trigIns = s.trigIns := id rfl
@[simp] theorem State.setRing_sched (s : State) (f r : Nat) (x : Ring) : (s.setRing f r x).sched = s.sched := id rfl
@[simp] theorem State.setRing_lanes (s : State) (f r : Nat) (x : Ring) : (s.setRing f r x).lanes = s.lanes := id rfl
@[simp] theorem State.setRing_bonds (s : State) (f r : Nat) (x : Ring) : (s.setRing f r x).bonds = s.bonds := id rfl
@[simp] theorem State.setRing_cams (s : State) (f r : Nat) (x : Ring) : (s.setRing f r x).cams = s.cams := id rfl
@[simp] theorem State.setRing_pipes (s : State) (f r : Nat) (x : Ring) : (s.setRing f r x).pipes = s.pipes := id rfl
@[simp] theorem State.setRing_asys (s : State) (f r : Nat) (x : Ring) : (s.setRing f r x).asys = s.asys := id rfl
@[simp] theorem State.setRing_views (s : State) (f r : Nat) (x : Ring) : (s.setRing f r x).views = s.views := id rfl
@[simp] theorem State.setRing_pages (s : State) (f r : Nat) (x : Ring) : (s.setRing f r x).pages = s.pages := id rfl
@[simp] theorem State.setRing_crus (s : State) (f r : Nat) (x : Ring) : (s.setRing f r x).crus = s.crus := id rfl
@[simp] theorem State.setRing_xfers (s : State) (f r : Nat) (x : Ring) : (s.setRing f r x).xfers = s.xfers := id rfl
@[simp] theorem State.setRing_host (s : State) (f r : Nat) (x : Ring) : (s.setRing f r x).host = s.host := id rfl
@[simp] theorem State.setRing_noz (s : State) (f r : Nat) (x : Ring) : (s.setRing f r x).noz = s.noz := id rfl
@[simp] theorem State.setRing_nbanks (s : State) (f r : Nat) (x : Ring) : (s.setRing f r x).nbanks = s.nbanks := id rfl
@[simp] theorem State.setRing_twin (s : State) (f r : Nat) (x : Ring) : (s.setRing f r x).twin = s.twin := id rfl
@[simp] theorem State.setRing_memx (s : State) (f r : Nat) (x : Ring) : (s.setRing f r x).memx = s.memx := id rfl
@[simp] theorem State.setRing_chans (s : State) (f r : Nat) (x : Ring) : (s.setRing f r x).chans = s.chans := id rfl
@[simp] theorem State.setRing_engines (s : State) (f r : Nat) (x : Ring) : (s.setRing f r x).engines = s.engines := id rfl
@[simp] theorem State.setRing_mboxes (s : State) (f r : Nat) (x : Ring) : (s.setRing f r x).mboxes = s.mboxes := id rfl
@[simp] theorem State.setRing_bench (s : State) (f r : Nat) (x : Ring) : (s.setRing f r x).bench = s.bench := id rfl
@[simp] theorem State.setRing_clk (s : State) (f r : Nat) (x : Ring) : (s.setRing f r x).clk = s.clk := id rfl
@[simp] theorem State.setRing_pwr (s : State) (f r : Nat) (x : Ring) : (s.setRing f r x).pwr = s.pwr := id rfl
@[simp] theorem State.setRing_touch (s : State) (f r : Nat) (x : Ring) : (s.setRing f r x).touch = s.touch := id rfl
@[simp] theorem State.setRing_boot (s : State) (f r : Nat) (x : Ring) : (s.setRing f r x).boot = s.boot := id rfl
@[simp] theorem State.setRing_devMem (s : State) (f r : Nat) (x : Ring) : (s.setRing f r x).devMem = s.devMem := id rfl
@[simp] theorem State.setRing_hostMem (s : State) (f r : Nat) (x : Ring) : (s.setRing f r x).hostMem = s.hostMem := id rfl
@[simp] theorem State.setRing_parts (s : State) (f r : Nat) (x : Ring) : (s.setRing f r x).parts = s.parts := id rfl
@[simp] theorem State.setRing_out (s : State) (f r : Nat) (x : Ring) : (s.setRing f r x).out = s.out := id rfl
@[simp] theorem State.setRing_rd (s : State) (f r : Nat) (x : Ring) (j : Nat) : (s.setRing f r x).rd j = s.rd j := id rfl

/-! ## setMbox -/

@[simp] theorem State.setMbox_pending (s : State) (f : Nat) (x : Mbox) : (s.setMbox f x).pending = s.pending := id rfl
@[simp] theorem State.setMbox_devTime (s : State) (f : Nat) (x : Mbox) : (s.setMbox f x).devTime = s.devTime := id rfl
@[simp] theorem State.setMbox_bootGen (s : State) (f : Nat) (x : Mbox) : (s.setMbox f x).bootGen = s.bootGen := id rfl
@[simp] theorem State.setMbox_freeIdx (s : State) (f : Nat) (x : Mbox) : (s.setMbox f x).freeIdx = s.freeIdx := id rfl
@[simp] theorem State.setMbox_regs (s : State) (f : Nat) (x : Mbox) : (s.setMbox f x).regs = s.regs := id rfl
@[simp] theorem State.setMbox_hiLatch (s : State) (f : Nat) (x : Mbox) : (s.setMbox f x).hiLatch = s.hiLatch := id rfl
@[simp] theorem State.setMbox_tick (s : State) (f : Nat) (x : Mbox) : (s.setMbox f x).tick = s.tick := id rfl
@[simp] theorem State.setMbox_idleT (s : State) (f : Nat) (x : Mbox) : (s.setMbox f x).idleT = s.idleT := id rfl
@[simp] theorem State.setMbox_slew (s : State) (f : Nat) (x : Mbox) : (s.setMbox f x).slew = s.slew := id rfl
@[simp] theorem State.setMbox_reports (s : State) (f : Nat) (x : Mbox) : (s.setMbox f x).reports = s.reports := id rfl
@[simp] theorem State.setMbox_causes (s : State) (f : Nat) (x : Mbox) : (s.setMbox f x).causes = s.causes := id rfl
@[simp] theorem State.setMbox_expls (s : State) (f : Nat) (x : Mbox) : (s.setMbox f x).expls = s.expls := id rfl
@[simp] theorem State.setMbox_events (s : State) (f : Nat) (x : Mbox) : (s.setMbox f x).events = s.events := id rfl
@[simp] theorem State.setMbox_axes (s : State) (f : Nat) (x : Mbox) : (s.setMbox f x).axes = s.axes := id rfl
@[simp] theorem State.setMbox_gens (s : State) (f : Nat) (x : Mbox) : (s.setMbox f x).gens = s.gens := id rfl
@[simp] theorem State.setMbox_lists (s : State) (f : Nat) (x : Mbox) : (s.setMbox f x).lists = s.lists := id rfl
@[simp] theorem State.setMbox_pins (s : State) (f : Nat) (x : Mbox) : (s.setMbox f x).pins = s.pins := id rfl
@[simp] theorem State.setMbox_pairs (s : State) (f : Nat) (x : Mbox) : (s.setMbox f x).pairs = s.pairs := id rfl
@[simp] theorem State.setMbox_trigIns (s : State) (f : Nat) (x : Mbox) : (s.setMbox f x).trigIns = s.trigIns := id rfl
@[simp] theorem State.setMbox_sched (s : State) (f : Nat) (x : Mbox) : (s.setMbox f x).sched = s.sched := id rfl
@[simp] theorem State.setMbox_lanes (s : State) (f : Nat) (x : Mbox) : (s.setMbox f x).lanes = s.lanes := id rfl
@[simp] theorem State.setMbox_bonds (s : State) (f : Nat) (x : Mbox) : (s.setMbox f x).bonds = s.bonds := id rfl
@[simp] theorem State.setMbox_cams (s : State) (f : Nat) (x : Mbox) : (s.setMbox f x).cams = s.cams := id rfl
@[simp] theorem State.setMbox_pipes (s : State) (f : Nat) (x : Mbox) : (s.setMbox f x).pipes = s.pipes := id rfl
@[simp] theorem State.setMbox_asys (s : State) (f : Nat) (x : Mbox) : (s.setMbox f x).asys = s.asys := id rfl
@[simp] theorem State.setMbox_views (s : State) (f : Nat) (x : Mbox) : (s.setMbox f x).views = s.views := id rfl
@[simp] theorem State.setMbox_pages (s : State) (f : Nat) (x : Mbox) : (s.setMbox f x).pages = s.pages := id rfl
@[simp] theorem State.setMbox_crus (s : State) (f : Nat) (x : Mbox) : (s.setMbox f x).crus = s.crus := id rfl
@[simp] theorem State.setMbox_rings (s : State) (f : Nat) (x : Mbox) : (s.setMbox f x).rings = s.rings := id rfl
@[simp] theorem State.setMbox_xfers (s : State) (f : Nat) (x : Mbox) : (s.setMbox f x).xfers = s.xfers := id rfl
@[simp] theorem State.setMbox_host (s : State) (f : Nat) (x : Mbox) : (s.setMbox f x).host = s.host := id rfl
@[simp] theorem State.setMbox_noz (s : State) (f : Nat) (x : Mbox) : (s.setMbox f x).noz = s.noz := id rfl
@[simp] theorem State.setMbox_nbanks (s : State) (f : Nat) (x : Mbox) : (s.setMbox f x).nbanks = s.nbanks := id rfl
@[simp] theorem State.setMbox_twin (s : State) (f : Nat) (x : Mbox) : (s.setMbox f x).twin = s.twin := id rfl
@[simp] theorem State.setMbox_memx (s : State) (f : Nat) (x : Mbox) : (s.setMbox f x).memx = s.memx := id rfl
@[simp] theorem State.setMbox_chans (s : State) (f : Nat) (x : Mbox) : (s.setMbox f x).chans = s.chans := id rfl
@[simp] theorem State.setMbox_engines (s : State) (f : Nat) (x : Mbox) : (s.setMbox f x).engines = s.engines := id rfl
@[simp] theorem State.setMbox_mbox (s : State) (f : Nat) (x : Mbox) (j : Nat) :
    (s.setMbox f x).mbox j = if j = f then x else s.mbox j := sget_sset _ _ _ _ _
@[simp] theorem State.setMbox_bench (s : State) (f : Nat) (x : Mbox) : (s.setMbox f x).bench = s.bench := id rfl
@[simp] theorem State.setMbox_clk (s : State) (f : Nat) (x : Mbox) : (s.setMbox f x).clk = s.clk := id rfl
@[simp] theorem State.setMbox_pwr (s : State) (f : Nat) (x : Mbox) : (s.setMbox f x).pwr = s.pwr := id rfl
@[simp] theorem State.setMbox_touch (s : State) (f : Nat) (x : Mbox) : (s.setMbox f x).touch = s.touch := id rfl
@[simp] theorem State.setMbox_boot (s : State) (f : Nat) (x : Mbox) : (s.setMbox f x).boot = s.boot := id rfl
@[simp] theorem State.setMbox_devMem (s : State) (f : Nat) (x : Mbox) : (s.setMbox f x).devMem = s.devMem := id rfl
@[simp] theorem State.setMbox_hostMem (s : State) (f : Nat) (x : Mbox) : (s.setMbox f x).hostMem = s.hostMem := id rfl
@[simp] theorem State.setMbox_parts (s : State) (f : Nat) (x : Mbox) : (s.setMbox f x).parts = s.parts := id rfl
@[simp] theorem State.setMbox_out (s : State) (f : Nat) (x : Mbox) : (s.setMbox f x).out = s.out := id rfl
@[simp] theorem State.setMbox_rd (s : State) (f : Nat) (x : Mbox) (j : Nat) : (s.setMbox f x).rd j = s.rd j := id rfl

/-! ## setBench -/

@[simp] theorem State.setBench_pending (s : State) (x : BenchX) : (s.setBench x).pending = s.pending := id rfl
@[simp] theorem State.setBench_devTime (s : State) (x : BenchX) : (s.setBench x).devTime = s.devTime := id rfl
@[simp] theorem State.setBench_bootGen (s : State) (x : BenchX) : (s.setBench x).bootGen = s.bootGen := id rfl
@[simp] theorem State.setBench_freeIdx (s : State) (x : BenchX) : (s.setBench x).freeIdx = s.freeIdx := id rfl
@[simp] theorem State.setBench_regs (s : State) (x : BenchX) : (s.setBench x).regs = s.regs := id rfl
@[simp] theorem State.setBench_hiLatch (s : State) (x : BenchX) : (s.setBench x).hiLatch = s.hiLatch := id rfl
@[simp] theorem State.setBench_tick (s : State) (x : BenchX) : (s.setBench x).tick = s.tick := id rfl
@[simp] theorem State.setBench_idleT (s : State) (x : BenchX) : (s.setBench x).idleT = s.idleT := id rfl
@[simp] theorem State.setBench_slew (s : State) (x : BenchX) : (s.setBench x).slew = s.slew := id rfl
@[simp] theorem State.setBench_reports (s : State) (x : BenchX) : (s.setBench x).reports = s.reports := id rfl
@[simp] theorem State.setBench_causes (s : State) (x : BenchX) : (s.setBench x).causes = s.causes := id rfl
@[simp] theorem State.setBench_expls (s : State) (x : BenchX) : (s.setBench x).expls = s.expls := id rfl
@[simp] theorem State.setBench_events (s : State) (x : BenchX) : (s.setBench x).events = s.events := id rfl
@[simp] theorem State.setBench_axes (s : State) (x : BenchX) : (s.setBench x).axes = s.axes := id rfl
@[simp] theorem State.setBench_gens (s : State) (x : BenchX) : (s.setBench x).gens = s.gens := id rfl
@[simp] theorem State.setBench_lists (s : State) (x : BenchX) : (s.setBench x).lists = s.lists := id rfl
@[simp] theorem State.setBench_pins (s : State) (x : BenchX) : (s.setBench x).pins = s.pins := id rfl
@[simp] theorem State.setBench_pairs (s : State) (x : BenchX) : (s.setBench x).pairs = s.pairs := id rfl
@[simp] theorem State.setBench_trigIns (s : State) (x : BenchX) : (s.setBench x).trigIns = s.trigIns := id rfl
@[simp] theorem State.setBench_sched (s : State) (x : BenchX) : (s.setBench x).sched = s.sched := id rfl
@[simp] theorem State.setBench_lanes (s : State) (x : BenchX) : (s.setBench x).lanes = s.lanes := id rfl
@[simp] theorem State.setBench_bonds (s : State) (x : BenchX) : (s.setBench x).bonds = s.bonds := id rfl
@[simp] theorem State.setBench_cams (s : State) (x : BenchX) : (s.setBench x).cams = s.cams := id rfl
@[simp] theorem State.setBench_pipes (s : State) (x : BenchX) : (s.setBench x).pipes = s.pipes := id rfl
@[simp] theorem State.setBench_asys (s : State) (x : BenchX) : (s.setBench x).asys = s.asys := id rfl
@[simp] theorem State.setBench_views (s : State) (x : BenchX) : (s.setBench x).views = s.views := id rfl
@[simp] theorem State.setBench_pages (s : State) (x : BenchX) : (s.setBench x).pages = s.pages := id rfl
@[simp] theorem State.setBench_crus (s : State) (x : BenchX) : (s.setBench x).crus = s.crus := id rfl
@[simp] theorem State.setBench_rings (s : State) (x : BenchX) : (s.setBench x).rings = s.rings := id rfl
@[simp] theorem State.setBench_xfers (s : State) (x : BenchX) : (s.setBench x).xfers = s.xfers := id rfl
@[simp] theorem State.setBench_host (s : State) (x : BenchX) : (s.setBench x).host = s.host := id rfl
@[simp] theorem State.setBench_noz (s : State) (x : BenchX) : (s.setBench x).noz = s.noz := id rfl
@[simp] theorem State.setBench_nbanks (s : State) (x : BenchX) : (s.setBench x).nbanks = s.nbanks := id rfl
@[simp] theorem State.setBench_twin (s : State) (x : BenchX) : (s.setBench x).twin = s.twin := id rfl
@[simp] theorem State.setBench_memx (s : State) (x : BenchX) : (s.setBench x).memx = s.memx := id rfl
@[simp] theorem State.setBench_chans (s : State) (x : BenchX) : (s.setBench x).chans = s.chans := id rfl
@[simp] theorem State.setBench_engines (s : State) (x : BenchX) : (s.setBench x).engines = s.engines := id rfl
@[simp] theorem State.setBench_mboxes (s : State) (x : BenchX) : (s.setBench x).mboxes = s.mboxes := id rfl
@[simp] theorem State.setBench_bench (s : State) (x : BenchX) : (s.setBench x).bench = x := id rfl
@[simp] theorem State.setBench_clk (s : State) (x : BenchX) : (s.setBench x).clk = s.clk := id rfl
@[simp] theorem State.setBench_pwr (s : State) (x : BenchX) : (s.setBench x).pwr = s.pwr := id rfl
@[simp] theorem State.setBench_touch (s : State) (x : BenchX) : (s.setBench x).touch = s.touch := id rfl
@[simp] theorem State.setBench_boot (s : State) (x : BenchX) : (s.setBench x).boot = s.boot := id rfl
@[simp] theorem State.setBench_devMem (s : State) (x : BenchX) : (s.setBench x).devMem = s.devMem := id rfl
@[simp] theorem State.setBench_hostMem (s : State) (x : BenchX) : (s.setBench x).hostMem = s.hostMem := id rfl
@[simp] theorem State.setBench_parts (s : State) (x : BenchX) : (s.setBench x).parts = s.parts := id rfl
@[simp] theorem State.setBench_out (s : State) (x : BenchX) : (s.setBench x).out = s.out := id rfl
@[simp] theorem State.setBench_rd (s : State) (x : BenchX) (j : Nat) : (s.setBench x).rd j = s.rd j := id rfl

/-! ## setClk -/

@[simp] theorem State.setClk_pending (s : State) (x : ClkX) : (s.setClk x).pending = s.pending := id rfl
@[simp] theorem State.setClk_devTime (s : State) (x : ClkX) : (s.setClk x).devTime = s.devTime := id rfl
@[simp] theorem State.setClk_bootGen (s : State) (x : ClkX) : (s.setClk x).bootGen = s.bootGen := id rfl
@[simp] theorem State.setClk_freeIdx (s : State) (x : ClkX) : (s.setClk x).freeIdx = s.freeIdx := id rfl
@[simp] theorem State.setClk_regs (s : State) (x : ClkX) : (s.setClk x).regs = s.regs := id rfl
@[simp] theorem State.setClk_hiLatch (s : State) (x : ClkX) : (s.setClk x).hiLatch = s.hiLatch := id rfl
@[simp] theorem State.setClk_tick (s : State) (x : ClkX) : (s.setClk x).tick = s.tick := id rfl
@[simp] theorem State.setClk_idleT (s : State) (x : ClkX) : (s.setClk x).idleT = s.idleT := id rfl
@[simp] theorem State.setClk_slew (s : State) (x : ClkX) : (s.setClk x).slew = s.slew := id rfl
@[simp] theorem State.setClk_reports (s : State) (x : ClkX) : (s.setClk x).reports = s.reports := id rfl
@[simp] theorem State.setClk_causes (s : State) (x : ClkX) : (s.setClk x).causes = s.causes := id rfl
@[simp] theorem State.setClk_expls (s : State) (x : ClkX) : (s.setClk x).expls = s.expls := id rfl
@[simp] theorem State.setClk_events (s : State) (x : ClkX) : (s.setClk x).events = s.events := id rfl
@[simp] theorem State.setClk_axes (s : State) (x : ClkX) : (s.setClk x).axes = s.axes := id rfl
@[simp] theorem State.setClk_gens (s : State) (x : ClkX) : (s.setClk x).gens = s.gens := id rfl
@[simp] theorem State.setClk_lists (s : State) (x : ClkX) : (s.setClk x).lists = s.lists := id rfl
@[simp] theorem State.setClk_pins (s : State) (x : ClkX) : (s.setClk x).pins = s.pins := id rfl
@[simp] theorem State.setClk_pairs (s : State) (x : ClkX) : (s.setClk x).pairs = s.pairs := id rfl
@[simp] theorem State.setClk_trigIns (s : State) (x : ClkX) : (s.setClk x).trigIns = s.trigIns := id rfl
@[simp] theorem State.setClk_sched (s : State) (x : ClkX) : (s.setClk x).sched = s.sched := id rfl
@[simp] theorem State.setClk_lanes (s : State) (x : ClkX) : (s.setClk x).lanes = s.lanes := id rfl
@[simp] theorem State.setClk_bonds (s : State) (x : ClkX) : (s.setClk x).bonds = s.bonds := id rfl
@[simp] theorem State.setClk_cams (s : State) (x : ClkX) : (s.setClk x).cams = s.cams := id rfl
@[simp] theorem State.setClk_pipes (s : State) (x : ClkX) : (s.setClk x).pipes = s.pipes := id rfl
@[simp] theorem State.setClk_asys (s : State) (x : ClkX) : (s.setClk x).asys = s.asys := id rfl
@[simp] theorem State.setClk_views (s : State) (x : ClkX) : (s.setClk x).views = s.views := id rfl
@[simp] theorem State.setClk_pages (s : State) (x : ClkX) : (s.setClk x).pages = s.pages := id rfl
@[simp] theorem State.setClk_crus (s : State) (x : ClkX) : (s.setClk x).crus = s.crus := id rfl
@[simp] theorem State.setClk_rings (s : State) (x : ClkX) : (s.setClk x).rings = s.rings := id rfl
@[simp] theorem State.setClk_xfers (s : State) (x : ClkX) : (s.setClk x).xfers = s.xfers := id rfl
@[simp] theorem State.setClk_host (s : State) (x : ClkX) : (s.setClk x).host = s.host := id rfl
@[simp] theorem State.setClk_noz (s : State) (x : ClkX) : (s.setClk x).noz = s.noz := id rfl
@[simp] theorem State.setClk_nbanks (s : State) (x : ClkX) : (s.setClk x).nbanks = s.nbanks := id rfl
@[simp] theorem State.setClk_twin (s : State) (x : ClkX) : (s.setClk x).twin = s.twin := id rfl
@[simp] theorem State.setClk_memx (s : State) (x : ClkX) : (s.setClk x).memx = s.memx := id rfl
@[simp] theorem State.setClk_chans (s : State) (x : ClkX) : (s.setClk x).chans = s.chans := id rfl
@[simp] theorem State.setClk_engines (s : State) (x : ClkX) : (s.setClk x).engines = s.engines := id rfl
@[simp] theorem State.setClk_mboxes (s : State) (x : ClkX) : (s.setClk x).mboxes = s.mboxes := id rfl
@[simp] theorem State.setClk_bench (s : State) (x : ClkX) : (s.setClk x).bench = s.bench := id rfl
@[simp] theorem State.setClk_clk (s : State) (x : ClkX) : (s.setClk x).clk = x := id rfl
@[simp] theorem State.setClk_pwr (s : State) (x : ClkX) : (s.setClk x).pwr = s.pwr := id rfl
@[simp] theorem State.setClk_touch (s : State) (x : ClkX) : (s.setClk x).touch = s.touch := id rfl
@[simp] theorem State.setClk_boot (s : State) (x : ClkX) : (s.setClk x).boot = s.boot := id rfl
@[simp] theorem State.setClk_devMem (s : State) (x : ClkX) : (s.setClk x).devMem = s.devMem := id rfl
@[simp] theorem State.setClk_hostMem (s : State) (x : ClkX) : (s.setClk x).hostMem = s.hostMem := id rfl
@[simp] theorem State.setClk_parts (s : State) (x : ClkX) : (s.setClk x).parts = s.parts := id rfl
@[simp] theorem State.setClk_out (s : State) (x : ClkX) : (s.setClk x).out = s.out := id rfl
@[simp] theorem State.setClk_rd (s : State) (x : ClkX) (j : Nat) : (s.setClk x).rd j = s.rd j := id rfl

/-! ## setPwr -/

@[simp] theorem State.setPwr_pending (s : State) (x : PwrX) : (s.setPwr x).pending = s.pending := id rfl
@[simp] theorem State.setPwr_devTime (s : State) (x : PwrX) : (s.setPwr x).devTime = s.devTime := id rfl
@[simp] theorem State.setPwr_bootGen (s : State) (x : PwrX) : (s.setPwr x).bootGen = s.bootGen := id rfl
@[simp] theorem State.setPwr_freeIdx (s : State) (x : PwrX) : (s.setPwr x).freeIdx = s.freeIdx := id rfl
@[simp] theorem State.setPwr_regs (s : State) (x : PwrX) : (s.setPwr x).regs = s.regs := id rfl
@[simp] theorem State.setPwr_hiLatch (s : State) (x : PwrX) : (s.setPwr x).hiLatch = s.hiLatch := id rfl
@[simp] theorem State.setPwr_tick (s : State) (x : PwrX) : (s.setPwr x).tick = s.tick := id rfl
@[simp] theorem State.setPwr_idleT (s : State) (x : PwrX) : (s.setPwr x).idleT = s.idleT := id rfl
@[simp] theorem State.setPwr_slew (s : State) (x : PwrX) : (s.setPwr x).slew = s.slew := id rfl
@[simp] theorem State.setPwr_reports (s : State) (x : PwrX) : (s.setPwr x).reports = s.reports := id rfl
@[simp] theorem State.setPwr_causes (s : State) (x : PwrX) : (s.setPwr x).causes = s.causes := id rfl
@[simp] theorem State.setPwr_expls (s : State) (x : PwrX) : (s.setPwr x).expls = s.expls := id rfl
@[simp] theorem State.setPwr_events (s : State) (x : PwrX) : (s.setPwr x).events = s.events := id rfl
@[simp] theorem State.setPwr_axes (s : State) (x : PwrX) : (s.setPwr x).axes = s.axes := id rfl
@[simp] theorem State.setPwr_gens (s : State) (x : PwrX) : (s.setPwr x).gens = s.gens := id rfl
@[simp] theorem State.setPwr_lists (s : State) (x : PwrX) : (s.setPwr x).lists = s.lists := id rfl
@[simp] theorem State.setPwr_pins (s : State) (x : PwrX) : (s.setPwr x).pins = s.pins := id rfl
@[simp] theorem State.setPwr_pairs (s : State) (x : PwrX) : (s.setPwr x).pairs = s.pairs := id rfl
@[simp] theorem State.setPwr_trigIns (s : State) (x : PwrX) : (s.setPwr x).trigIns = s.trigIns := id rfl
@[simp] theorem State.setPwr_sched (s : State) (x : PwrX) : (s.setPwr x).sched = s.sched := id rfl
@[simp] theorem State.setPwr_lanes (s : State) (x : PwrX) : (s.setPwr x).lanes = s.lanes := id rfl
@[simp] theorem State.setPwr_bonds (s : State) (x : PwrX) : (s.setPwr x).bonds = s.bonds := id rfl
@[simp] theorem State.setPwr_cams (s : State) (x : PwrX) : (s.setPwr x).cams = s.cams := id rfl
@[simp] theorem State.setPwr_pipes (s : State) (x : PwrX) : (s.setPwr x).pipes = s.pipes := id rfl
@[simp] theorem State.setPwr_asys (s : State) (x : PwrX) : (s.setPwr x).asys = s.asys := id rfl
@[simp] theorem State.setPwr_views (s : State) (x : PwrX) : (s.setPwr x).views = s.views := id rfl
@[simp] theorem State.setPwr_pages (s : State) (x : PwrX) : (s.setPwr x).pages = s.pages := id rfl
@[simp] theorem State.setPwr_crus (s : State) (x : PwrX) : (s.setPwr x).crus = s.crus := id rfl
@[simp] theorem State.setPwr_rings (s : State) (x : PwrX) : (s.setPwr x).rings = s.rings := id rfl
@[simp] theorem State.setPwr_xfers (s : State) (x : PwrX) : (s.setPwr x).xfers = s.xfers := id rfl
@[simp] theorem State.setPwr_host (s : State) (x : PwrX) : (s.setPwr x).host = s.host := id rfl
@[simp] theorem State.setPwr_noz (s : State) (x : PwrX) : (s.setPwr x).noz = s.noz := id rfl
@[simp] theorem State.setPwr_nbanks (s : State) (x : PwrX) : (s.setPwr x).nbanks = s.nbanks := id rfl
@[simp] theorem State.setPwr_twin (s : State) (x : PwrX) : (s.setPwr x).twin = s.twin := id rfl
@[simp] theorem State.setPwr_memx (s : State) (x : PwrX) : (s.setPwr x).memx = s.memx := id rfl
@[simp] theorem State.setPwr_chans (s : State) (x : PwrX) : (s.setPwr x).chans = s.chans := id rfl
@[simp] theorem State.setPwr_engines (s : State) (x : PwrX) : (s.setPwr x).engines = s.engines := id rfl
@[simp] theorem State.setPwr_mboxes (s : State) (x : PwrX) : (s.setPwr x).mboxes = s.mboxes := id rfl
@[simp] theorem State.setPwr_bench (s : State) (x : PwrX) : (s.setPwr x).bench = s.bench := id rfl
@[simp] theorem State.setPwr_clk (s : State) (x : PwrX) : (s.setPwr x).clk = s.clk := id rfl
@[simp] theorem State.setPwr_pwr (s : State) (x : PwrX) : (s.setPwr x).pwr = x := id rfl
@[simp] theorem State.setPwr_touch (s : State) (x : PwrX) : (s.setPwr x).touch = s.touch := id rfl
@[simp] theorem State.setPwr_boot (s : State) (x : PwrX) : (s.setPwr x).boot = s.boot := id rfl
@[simp] theorem State.setPwr_devMem (s : State) (x : PwrX) : (s.setPwr x).devMem = s.devMem := id rfl
@[simp] theorem State.setPwr_hostMem (s : State) (x : PwrX) : (s.setPwr x).hostMem = s.hostMem := id rfl
@[simp] theorem State.setPwr_parts (s : State) (x : PwrX) : (s.setPwr x).parts = s.parts := id rfl
@[simp] theorem State.setPwr_out (s : State) (x : PwrX) : (s.setPwr x).out = s.out := id rfl
@[simp] theorem State.setPwr_rd (s : State) (x : PwrX) (j : Nat) : (s.setPwr x).rd j = s.rd j := id rfl

/-! ## setTouch -/

@[simp] theorem State.setTouch_pending (s : State) (x : TouchX) : (s.setTouch x).pending = s.pending := id rfl
@[simp] theorem State.setTouch_devTime (s : State) (x : TouchX) : (s.setTouch x).devTime = s.devTime := id rfl
@[simp] theorem State.setTouch_bootGen (s : State) (x : TouchX) : (s.setTouch x).bootGen = s.bootGen := id rfl
@[simp] theorem State.setTouch_freeIdx (s : State) (x : TouchX) : (s.setTouch x).freeIdx = s.freeIdx := id rfl
@[simp] theorem State.setTouch_regs (s : State) (x : TouchX) : (s.setTouch x).regs = s.regs := id rfl
@[simp] theorem State.setTouch_hiLatch (s : State) (x : TouchX) : (s.setTouch x).hiLatch = s.hiLatch := id rfl
@[simp] theorem State.setTouch_tick (s : State) (x : TouchX) : (s.setTouch x).tick = s.tick := id rfl
@[simp] theorem State.setTouch_idleT (s : State) (x : TouchX) : (s.setTouch x).idleT = s.idleT := id rfl
@[simp] theorem State.setTouch_slew (s : State) (x : TouchX) : (s.setTouch x).slew = s.slew := id rfl
@[simp] theorem State.setTouch_reports (s : State) (x : TouchX) : (s.setTouch x).reports = s.reports := id rfl
@[simp] theorem State.setTouch_causes (s : State) (x : TouchX) : (s.setTouch x).causes = s.causes := id rfl
@[simp] theorem State.setTouch_expls (s : State) (x : TouchX) : (s.setTouch x).expls = s.expls := id rfl
@[simp] theorem State.setTouch_events (s : State) (x : TouchX) : (s.setTouch x).events = s.events := id rfl
@[simp] theorem State.setTouch_axes (s : State) (x : TouchX) : (s.setTouch x).axes = s.axes := id rfl
@[simp] theorem State.setTouch_gens (s : State) (x : TouchX) : (s.setTouch x).gens = s.gens := id rfl
@[simp] theorem State.setTouch_lists (s : State) (x : TouchX) : (s.setTouch x).lists = s.lists := id rfl
@[simp] theorem State.setTouch_pins (s : State) (x : TouchX) : (s.setTouch x).pins = s.pins := id rfl
@[simp] theorem State.setTouch_pairs (s : State) (x : TouchX) : (s.setTouch x).pairs = s.pairs := id rfl
@[simp] theorem State.setTouch_trigIns (s : State) (x : TouchX) : (s.setTouch x).trigIns = s.trigIns := id rfl
@[simp] theorem State.setTouch_sched (s : State) (x : TouchX) : (s.setTouch x).sched = s.sched := id rfl
@[simp] theorem State.setTouch_lanes (s : State) (x : TouchX) : (s.setTouch x).lanes = s.lanes := id rfl
@[simp] theorem State.setTouch_bonds (s : State) (x : TouchX) : (s.setTouch x).bonds = s.bonds := id rfl
@[simp] theorem State.setTouch_cams (s : State) (x : TouchX) : (s.setTouch x).cams = s.cams := id rfl
@[simp] theorem State.setTouch_pipes (s : State) (x : TouchX) : (s.setTouch x).pipes = s.pipes := id rfl
@[simp] theorem State.setTouch_asys (s : State) (x : TouchX) : (s.setTouch x).asys = s.asys := id rfl
@[simp] theorem State.setTouch_views (s : State) (x : TouchX) : (s.setTouch x).views = s.views := id rfl
@[simp] theorem State.setTouch_pages (s : State) (x : TouchX) : (s.setTouch x).pages = s.pages := id rfl
@[simp] theorem State.setTouch_crus (s : State) (x : TouchX) : (s.setTouch x).crus = s.crus := id rfl
@[simp] theorem State.setTouch_rings (s : State) (x : TouchX) : (s.setTouch x).rings = s.rings := id rfl
@[simp] theorem State.setTouch_xfers (s : State) (x : TouchX) : (s.setTouch x).xfers = s.xfers := id rfl
@[simp] theorem State.setTouch_host (s : State) (x : TouchX) : (s.setTouch x).host = s.host := id rfl
@[simp] theorem State.setTouch_noz (s : State) (x : TouchX) : (s.setTouch x).noz = s.noz := id rfl
@[simp] theorem State.setTouch_nbanks (s : State) (x : TouchX) : (s.setTouch x).nbanks = s.nbanks := id rfl
@[simp] theorem State.setTouch_twin (s : State) (x : TouchX) : (s.setTouch x).twin = s.twin := id rfl
@[simp] theorem State.setTouch_memx (s : State) (x : TouchX) : (s.setTouch x).memx = s.memx := id rfl
@[simp] theorem State.setTouch_chans (s : State) (x : TouchX) : (s.setTouch x).chans = s.chans := id rfl
@[simp] theorem State.setTouch_engines (s : State) (x : TouchX) : (s.setTouch x).engines = s.engines := id rfl
@[simp] theorem State.setTouch_mboxes (s : State) (x : TouchX) : (s.setTouch x).mboxes = s.mboxes := id rfl
@[simp] theorem State.setTouch_bench (s : State) (x : TouchX) : (s.setTouch x).bench = s.bench := id rfl
@[simp] theorem State.setTouch_clk (s : State) (x : TouchX) : (s.setTouch x).clk = s.clk := id rfl
@[simp] theorem State.setTouch_pwr (s : State) (x : TouchX) : (s.setTouch x).pwr = s.pwr := id rfl
@[simp] theorem State.setTouch_touch (s : State) (x : TouchX) : (s.setTouch x).touch = x := id rfl
@[simp] theorem State.setTouch_boot (s : State) (x : TouchX) : (s.setTouch x).boot = s.boot := id rfl
@[simp] theorem State.setTouch_devMem (s : State) (x : TouchX) : (s.setTouch x).devMem = s.devMem := id rfl
@[simp] theorem State.setTouch_hostMem (s : State) (x : TouchX) : (s.setTouch x).hostMem = s.hostMem := id rfl
@[simp] theorem State.setTouch_parts (s : State) (x : TouchX) : (s.setTouch x).parts = s.parts := id rfl
@[simp] theorem State.setTouch_out (s : State) (x : TouchX) : (s.setTouch x).out = s.out := id rfl
@[simp] theorem State.setTouch_rd (s : State) (x : TouchX) (j : Nat) : (s.setTouch x).rd j = s.rd j := id rfl

/-! ## setBoot -/

@[simp] theorem State.setBoot_pending (s : State) (x : BootX) : (s.setBoot x).pending = s.pending := id rfl
@[simp] theorem State.setBoot_devTime (s : State) (x : BootX) : (s.setBoot x).devTime = s.devTime := id rfl
@[simp] theorem State.setBoot_bootGen (s : State) (x : BootX) : (s.setBoot x).bootGen = s.bootGen := id rfl
@[simp] theorem State.setBoot_freeIdx (s : State) (x : BootX) : (s.setBoot x).freeIdx = s.freeIdx := id rfl
@[simp] theorem State.setBoot_regs (s : State) (x : BootX) : (s.setBoot x).regs = s.regs := id rfl
@[simp] theorem State.setBoot_hiLatch (s : State) (x : BootX) : (s.setBoot x).hiLatch = s.hiLatch := id rfl
@[simp] theorem State.setBoot_tick (s : State) (x : BootX) : (s.setBoot x).tick = s.tick := id rfl
@[simp] theorem State.setBoot_idleT (s : State) (x : BootX) : (s.setBoot x).idleT = s.idleT := id rfl
@[simp] theorem State.setBoot_slew (s : State) (x : BootX) : (s.setBoot x).slew = s.slew := id rfl
@[simp] theorem State.setBoot_reports (s : State) (x : BootX) : (s.setBoot x).reports = s.reports := id rfl
@[simp] theorem State.setBoot_causes (s : State) (x : BootX) : (s.setBoot x).causes = s.causes := id rfl
@[simp] theorem State.setBoot_expls (s : State) (x : BootX) : (s.setBoot x).expls = s.expls := id rfl
@[simp] theorem State.setBoot_events (s : State) (x : BootX) : (s.setBoot x).events = s.events := id rfl
@[simp] theorem State.setBoot_axes (s : State) (x : BootX) : (s.setBoot x).axes = s.axes := id rfl
@[simp] theorem State.setBoot_gens (s : State) (x : BootX) : (s.setBoot x).gens = s.gens := id rfl
@[simp] theorem State.setBoot_lists (s : State) (x : BootX) : (s.setBoot x).lists = s.lists := id rfl
@[simp] theorem State.setBoot_pins (s : State) (x : BootX) : (s.setBoot x).pins = s.pins := id rfl
@[simp] theorem State.setBoot_pairs (s : State) (x : BootX) : (s.setBoot x).pairs = s.pairs := id rfl
@[simp] theorem State.setBoot_trigIns (s : State) (x : BootX) : (s.setBoot x).trigIns = s.trigIns := id rfl
@[simp] theorem State.setBoot_sched (s : State) (x : BootX) : (s.setBoot x).sched = s.sched := id rfl
@[simp] theorem State.setBoot_lanes (s : State) (x : BootX) : (s.setBoot x).lanes = s.lanes := id rfl
@[simp] theorem State.setBoot_bonds (s : State) (x : BootX) : (s.setBoot x).bonds = s.bonds := id rfl
@[simp] theorem State.setBoot_cams (s : State) (x : BootX) : (s.setBoot x).cams = s.cams := id rfl
@[simp] theorem State.setBoot_pipes (s : State) (x : BootX) : (s.setBoot x).pipes = s.pipes := id rfl
@[simp] theorem State.setBoot_asys (s : State) (x : BootX) : (s.setBoot x).asys = s.asys := id rfl
@[simp] theorem State.setBoot_views (s : State) (x : BootX) : (s.setBoot x).views = s.views := id rfl
@[simp] theorem State.setBoot_pages (s : State) (x : BootX) : (s.setBoot x).pages = s.pages := id rfl
@[simp] theorem State.setBoot_crus (s : State) (x : BootX) : (s.setBoot x).crus = s.crus := id rfl
@[simp] theorem State.setBoot_rings (s : State) (x : BootX) : (s.setBoot x).rings = s.rings := id rfl
@[simp] theorem State.setBoot_xfers (s : State) (x : BootX) : (s.setBoot x).xfers = s.xfers := id rfl
@[simp] theorem State.setBoot_host (s : State) (x : BootX) : (s.setBoot x).host = s.host := id rfl
@[simp] theorem State.setBoot_noz (s : State) (x : BootX) : (s.setBoot x).noz = s.noz := id rfl
@[simp] theorem State.setBoot_nbanks (s : State) (x : BootX) : (s.setBoot x).nbanks = s.nbanks := id rfl
@[simp] theorem State.setBoot_twin (s : State) (x : BootX) : (s.setBoot x).twin = s.twin := id rfl
@[simp] theorem State.setBoot_memx (s : State) (x : BootX) : (s.setBoot x).memx = s.memx := id rfl
@[simp] theorem State.setBoot_chans (s : State) (x : BootX) : (s.setBoot x).chans = s.chans := id rfl
@[simp] theorem State.setBoot_engines (s : State) (x : BootX) : (s.setBoot x).engines = s.engines := id rfl
@[simp] theorem State.setBoot_mboxes (s : State) (x : BootX) : (s.setBoot x).mboxes = s.mboxes := id rfl
@[simp] theorem State.setBoot_bench (s : State) (x : BootX) : (s.setBoot x).bench = s.bench := id rfl
@[simp] theorem State.setBoot_clk (s : State) (x : BootX) : (s.setBoot x).clk = s.clk := id rfl
@[simp] theorem State.setBoot_pwr (s : State) (x : BootX) : (s.setBoot x).pwr = s.pwr := id rfl
@[simp] theorem State.setBoot_touch (s : State) (x : BootX) : (s.setBoot x).touch = s.touch := id rfl
@[simp] theorem State.setBoot_boot (s : State) (x : BootX) : (s.setBoot x).boot = x := id rfl
@[simp] theorem State.setBoot_devMem (s : State) (x : BootX) : (s.setBoot x).devMem = s.devMem := id rfl
@[simp] theorem State.setBoot_hostMem (s : State) (x : BootX) : (s.setBoot x).hostMem = s.hostMem := id rfl
@[simp] theorem State.setBoot_parts (s : State) (x : BootX) : (s.setBoot x).parts = s.parts := id rfl
@[simp] theorem State.setBoot_out (s : State) (x : BootX) : (s.setBoot x).out = s.out := id rfl
@[simp] theorem State.setBoot_rd (s : State) (x : BootX) (j : Nat) : (s.setBoot x).rd j = s.rd j := id rfl

/-! ## setHost -/

@[simp] theorem State.setHost_pending (s : State) (x : HostX) : (s.setHost x).pending = s.pending := id rfl
@[simp] theorem State.setHost_devTime (s : State) (x : HostX) : (s.setHost x).devTime = s.devTime := id rfl
@[simp] theorem State.setHost_bootGen (s : State) (x : HostX) : (s.setHost x).bootGen = s.bootGen := id rfl
@[simp] theorem State.setHost_freeIdx (s : State) (x : HostX) : (s.setHost x).freeIdx = s.freeIdx := id rfl
@[simp] theorem State.setHost_regs (s : State) (x : HostX) : (s.setHost x).regs = s.regs := id rfl
@[simp] theorem State.setHost_hiLatch (s : State) (x : HostX) : (s.setHost x).hiLatch = s.hiLatch := id rfl
@[simp] theorem State.setHost_tick (s : State) (x : HostX) : (s.setHost x).tick = s.tick := id rfl
@[simp] theorem State.setHost_idleT (s : State) (x : HostX) : (s.setHost x).idleT = s.idleT := id rfl
@[simp] theorem State.setHost_slew (s : State) (x : HostX) : (s.setHost x).slew = s.slew := id rfl
@[simp] theorem State.setHost_reports (s : State) (x : HostX) : (s.setHost x).reports = s.reports := id rfl
@[simp] theorem State.setHost_causes (s : State) (x : HostX) : (s.setHost x).causes = s.causes := id rfl
@[simp] theorem State.setHost_expls (s : State) (x : HostX) : (s.setHost x).expls = s.expls := id rfl
@[simp] theorem State.setHost_events (s : State) (x : HostX) : (s.setHost x).events = s.events := id rfl
@[simp] theorem State.setHost_axes (s : State) (x : HostX) : (s.setHost x).axes = s.axes := id rfl
@[simp] theorem State.setHost_gens (s : State) (x : HostX) : (s.setHost x).gens = s.gens := id rfl
@[simp] theorem State.setHost_lists (s : State) (x : HostX) : (s.setHost x).lists = s.lists := id rfl
@[simp] theorem State.setHost_pins (s : State) (x : HostX) : (s.setHost x).pins = s.pins := id rfl
@[simp] theorem State.setHost_pairs (s : State) (x : HostX) : (s.setHost x).pairs = s.pairs := id rfl
@[simp] theorem State.setHost_trigIns (s : State) (x : HostX) : (s.setHost x).trigIns = s.trigIns := id rfl
@[simp] theorem State.setHost_sched (s : State) (x : HostX) : (s.setHost x).sched = s.sched := id rfl
@[simp] theorem State.setHost_lanes (s : State) (x : HostX) : (s.setHost x).lanes = s.lanes := id rfl
@[simp] theorem State.setHost_bonds (s : State) (x : HostX) : (s.setHost x).bonds = s.bonds := id rfl
@[simp] theorem State.setHost_cams (s : State) (x : HostX) : (s.setHost x).cams = s.cams := id rfl
@[simp] theorem State.setHost_pipes (s : State) (x : HostX) : (s.setHost x).pipes = s.pipes := id rfl
@[simp] theorem State.setHost_asys (s : State) (x : HostX) : (s.setHost x).asys = s.asys := id rfl
@[simp] theorem State.setHost_views (s : State) (x : HostX) : (s.setHost x).views = s.views := id rfl
@[simp] theorem State.setHost_pages (s : State) (x : HostX) : (s.setHost x).pages = s.pages := id rfl
@[simp] theorem State.setHost_crus (s : State) (x : HostX) : (s.setHost x).crus = s.crus := id rfl
@[simp] theorem State.setHost_rings (s : State) (x : HostX) : (s.setHost x).rings = s.rings := id rfl
@[simp] theorem State.setHost_xfers (s : State) (x : HostX) : (s.setHost x).xfers = s.xfers := id rfl
@[simp] theorem State.setHost_host (s : State) (x : HostX) : (s.setHost x).host = x := id rfl
@[simp] theorem State.setHost_noz (s : State) (x : HostX) : (s.setHost x).noz = s.noz := id rfl
@[simp] theorem State.setHost_nbanks (s : State) (x : HostX) : (s.setHost x).nbanks = s.nbanks := id rfl
@[simp] theorem State.setHost_twin (s : State) (x : HostX) : (s.setHost x).twin = s.twin := id rfl
@[simp] theorem State.setHost_memx (s : State) (x : HostX) : (s.setHost x).memx = s.memx := id rfl
@[simp] theorem State.setHost_chans (s : State) (x : HostX) : (s.setHost x).chans = s.chans := id rfl
@[simp] theorem State.setHost_engines (s : State) (x : HostX) : (s.setHost x).engines = s.engines := id rfl
@[simp] theorem State.setHost_mboxes (s : State) (x : HostX) : (s.setHost x).mboxes = s.mboxes := id rfl
@[simp] theorem State.setHost_bench (s : State) (x : HostX) : (s.setHost x).bench = s.bench := id rfl
@[simp] theorem State.setHost_clk (s : State) (x : HostX) : (s.setHost x).clk = s.clk := id rfl
@[simp] theorem State.setHost_pwr (s : State) (x : HostX) : (s.setHost x).pwr = s.pwr := id rfl
@[simp] theorem State.setHost_touch (s : State) (x : HostX) : (s.setHost x).touch = s.touch := id rfl
@[simp] theorem State.setHost_boot (s : State) (x : HostX) : (s.setHost x).boot = s.boot := id rfl
@[simp] theorem State.setHost_devMem (s : State) (x : HostX) : (s.setHost x).devMem = s.devMem := id rfl
@[simp] theorem State.setHost_hostMem (s : State) (x : HostX) : (s.setHost x).hostMem = s.hostMem := id rfl
@[simp] theorem State.setHost_parts (s : State) (x : HostX) : (s.setHost x).parts = s.parts := id rfl
@[simp] theorem State.setHost_out (s : State) (x : HostX) : (s.setHost x).out = s.out := id rfl
@[simp] theorem State.setHost_rd (s : State) (x : HostX) (j : Nat) : (s.setHost x).rd j = s.rd j := id rfl

/-! ## setTwin -/

@[simp] theorem State.setTwin_pending (s : State) (x : TwinX) : (s.setTwin x).pending = s.pending := id rfl
@[simp] theorem State.setTwin_devTime (s : State) (x : TwinX) : (s.setTwin x).devTime = s.devTime := id rfl
@[simp] theorem State.setTwin_bootGen (s : State) (x : TwinX) : (s.setTwin x).bootGen = s.bootGen := id rfl
@[simp] theorem State.setTwin_freeIdx (s : State) (x : TwinX) : (s.setTwin x).freeIdx = s.freeIdx := id rfl
@[simp] theorem State.setTwin_regs (s : State) (x : TwinX) : (s.setTwin x).regs = s.regs := id rfl
@[simp] theorem State.setTwin_hiLatch (s : State) (x : TwinX) : (s.setTwin x).hiLatch = s.hiLatch := id rfl
@[simp] theorem State.setTwin_tick (s : State) (x : TwinX) : (s.setTwin x).tick = s.tick := id rfl
@[simp] theorem State.setTwin_idleT (s : State) (x : TwinX) : (s.setTwin x).idleT = s.idleT := id rfl
@[simp] theorem State.setTwin_slew (s : State) (x : TwinX) : (s.setTwin x).slew = s.slew := id rfl
@[simp] theorem State.setTwin_reports (s : State) (x : TwinX) : (s.setTwin x).reports = s.reports := id rfl
@[simp] theorem State.setTwin_causes (s : State) (x : TwinX) : (s.setTwin x).causes = s.causes := id rfl
@[simp] theorem State.setTwin_expls (s : State) (x : TwinX) : (s.setTwin x).expls = s.expls := id rfl
@[simp] theorem State.setTwin_events (s : State) (x : TwinX) : (s.setTwin x).events = s.events := id rfl
@[simp] theorem State.setTwin_axes (s : State) (x : TwinX) : (s.setTwin x).axes = s.axes := id rfl
@[simp] theorem State.setTwin_gens (s : State) (x : TwinX) : (s.setTwin x).gens = s.gens := id rfl
@[simp] theorem State.setTwin_lists (s : State) (x : TwinX) : (s.setTwin x).lists = s.lists := id rfl
@[simp] theorem State.setTwin_pins (s : State) (x : TwinX) : (s.setTwin x).pins = s.pins := id rfl
@[simp] theorem State.setTwin_pairs (s : State) (x : TwinX) : (s.setTwin x).pairs = s.pairs := id rfl
@[simp] theorem State.setTwin_trigIns (s : State) (x : TwinX) : (s.setTwin x).trigIns = s.trigIns := id rfl
@[simp] theorem State.setTwin_sched (s : State) (x : TwinX) : (s.setTwin x).sched = s.sched := id rfl
@[simp] theorem State.setTwin_lanes (s : State) (x : TwinX) : (s.setTwin x).lanes = s.lanes := id rfl
@[simp] theorem State.setTwin_bonds (s : State) (x : TwinX) : (s.setTwin x).bonds = s.bonds := id rfl
@[simp] theorem State.setTwin_cams (s : State) (x : TwinX) : (s.setTwin x).cams = s.cams := id rfl
@[simp] theorem State.setTwin_pipes (s : State) (x : TwinX) : (s.setTwin x).pipes = s.pipes := id rfl
@[simp] theorem State.setTwin_asys (s : State) (x : TwinX) : (s.setTwin x).asys = s.asys := id rfl
@[simp] theorem State.setTwin_views (s : State) (x : TwinX) : (s.setTwin x).views = s.views := id rfl
@[simp] theorem State.setTwin_pages (s : State) (x : TwinX) : (s.setTwin x).pages = s.pages := id rfl
@[simp] theorem State.setTwin_crus (s : State) (x : TwinX) : (s.setTwin x).crus = s.crus := id rfl
@[simp] theorem State.setTwin_rings (s : State) (x : TwinX) : (s.setTwin x).rings = s.rings := id rfl
@[simp] theorem State.setTwin_xfers (s : State) (x : TwinX) : (s.setTwin x).xfers = s.xfers := id rfl
@[simp] theorem State.setTwin_host (s : State) (x : TwinX) : (s.setTwin x).host = s.host := id rfl
@[simp] theorem State.setTwin_noz (s : State) (x : TwinX) : (s.setTwin x).noz = s.noz := id rfl
@[simp] theorem State.setTwin_nbanks (s : State) (x : TwinX) : (s.setTwin x).nbanks = s.nbanks := id rfl
@[simp] theorem State.setTwin_twin (s : State) (x : TwinX) : (s.setTwin x).twin = x := id rfl
@[simp] theorem State.setTwin_memx (s : State) (x : TwinX) : (s.setTwin x).memx = s.memx := id rfl
@[simp] theorem State.setTwin_chans (s : State) (x : TwinX) : (s.setTwin x).chans = s.chans := id rfl
@[simp] theorem State.setTwin_engines (s : State) (x : TwinX) : (s.setTwin x).engines = s.engines := id rfl
@[simp] theorem State.setTwin_mboxes (s : State) (x : TwinX) : (s.setTwin x).mboxes = s.mboxes := id rfl
@[simp] theorem State.setTwin_bench (s : State) (x : TwinX) : (s.setTwin x).bench = s.bench := id rfl
@[simp] theorem State.setTwin_clk (s : State) (x : TwinX) : (s.setTwin x).clk = s.clk := id rfl
@[simp] theorem State.setTwin_pwr (s : State) (x : TwinX) : (s.setTwin x).pwr = s.pwr := id rfl
@[simp] theorem State.setTwin_touch (s : State) (x : TwinX) : (s.setTwin x).touch = s.touch := id rfl
@[simp] theorem State.setTwin_boot (s : State) (x : TwinX) : (s.setTwin x).boot = s.boot := id rfl
@[simp] theorem State.setTwin_devMem (s : State) (x : TwinX) : (s.setTwin x).devMem = s.devMem := id rfl
@[simp] theorem State.setTwin_hostMem (s : State) (x : TwinX) : (s.setTwin x).hostMem = s.hostMem := id rfl
@[simp] theorem State.setTwin_parts (s : State) (x : TwinX) : (s.setTwin x).parts = s.parts := id rfl
@[simp] theorem State.setTwin_out (s : State) (x : TwinX) : (s.setTwin x).out = s.out := id rfl
@[simp] theorem State.setTwin_rd (s : State) (x : TwinX) (j : Nat) : (s.setTwin x).rd j = s.rd j := id rfl

/-! ## setXferQ -/

@[simp] theorem State.setXferQ_pending (s : State) (f : Nat) (l : List Xfer) : (s.setXferQ f l).pending = s.pending := id rfl
@[simp] theorem State.setXferQ_devTime (s : State) (f : Nat) (l : List Xfer) : (s.setXferQ f l).devTime = s.devTime := id rfl
@[simp] theorem State.setXferQ_bootGen (s : State) (f : Nat) (l : List Xfer) : (s.setXferQ f l).bootGen = s.bootGen := id rfl
@[simp] theorem State.setXferQ_freeIdx (s : State) (f : Nat) (l : List Xfer) : (s.setXferQ f l).freeIdx = s.freeIdx := id rfl
@[simp] theorem State.setXferQ_regs (s : State) (f : Nat) (l : List Xfer) : (s.setXferQ f l).regs = s.regs := id rfl
@[simp] theorem State.setXferQ_hiLatch (s : State) (f : Nat) (l : List Xfer) : (s.setXferQ f l).hiLatch = s.hiLatch := id rfl
@[simp] theorem State.setXferQ_tick (s : State) (f : Nat) (l : List Xfer) : (s.setXferQ f l).tick = s.tick := id rfl
@[simp] theorem State.setXferQ_idleT (s : State) (f : Nat) (l : List Xfer) : (s.setXferQ f l).idleT = s.idleT := id rfl
@[simp] theorem State.setXferQ_slew (s : State) (f : Nat) (l : List Xfer) : (s.setXferQ f l).slew = s.slew := id rfl
@[simp] theorem State.setXferQ_reports (s : State) (f : Nat) (l : List Xfer) : (s.setXferQ f l).reports = s.reports := id rfl
@[simp] theorem State.setXferQ_causes (s : State) (f : Nat) (l : List Xfer) : (s.setXferQ f l).causes = s.causes := id rfl
@[simp] theorem State.setXferQ_expls (s : State) (f : Nat) (l : List Xfer) : (s.setXferQ f l).expls = s.expls := id rfl
@[simp] theorem State.setXferQ_events (s : State) (f : Nat) (l : List Xfer) : (s.setXferQ f l).events = s.events := id rfl
@[simp] theorem State.setXferQ_axes (s : State) (f : Nat) (l : List Xfer) : (s.setXferQ f l).axes = s.axes := id rfl
@[simp] theorem State.setXferQ_gens (s : State) (f : Nat) (l : List Xfer) : (s.setXferQ f l).gens = s.gens := id rfl
@[simp] theorem State.setXferQ_lists (s : State) (f : Nat) (l : List Xfer) : (s.setXferQ f l).lists = s.lists := id rfl
@[simp] theorem State.setXferQ_pins (s : State) (f : Nat) (l : List Xfer) : (s.setXferQ f l).pins = s.pins := id rfl
@[simp] theorem State.setXferQ_pairs (s : State) (f : Nat) (l : List Xfer) : (s.setXferQ f l).pairs = s.pairs := id rfl
@[simp] theorem State.setXferQ_trigIns (s : State) (f : Nat) (l : List Xfer) : (s.setXferQ f l).trigIns = s.trigIns := id rfl
@[simp] theorem State.setXferQ_sched (s : State) (f : Nat) (l : List Xfer) : (s.setXferQ f l).sched = s.sched := id rfl
@[simp] theorem State.setXferQ_lanes (s : State) (f : Nat) (l : List Xfer) : (s.setXferQ f l).lanes = s.lanes := id rfl
@[simp] theorem State.setXferQ_bonds (s : State) (f : Nat) (l : List Xfer) : (s.setXferQ f l).bonds = s.bonds := id rfl
@[simp] theorem State.setXferQ_cams (s : State) (f : Nat) (l : List Xfer) : (s.setXferQ f l).cams = s.cams := id rfl
@[simp] theorem State.setXferQ_pipes (s : State) (f : Nat) (l : List Xfer) : (s.setXferQ f l).pipes = s.pipes := id rfl
@[simp] theorem State.setXferQ_asys (s : State) (f : Nat) (l : List Xfer) : (s.setXferQ f l).asys = s.asys := id rfl
@[simp] theorem State.setXferQ_views (s : State) (f : Nat) (l : List Xfer) : (s.setXferQ f l).views = s.views := id rfl
@[simp] theorem State.setXferQ_pages (s : State) (f : Nat) (l : List Xfer) : (s.setXferQ f l).pages = s.pages := id rfl
@[simp] theorem State.setXferQ_crus (s : State) (f : Nat) (l : List Xfer) : (s.setXferQ f l).crus = s.crus := id rfl
@[simp] theorem State.setXferQ_rings (s : State) (f : Nat) (l : List Xfer) : (s.setXferQ f l).rings = s.rings := id rfl
@[simp] theorem State.setXferQ_xferQ (s : State) (f : Nat) (l : List Xfer) (j : Nat) :
    (s.setXferQ f l).xferQ j = if j = f then l else s.xferQ j := sget_sset _ _ _ _ _
@[simp] theorem State.setXferQ_host (s : State) (f : Nat) (l : List Xfer) : (s.setXferQ f l).host = s.host := id rfl
@[simp] theorem State.setXferQ_noz (s : State) (f : Nat) (l : List Xfer) : (s.setXferQ f l).noz = s.noz := id rfl
@[simp] theorem State.setXferQ_nbanks (s : State) (f : Nat) (l : List Xfer) : (s.setXferQ f l).nbanks = s.nbanks := id rfl
@[simp] theorem State.setXferQ_twin (s : State) (f : Nat) (l : List Xfer) : (s.setXferQ f l).twin = s.twin := id rfl
@[simp] theorem State.setXferQ_memx (s : State) (f : Nat) (l : List Xfer) : (s.setXferQ f l).memx = s.memx := id rfl
@[simp] theorem State.setXferQ_chans (s : State) (f : Nat) (l : List Xfer) : (s.setXferQ f l).chans = s.chans := id rfl
@[simp] theorem State.setXferQ_engines (s : State) (f : Nat) (l : List Xfer) : (s.setXferQ f l).engines = s.engines := id rfl
@[simp] theorem State.setXferQ_mboxes (s : State) (f : Nat) (l : List Xfer) : (s.setXferQ f l).mboxes = s.mboxes := id rfl
@[simp] theorem State.setXferQ_bench (s : State) (f : Nat) (l : List Xfer) : (s.setXferQ f l).bench = s.bench := id rfl
@[simp] theorem State.setXferQ_clk (s : State) (f : Nat) (l : List Xfer) : (s.setXferQ f l).clk = s.clk := id rfl
@[simp] theorem State.setXferQ_pwr (s : State) (f : Nat) (l : List Xfer) : (s.setXferQ f l).pwr = s.pwr := id rfl
@[simp] theorem State.setXferQ_touch (s : State) (f : Nat) (l : List Xfer) : (s.setXferQ f l).touch = s.touch := id rfl
@[simp] theorem State.setXferQ_boot (s : State) (f : Nat) (l : List Xfer) : (s.setXferQ f l).boot = s.boot := id rfl
@[simp] theorem State.setXferQ_devMem (s : State) (f : Nat) (l : List Xfer) : (s.setXferQ f l).devMem = s.devMem := id rfl
@[simp] theorem State.setXferQ_hostMem (s : State) (f : Nat) (l : List Xfer) : (s.setXferQ f l).hostMem = s.hostMem := id rfl
@[simp] theorem State.setXferQ_parts (s : State) (f : Nat) (l : List Xfer) : (s.setXferQ f l).parts = s.parts := id rfl
@[simp] theorem State.setXferQ_out (s : State) (f : Nat) (l : List Xfer) : (s.setXferQ f l).out = s.out := id rfl
@[simp] theorem State.setXferQ_rd (s : State) (f : Nat) (l : List Xfer) (j : Nat) : (s.setXferQ f l).rd j = s.rd j := id rfl

/-! ## setPart -/

@[simp] theorem State.setPart_pending (s : State) (t : Nat) (p : List Byte) : (s.setPart t p).pending = s.pending := id rfl
@[simp] theorem State.setPart_devTime (s : State) (t : Nat) (p : List Byte) : (s.setPart t p).devTime = s.devTime := id rfl
@[simp] theorem State.setPart_bootGen (s : State) (t : Nat) (p : List Byte) : (s.setPart t p).bootGen = s.bootGen := id rfl
@[simp] theorem State.setPart_freeIdx (s : State) (t : Nat) (p : List Byte) : (s.setPart t p).freeIdx = s.freeIdx := id rfl
@[simp] theorem State.setPart_regs (s : State) (t : Nat) (p : List Byte) : (s.setPart t p).regs = s.regs := id rfl
@[simp] theorem State.setPart_hiLatch (s : State) (t : Nat) (p : List Byte) : (s.setPart t p).hiLatch = s.hiLatch := id rfl
@[simp] theorem State.setPart_tick (s : State) (t : Nat) (p : List Byte) : (s.setPart t p).tick = s.tick := id rfl
@[simp] theorem State.setPart_idleT (s : State) (t : Nat) (p : List Byte) : (s.setPart t p).idleT = s.idleT := id rfl
@[simp] theorem State.setPart_slew (s : State) (t : Nat) (p : List Byte) : (s.setPart t p).slew = s.slew := id rfl
@[simp] theorem State.setPart_reports (s : State) (t : Nat) (p : List Byte) : (s.setPart t p).reports = s.reports := id rfl
@[simp] theorem State.setPart_causes (s : State) (t : Nat) (p : List Byte) : (s.setPart t p).causes = s.causes := id rfl
@[simp] theorem State.setPart_expls (s : State) (t : Nat) (p : List Byte) : (s.setPart t p).expls = s.expls := id rfl
@[simp] theorem State.setPart_events (s : State) (t : Nat) (p : List Byte) : (s.setPart t p).events = s.events := id rfl
@[simp] theorem State.setPart_axes (s : State) (t : Nat) (p : List Byte) : (s.setPart t p).axes = s.axes := id rfl
@[simp] theorem State.setPart_gens (s : State) (t : Nat) (p : List Byte) : (s.setPart t p).gens = s.gens := id rfl
@[simp] theorem State.setPart_lists (s : State) (t : Nat) (p : List Byte) : (s.setPart t p).lists = s.lists := id rfl
@[simp] theorem State.setPart_pins (s : State) (t : Nat) (p : List Byte) : (s.setPart t p).pins = s.pins := id rfl
@[simp] theorem State.setPart_pairs (s : State) (t : Nat) (p : List Byte) : (s.setPart t p).pairs = s.pairs := id rfl
@[simp] theorem State.setPart_trigIns (s : State) (t : Nat) (p : List Byte) : (s.setPart t p).trigIns = s.trigIns := id rfl
@[simp] theorem State.setPart_sched (s : State) (t : Nat) (p : List Byte) : (s.setPart t p).sched = s.sched := id rfl
@[simp] theorem State.setPart_lanes (s : State) (t : Nat) (p : List Byte) : (s.setPart t p).lanes = s.lanes := id rfl
@[simp] theorem State.setPart_bonds (s : State) (t : Nat) (p : List Byte) : (s.setPart t p).bonds = s.bonds := id rfl
@[simp] theorem State.setPart_cams (s : State) (t : Nat) (p : List Byte) : (s.setPart t p).cams = s.cams := id rfl
@[simp] theorem State.setPart_pipes (s : State) (t : Nat) (p : List Byte) : (s.setPart t p).pipes = s.pipes := id rfl
@[simp] theorem State.setPart_asys (s : State) (t : Nat) (p : List Byte) : (s.setPart t p).asys = s.asys := id rfl
@[simp] theorem State.setPart_views (s : State) (t : Nat) (p : List Byte) : (s.setPart t p).views = s.views := id rfl
@[simp] theorem State.setPart_pages (s : State) (t : Nat) (p : List Byte) : (s.setPart t p).pages = s.pages := id rfl
@[simp] theorem State.setPart_crus (s : State) (t : Nat) (p : List Byte) : (s.setPart t p).crus = s.crus := id rfl
@[simp] theorem State.setPart_rings (s : State) (t : Nat) (p : List Byte) : (s.setPart t p).rings = s.rings := id rfl
@[simp] theorem State.setPart_xfers (s : State) (t : Nat) (p : List Byte) : (s.setPart t p).xfers = s.xfers := id rfl
@[simp] theorem State.setPart_host (s : State) (t : Nat) (p : List Byte) : (s.setPart t p).host = s.host := id rfl
@[simp] theorem State.setPart_noz (s : State) (t : Nat) (p : List Byte) : (s.setPart t p).noz = s.noz := id rfl
@[simp] theorem State.setPart_nbanks (s : State) (t : Nat) (p : List Byte) : (s.setPart t p).nbanks = s.nbanks := id rfl
@[simp] theorem State.setPart_twin (s : State) (t : Nat) (p : List Byte) : (s.setPart t p).twin = s.twin := id rfl
@[simp] theorem State.setPart_memx (s : State) (t : Nat) (p : List Byte) : (s.setPart t p).memx = s.memx := id rfl
@[simp] theorem State.setPart_chans (s : State) (t : Nat) (p : List Byte) : (s.setPart t p).chans = s.chans := id rfl
@[simp] theorem State.setPart_engines (s : State) (t : Nat) (p : List Byte) : (s.setPart t p).engines = s.engines := id rfl
@[simp] theorem State.setPart_mboxes (s : State) (t : Nat) (p : List Byte) : (s.setPart t p).mboxes = s.mboxes := id rfl
@[simp] theorem State.setPart_bench (s : State) (t : Nat) (p : List Byte) : (s.setPart t p).bench = s.bench := id rfl
@[simp] theorem State.setPart_clk (s : State) (t : Nat) (p : List Byte) : (s.setPart t p).clk = s.clk := id rfl
@[simp] theorem State.setPart_pwr (s : State) (t : Nat) (p : List Byte) : (s.setPart t p).pwr = s.pwr := id rfl
@[simp] theorem State.setPart_touch (s : State) (t : Nat) (p : List Byte) : (s.setPart t p).touch = s.touch := id rfl
@[simp] theorem State.setPart_boot (s : State) (t : Nat) (p : List Byte) : (s.setPart t p).boot = s.boot := id rfl
@[simp] theorem State.setPart_devMem (s : State) (t : Nat) (p : List Byte) : (s.setPart t p).devMem = s.devMem := id rfl
@[simp] theorem State.setPart_hostMem (s : State) (t : Nat) (p : List Byte) : (s.setPart t p).hostMem = s.hostMem := id rfl
@[simp] theorem State.setPart_part (s : State) (t : Nat) (p : List Byte) (j : Nat) :
    (s.setPart t p).part j = if j = t then p else s.part j := sget_sset _ _ _ _ _
@[simp] theorem State.setPart_out (s : State) (t : Nat) (p : List Byte) : (s.setPart t p).out = s.out := id rfl
@[simp] theorem State.setPart_rd (s : State) (t : Nat) (p : List Byte) (j : Nat) : (s.setPart t p).rd j = s.rd j := id rfl

/-! ## setChan -/

@[simp] theorem State.setChan_pending (s : State) (ch : Nat) (x : Chan) : (s.setChan ch x).pending = s.pending := id rfl
@[simp] theorem State.setChan_devTime (s : State) (ch : Nat) (x : Chan) : (s.setChan ch x).devTime = s.devTime := id rfl
@[simp] theorem State.setChan_bootGen (s : State) (ch : Nat) (x : Chan) : (s.setChan ch x).bootGen = s.bootGen := id rfl
@[simp] theorem State.setChan_freeIdx (s : State) (ch : Nat) (x : Chan) : (s.setChan ch x).freeIdx = s.freeIdx := id rfl
@[simp] theorem State.setChan_regs (s : State) (ch : Nat) (x : Chan) : (s.setChan ch x).regs = s.regs := id rfl
@[simp] theorem State.setChan_hiLatch (s : State) (ch : Nat) (x : Chan) : (s.setChan ch x).hiLatch = s.hiLatch := id rfl
@[simp] theorem State.setChan_tick (s : State) (ch : Nat) (x : Chan) : (s.setChan ch x).tick = s.tick := id rfl
@[simp] theorem State.setChan_idleT (s : State) (ch : Nat) (x : Chan) : (s.setChan ch x).idleT = s.idleT := id rfl
@[simp] theorem State.setChan_slew (s : State) (ch : Nat) (x : Chan) : (s.setChan ch x).slew = s.slew := id rfl
@[simp] theorem State.setChan_reports (s : State) (ch : Nat) (x : Chan) : (s.setChan ch x).reports = s.reports := id rfl
@[simp] theorem State.setChan_causes (s : State) (ch : Nat) (x : Chan) : (s.setChan ch x).causes = s.causes := id rfl
@[simp] theorem State.setChan_expls (s : State) (ch : Nat) (x : Chan) : (s.setChan ch x).expls = s.expls := id rfl
@[simp] theorem State.setChan_events (s : State) (ch : Nat) (x : Chan) : (s.setChan ch x).events = s.events := id rfl
@[simp] theorem State.setChan_axes (s : State) (ch : Nat) (x : Chan) : (s.setChan ch x).axes = s.axes := id rfl
@[simp] theorem State.setChan_gens (s : State) (ch : Nat) (x : Chan) : (s.setChan ch x).gens = s.gens := id rfl
@[simp] theorem State.setChan_lists (s : State) (ch : Nat) (x : Chan) : (s.setChan ch x).lists = s.lists := id rfl
@[simp] theorem State.setChan_pins (s : State) (ch : Nat) (x : Chan) : (s.setChan ch x).pins = s.pins := id rfl
@[simp] theorem State.setChan_pairs (s : State) (ch : Nat) (x : Chan) : (s.setChan ch x).pairs = s.pairs := id rfl
@[simp] theorem State.setChan_trigIns (s : State) (ch : Nat) (x : Chan) : (s.setChan ch x).trigIns = s.trigIns := id rfl
@[simp] theorem State.setChan_sched (s : State) (ch : Nat) (x : Chan) : (s.setChan ch x).sched = s.sched := id rfl
@[simp] theorem State.setChan_lanes (s : State) (ch : Nat) (x : Chan) : (s.setChan ch x).lanes = s.lanes := id rfl
@[simp] theorem State.setChan_bonds (s : State) (ch : Nat) (x : Chan) : (s.setChan ch x).bonds = s.bonds := id rfl
@[simp] theorem State.setChan_cams (s : State) (ch : Nat) (x : Chan) : (s.setChan ch x).cams = s.cams := id rfl
@[simp] theorem State.setChan_pipes (s : State) (ch : Nat) (x : Chan) : (s.setChan ch x).pipes = s.pipes := id rfl
@[simp] theorem State.setChan_asys (s : State) (ch : Nat) (x : Chan) : (s.setChan ch x).asys = s.asys := id rfl
@[simp] theorem State.setChan_views (s : State) (ch : Nat) (x : Chan) : (s.setChan ch x).views = s.views := id rfl
@[simp] theorem State.setChan_pages (s : State) (ch : Nat) (x : Chan) : (s.setChan ch x).pages = s.pages := id rfl
@[simp] theorem State.setChan_crus (s : State) (ch : Nat) (x : Chan) : (s.setChan ch x).crus = s.crus := id rfl
@[simp] theorem State.setChan_rings (s : State) (ch : Nat) (x : Chan) : (s.setChan ch x).rings = s.rings := id rfl
@[simp] theorem State.setChan_xfers (s : State) (ch : Nat) (x : Chan) : (s.setChan ch x).xfers = s.xfers := id rfl
@[simp] theorem State.setChan_host (s : State) (ch : Nat) (x : Chan) : (s.setChan ch x).host = s.host := id rfl
@[simp] theorem State.setChan_noz (s : State) (ch : Nat) (x : Chan) : (s.setChan ch x).noz = s.noz := id rfl
@[simp] theorem State.setChan_nbanks (s : State) (ch : Nat) (x : Chan) : (s.setChan ch x).nbanks = s.nbanks := id rfl
@[simp] theorem State.setChan_twin (s : State) (ch : Nat) (x : Chan) : (s.setChan ch x).twin = s.twin := id rfl
@[simp] theorem State.setChan_memx (s : State) (ch : Nat) (x : Chan) : (s.setChan ch x).memx = s.memx := id rfl
@[simp] theorem State.setChan_chan (s : State) (ch : Nat) (x : Chan) (j : Nat) :
    (s.setChan ch x).chan j = if j = ch then x else s.chan j := sget_sset _ _ _ _ _
@[simp] theorem State.setChan_engines (s : State) (ch : Nat) (x : Chan) : (s.setChan ch x).engines = s.engines := id rfl
@[simp] theorem State.setChan_mboxes (s : State) (ch : Nat) (x : Chan) : (s.setChan ch x).mboxes = s.mboxes := id rfl
@[simp] theorem State.setChan_bench (s : State) (ch : Nat) (x : Chan) : (s.setChan ch x).bench = s.bench := id rfl
@[simp] theorem State.setChan_clk (s : State) (ch : Nat) (x : Chan) : (s.setChan ch x).clk = s.clk := id rfl
@[simp] theorem State.setChan_pwr (s : State) (ch : Nat) (x : Chan) : (s.setChan ch x).pwr = s.pwr := id rfl
@[simp] theorem State.setChan_touch (s : State) (ch : Nat) (x : Chan) : (s.setChan ch x).touch = s.touch := id rfl
@[simp] theorem State.setChan_boot (s : State) (ch : Nat) (x : Chan) : (s.setChan ch x).boot = s.boot := id rfl
@[simp] theorem State.setChan_devMem (s : State) (ch : Nat) (x : Chan) : (s.setChan ch x).devMem = s.devMem := id rfl
@[simp] theorem State.setChan_hostMem (s : State) (ch : Nat) (x : Chan) : (s.setChan ch x).hostMem = s.hostMem := id rfl
@[simp] theorem State.setChan_parts (s : State) (ch : Nat) (x : Chan) : (s.setChan ch x).parts = s.parts := id rfl
@[simp] theorem State.setChan_out (s : State) (ch : Nat) (x : Chan) : (s.setChan ch x).out = s.out := id rfl
@[simp] theorem State.setChan_rd (s : State) (ch : Nat) (x : Chan) (j : Nat) : (s.setChan ch x).rd j = s.rd j := id rfl

/-! ## setEngine -/

@[simp] theorem State.setEngine_pending (s : State) (e : Nat) (x : Engine) : (s.setEngine e x).pending = s.pending := id rfl
@[simp] theorem State.setEngine_devTime (s : State) (e : Nat) (x : Engine) : (s.setEngine e x).devTime = s.devTime := id rfl
@[simp] theorem State.setEngine_bootGen (s : State) (e : Nat) (x : Engine) : (s.setEngine e x).bootGen = s.bootGen := id rfl
@[simp] theorem State.setEngine_freeIdx (s : State) (e : Nat) (x : Engine) : (s.setEngine e x).freeIdx = s.freeIdx := id rfl
@[simp] theorem State.setEngine_regs (s : State) (e : Nat) (x : Engine) : (s.setEngine e x).regs = s.regs := id rfl
@[simp] theorem State.setEngine_hiLatch (s : State) (e : Nat) (x : Engine) : (s.setEngine e x).hiLatch = s.hiLatch := id rfl
@[simp] theorem State.setEngine_tick (s : State) (e : Nat) (x : Engine) : (s.setEngine e x).tick = s.tick := id rfl
@[simp] theorem State.setEngine_idleT (s : State) (e : Nat) (x : Engine) : (s.setEngine e x).idleT = s.idleT := id rfl
@[simp] theorem State.setEngine_slew (s : State) (e : Nat) (x : Engine) : (s.setEngine e x).slew = s.slew := id rfl
@[simp] theorem State.setEngine_reports (s : State) (e : Nat) (x : Engine) : (s.setEngine e x).reports = s.reports := id rfl
@[simp] theorem State.setEngine_causes (s : State) (e : Nat) (x : Engine) : (s.setEngine e x).causes = s.causes := id rfl
@[simp] theorem State.setEngine_expls (s : State) (e : Nat) (x : Engine) : (s.setEngine e x).expls = s.expls := id rfl
@[simp] theorem State.setEngine_events (s : State) (e : Nat) (x : Engine) : (s.setEngine e x).events = s.events := id rfl
@[simp] theorem State.setEngine_axes (s : State) (e : Nat) (x : Engine) : (s.setEngine e x).axes = s.axes := id rfl
@[simp] theorem State.setEngine_gens (s : State) (e : Nat) (x : Engine) : (s.setEngine e x).gens = s.gens := id rfl
@[simp] theorem State.setEngine_lists (s : State) (e : Nat) (x : Engine) : (s.setEngine e x).lists = s.lists := id rfl
@[simp] theorem State.setEngine_pins (s : State) (e : Nat) (x : Engine) : (s.setEngine e x).pins = s.pins := id rfl
@[simp] theorem State.setEngine_pairs (s : State) (e : Nat) (x : Engine) : (s.setEngine e x).pairs = s.pairs := id rfl
@[simp] theorem State.setEngine_trigIns (s : State) (e : Nat) (x : Engine) : (s.setEngine e x).trigIns = s.trigIns := id rfl
@[simp] theorem State.setEngine_sched (s : State) (e : Nat) (x : Engine) : (s.setEngine e x).sched = s.sched := id rfl
@[simp] theorem State.setEngine_lanes (s : State) (e : Nat) (x : Engine) : (s.setEngine e x).lanes = s.lanes := id rfl
@[simp] theorem State.setEngine_bonds (s : State) (e : Nat) (x : Engine) : (s.setEngine e x).bonds = s.bonds := id rfl
@[simp] theorem State.setEngine_cams (s : State) (e : Nat) (x : Engine) : (s.setEngine e x).cams = s.cams := id rfl
@[simp] theorem State.setEngine_pipes (s : State) (e : Nat) (x : Engine) : (s.setEngine e x).pipes = s.pipes := id rfl
@[simp] theorem State.setEngine_asys (s : State) (e : Nat) (x : Engine) : (s.setEngine e x).asys = s.asys := id rfl
@[simp] theorem State.setEngine_views (s : State) (e : Nat) (x : Engine) : (s.setEngine e x).views = s.views := id rfl
@[simp] theorem State.setEngine_pages (s : State) (e : Nat) (x : Engine) : (s.setEngine e x).pages = s.pages := id rfl
@[simp] theorem State.setEngine_crus (s : State) (e : Nat) (x : Engine) : (s.setEngine e x).crus = s.crus := id rfl
@[simp] theorem State.setEngine_rings (s : State) (e : Nat) (x : Engine) : (s.setEngine e x).rings = s.rings := id rfl
@[simp] theorem State.setEngine_xfers (s : State) (e : Nat) (x : Engine) : (s.setEngine e x).xfers = s.xfers := id rfl
@[simp] theorem State.setEngine_host (s : State) (e : Nat) (x : Engine) : (s.setEngine e x).host = s.host := id rfl
@[simp] theorem State.setEngine_noz (s : State) (e : Nat) (x : Engine) : (s.setEngine e x).noz = s.noz := id rfl
@[simp] theorem State.setEngine_nbanks (s : State) (e : Nat) (x : Engine) : (s.setEngine e x).nbanks = s.nbanks := id rfl
@[simp] theorem State.setEngine_twin (s : State) (e : Nat) (x : Engine) : (s.setEngine e x).twin = s.twin := id rfl
@[simp] theorem State.setEngine_memx (s : State) (e : Nat) (x : Engine) : (s.setEngine e x).memx = s.memx := id rfl
@[simp] theorem State.setEngine_chans (s : State) (e : Nat) (x : Engine) : (s.setEngine e x).chans = s.chans := id rfl
@[simp] theorem State.setEngine_engine (s : State) (e : Nat) (x : Engine) (j : Nat) :
    (s.setEngine e x).engine j = if j = e then x else s.engine j := sget_sset _ _ _ _ _
@[simp] theorem State.setEngine_mboxes (s : State) (e : Nat) (x : Engine) : (s.setEngine e x).mboxes = s.mboxes := id rfl
@[simp] theorem State.setEngine_bench (s : State) (e : Nat) (x : Engine) : (s.setEngine e x).bench = s.bench := id rfl
@[simp] theorem State.setEngine_clk (s : State) (e : Nat) (x : Engine) : (s.setEngine e x).clk = s.clk := id rfl
@[simp] theorem State.setEngine_pwr (s : State) (e : Nat) (x : Engine) : (s.setEngine e x).pwr = s.pwr := id rfl
@[simp] theorem State.setEngine_touch (s : State) (e : Nat) (x : Engine) : (s.setEngine e x).touch = s.touch := id rfl
@[simp] theorem State.setEngine_boot (s : State) (e : Nat) (x : Engine) : (s.setEngine e x).boot = s.boot := id rfl
@[simp] theorem State.setEngine_devMem (s : State) (e : Nat) (x : Engine) : (s.setEngine e x).devMem = s.devMem := id rfl
@[simp] theorem State.setEngine_hostMem (s : State) (e : Nat) (x : Engine) : (s.setEngine e x).hostMem = s.hostMem := id rfl
@[simp] theorem State.setEngine_parts (s : State) (e : Nat) (x : Engine) : (s.setEngine e x).parts = s.parts := id rfl
@[simp] theorem State.setEngine_out (s : State) (e : Nat) (x : Engine) : (s.setEngine e x).out = s.out := id rfl
@[simp] theorem State.setEngine_rd (s : State) (e : Nat) (x : Engine) (j : Nat) : (s.setEngine e x).rd j = s.rd j := id rfl

/-! ## setMemx -/

@[simp] theorem State.setMemx_pending (s : State) (x : MemX) : (s.setMemx x).pending = s.pending := id rfl
@[simp] theorem State.setMemx_devTime (s : State) (x : MemX) : (s.setMemx x).devTime = s.devTime := id rfl
@[simp] theorem State.setMemx_bootGen (s : State) (x : MemX) : (s.setMemx x).bootGen = s.bootGen := id rfl
@[simp] theorem State.setMemx_freeIdx (s : State) (x : MemX) : (s.setMemx x).freeIdx = s.freeIdx := id rfl
@[simp] theorem State.setMemx_regs (s : State) (x : MemX) : (s.setMemx x).regs = s.regs := id rfl
@[simp] theorem State.setMemx_hiLatch (s : State) (x : MemX) : (s.setMemx x).hiLatch = s.hiLatch := id rfl
@[simp] theorem State.setMemx_tick (s : State) (x : MemX) : (s.setMemx x).tick = s.tick := id rfl
@[simp] theorem State.setMemx_idleT (s : State) (x : MemX) : (s.setMemx x).idleT = s.idleT := id rfl
@[simp] theorem State.setMemx_slew (s : State) (x : MemX) : (s.setMemx x).slew = s.slew := id rfl
@[simp] theorem State.setMemx_reports (s : State) (x : MemX) : (s.setMemx x).reports = s.reports := id rfl
@[simp] theorem State.setMemx_causes (s : State) (x : MemX) : (s.setMemx x).causes = s.causes := id rfl
@[simp] theorem State.setMemx_expls (s : State) (x : MemX) : (s.setMemx x).expls = s.expls := id rfl
@[simp] theorem State.setMemx_events (s : State) (x : MemX) : (s.setMemx x).events = s.events := id rfl
@[simp] theorem State.setMemx_axes (s : State) (x : MemX) : (s.setMemx x).axes = s.axes := id rfl
@[simp] theorem State.setMemx_gens (s : State) (x : MemX) : (s.setMemx x).gens = s.gens := id rfl
@[simp] theorem State.setMemx_lists (s : State) (x : MemX) : (s.setMemx x).lists = s.lists := id rfl
@[simp] theorem State.setMemx_pins (s : State) (x : MemX) : (s.setMemx x).pins = s.pins := id rfl
@[simp] theorem State.setMemx_pairs (s : State) (x : MemX) : (s.setMemx x).pairs = s.pairs := id rfl
@[simp] theorem State.setMemx_trigIns (s : State) (x : MemX) : (s.setMemx x).trigIns = s.trigIns := id rfl
@[simp] theorem State.setMemx_sched (s : State) (x : MemX) : (s.setMemx x).sched = s.sched := id rfl
@[simp] theorem State.setMemx_lanes (s : State) (x : MemX) : (s.setMemx x).lanes = s.lanes := id rfl
@[simp] theorem State.setMemx_bonds (s : State) (x : MemX) : (s.setMemx x).bonds = s.bonds := id rfl
@[simp] theorem State.setMemx_cams (s : State) (x : MemX) : (s.setMemx x).cams = s.cams := id rfl
@[simp] theorem State.setMemx_pipes (s : State) (x : MemX) : (s.setMemx x).pipes = s.pipes := id rfl
@[simp] theorem State.setMemx_asys (s : State) (x : MemX) : (s.setMemx x).asys = s.asys := id rfl
@[simp] theorem State.setMemx_views (s : State) (x : MemX) : (s.setMemx x).views = s.views := id rfl
@[simp] theorem State.setMemx_pages (s : State) (x : MemX) : (s.setMemx x).pages = s.pages := id rfl
@[simp] theorem State.setMemx_crus (s : State) (x : MemX) : (s.setMemx x).crus = s.crus := id rfl
@[simp] theorem State.setMemx_rings (s : State) (x : MemX) : (s.setMemx x).rings = s.rings := id rfl
@[simp] theorem State.setMemx_xfers (s : State) (x : MemX) : (s.setMemx x).xfers = s.xfers := id rfl
@[simp] theorem State.setMemx_host (s : State) (x : MemX) : (s.setMemx x).host = s.host := id rfl
@[simp] theorem State.setMemx_noz (s : State) (x : MemX) : (s.setMemx x).noz = s.noz := id rfl
@[simp] theorem State.setMemx_nbanks (s : State) (x : MemX) : (s.setMemx x).nbanks = s.nbanks := id rfl
@[simp] theorem State.setMemx_twin (s : State) (x : MemX) : (s.setMemx x).twin = s.twin := id rfl
@[simp] theorem State.setMemx_memx (s : State) (x : MemX) : (s.setMemx x).memx = x := id rfl
@[simp] theorem State.setMemx_chans (s : State) (x : MemX) : (s.setMemx x).chans = s.chans := id rfl
@[simp] theorem State.setMemx_engines (s : State) (x : MemX) : (s.setMemx x).engines = s.engines := id rfl
@[simp] theorem State.setMemx_mboxes (s : State) (x : MemX) : (s.setMemx x).mboxes = s.mboxes := id rfl
@[simp] theorem State.setMemx_bench (s : State) (x : MemX) : (s.setMemx x).bench = s.bench := id rfl
@[simp] theorem State.setMemx_clk (s : State) (x : MemX) : (s.setMemx x).clk = s.clk := id rfl
@[simp] theorem State.setMemx_pwr (s : State) (x : MemX) : (s.setMemx x).pwr = s.pwr := id rfl
@[simp] theorem State.setMemx_touch (s : State) (x : MemX) : (s.setMemx x).touch = s.touch := id rfl
@[simp] theorem State.setMemx_boot (s : State) (x : MemX) : (s.setMemx x).boot = s.boot := id rfl
@[simp] theorem State.setMemx_devMem (s : State) (x : MemX) : (s.setMemx x).devMem = s.devMem := id rfl
@[simp] theorem State.setMemx_hostMem (s : State) (x : MemX) : (s.setMemx x).hostMem = s.hostMem := id rfl
@[simp] theorem State.setMemx_parts (s : State) (x : MemX) : (s.setMemx x).parts = s.parts := id rfl
@[simp] theorem State.setMemx_out (s : State) (x : MemX) : (s.setMemx x).out = s.out := id rfl
@[simp] theorem State.setMemx_rd (s : State) (x : MemX) (j : Nat) : (s.setMemx x).rd j = s.rd j := id rfl

/-! ## setNoz -/

@[simp] theorem State.setNoz_pending (s : State) (x : NozX) : (s.setNoz x).pending = s.pending := id rfl
@[simp] theorem State.setNoz_devTime (s : State) (x : NozX) : (s.setNoz x).devTime = s.devTime := id rfl
@[simp] theorem State.setNoz_bootGen (s : State) (x : NozX) : (s.setNoz x).bootGen = s.bootGen := id rfl
@[simp] theorem State.setNoz_freeIdx (s : State) (x : NozX) : (s.setNoz x).freeIdx = s.freeIdx := id rfl
@[simp] theorem State.setNoz_regs (s : State) (x : NozX) : (s.setNoz x).regs = s.regs := id rfl
@[simp] theorem State.setNoz_hiLatch (s : State) (x : NozX) : (s.setNoz x).hiLatch = s.hiLatch := id rfl
@[simp] theorem State.setNoz_tick (s : State) (x : NozX) : (s.setNoz x).tick = s.tick := id rfl
@[simp] theorem State.setNoz_idleT (s : State) (x : NozX) : (s.setNoz x).idleT = s.idleT := id rfl
@[simp] theorem State.setNoz_slew (s : State) (x : NozX) : (s.setNoz x).slew = s.slew := id rfl
@[simp] theorem State.setNoz_reports (s : State) (x : NozX) : (s.setNoz x).reports = s.reports := id rfl
@[simp] theorem State.setNoz_causes (s : State) (x : NozX) : (s.setNoz x).causes = s.causes := id rfl
@[simp] theorem State.setNoz_expls (s : State) (x : NozX) : (s.setNoz x).expls = s.expls := id rfl
@[simp] theorem State.setNoz_events (s : State) (x : NozX) : (s.setNoz x).events = s.events := id rfl
@[simp] theorem State.setNoz_axes (s : State) (x : NozX) : (s.setNoz x).axes = s.axes := id rfl
@[simp] theorem State.setNoz_gens (s : State) (x : NozX) : (s.setNoz x).gens = s.gens := id rfl
@[simp] theorem State.setNoz_lists (s : State) (x : NozX) : (s.setNoz x).lists = s.lists := id rfl
@[simp] theorem State.setNoz_pins (s : State) (x : NozX) : (s.setNoz x).pins = s.pins := id rfl
@[simp] theorem State.setNoz_pairs (s : State) (x : NozX) : (s.setNoz x).pairs = s.pairs := id rfl
@[simp] theorem State.setNoz_trigIns (s : State) (x : NozX) : (s.setNoz x).trigIns = s.trigIns := id rfl
@[simp] theorem State.setNoz_sched (s : State) (x : NozX) : (s.setNoz x).sched = s.sched := id rfl
@[simp] theorem State.setNoz_lanes (s : State) (x : NozX) : (s.setNoz x).lanes = s.lanes := id rfl
@[simp] theorem State.setNoz_bonds (s : State) (x : NozX) : (s.setNoz x).bonds = s.bonds := id rfl
@[simp] theorem State.setNoz_cams (s : State) (x : NozX) : (s.setNoz x).cams = s.cams := id rfl
@[simp] theorem State.setNoz_pipes (s : State) (x : NozX) : (s.setNoz x).pipes = s.pipes := id rfl
@[simp] theorem State.setNoz_asys (s : State) (x : NozX) : (s.setNoz x).asys = s.asys := id rfl
@[simp] theorem State.setNoz_views (s : State) (x : NozX) : (s.setNoz x).views = s.views := id rfl
@[simp] theorem State.setNoz_pages (s : State) (x : NozX) : (s.setNoz x).pages = s.pages := id rfl
@[simp] theorem State.setNoz_crus (s : State) (x : NozX) : (s.setNoz x).crus = s.crus := id rfl
@[simp] theorem State.setNoz_rings (s : State) (x : NozX) : (s.setNoz x).rings = s.rings := id rfl
@[simp] theorem State.setNoz_xfers (s : State) (x : NozX) : (s.setNoz x).xfers = s.xfers := id rfl
@[simp] theorem State.setNoz_host (s : State) (x : NozX) : (s.setNoz x).host = s.host := id rfl
@[simp] theorem State.setNoz_noz (s : State) (x : NozX) : (s.setNoz x).noz = x := id rfl
@[simp] theorem State.setNoz_nbanks (s : State) (x : NozX) : (s.setNoz x).nbanks = s.nbanks := id rfl
@[simp] theorem State.setNoz_twin (s : State) (x : NozX) : (s.setNoz x).twin = s.twin := id rfl
@[simp] theorem State.setNoz_memx (s : State) (x : NozX) : (s.setNoz x).memx = s.memx := id rfl
@[simp] theorem State.setNoz_chans (s : State) (x : NozX) : (s.setNoz x).chans = s.chans := id rfl
@[simp] theorem State.setNoz_engines (s : State) (x : NozX) : (s.setNoz x).engines = s.engines := id rfl
@[simp] theorem State.setNoz_mboxes (s : State) (x : NozX) : (s.setNoz x).mboxes = s.mboxes := id rfl
@[simp] theorem State.setNoz_bench (s : State) (x : NozX) : (s.setNoz x).bench = s.bench := id rfl
@[simp] theorem State.setNoz_clk (s : State) (x : NozX) : (s.setNoz x).clk = s.clk := id rfl
@[simp] theorem State.setNoz_pwr (s : State) (x : NozX) : (s.setNoz x).pwr = s.pwr := id rfl
@[simp] theorem State.setNoz_touch (s : State) (x : NozX) : (s.setNoz x).touch = s.touch := id rfl
@[simp] theorem State.setNoz_boot (s : State) (x : NozX) : (s.setNoz x).boot = s.boot := id rfl
@[simp] theorem State.setNoz_devMem (s : State) (x : NozX) : (s.setNoz x).devMem = s.devMem := id rfl
@[simp] theorem State.setNoz_hostMem (s : State) (x : NozX) : (s.setNoz x).hostMem = s.hostMem := id rfl
@[simp] theorem State.setNoz_parts (s : State) (x : NozX) : (s.setNoz x).parts = s.parts := id rfl
@[simp] theorem State.setNoz_out (s : State) (x : NozX) : (s.setNoz x).out = s.out := id rfl
@[simp] theorem State.setNoz_rd (s : State) (x : NozX) (j : Nat) : (s.setNoz x).rd j = s.rd j := id rfl

/-! ## setNbank -/

@[simp] theorem State.setNbank_pending (s : State) (b : Nat) (x : NozBank) : (s.setNbank b x).pending = s.pending := id rfl
@[simp] theorem State.setNbank_devTime (s : State) (b : Nat) (x : NozBank) : (s.setNbank b x).devTime = s.devTime := id rfl
@[simp] theorem State.setNbank_bootGen (s : State) (b : Nat) (x : NozBank) : (s.setNbank b x).bootGen = s.bootGen := id rfl
@[simp] theorem State.setNbank_freeIdx (s : State) (b : Nat) (x : NozBank) : (s.setNbank b x).freeIdx = s.freeIdx := id rfl
@[simp] theorem State.setNbank_regs (s : State) (b : Nat) (x : NozBank) : (s.setNbank b x).regs = s.regs := id rfl
@[simp] theorem State.setNbank_hiLatch (s : State) (b : Nat) (x : NozBank) : (s.setNbank b x).hiLatch = s.hiLatch := id rfl
@[simp] theorem State.setNbank_tick (s : State) (b : Nat) (x : NozBank) : (s.setNbank b x).tick = s.tick := id rfl
@[simp] theorem State.setNbank_idleT (s : State) (b : Nat) (x : NozBank) : (s.setNbank b x).idleT = s.idleT := id rfl
@[simp] theorem State.setNbank_slew (s : State) (b : Nat) (x : NozBank) : (s.setNbank b x).slew = s.slew := id rfl
@[simp] theorem State.setNbank_reports (s : State) (b : Nat) (x : NozBank) : (s.setNbank b x).reports = s.reports := id rfl
@[simp] theorem State.setNbank_causes (s : State) (b : Nat) (x : NozBank) : (s.setNbank b x).causes = s.causes := id rfl
@[simp] theorem State.setNbank_expls (s : State) (b : Nat) (x : NozBank) : (s.setNbank b x).expls = s.expls := id rfl
@[simp] theorem State.setNbank_events (s : State) (b : Nat) (x : NozBank) : (s.setNbank b x).events = s.events := id rfl
@[simp] theorem State.setNbank_axes (s : State) (b : Nat) (x : NozBank) : (s.setNbank b x).axes = s.axes := id rfl
@[simp] theorem State.setNbank_gens (s : State) (b : Nat) (x : NozBank) : (s.setNbank b x).gens = s.gens := id rfl
@[simp] theorem State.setNbank_lists (s : State) (b : Nat) (x : NozBank) : (s.setNbank b x).lists = s.lists := id rfl
@[simp] theorem State.setNbank_pins (s : State) (b : Nat) (x : NozBank) : (s.setNbank b x).pins = s.pins := id rfl
@[simp] theorem State.setNbank_pairs (s : State) (b : Nat) (x : NozBank) : (s.setNbank b x).pairs = s.pairs := id rfl
@[simp] theorem State.setNbank_trigIns (s : State) (b : Nat) (x : NozBank) : (s.setNbank b x).trigIns = s.trigIns := id rfl
@[simp] theorem State.setNbank_sched (s : State) (b : Nat) (x : NozBank) : (s.setNbank b x).sched = s.sched := id rfl
@[simp] theorem State.setNbank_lanes (s : State) (b : Nat) (x : NozBank) : (s.setNbank b x).lanes = s.lanes := id rfl
@[simp] theorem State.setNbank_bonds (s : State) (b : Nat) (x : NozBank) : (s.setNbank b x).bonds = s.bonds := id rfl
@[simp] theorem State.setNbank_cams (s : State) (b : Nat) (x : NozBank) : (s.setNbank b x).cams = s.cams := id rfl
@[simp] theorem State.setNbank_pipes (s : State) (b : Nat) (x : NozBank) : (s.setNbank b x).pipes = s.pipes := id rfl
@[simp] theorem State.setNbank_asys (s : State) (b : Nat) (x : NozBank) : (s.setNbank b x).asys = s.asys := id rfl
@[simp] theorem State.setNbank_views (s : State) (b : Nat) (x : NozBank) : (s.setNbank b x).views = s.views := id rfl
@[simp] theorem State.setNbank_pages (s : State) (b : Nat) (x : NozBank) : (s.setNbank b x).pages = s.pages := id rfl
@[simp] theorem State.setNbank_crus (s : State) (b : Nat) (x : NozBank) : (s.setNbank b x).crus = s.crus := id rfl
@[simp] theorem State.setNbank_rings (s : State) (b : Nat) (x : NozBank) : (s.setNbank b x).rings = s.rings := id rfl
@[simp] theorem State.setNbank_xfers (s : State) (b : Nat) (x : NozBank) : (s.setNbank b x).xfers = s.xfers := id rfl
@[simp] theorem State.setNbank_host (s : State) (b : Nat) (x : NozBank) : (s.setNbank b x).host = s.host := id rfl
@[simp] theorem State.setNbank_noz (s : State) (b : Nat) (x : NozBank) : (s.setNbank b x).noz = s.noz := id rfl
@[simp] theorem State.setNbank_nbank (s : State) (b : Nat) (x : NozBank) (j : Nat) :
    (s.setNbank b x).nbank j = if j = b then x else s.nbank j := sget_sset _ _ _ _ _
@[simp] theorem State.setNbank_twin (s : State) (b : Nat) (x : NozBank) : (s.setNbank b x).twin = s.twin := id rfl
@[simp] theorem State.setNbank_memx (s : State) (b : Nat) (x : NozBank) : (s.setNbank b x).memx = s.memx := id rfl
@[simp] theorem State.setNbank_chans (s : State) (b : Nat) (x : NozBank) : (s.setNbank b x).chans = s.chans := id rfl
@[simp] theorem State.setNbank_engines (s : State) (b : Nat) (x : NozBank) : (s.setNbank b x).engines = s.engines := id rfl
@[simp] theorem State.setNbank_mboxes (s : State) (b : Nat) (x : NozBank) : (s.setNbank b x).mboxes = s.mboxes := id rfl
@[simp] theorem State.setNbank_bench (s : State) (b : Nat) (x : NozBank) : (s.setNbank b x).bench = s.bench := id rfl
@[simp] theorem State.setNbank_clk (s : State) (b : Nat) (x : NozBank) : (s.setNbank b x).clk = s.clk := id rfl
@[simp] theorem State.setNbank_pwr (s : State) (b : Nat) (x : NozBank) : (s.setNbank b x).pwr = s.pwr := id rfl
@[simp] theorem State.setNbank_touch (s : State) (b : Nat) (x : NozBank) : (s.setNbank b x).touch = s.touch := id rfl
@[simp] theorem State.setNbank_boot (s : State) (b : Nat) (x : NozBank) : (s.setNbank b x).boot = s.boot := id rfl
@[simp] theorem State.setNbank_devMem (s : State) (b : Nat) (x : NozBank) : (s.setNbank b x).devMem = s.devMem := id rfl
@[simp] theorem State.setNbank_hostMem (s : State) (b : Nat) (x : NozBank) : (s.setNbank b x).hostMem = s.hostMem := id rfl
@[simp] theorem State.setNbank_parts (s : State) (b : Nat) (x : NozBank) : (s.setNbank b x).parts = s.parts := id rfl
@[simp] theorem State.setNbank_out (s : State) (b : Nat) (x : NozBank) : (s.setNbank b x).out = s.out := id rfl
@[simp] theorem State.setNbank_rd (s : State) (b : Nat) (x : NozBank) (j : Nat) : (s.setNbank b x).rd j = s.rd j := id rfl

/-! ## hostWrite -/

@[simp] theorem State.hostWrite_pending (s : State) (a : Nat) (bs : List Byte) : (s.hostWrite a bs).pending = s.pending := id rfl
@[simp] theorem State.hostWrite_devTime (s : State) (a : Nat) (bs : List Byte) : (s.hostWrite a bs).devTime = s.devTime := id rfl
@[simp] theorem State.hostWrite_bootGen (s : State) (a : Nat) (bs : List Byte) : (s.hostWrite a bs).bootGen = s.bootGen := id rfl
@[simp] theorem State.hostWrite_freeIdx (s : State) (a : Nat) (bs : List Byte) : (s.hostWrite a bs).freeIdx = s.freeIdx := id rfl
@[simp] theorem State.hostWrite_regs (s : State) (a : Nat) (bs : List Byte) : (s.hostWrite a bs).regs = s.regs := id rfl
@[simp] theorem State.hostWrite_hiLatch (s : State) (a : Nat) (bs : List Byte) : (s.hostWrite a bs).hiLatch = s.hiLatch := id rfl
@[simp] theorem State.hostWrite_tick (s : State) (a : Nat) (bs : List Byte) : (s.hostWrite a bs).tick = s.tick := id rfl
@[simp] theorem State.hostWrite_idleT (s : State) (a : Nat) (bs : List Byte) : (s.hostWrite a bs).idleT = s.idleT := id rfl
@[simp] theorem State.hostWrite_slew (s : State) (a : Nat) (bs : List Byte) : (s.hostWrite a bs).slew = s.slew := id rfl
@[simp] theorem State.hostWrite_reports (s : State) (a : Nat) (bs : List Byte) : (s.hostWrite a bs).reports = s.reports := id rfl
@[simp] theorem State.hostWrite_causes (s : State) (a : Nat) (bs : List Byte) : (s.hostWrite a bs).causes = s.causes := id rfl
@[simp] theorem State.hostWrite_expls (s : State) (a : Nat) (bs : List Byte) : (s.hostWrite a bs).expls = s.expls := id rfl
@[simp] theorem State.hostWrite_events (s : State) (a : Nat) (bs : List Byte) : (s.hostWrite a bs).events = s.events := id rfl
@[simp] theorem State.hostWrite_axes (s : State) (a : Nat) (bs : List Byte) : (s.hostWrite a bs).axes = s.axes := id rfl
@[simp] theorem State.hostWrite_gens (s : State) (a : Nat) (bs : List Byte) : (s.hostWrite a bs).gens = s.gens := id rfl
@[simp] theorem State.hostWrite_lists (s : State) (a : Nat) (bs : List Byte) : (s.hostWrite a bs).lists = s.lists := id rfl
@[simp] theorem State.hostWrite_pins (s : State) (a : Nat) (bs : List Byte) : (s.hostWrite a bs).pins = s.pins := id rfl
@[simp] theorem State.hostWrite_pairs (s : State) (a : Nat) (bs : List Byte) : (s.hostWrite a bs).pairs = s.pairs := id rfl
@[simp] theorem State.hostWrite_trigIns (s : State) (a : Nat) (bs : List Byte) : (s.hostWrite a bs).trigIns = s.trigIns := id rfl
@[simp] theorem State.hostWrite_sched (s : State) (a : Nat) (bs : List Byte) : (s.hostWrite a bs).sched = s.sched := id rfl
@[simp] theorem State.hostWrite_lanes (s : State) (a : Nat) (bs : List Byte) : (s.hostWrite a bs).lanes = s.lanes := id rfl
@[simp] theorem State.hostWrite_bonds (s : State) (a : Nat) (bs : List Byte) : (s.hostWrite a bs).bonds = s.bonds := id rfl
@[simp] theorem State.hostWrite_cams (s : State) (a : Nat) (bs : List Byte) : (s.hostWrite a bs).cams = s.cams := id rfl
@[simp] theorem State.hostWrite_pipes (s : State) (a : Nat) (bs : List Byte) : (s.hostWrite a bs).pipes = s.pipes := id rfl
@[simp] theorem State.hostWrite_asys (s : State) (a : Nat) (bs : List Byte) : (s.hostWrite a bs).asys = s.asys := id rfl
@[simp] theorem State.hostWrite_views (s : State) (a : Nat) (bs : List Byte) : (s.hostWrite a bs).views = s.views := id rfl
@[simp] theorem State.hostWrite_pages (s : State) (a : Nat) (bs : List Byte) : (s.hostWrite a bs).pages = s.pages := id rfl
@[simp] theorem State.hostWrite_crus (s : State) (a : Nat) (bs : List Byte) : (s.hostWrite a bs).crus = s.crus := id rfl
@[simp] theorem State.hostWrite_rings (s : State) (a : Nat) (bs : List Byte) : (s.hostWrite a bs).rings = s.rings := id rfl
@[simp] theorem State.hostWrite_xfers (s : State) (a : Nat) (bs : List Byte) : (s.hostWrite a bs).xfers = s.xfers := id rfl
@[simp] theorem State.hostWrite_host (s : State) (a : Nat) (bs : List Byte) : (s.hostWrite a bs).host = s.host := id rfl
@[simp] theorem State.hostWrite_noz (s : State) (a : Nat) (bs : List Byte) : (s.hostWrite a bs).noz = s.noz := id rfl
@[simp] theorem State.hostWrite_nbanks (s : State) (a : Nat) (bs : List Byte) : (s.hostWrite a bs).nbanks = s.nbanks := id rfl
@[simp] theorem State.hostWrite_twin (s : State) (a : Nat) (bs : List Byte) : (s.hostWrite a bs).twin = s.twin := id rfl
@[simp] theorem State.hostWrite_memx (s : State) (a : Nat) (bs : List Byte) : (s.hostWrite a bs).memx = s.memx := id rfl
@[simp] theorem State.hostWrite_chans (s : State) (a : Nat) (bs : List Byte) : (s.hostWrite a bs).chans = s.chans := id rfl
@[simp] theorem State.hostWrite_engines (s : State) (a : Nat) (bs : List Byte) : (s.hostWrite a bs).engines = s.engines := id rfl
@[simp] theorem State.hostWrite_mboxes (s : State) (a : Nat) (bs : List Byte) : (s.hostWrite a bs).mboxes = s.mboxes := id rfl
@[simp] theorem State.hostWrite_bench (s : State) (a : Nat) (bs : List Byte) : (s.hostWrite a bs).bench = s.bench := id rfl
@[simp] theorem State.hostWrite_clk (s : State) (a : Nat) (bs : List Byte) : (s.hostWrite a bs).clk = s.clk := id rfl
@[simp] theorem State.hostWrite_pwr (s : State) (a : Nat) (bs : List Byte) : (s.hostWrite a bs).pwr = s.pwr := id rfl
@[simp] theorem State.hostWrite_touch (s : State) (a : Nat) (bs : List Byte) : (s.hostWrite a bs).touch = s.touch := id rfl
@[simp] theorem State.hostWrite_boot (s : State) (a : Nat) (bs : List Byte) : (s.hostWrite a bs).boot = s.boot := id rfl
@[simp] theorem State.hostWrite_devMem (s : State) (a : Nat) (bs : List Byte) : (s.hostWrite a bs).devMem = s.devMem := id rfl
@[simp] theorem State.hostWrite_hostMem (s : State) (a : Nat) (bs : List Byte) :
    (s.hostWrite a bs).hostMem = memWrite s.hostMem a bs := id rfl
@[simp] theorem State.hostWrite_parts (s : State) (a : Nat) (bs : List Byte) : (s.hostWrite a bs).parts = s.parts := id rfl
@[simp] theorem State.hostWrite_out (s : State) (a : Nat) (bs : List Byte) : (s.hostWrite a bs).out = s.out := id rfl
@[simp] theorem State.hostWrite_rd (s : State) (a : Nat) (bs : List Byte) (j : Nat) : (s.hostWrite a bs).rd j = s.rd j := id rfl

/-! ## pass -/

@[simp] theorem State.pass_pending (s : State) (dt : Nat) : (s.pass dt).pending = s.pending := id rfl
@[simp] theorem State.pass_devTime (s : State) (dt : Nat) : (s.pass dt).devTime = s.after dt := id rfl
@[simp] theorem State.pass_bootGen (s : State) (dt : Nat) : (s.pass dt).bootGen = s.bootGen := id rfl
@[simp] theorem State.pass_regs (s : State) (dt : Nat) : (s.pass dt).regs = s.regs := id rfl
@[simp] theorem State.pass_hiLatch (s : State) (dt : Nat) : (s.pass dt).hiLatch = s.hiLatch := id rfl
@[simp] theorem State.pass_tick (s : State) (dt : Nat) : (s.pass dt).tick = s.tick := id rfl
@[simp] theorem State.pass_reports (s : State) (dt : Nat) : (s.pass dt).reports = s.reports := id rfl
@[simp] theorem State.pass_causes (s : State) (dt : Nat) : (s.pass dt).causes = s.causes := id rfl
@[simp] theorem State.pass_expls (s : State) (dt : Nat) : (s.pass dt).expls = s.expls := id rfl
@[simp] theorem State.pass_events (s : State) (dt : Nat) : (s.pass dt).events = s.events := id rfl
@[simp] theorem State.pass_axes (s : State) (dt : Nat) : (s.pass dt).axes = s.axes := id rfl
@[simp] theorem State.pass_gens (s : State) (dt : Nat) : (s.pass dt).gens = s.gens := id rfl
@[simp] theorem State.pass_lists (s : State) (dt : Nat) : (s.pass dt).lists = s.lists := id rfl
@[simp] theorem State.pass_pins (s : State) (dt : Nat) : (s.pass dt).pins = s.pins := id rfl
@[simp] theorem State.pass_pairs (s : State) (dt : Nat) : (s.pass dt).pairs = s.pairs := id rfl
@[simp] theorem State.pass_trigIns (s : State) (dt : Nat) : (s.pass dt).trigIns = s.trigIns := id rfl
@[simp] theorem State.pass_sched (s : State) (dt : Nat) : (s.pass dt).sched = s.sched := id rfl
@[simp] theorem State.pass_bonds (s : State) (dt : Nat) : (s.pass dt).bonds = s.bonds := id rfl
@[simp] theorem State.pass_pipes (s : State) (dt : Nat) : (s.pass dt).pipes = s.pipes := id rfl
@[simp] theorem State.pass_asys (s : State) (dt : Nat) : (s.pass dt).asys = s.asys := id rfl
@[simp] theorem State.pass_views (s : State) (dt : Nat) : (s.pass dt).views = s.views := id rfl
@[simp] theorem State.pass_pages (s : State) (dt : Nat) : (s.pass dt).pages = s.pages := id rfl
@[simp] theorem State.pass_crus (s : State) (dt : Nat) : (s.pass dt).crus = s.crus := id rfl
@[simp] theorem State.pass_rings (s : State) (dt : Nat) : (s.pass dt).rings = s.rings := id rfl
@[simp] theorem State.pass_xfers (s : State) (dt : Nat) : (s.pass dt).xfers = s.xfers := id rfl
@[simp] theorem State.pass_host (s : State) (dt : Nat) : (s.pass dt).host = s.host := id rfl
@[simp] theorem State.pass_noz (s : State) (dt : Nat) : (s.pass dt).noz = s.noz := id rfl
@[simp] theorem State.pass_nbanks (s : State) (dt : Nat) : (s.pass dt).nbanks = s.nbanks := id rfl
@[simp] theorem State.pass_memx (s : State) (dt : Nat) : (s.pass dt).memx = s.memx := id rfl
@[simp] theorem State.pass_chans (s : State) (dt : Nat) : (s.pass dt).chans = s.chans := id rfl
@[simp] theorem State.pass_engines (s : State) (dt : Nat) : (s.pass dt).engines = s.engines := id rfl
@[simp] theorem State.pass_mboxes (s : State) (dt : Nat) : (s.pass dt).mboxes = s.mboxes := id rfl
@[simp] theorem State.pass_bench (s : State) (dt : Nat) : (s.pass dt).bench = s.bench := id rfl
@[simp] theorem State.pass_clk (s : State) (dt : Nat) : (s.pass dt).clk = s.clk := id rfl
@[simp] theorem State.pass_pwr (s : State) (dt : Nat) : (s.pass dt).pwr = s.pwr := id rfl
@[simp] theorem State.pass_touch (s : State) (dt : Nat) : (s.pass dt).touch = s.touch := id rfl
@[simp] theorem State.pass_boot (s : State) (dt : Nat) : (s.pass dt).boot = s.boot := id rfl
@[simp] theorem State.pass_devMem (s : State) (dt : Nat) : (s.pass dt).devMem = s.devMem := id rfl
@[simp] theorem State.pass_hostMem (s : State) (dt : Nat) : (s.pass dt).hostMem = s.hostMem := id rfl
@[simp] theorem State.pass_parts (s : State) (dt : Nat) : (s.pass dt).parts = s.parts := id rfl
@[simp] theorem State.pass_slew (s : State) (dt : Nat) :
    (s.pass dt).slew = { left := s.slew.left - 16 * s.slew.drop dt, acc := (s.slew.acc + dt) % 1024 } := id rfl
@[simp] theorem State.pass_rd (s : State) (dt : Nat) (j : Nat) : (s.pass dt).rd j = s.rd j := id rfl

/-! ## emit -/

@[simp] theorem State.emit_pending (s : State) (o : Out) : (s.emit o).pending = s.pending := id rfl
@[simp] theorem State.emit_devTime (s : State) (o : Out) : (s.emit o).devTime = s.devTime := id rfl
@[simp] theorem State.emit_bootGen (s : State) (o : Out) : (s.emit o).bootGen = s.bootGen := id rfl
@[simp] theorem State.emit_freeIdx (s : State) (o : Out) : (s.emit o).freeIdx = s.freeIdx := id rfl
@[simp] theorem State.emit_regs (s : State) (o : Out) : (s.emit o).regs = s.regs := id rfl
@[simp] theorem State.emit_hiLatch (s : State) (o : Out) : (s.emit o).hiLatch = s.hiLatch := id rfl
@[simp] theorem State.emit_tick (s : State) (o : Out) : (s.emit o).tick = s.tick := id rfl
@[simp] theorem State.emit_idleT (s : State) (o : Out) : (s.emit o).idleT = s.idleT := id rfl
@[simp] theorem State.emit_slew (s : State) (o : Out) : (s.emit o).slew = s.slew := id rfl
@[simp] theorem State.emit_reports (s : State) (o : Out) : (s.emit o).reports = s.reports := id rfl
@[simp] theorem State.emit_causes (s : State) (o : Out) : (s.emit o).causes = s.causes := id rfl
@[simp] theorem State.emit_expls (s : State) (o : Out) : (s.emit o).expls = s.expls := id rfl
@[simp] theorem State.emit_events (s : State) (o : Out) : (s.emit o).events = s.events := id rfl
@[simp] theorem State.emit_axes (s : State) (o : Out) : (s.emit o).axes = s.axes := id rfl
@[simp] theorem State.emit_gens (s : State) (o : Out) : (s.emit o).gens = s.gens := id rfl
@[simp] theorem State.emit_lists (s : State) (o : Out) : (s.emit o).lists = s.lists := id rfl
@[simp] theorem State.emit_pins (s : State) (o : Out) : (s.emit o).pins = s.pins := id rfl
@[simp] theorem State.emit_pairs (s : State) (o : Out) : (s.emit o).pairs = s.pairs := id rfl
@[simp] theorem State.emit_trigIns (s : State) (o : Out) : (s.emit o).trigIns = s.trigIns := id rfl
@[simp] theorem State.emit_sched (s : State) (o : Out) : (s.emit o).sched = s.sched := id rfl
@[simp] theorem State.emit_lanes (s : State) (o : Out) : (s.emit o).lanes = s.lanes := id rfl
@[simp] theorem State.emit_bonds (s : State) (o : Out) : (s.emit o).bonds = s.bonds := id rfl
@[simp] theorem State.emit_cams (s : State) (o : Out) : (s.emit o).cams = s.cams := id rfl
@[simp] theorem State.emit_pipes (s : State) (o : Out) : (s.emit o).pipes = s.pipes := id rfl
@[simp] theorem State.emit_asys (s : State) (o : Out) : (s.emit o).asys = s.asys := id rfl
@[simp] theorem State.emit_views (s : State) (o : Out) : (s.emit o).views = s.views := id rfl
@[simp] theorem State.emit_pages (s : State) (o : Out) : (s.emit o).pages = s.pages := id rfl
@[simp] theorem State.emit_crus (s : State) (o : Out) : (s.emit o).crus = s.crus := id rfl
@[simp] theorem State.emit_rings (s : State) (o : Out) : (s.emit o).rings = s.rings := id rfl
@[simp] theorem State.emit_xfers (s : State) (o : Out) : (s.emit o).xfers = s.xfers := id rfl
@[simp] theorem State.emit_host (s : State) (o : Out) : (s.emit o).host = s.host := id rfl
@[simp] theorem State.emit_noz (s : State) (o : Out) : (s.emit o).noz = s.noz := id rfl
@[simp] theorem State.emit_nbanks (s : State) (o : Out) : (s.emit o).nbanks = s.nbanks := id rfl
@[simp] theorem State.emit_twin (s : State) (o : Out) : (s.emit o).twin = s.twin := id rfl
@[simp] theorem State.emit_memx (s : State) (o : Out) : (s.emit o).memx = s.memx := id rfl
@[simp] theorem State.emit_chans (s : State) (o : Out) : (s.emit o).chans = s.chans := id rfl
@[simp] theorem State.emit_engines (s : State) (o : Out) : (s.emit o).engines = s.engines := id rfl
@[simp] theorem State.emit_mboxes (s : State) (o : Out) : (s.emit o).mboxes = s.mboxes := id rfl
@[simp] theorem State.emit_bench (s : State) (o : Out) : (s.emit o).bench = s.bench := id rfl
@[simp] theorem State.emit_clk (s : State) (o : Out) : (s.emit o).clk = s.clk := id rfl
@[simp] theorem State.emit_pwr (s : State) (o : Out) : (s.emit o).pwr = s.pwr := id rfl
@[simp] theorem State.emit_touch (s : State) (o : Out) : (s.emit o).touch = s.touch := id rfl
@[simp] theorem State.emit_boot (s : State) (o : Out) : (s.emit o).boot = s.boot := id rfl
@[simp] theorem State.emit_devMem (s : State) (o : Out) : (s.emit o).devMem = s.devMem := id rfl
@[simp] theorem State.emit_hostMem (s : State) (o : Out) : (s.emit o).hostMem = s.hostMem := id rfl
@[simp] theorem State.emit_parts (s : State) (o : Out) : (s.emit o).parts = s.parts := id rfl
@[simp] theorem State.emit_out (s : State) (o : Out) : (s.emit o).out = o :: s.out := id rfl
@[simp] theorem State.emit_rd (s : State) (o : Out) (j : Nat) : (s.emit o).rd j = s.rd j := id rfl

/-! ## report -/

@[simp] theorem State.report_pending (s : State) (r : Report) : (s.report r).pending = s.pending := id rfl
@[simp] theorem State.report_devTime (s : State) (r : Report) : (s.report r).devTime = s.devTime := id rfl
@[simp] theorem State.report_bootGen (s : State) (r : Report) : (s.report r).bootGen = s.bootGen := id rfl
@[simp] theorem State.report_freeIdx (s : State) (r : Report) : (s.report r).freeIdx = s.freeIdx := id rfl
@[simp] theorem State.report_regs (s : State) (r : Report) : (s.report r).regs = s.regs := id rfl
@[simp] theorem State.report_hiLatch (s : State) (r : Report) : (s.report r).hiLatch = s.hiLatch := id rfl
@[simp] theorem State.report_tick (s : State) (r : Report) : (s.report r).tick = s.tick := id rfl
@[simp] theorem State.report_idleT (s : State) (r : Report) : (s.report r).idleT = s.idleT := id rfl
@[simp] theorem State.report_slew (s : State) (r : Report) : (s.report r).slew = s.slew := id rfl
@[simp] theorem State.report_reports (s : State) (r : Report) : (s.report r).reports = s.reports ++ [r] := id rfl
@[simp] theorem State.report_causes (s : State) (r : Report) : (s.report r).causes = s.causes := id rfl
@[simp] theorem State.report_expls (s : State) (r : Report) : (s.report r).expls = s.expls := id rfl
@[simp] theorem State.report_events (s : State) (r : Report) : (s.report r).events = s.events := id rfl
@[simp] theorem State.report_axes (s : State) (r : Report) : (s.report r).axes = s.axes := id rfl
@[simp] theorem State.report_gens (s : State) (r : Report) : (s.report r).gens = s.gens := id rfl
@[simp] theorem State.report_lists (s : State) (r : Report) : (s.report r).lists = s.lists := id rfl
@[simp] theorem State.report_pins (s : State) (r : Report) : (s.report r).pins = s.pins := id rfl
@[simp] theorem State.report_pairs (s : State) (r : Report) : (s.report r).pairs = s.pairs := id rfl
@[simp] theorem State.report_trigIns (s : State) (r : Report) : (s.report r).trigIns = s.trigIns := id rfl
@[simp] theorem State.report_sched (s : State) (r : Report) : (s.report r).sched = s.sched := id rfl
@[simp] theorem State.report_lanes (s : State) (r : Report) : (s.report r).lanes = s.lanes := id rfl
@[simp] theorem State.report_bonds (s : State) (r : Report) : (s.report r).bonds = s.bonds := id rfl
@[simp] theorem State.report_cams (s : State) (r : Report) : (s.report r).cams = s.cams := id rfl
@[simp] theorem State.report_pipes (s : State) (r : Report) : (s.report r).pipes = s.pipes := id rfl
@[simp] theorem State.report_asys (s : State) (r : Report) : (s.report r).asys = s.asys := id rfl
@[simp] theorem State.report_views (s : State) (r : Report) : (s.report r).views = s.views := id rfl
@[simp] theorem State.report_pages (s : State) (r : Report) : (s.report r).pages = s.pages := id rfl
@[simp] theorem State.report_crus (s : State) (r : Report) : (s.report r).crus = s.crus := id rfl
@[simp] theorem State.report_rings (s : State) (r : Report) : (s.report r).rings = s.rings := id rfl
@[simp] theorem State.report_xfers (s : State) (r : Report) : (s.report r).xfers = s.xfers := id rfl
@[simp] theorem State.report_host (s : State) (r : Report) : (s.report r).host = s.host := id rfl
@[simp] theorem State.report_noz (s : State) (r : Report) : (s.report r).noz = s.noz := id rfl
@[simp] theorem State.report_nbanks (s : State) (r : Report) : (s.report r).nbanks = s.nbanks := id rfl
@[simp] theorem State.report_twin (s : State) (r : Report) : (s.report r).twin = s.twin := id rfl
@[simp] theorem State.report_memx (s : State) (r : Report) : (s.report r).memx = s.memx := id rfl
@[simp] theorem State.report_chans (s : State) (r : Report) : (s.report r).chans = s.chans := id rfl
@[simp] theorem State.report_engines (s : State) (r : Report) : (s.report r).engines = s.engines := id rfl
@[simp] theorem State.report_mboxes (s : State) (r : Report) : (s.report r).mboxes = s.mboxes := id rfl
@[simp] theorem State.report_bench (s : State) (r : Report) : (s.report r).bench = s.bench := id rfl
@[simp] theorem State.report_clk (s : State) (r : Report) : (s.report r).clk = s.clk := id rfl
@[simp] theorem State.report_pwr (s : State) (r : Report) : (s.report r).pwr = s.pwr := id rfl
@[simp] theorem State.report_touch (s : State) (r : Report) : (s.report r).touch = s.touch := id rfl
@[simp] theorem State.report_boot (s : State) (r : Report) : (s.report r).boot = s.boot := id rfl
@[simp] theorem State.report_devMem (s : State) (r : Report) : (s.report r).devMem = s.devMem := id rfl
@[simp] theorem State.report_hostMem (s : State) (r : Report) : (s.report r).hostMem = s.hostMem := id rfl
@[simp] theorem State.report_parts (s : State) (r : Report) : (s.report r).parts = s.parts := id rfl
@[simp] theorem State.report_out (s : State) (r : Report) : (s.report r).out = s.out := id rfl
@[simp] theorem State.report_rd (s : State) (r : Report) (j : Nat) : (s.report r).rd j = s.rd j := id rfl

/-! ## fault -/

@[simp] theorem State.fault_pending (s : State) (c i src level : Nat) : (s.fault c i src level).pending = s.pending := id rfl
@[simp] theorem State.fault_devTime (s : State) (c i src level : Nat) : (s.fault c i src level).devTime = s.devTime := id rfl
@[simp] theorem State.fault_bootGen (s : State) (c i src level : Nat) : (s.fault c i src level).bootGen = s.bootGen := id rfl
@[simp] theorem State.fault_freeIdx (s : State) (c i src level : Nat) : (s.fault c i src level).freeIdx = s.freeIdx := id rfl
@[simp] theorem State.fault_regs (s : State) (c i src level : Nat) : (s.fault c i src level).regs = s.regs := id rfl
@[simp] theorem State.fault_hiLatch (s : State) (c i src level : Nat) : (s.fault c i src level).hiLatch = s.hiLatch := id rfl
@[simp] theorem State.fault_tick (s : State) (c i src level : Nat) : (s.fault c i src level).tick = s.tick := id rfl
@[simp] theorem State.fault_idleT (s : State) (c i src level : Nat) : (s.fault c i src level).idleT = s.idleT := id rfl
@[simp] theorem State.fault_slew (s : State) (c i src level : Nat) : (s.fault c i src level).slew = s.slew := id rfl
@[simp] theorem State.fault_reports (s : State) (c i src level : Nat) : (s.fault c i src level).reports =
    s.reports ++ [{ sig := c * 256 + i, src := src, level := level, t := s.devTime }] := id rfl
@[simp] theorem State.fault_causes (s : State) (c i src level : Nat) : (s.fault c i src level).causes = s.causes := id rfl
@[simp] theorem State.fault_expls (s : State) (c i src level : Nat) : (s.fault c i src level).expls = s.expls := id rfl
@[simp] theorem State.fault_events (s : State) (c i src level : Nat) : (s.fault c i src level).events = s.events := id rfl
@[simp] theorem State.fault_axes (s : State) (c i src level : Nat) : (s.fault c i src level).axes = s.axes := id rfl
@[simp] theorem State.fault_gens (s : State) (c i src level : Nat) : (s.fault c i src level).gens = s.gens := id rfl
@[simp] theorem State.fault_lists (s : State) (c i src level : Nat) : (s.fault c i src level).lists = s.lists := id rfl
@[simp] theorem State.fault_pins (s : State) (c i src level : Nat) : (s.fault c i src level).pins = s.pins := id rfl
@[simp] theorem State.fault_pairs (s : State) (c i src level : Nat) : (s.fault c i src level).pairs = s.pairs := id rfl
@[simp] theorem State.fault_trigIns (s : State) (c i src level : Nat) : (s.fault c i src level).trigIns = s.trigIns := id rfl
@[simp] theorem State.fault_sched (s : State) (c i src level : Nat) : (s.fault c i src level).sched = s.sched := id rfl
@[simp] theorem State.fault_lanes (s : State) (c i src level : Nat) : (s.fault c i src level).lanes = s.lanes := id rfl
@[simp] theorem State.fault_bonds (s : State) (c i src level : Nat) : (s.fault c i src level).bonds = s.bonds := id rfl
@[simp] theorem State.fault_cams (s : State) (c i src level : Nat) : (s.fault c i src level).cams = s.cams := id rfl
@[simp] theorem State.fault_pipes (s : State) (c i src level : Nat) : (s.fault c i src level).pipes = s.pipes := id rfl
@[simp] theorem State.fault_asys (s : State) (c i src level : Nat) : (s.fault c i src level).asys = s.asys := id rfl
@[simp] theorem State.fault_views (s : State) (c i src level : Nat) : (s.fault c i src level).views = s.views := id rfl
@[simp] theorem State.fault_pages (s : State) (c i src level : Nat) : (s.fault c i src level).pages = s.pages := id rfl
@[simp] theorem State.fault_crus (s : State) (c i src level : Nat) : (s.fault c i src level).crus = s.crus := id rfl
@[simp] theorem State.fault_rings (s : State) (c i src level : Nat) : (s.fault c i src level).rings = s.rings := id rfl
@[simp] theorem State.fault_xfers (s : State) (c i src level : Nat) : (s.fault c i src level).xfers = s.xfers := id rfl
@[simp] theorem State.fault_host (s : State) (c i src level : Nat) : (s.fault c i src level).host = s.host := id rfl
@[simp] theorem State.fault_noz (s : State) (c i src level : Nat) : (s.fault c i src level).noz = s.noz := id rfl
@[simp] theorem State.fault_nbanks (s : State) (c i src level : Nat) : (s.fault c i src level).nbanks = s.nbanks := id rfl
@[simp] theorem State.fault_twin (s : State) (c i src level : Nat) : (s.fault c i src level).twin = s.twin := id rfl
@[simp] theorem State.fault_memx (s : State) (c i src level : Nat) : (s.fault c i src level).memx = s.memx := id rfl
@[simp] theorem State.fault_chans (s : State) (c i src level : Nat) : (s.fault c i src level).chans = s.chans := id rfl
@[simp] theorem State.fault_engines (s : State) (c i src level : Nat) : (s.fault c i src level).engines = s.engines := id rfl
@[simp] theorem State.fault_mboxes (s : State) (c i src level : Nat) : (s.fault c i src level).mboxes = s.mboxes := id rfl
@[simp] theorem State.fault_bench (s : State) (c i src level : Nat) : (s.fault c i src level).bench = s.bench := id rfl
@[simp] theorem State.fault_clk (s : State) (c i src level : Nat) : (s.fault c i src level).clk = s.clk := id rfl
@[simp] theorem State.fault_pwr (s : State) (c i src level : Nat) : (s.fault c i src level).pwr = s.pwr := id rfl
@[simp] theorem State.fault_touch (s : State) (c i src level : Nat) : (s.fault c i src level).touch = s.touch := id rfl
@[simp] theorem State.fault_boot (s : State) (c i src level : Nat) : (s.fault c i src level).boot = s.boot := id rfl
@[simp] theorem State.fault_devMem (s : State) (c i src level : Nat) : (s.fault c i src level).devMem = s.devMem := id rfl
@[simp] theorem State.fault_hostMem (s : State) (c i src level : Nat) : (s.fault c i src level).hostMem = s.hostMem := id rfl
@[simp] theorem State.fault_parts (s : State) (c i src level : Nat) : (s.fault c i src level).parts = s.parts := id rfl
@[simp] theorem State.fault_out (s : State) (c i src level : Nat) : (s.fault c i src level).out = s.out := id rfl
@[simp] theorem State.fault_rd (s : State) (c i src level : Nat) (j : Nat) : (s.fault c i src level).rd j = s.rd j := id rfl

theorem State.setRing_ring (s : State) (f r : Nat) (x : Ring) (f2 r2 : Nat) :
    (s.setRing f r x).ring f2 r2 = if 16 * f2 + r2 = 16 * f + r then x else s.ring f2 r2 := sget_sset _ _ _ _ _

/-! ## Unit records -/

@[simp] theorem State.wr_units (s : State) (k : Nat) (v : Word) :
    (∀ j, (s.wr k v).axis j = s.axis j) ∧ (∀ j, (s.wr k v).gen j = s.gen j) ∧ (∀ j, (s.wr k v).clist j = s.clist j) ∧
    (∀ j, (s.wr k v).pin j = s.pin j) ∧ (∀ j, (s.wr k v).pair j = s.pair j) ∧
    (∀ j, (s.wr k v).trigIn j = s.trigIn j) ∧ (∀ j, (s.wr k v).lane j = s.lane j) ∧
    (∀ j, (s.wr k v).bond j = s.bond j) ∧ (∀ j, (s.wr k v).cam j = s.cam j) ∧ (∀ j, (s.wr k v).pipe j = s.pipe j) ∧
    (∀ j, (s.wr k v).asy j = s.asy j) ∧ (∀ j, (s.wr k v).view j = s.view j) ∧
    (∀ j, (s.wr k v).pageSlot j = s.pageSlot j) ∧ (∀ j, (s.wr k v).cru j = s.cru j) ∧
    (∀ j, (s.wr k v).mbox j = s.mbox j) ∧ (∀ j, (s.wr k v).xferQ j = s.xferQ j) ∧
    (∀ j, (s.wr k v).part j = s.part j) ∧ (∀ j, (s.wr k v).chan j = s.chan j) ∧
    (∀ j, (s.wr k v).engine j = s.engine j) ∧ (∀ j, (s.wr k v).nbank j = s.nbank j) ∧
    (∀ i j, (s.wr k v).ring i j = s.ring i j) :=
  ⟨fun _ => rfl, fun _ => rfl, fun _ => rfl, fun _ => rfl, fun _ => rfl, fun _ => rfl, fun _ => rfl, fun _ => rfl, fun _ => rfl, fun _ => rfl, fun _ => rfl, fun _ => rfl, fun _ => rfl, fun _ => rfl, fun _ => rfl, fun _ => rfl, fun _ => rfl, fun _ => rfl, fun _ => rfl, fun _ => rfl, fun _ _ => rfl⟩
@[simp] theorem State.setFld_units (s : State) (k lo n v : Nat) :
    (∀ j, (s.setFld k lo n v).axis j = s.axis j) ∧ (∀ j, (s.setFld k lo n v).gen j = s.gen j) ∧
    (∀ j, (s.setFld k lo n v).clist j = s.clist j) ∧ (∀ j, (s.setFld k lo n v).pin j = s.pin j) ∧
    (∀ j, (s.setFld k lo n v).pair j = s.pair j) ∧ (∀ j, (s.setFld k lo n v).trigIn j = s.trigIn j) ∧
    (∀ j, (s.setFld k lo n v).lane j = s.lane j) ∧ (∀ j, (s.setFld k lo n v).bond j = s.bond j) ∧
    (∀ j, (s.setFld k lo n v).cam j = s.cam j) ∧ (∀ j, (s.setFld k lo n v).pipe j = s.pipe j) ∧
    (∀ j, (s.setFld k lo n v).asy j = s.asy j) ∧ (∀ j, (s.setFld k lo n v).view j = s.view j) ∧
    (∀ j, (s.setFld k lo n v).pageSlot j = s.pageSlot j) ∧ (∀ j, (s.setFld k lo n v).cru j = s.cru j) ∧
    (∀ j, (s.setFld k lo n v).mbox j = s.mbox j) ∧ (∀ j, (s.setFld k lo n v).xferQ j = s.xferQ j) ∧
    (∀ j, (s.setFld k lo n v).part j = s.part j) ∧ (∀ j, (s.setFld k lo n v).chan j = s.chan j) ∧
    (∀ j, (s.setFld k lo n v).engine j = s.engine j) ∧ (∀ j, (s.setFld k lo n v).nbank j = s.nbank j) ∧
    (∀ i j, (s.setFld k lo n v).ring i j = s.ring i j) :=
  ⟨fun _ => rfl, fun _ => rfl, fun _ => rfl, fun _ => rfl, fun _ => rfl, fun _ => rfl, fun _ => rfl, fun _ => rfl, fun _ => rfl, fun _ => rfl, fun _ => rfl, fun _ => rfl, fun _ => rfl, fun _ => rfl, fun _ => rfl, fun _ => rfl, fun _ => rfl, fun _ => rfl, fun _ => rfl, fun _ => rfl, fun _ _ => rfl⟩
@[simp] theorem State.setBit_units (s : State) (k i : Nat) (b : Bool) :
    (∀ j, (s.setBit k i b).axis j = s.axis j) ∧ (∀ j, (s.setBit k i b).gen j = s.gen j) ∧
    (∀ j, (s.setBit k i b).clist j = s.clist j) ∧ (∀ j, (s.setBit k i b).pin j = s.pin j) ∧
    (∀ j, (s.setBit k i b).pair j = s.pair j) ∧ (∀ j, (s.setBit k i b).trigIn j = s.trigIn j) ∧
    (∀ j, (s.setBit k i b).lane j = s.lane j) ∧ (∀ j, (s.setBit k i b).bond j = s.bond j) ∧
    (∀ j, (s.setBit k i b).cam j = s.cam j) ∧ (∀ j, (s.setBit k i b).pipe j = s.pipe j) ∧
    (∀ j, (s.setBit k i b).asy j = s.asy j) ∧ (∀ j, (s.setBit k i b).view j = s.view j) ∧
    (∀ j, (s.setBit k i b).pageSlot j = s.pageSlot j) ∧ (∀ j, (s.setBit k i b).cru j = s.cru j) ∧
    (∀ j, (s.setBit k i b).mbox j = s.mbox j) ∧ (∀ j, (s.setBit k i b).xferQ j = s.xferQ j) ∧
    (∀ j, (s.setBit k i b).part j = s.part j) ∧ (∀ j, (s.setBit k i b).chan j = s.chan j) ∧
    (∀ j, (s.setBit k i b).engine j = s.engine j) ∧ (∀ j, (s.setBit k i b).nbank j = s.nbank j) ∧
    (∀ i j, (s.setBit k i b).ring i j = s.ring i j) :=
  ⟨fun _ => rfl, fun _ => rfl, fun _ => rfl, fun _ => rfl, fun _ => rfl, fun _ => rfl, fun _ => rfl, fun _ => rfl, fun _ => rfl, fun _ => rfl, fun _ => rfl, fun _ => rfl, fun _ => rfl, fun _ => rfl, fun _ => rfl, fun _ => rfl, fun _ => rfl, fun _ => rfl, fun _ => rfl, fun _ => rfl, fun _ _ => rfl⟩
@[simp] theorem State.addSat_units (s : State) (k lo n d : Nat) :
    (∀ j, (s.addSat k lo n d).axis j = s.axis j) ∧ (∀ j, (s.addSat k lo n d).gen j = s.gen j) ∧
    (∀ j, (s.addSat k lo n d).clist j = s.clist j) ∧ (∀ j, (s.addSat k lo n d).pin j = s.pin j) ∧
    (∀ j, (s.addSat k lo n d).pair j = s.pair j) ∧ (∀ j, (s.addSat k lo n d).trigIn j = s.trigIn j) ∧
    (∀ j, (s.addSat k lo n d).lane j = s.lane j) ∧ (∀ j, (s.addSat k lo n d).bond j = s.bond j) ∧
    (∀ j, (s.addSat k lo n d).cam j = s.cam j) ∧ (∀ j, (s.addSat k lo n d).pipe j = s.pipe j) ∧
    (∀ j, (s.addSat k lo n d).asy j = s.asy j) ∧ (∀ j, (s.addSat k lo n d).view j = s.view j) ∧
    (∀ j, (s.addSat k lo n d).pageSlot j = s.pageSlot j) ∧ (∀ j, (s.addSat k lo n d).cru j = s.cru j) ∧
    (∀ j, (s.addSat k lo n d).mbox j = s.mbox j) ∧ (∀ j, (s.addSat k lo n d).xferQ j = s.xferQ j) ∧
    (∀ j, (s.addSat k lo n d).part j = s.part j) ∧ (∀ j, (s.addSat k lo n d).chan j = s.chan j) ∧
    (∀ j, (s.addSat k lo n d).engine j = s.engine j) ∧ (∀ j, (s.addSat k lo n d).nbank j = s.nbank j) ∧
    (∀ i j, (s.addSat k lo n d).ring i j = s.ring i j) :=
  ⟨fun _ => rfl, fun _ => rfl, fun _ => rfl, fun _ => rfl, fun _ => rfl, fun _ => rfl, fun _ => rfl, fun _ => rfl, fun _ => rfl, fun _ => rfl, fun _ => rfl, fun _ => rfl, fun _ => rfl, fun _ => rfl, fun _ => rfl, fun _ => rfl, fun _ => rfl, fun _ => rfl, fun _ => rfl, fun _ => rfl, fun _ _ => rfl⟩
@[simp] theorem State.addWrap_units (s : State) (k lo n d : Nat) :
    (∀ j, (s.addWrap k lo n d).axis j = s.axis j) ∧ (∀ j, (s.addWrap k lo n d).gen j = s.gen j) ∧
    (∀ j, (s.addWrap k lo n d).clist j = s.clist j) ∧ (∀ j, (s.addWrap k lo n d).pin j = s.pin j) ∧
    (∀ j, (s.addWrap k lo n d).pair j = s.pair j) ∧ (∀ j, (s.addWrap k lo n d).trigIn j = s.trigIn j) ∧
    (∀ j, (s.addWrap k lo n d).lane j = s.lane j) ∧ (∀ j, (s.addWrap k lo n d).bond j = s.bond j) ∧
    (∀ j, (s.addWrap k lo n d).cam j = s.cam j) ∧ (∀ j, (s.addWrap k lo n d).pipe j = s.pipe j) ∧
    (∀ j, (s.addWrap k lo n d).asy j = s.asy j) ∧ (∀ j, (s.addWrap k lo n d).view j = s.view j) ∧
    (∀ j, (s.addWrap k lo n d).pageSlot j = s.pageSlot j) ∧ (∀ j, (s.addWrap k lo n d).cru j = s.cru j) ∧
    (∀ j, (s.addWrap k lo n d).mbox j = s.mbox j) ∧ (∀ j, (s.addWrap k lo n d).xferQ j = s.xferQ j) ∧
    (∀ j, (s.addWrap k lo n d).part j = s.part j) ∧ (∀ j, (s.addWrap k lo n d).chan j = s.chan j) ∧
    (∀ j, (s.addWrap k lo n d).engine j = s.engine j) ∧ (∀ j, (s.addWrap k lo n d).nbank j = s.nbank j) ∧
    (∀ i j, (s.addWrap k lo n d).ring i j = s.ring i j) :=
  ⟨fun _ => rfl, fun _ => rfl, fun _ => rfl, fun _ => rfl, fun _ => rfl, fun _ => rfl, fun _ => rfl, fun _ => rfl, fun _ => rfl, fun _ => rfl, fun _ => rfl, fun _ => rfl, fun _ => rfl, fun _ => rfl, fun _ => rfl, fun _ => rfl, fun _ => rfl, fun _ => rfl, fun _ => rfl, fun _ => rfl, fun _ _ => rfl⟩
@[simp] theorem State.wr64_units (s : State) (k v : Nat) :
    (∀ j, (s.wr64 k v).axis j = s.axis j) ∧ (∀ j, (s.wr64 k v).gen j = s.gen j) ∧
    (∀ j, (s.wr64 k v).clist j = s.clist j) ∧ (∀ j, (s.wr64 k v).pin j = s.pin j) ∧
    (∀ j, (s.wr64 k v).pair j = s.pair j) ∧ (∀ j, (s.wr64 k v).trigIn j = s.trigIn j) ∧
    (∀ j, (s.wr64 k v).lane j = s.lane j) ∧ (∀ j, (s.wr64 k v).bond j = s.bond j) ∧
    (∀ j, (s.wr64 k v).cam j = s.cam j) ∧ (∀ j, (s.wr64 k v).pipe j = s.pipe j) ∧
    (∀ j, (s.wr64 k v).asy j = s.asy j) ∧ (∀ j, (s.wr64 k v).view j = s.view j) ∧
    (∀ j, (s.wr64 k v).pageSlot j = s.pageSlot j) ∧ (∀ j, (s.wr64 k v).cru j = s.cru j) ∧
    (∀ j, (s.wr64 k v).mbox j = s.mbox j) ∧ (∀ j, (s.wr64 k v).xferQ j = s.xferQ j) ∧
    (∀ j, (s.wr64 k v).part j = s.part j) ∧ (∀ j, (s.wr64 k v).chan j = s.chan j) ∧
    (∀ j, (s.wr64 k v).engine j = s.engine j) ∧ (∀ j, (s.wr64 k v).nbank j = s.nbank j) ∧
    (∀ i j, (s.wr64 k v).ring i j = s.ring i j) :=
  ⟨fun _ => rfl, fun _ => rfl, fun _ => rfl, fun _ => rfl, fun _ => rfl, fun _ => rfl, fun _ => rfl, fun _ => rfl, fun _ => rfl, fun _ => rfl, fun _ => rfl, fun _ => rfl, fun _ => rfl, fun _ => rfl, fun _ => rfl, fun _ => rfl, fun _ => rfl, fun _ => rfl, fun _ => rfl, fun _ => rfl, fun _ _ => rfl⟩
@[simp] theorem State.setAxis_units (s : State) (n : Nat) (x : Axis) :
    (∀ j, (s.setAxis n x).gen j = s.gen j) ∧ (∀ j, (s.setAxis n x).clist j = s.clist j) ∧
    (∀ j, (s.setAxis n x).pin j = s.pin j) ∧ (∀ j, (s.setAxis n x).pair j = s.pair j) ∧
    (∀ j, (s.setAxis n x).trigIn j = s.trigIn j) ∧ (∀ j, (s.setAxis n x).lane j = s.lane j) ∧
    (∀ j, (s.setAxis n x).bond j = s.bond j) ∧ (∀ j, (s.setAxis n x).cam j = s.cam j) ∧
    (∀ j, (s.setAxis n x).pipe j = s.pipe j) ∧ (∀ j, (s.setAxis n x).asy j = s.asy j) ∧
    (∀ j, (s.setAxis n x).view j = s.view j) ∧ (∀ j, (s.setAxis n x).pageSlot j = s.pageSlot j) ∧
    (∀ j, (s.setAxis n x).cru j = s.cru j) ∧ (∀ j, (s.setAxis n x).mbox j = s.mbox j) ∧
    (∀ j, (s.setAxis n x).xferQ j = s.xferQ j) ∧ (∀ j, (s.setAxis n x).part j = s.part j) ∧
    (∀ j, (s.setAxis n x).chan j = s.chan j) ∧ (∀ j, (s.setAxis n x).engine j = s.engine j) ∧
    (∀ j, (s.setAxis n x).nbank j = s.nbank j) ∧ (∀ i j, (s.setAxis n x).ring i j = s.ring i j) :=
  ⟨fun _ => rfl, fun _ => rfl, fun _ => rfl, fun _ => rfl, fun _ => rfl, fun _ => rfl, fun _ => rfl, fun _ => rfl, fun _ => rfl, fun _ => rfl, fun _ => rfl, fun _ => rfl, fun _ => rfl, fun _ => rfl, fun _ => rfl, fun _ => rfl, fun _ => rfl, fun _ => rfl, fun _ => rfl, fun _ _ => rfl⟩
@[simp] theorem State.setGen_units (s : State) (n : Nat) (x : Gen) :
    (∀ j, (s.setGen n x).axis j = s.axis j) ∧ (∀ j, (s.setGen n x).clist j = s.clist j) ∧
    (∀ j, (s.setGen n x).pin j = s.pin j) ∧ (∀ j, (s.setGen n x).pair j = s.pair j) ∧
    (∀ j, (s.setGen n x).trigIn j = s.trigIn j) ∧ (∀ j, (s.setGen n x).lane j = s.lane j) ∧
    (∀ j, (s.setGen n x).bond j = s.bond j) ∧ (∀ j, (s.setGen n x).cam j = s.cam j) ∧
    (∀ j, (s.setGen n x).pipe j = s.pipe j) ∧ (∀ j, (s.setGen n x).asy j = s.asy j) ∧
    (∀ j, (s.setGen n x).view j = s.view j) ∧ (∀ j, (s.setGen n x).pageSlot j = s.pageSlot j) ∧
    (∀ j, (s.setGen n x).cru j = s.cru j) ∧ (∀ j, (s.setGen n x).mbox j = s.mbox j) ∧
    (∀ j, (s.setGen n x).xferQ j = s.xferQ j) ∧ (∀ j, (s.setGen n x).part j = s.part j) ∧
    (∀ j, (s.setGen n x).chan j = s.chan j) ∧ (∀ j, (s.setGen n x).engine j = s.engine j) ∧
    (∀ j, (s.setGen n x).nbank j = s.nbank j) ∧ (∀ i j, (s.setGen n x).ring i j = s.ring i j) :=
  ⟨fun _ => rfl, fun _ => rfl, fun _ => rfl, fun _ => rfl, fun _ => rfl, fun _ => rfl, fun _ => rfl, fun _ => rfl, fun _ => rfl, fun _ => rfl, fun _ => rfl, fun _ => rfl, fun _ => rfl, fun _ => rfl, fun _ => rfl, fun _ => rfl, fun _ => rfl, fun _ => rfl, fun _ => rfl, fun _ _ => rfl⟩
@[simp] theorem State.setClist_units (s : State) (n : Nat) (x : CList) :
    (∀ j, (s.setClist n x).axis j = s.axis j) ∧ (∀ j, (s.setClist n x).gen j = s.gen j) ∧
    (∀ j, (s.setClist n x).pin j = s.pin j) ∧ (∀ j, (s.setClist n x).pair j = s.pair j) ∧
    (∀ j, (s.setClist n x).trigIn j = s.trigIn j) ∧ (∀ j, (s.setClist n x).lane j = s.lane j) ∧
    (∀ j, (s.setClist n x).bond j = s.bond j) ∧ (∀ j, (s.setClist n x).cam j = s.cam j) ∧
    (∀ j, (s.setClist n x).pipe j = s.pipe j) ∧ (∀ j, (s.setClist n x).asy j = s.asy j) ∧
    (∀ j, (s.setClist n x).view j = s.view j) ∧ (∀ j, (s.setClist n x).pageSlot j = s.pageSlot j) ∧
    (∀ j, (s.setClist n x).cru j = s.cru j) ∧ (∀ j, (s.setClist n x).mbox j = s.mbox j) ∧
    (∀ j, (s.setClist n x).xferQ j = s.xferQ j) ∧ (∀ j, (s.setClist n x).part j = s.part j) ∧
    (∀ j, (s.setClist n x).chan j = s.chan j) ∧ (∀ j, (s.setClist n x).engine j = s.engine j) ∧
    (∀ j, (s.setClist n x).nbank j = s.nbank j) ∧ (∀ i j, (s.setClist n x).ring i j = s.ring i j) :=
  ⟨fun _ => rfl, fun _ => rfl, fun _ => rfl, fun _ => rfl, fun _ => rfl, fun _ => rfl, fun _ => rfl, fun _ => rfl, fun _ => rfl, fun _ => rfl, fun _ => rfl, fun _ => rfl, fun _ => rfl, fun _ => rfl, fun _ => rfl, fun _ => rfl, fun _ => rfl, fun _ => rfl, fun _ => rfl, fun _ _ => rfl⟩
@[simp] theorem State.setPin_units (s : State) (n : Nat) (x : Pin) :
    (∀ j, (s.setPin n x).axis j = s.axis j) ∧ (∀ j, (s.setPin n x).gen j = s.gen j) ∧
    (∀ j, (s.setPin n x).clist j = s.clist j) ∧ (∀ j, (s.setPin n x).pair j = s.pair j) ∧
    (∀ j, (s.setPin n x).trigIn j = s.trigIn j) ∧ (∀ j, (s.setPin n x).lane j = s.lane j) ∧
    (∀ j, (s.setPin n x).bond j = s.bond j) ∧ (∀ j, (s.setPin n x).cam j = s.cam j) ∧
    (∀ j, (s.setPin n x).pipe j = s.pipe j) ∧ (∀ j, (s.setPin n x).asy j = s.asy j) ∧
    (∀ j, (s.setPin n x).view j = s.view j) ∧ (∀ j, (s.setPin n x).pageSlot j = s.pageSlot j) ∧
    (∀ j, (s.setPin n x).cru j = s.cru j) ∧ (∀ j, (s.setPin n x).mbox j = s.mbox j) ∧
    (∀ j, (s.setPin n x).xferQ j = s.xferQ j) ∧ (∀ j, (s.setPin n x).part j = s.part j) ∧
    (∀ j, (s.setPin n x).chan j = s.chan j) ∧ (∀ j, (s.setPin n x).engine j = s.engine j) ∧
    (∀ j, (s.setPin n x).nbank j = s.nbank j) ∧ (∀ i j, (s.setPin n x).ring i j = s.ring i j) :=
  ⟨fun _ => rfl, fun _ => rfl, fun _ => rfl, fun _ => rfl, fun _ => rfl, fun _ => rfl, fun _ => rfl, fun _ => rfl, fun _ => rfl, fun _ => rfl, fun _ => rfl, fun _ => rfl, fun _ => rfl, fun _ => rfl, fun _ => rfl, fun _ => rfl, fun _ => rfl, fun _ => rfl, fun _ => rfl, fun _ _ => rfl⟩
@[simp] theorem State.setPair_units (s : State) (n : Nat) (x : Pair) :
    (∀ j, (s.setPair n x).axis j = s.axis j) ∧ (∀ j, (s.setPair n x).gen j = s.gen j) ∧
    (∀ j, (s.setPair n x).clist j = s.clist j) ∧ (∀ j, (s.setPair n x).pin j = s.pin j) ∧
    (∀ j, (s.setPair n x).trigIn j = s.trigIn j) ∧ (∀ j, (s.setPair n x).lane j = s.lane j) ∧
    (∀ j, (s.setPair n x).bond j = s.bond j) ∧ (∀ j, (s.setPair n x).cam j = s.cam j) ∧
    (∀ j, (s.setPair n x).pipe j = s.pipe j) ∧ (∀ j, (s.setPair n x).asy j = s.asy j) ∧
    (∀ j, (s.setPair n x).view j = s.view j) ∧ (∀ j, (s.setPair n x).pageSlot j = s.pageSlot j) ∧
    (∀ j, (s.setPair n x).cru j = s.cru j) ∧ (∀ j, (s.setPair n x).mbox j = s.mbox j) ∧
    (∀ j, (s.setPair n x).xferQ j = s.xferQ j) ∧ (∀ j, (s.setPair n x).part j = s.part j) ∧
    (∀ j, (s.setPair n x).chan j = s.chan j) ∧ (∀ j, (s.setPair n x).engine j = s.engine j) ∧
    (∀ j, (s.setPair n x).nbank j = s.nbank j) ∧ (∀ i j, (s.setPair n x).ring i j = s.ring i j) :=
  ⟨fun _ => rfl, fun _ => rfl, fun _ => rfl, fun _ => rfl, fun _ => rfl, fun _ => rfl, fun _ => rfl, fun _ => rfl, fun _ => rfl, fun _ => rfl, fun _ => rfl, fun _ => rfl, fun _ => rfl, fun _ => rfl, fun _ => rfl, fun _ => rfl, fun _ => rfl, fun _ => rfl, fun _ => rfl, fun _ _ => rfl⟩
@[simp] theorem State.setTrigIn_units (s : State) (n : Nat) (x : TrigIn) :
    (∀ j, (s.setTrigIn n x).axis j = s.axis j) ∧ (∀ j, (s.setTrigIn n x).gen j = s.gen j) ∧
    (∀ j, (s.setTrigIn n x).clist j = s.clist j) ∧ (∀ j, (s.setTrigIn n x).pin j = s.pin j) ∧
    (∀ j, (s.setTrigIn n x).pair j = s.pair j) ∧ (∀ j, (s.setTrigIn n x).lane j = s.lane j) ∧
    (∀ j, (s.setTrigIn n x).bond j = s.bond j) ∧ (∀ j, (s.setTrigIn n x).cam j = s.cam j) ∧
    (∀ j, (s.setTrigIn n x).pipe j = s.pipe j) ∧ (∀ j, (s.setTrigIn n x).asy j = s.asy j) ∧
    (∀ j, (s.setTrigIn n x).view j = s.view j) ∧ (∀ j, (s.setTrigIn n x).pageSlot j = s.pageSlot j) ∧
    (∀ j, (s.setTrigIn n x).cru j = s.cru j) ∧ (∀ j, (s.setTrigIn n x).mbox j = s.mbox j) ∧
    (∀ j, (s.setTrigIn n x).xferQ j = s.xferQ j) ∧ (∀ j, (s.setTrigIn n x).part j = s.part j) ∧
    (∀ j, (s.setTrigIn n x).chan j = s.chan j) ∧ (∀ j, (s.setTrigIn n x).engine j = s.engine j) ∧
    (∀ j, (s.setTrigIn n x).nbank j = s.nbank j) ∧ (∀ i j, (s.setTrigIn n x).ring i j = s.ring i j) :=
  ⟨fun _ => rfl, fun _ => rfl, fun _ => rfl, fun _ => rfl, fun _ => rfl, fun _ => rfl, fun _ => rfl, fun _ => rfl, fun _ => rfl, fun _ => rfl, fun _ => rfl, fun _ => rfl, fun _ => rfl, fun _ => rfl, fun _ => rfl, fun _ => rfl, fun _ => rfl, fun _ => rfl, fun _ => rfl, fun _ _ => rfl⟩
@[simp] theorem State.setLane_units (s : State) (n : Nat) (x : LaneX) :
    (∀ j, (s.setLane n x).axis j = s.axis j) ∧ (∀ j, (s.setLane n x).gen j = s.gen j) ∧
    (∀ j, (s.setLane n x).clist j = s.clist j) ∧ (∀ j, (s.setLane n x).pin j = s.pin j) ∧
    (∀ j, (s.setLane n x).pair j = s.pair j) ∧ (∀ j, (s.setLane n x).trigIn j = s.trigIn j) ∧
    (∀ j, (s.setLane n x).bond j = s.bond j) ∧ (∀ j, (s.setLane n x).cam j = s.cam j) ∧
    (∀ j, (s.setLane n x).pipe j = s.pipe j) ∧ (∀ j, (s.setLane n x).asy j = s.asy j) ∧
    (∀ j, (s.setLane n x).view j = s.view j) ∧ (∀ j, (s.setLane n x).pageSlot j = s.pageSlot j) ∧
    (∀ j, (s.setLane n x).cru j = s.cru j) ∧ (∀ j, (s.setLane n x).mbox j = s.mbox j) ∧
    (∀ j, (s.setLane n x).xferQ j = s.xferQ j) ∧ (∀ j, (s.setLane n x).part j = s.part j) ∧
    (∀ j, (s.setLane n x).chan j = s.chan j) ∧ (∀ j, (s.setLane n x).engine j = s.engine j) ∧
    (∀ j, (s.setLane n x).nbank j = s.nbank j) ∧ (∀ i j, (s.setLane n x).ring i j = s.ring i j) :=
  ⟨fun _ => rfl, fun _ => rfl, fun _ => rfl, fun _ => rfl, fun _ => rfl, fun _ => rfl, fun _ => rfl, fun _ => rfl, fun _ => rfl, fun _ => rfl, fun _ => rfl, fun _ => rfl, fun _ => rfl, fun _ => rfl, fun _ => rfl, fun _ => rfl, fun _ => rfl, fun _ => rfl, fun _ => rfl, fun _ _ => rfl⟩
@[simp] theorem State.setBond_units (s : State) (n : Nat) (x : Bond) :
    (∀ j, (s.setBond n x).axis j = s.axis j) ∧ (∀ j, (s.setBond n x).gen j = s.gen j) ∧
    (∀ j, (s.setBond n x).clist j = s.clist j) ∧ (∀ j, (s.setBond n x).pin j = s.pin j) ∧
    (∀ j, (s.setBond n x).pair j = s.pair j) ∧ (∀ j, (s.setBond n x).trigIn j = s.trigIn j) ∧
    (∀ j, (s.setBond n x).lane j = s.lane j) ∧ (∀ j, (s.setBond n x).cam j = s.cam j) ∧
    (∀ j, (s.setBond n x).pipe j = s.pipe j) ∧ (∀ j, (s.setBond n x).asy j = s.asy j) ∧
    (∀ j, (s.setBond n x).view j = s.view j) ∧ (∀ j, (s.setBond n x).pageSlot j = s.pageSlot j) ∧
    (∀ j, (s.setBond n x).cru j = s.cru j) ∧ (∀ j, (s.setBond n x).mbox j = s.mbox j) ∧
    (∀ j, (s.setBond n x).xferQ j = s.xferQ j) ∧ (∀ j, (s.setBond n x).part j = s.part j) ∧
    (∀ j, (s.setBond n x).chan j = s.chan j) ∧ (∀ j, (s.setBond n x).engine j = s.engine j) ∧
    (∀ j, (s.setBond n x).nbank j = s.nbank j) ∧ (∀ i j, (s.setBond n x).ring i j = s.ring i j) :=
  ⟨fun _ => rfl, fun _ => rfl, fun _ => rfl, fun _ => rfl, fun _ => rfl, fun _ => rfl, fun _ => rfl, fun _ => rfl, fun _ => rfl, fun _ => rfl, fun _ => rfl, fun _ => rfl, fun _ => rfl, fun _ => rfl, fun _ => rfl, fun _ => rfl, fun _ => rfl, fun _ => rfl, fun _ => rfl, fun _ _ => rfl⟩
@[simp] theorem State.setCam_units (s : State) (n : Nat) (x : Cam) :
    (∀ j, (s.setCam n x).axis j = s.axis j) ∧ (∀ j, (s.setCam n x).gen j = s.gen j) ∧
    (∀ j, (s.setCam n x).clist j = s.clist j) ∧ (∀ j, (s.setCam n x).pin j = s.pin j) ∧
    (∀ j, (s.setCam n x).pair j = s.pair j) ∧ (∀ j, (s.setCam n x).trigIn j = s.trigIn j) ∧
    (∀ j, (s.setCam n x).lane j = s.lane j) ∧ (∀ j, (s.setCam n x).bond j = s.bond j) ∧
    (∀ j, (s.setCam n x).pipe j = s.pipe j) ∧ (∀ j, (s.setCam n x).asy j = s.asy j) ∧
    (∀ j, (s.setCam n x).view j = s.view j) ∧ (∀ j, (s.setCam n x).pageSlot j = s.pageSlot j) ∧
    (∀ j, (s.setCam n x).cru j = s.cru j) ∧ (∀ j, (s.setCam n x).mbox j = s.mbox j) ∧
    (∀ j, (s.setCam n x).xferQ j = s.xferQ j) ∧ (∀ j, (s.setCam n x).part j = s.part j) ∧
    (∀ j, (s.setCam n x).chan j = s.chan j) ∧ (∀ j, (s.setCam n x).engine j = s.engine j) ∧
    (∀ j, (s.setCam n x).nbank j = s.nbank j) ∧ (∀ i j, (s.setCam n x).ring i j = s.ring i j) :=
  ⟨fun _ => rfl, fun _ => rfl, fun _ => rfl, fun _ => rfl, fun _ => rfl, fun _ => rfl, fun _ => rfl, fun _ => rfl, fun _ => rfl, fun _ => rfl, fun _ => rfl, fun _ => rfl, fun _ => rfl, fun _ => rfl, fun _ => rfl, fun _ => rfl, fun _ => rfl, fun _ => rfl, fun _ => rfl, fun _ _ => rfl⟩
@[simp] theorem State.setPipe_units (s : State) (n : Nat) (x : Pipe) :
    (∀ j, (s.setPipe n x).axis j = s.axis j) ∧ (∀ j, (s.setPipe n x).gen j = s.gen j) ∧
    (∀ j, (s.setPipe n x).clist j = s.clist j) ∧ (∀ j, (s.setPipe n x).pin j = s.pin j) ∧
    (∀ j, (s.setPipe n x).pair j = s.pair j) ∧ (∀ j, (s.setPipe n x).trigIn j = s.trigIn j) ∧
    (∀ j, (s.setPipe n x).lane j = s.lane j) ∧ (∀ j, (s.setPipe n x).bond j = s.bond j) ∧
    (∀ j, (s.setPipe n x).cam j = s.cam j) ∧ (∀ j, (s.setPipe n x).asy j = s.asy j) ∧
    (∀ j, (s.setPipe n x).view j = s.view j) ∧ (∀ j, (s.setPipe n x).pageSlot j = s.pageSlot j) ∧
    (∀ j, (s.setPipe n x).cru j = s.cru j) ∧ (∀ j, (s.setPipe n x).mbox j = s.mbox j) ∧
    (∀ j, (s.setPipe n x).xferQ j = s.xferQ j) ∧ (∀ j, (s.setPipe n x).part j = s.part j) ∧
    (∀ j, (s.setPipe n x).chan j = s.chan j) ∧ (∀ j, (s.setPipe n x).engine j = s.engine j) ∧
    (∀ j, (s.setPipe n x).nbank j = s.nbank j) ∧ (∀ i j, (s.setPipe n x).ring i j = s.ring i j) :=
  ⟨fun _ => rfl, fun _ => rfl, fun _ => rfl, fun _ => rfl, fun _ => rfl, fun _ => rfl, fun _ => rfl, fun _ => rfl, fun _ => rfl, fun _ => rfl, fun _ => rfl, fun _ => rfl, fun _ => rfl, fun _ => rfl, fun _ => rfl, fun _ => rfl, fun _ => rfl, fun _ => rfl, fun _ => rfl, fun _ _ => rfl⟩
@[simp] theorem State.setAsy_units (s : State) (n : Nat) (x : Asy) :
    (∀ j, (s.setAsy n x).axis j = s.axis j) ∧ (∀ j, (s.setAsy n x).gen j = s.gen j) ∧
    (∀ j, (s.setAsy n x).clist j = s.clist j) ∧ (∀ j, (s.setAsy n x).pin j = s.pin j) ∧
    (∀ j, (s.setAsy n x).pair j = s.pair j) ∧ (∀ j, (s.setAsy n x).trigIn j = s.trigIn j) ∧
    (∀ j, (s.setAsy n x).lane j = s.lane j) ∧ (∀ j, (s.setAsy n x).bond j = s.bond j) ∧
    (∀ j, (s.setAsy n x).cam j = s.cam j) ∧ (∀ j, (s.setAsy n x).pipe j = s.pipe j) ∧
    (∀ j, (s.setAsy n x).view j = s.view j) ∧ (∀ j, (s.setAsy n x).pageSlot j = s.pageSlot j) ∧
    (∀ j, (s.setAsy n x).cru j = s.cru j) ∧ (∀ j, (s.setAsy n x).mbox j = s.mbox j) ∧
    (∀ j, (s.setAsy n x).xferQ j = s.xferQ j) ∧ (∀ j, (s.setAsy n x).part j = s.part j) ∧
    (∀ j, (s.setAsy n x).chan j = s.chan j) ∧ (∀ j, (s.setAsy n x).engine j = s.engine j) ∧
    (∀ j, (s.setAsy n x).nbank j = s.nbank j) ∧ (∀ i j, (s.setAsy n x).ring i j = s.ring i j) :=
  ⟨fun _ => rfl, fun _ => rfl, fun _ => rfl, fun _ => rfl, fun _ => rfl, fun _ => rfl, fun _ => rfl, fun _ => rfl, fun _ => rfl, fun _ => rfl, fun _ => rfl, fun _ => rfl, fun _ => rfl, fun _ => rfl, fun _ => rfl, fun _ => rfl, fun _ => rfl, fun _ => rfl, fun _ => rfl, fun _ _ => rfl⟩
@[simp] theorem State.setView_units (s : State) (n : Nat) (x : View) :
    (∀ j, (s.setView n x).axis j = s.axis j) ∧ (∀ j, (s.setView n x).gen j = s.gen j) ∧
    (∀ j, (s.setView n x).clist j = s.clist j) ∧ (∀ j, (s.setView n x).pin j = s.pin j) ∧
    (∀ j, (s.setView n x).pair j = s.pair j) ∧ (∀ j, (s.setView n x).trigIn j = s.trigIn j) ∧
    (∀ j, (s.setView n x).lane j = s.lane j) ∧ (∀ j, (s.setView n x).bond j = s.bond j) ∧
    (∀ j, (s.setView n x).cam j = s.cam j) ∧ (∀ j, (s.setView n x).pipe j = s.pipe j) ∧
    (∀ j, (s.setView n x).asy j = s.asy j) ∧ (∀ j, (s.setView n x).pageSlot j = s.pageSlot j) ∧
    (∀ j, (s.setView n x).cru j = s.cru j) ∧ (∀ j, (s.setView n x).mbox j = s.mbox j) ∧
    (∀ j, (s.setView n x).xferQ j = s.xferQ j) ∧ (∀ j, (s.setView n x).part j = s.part j) ∧
    (∀ j, (s.setView n x).chan j = s.chan j) ∧ (∀ j, (s.setView n x).engine j = s.engine j) ∧
    (∀ j, (s.setView n x).nbank j = s.nbank j) ∧ (∀ i j, (s.setView n x).ring i j = s.ring i j) :=
  ⟨fun _ => rfl, fun _ => rfl, fun _ => rfl, fun _ => rfl, fun _ => rfl, fun _ => rfl, fun _ => rfl, fun _ => rfl, fun _ => rfl, fun _ => rfl, fun _ => rfl, fun _ => rfl, fun _ => rfl, fun _ => rfl, fun _ => rfl, fun _ => rfl, fun _ => rfl, fun _ => rfl, fun _ => rfl, fun _ _ => rfl⟩
@[simp] theorem State.setPageSlot_units (s : State) (k t : Nat) :
    (∀ j, (s.setPageSlot k t).axis j = s.axis j) ∧ (∀ j, (s.setPageSlot k t).gen j = s.gen j) ∧
    (∀ j, (s.setPageSlot k t).clist j = s.clist j) ∧ (∀ j, (s.setPageSlot k t).pin j = s.pin j) ∧
    (∀ j, (s.setPageSlot k t).pair j = s.pair j) ∧ (∀ j, (s.setPageSlot k t).trigIn j = s.trigIn j) ∧
    (∀ j, (s.setPageSlot k t).lane j = s.lane j) ∧ (∀ j, (s.setPageSlot k t).bond j = s.bond j) ∧
    (∀ j, (s.setPageSlot k t).cam j = s.cam j) ∧ (∀ j, (s.setPageSlot k t).pipe j = s.pipe j) ∧
    (∀ j, (s.setPageSlot k t).asy j = s.asy j) ∧ (∀ j, (s.setPageSlot k t).view j = s.view j) ∧
    (∀ j, (s.setPageSlot k t).cru j = s.cru j) ∧ (∀ j, (s.setPageSlot k t).mbox j = s.mbox j) ∧
    (∀ j, (s.setPageSlot k t).xferQ j = s.xferQ j) ∧ (∀ j, (s.setPageSlot k t).part j = s.part j) ∧
    (∀ j, (s.setPageSlot k t).chan j = s.chan j) ∧ (∀ j, (s.setPageSlot k t).engine j = s.engine j) ∧
    (∀ j, (s.setPageSlot k t).nbank j = s.nbank j) ∧ (∀ i j, (s.setPageSlot k t).ring i j = s.ring i j) :=
  ⟨fun _ => rfl, fun _ => rfl, fun _ => rfl, fun _ => rfl, fun _ => rfl, fun _ => rfl, fun _ => rfl, fun _ => rfl, fun _ => rfl, fun _ => rfl, fun _ => rfl, fun _ => rfl, fun _ => rfl, fun _ => rfl, fun _ => rfl, fun _ => rfl, fun _ => rfl, fun _ => rfl, fun _ => rfl, fun _ _ => rfl⟩
@[simp] theorem State.setCru_units (s : State) (n : Nat) (x : Cru) :
    (∀ j, (s.setCru n x).axis j = s.axis j) ∧ (∀ j, (s.setCru n x).gen j = s.gen j) ∧
    (∀ j, (s.setCru n x).clist j = s.clist j) ∧ (∀ j, (s.setCru n x).pin j = s.pin j) ∧
    (∀ j, (s.setCru n x).pair j = s.pair j) ∧ (∀ j, (s.setCru n x).trigIn j = s.trigIn j) ∧
    (∀ j, (s.setCru n x).lane j = s.lane j) ∧ (∀ j, (s.setCru n x).bond j = s.bond j) ∧
    (∀ j, (s.setCru n x).cam j = s.cam j) ∧ (∀ j, (s.setCru n x).pipe j = s.pipe j) ∧
    (∀ j, (s.setCru n x).asy j = s.asy j) ∧ (∀ j, (s.setCru n x).view j = s.view j) ∧
    (∀ j, (s.setCru n x).pageSlot j = s.pageSlot j) ∧ (∀ j, (s.setCru n x).mbox j = s.mbox j) ∧
    (∀ j, (s.setCru n x).xferQ j = s.xferQ j) ∧ (∀ j, (s.setCru n x).part j = s.part j) ∧
    (∀ j, (s.setCru n x).chan j = s.chan j) ∧ (∀ j, (s.setCru n x).engine j = s.engine j) ∧
    (∀ j, (s.setCru n x).nbank j = s.nbank j) ∧ (∀ i j, (s.setCru n x).ring i j = s.ring i j) :=
  ⟨fun _ => rfl, fun _ => rfl, fun _ => rfl, fun _ => rfl, fun _ => rfl, fun _ => rfl, fun _ => rfl, fun _ => rfl, fun _ => rfl, fun _ => rfl, fun _ => rfl, fun _ => rfl, fun _ => rfl, fun _ => rfl, fun _ => rfl, fun _ => rfl, fun _ => rfl, fun _ => rfl, fun _ => rfl, fun _ _ => rfl⟩
@[simp] theorem State.setRing_units (s : State) (f r : Nat) (x : Ring) :
    (∀ j, (s.setRing f r x).axis j = s.axis j) ∧ (∀ j, (s.setRing f r x).gen j = s.gen j) ∧
    (∀ j, (s.setRing f r x).clist j = s.clist j) ∧ (∀ j, (s.setRing f r x).pin j = s.pin j) ∧
    (∀ j, (s.setRing f r x).pair j = s.pair j) ∧ (∀ j, (s.setRing f r x).trigIn j = s.trigIn j) ∧
    (∀ j, (s.setRing f r x).lane j = s.lane j) ∧ (∀ j, (s.setRing f r x).bond j = s.bond j) ∧
    (∀ j, (s.setRing f r x).cam j = s.cam j) ∧ (∀ j, (s.setRing f r x).pipe j = s.pipe j) ∧
    (∀ j, (s.setRing f r x).asy j = s.asy j) ∧ (∀ j, (s.setRing f r x).view j = s.view j) ∧
    (∀ j, (s.setRing f r x).pageSlot j = s.pageSlot j) ∧ (∀ j, (s.setRing f r x).cru j = s.cru j) ∧
    (∀ j, (s.setRing f r x).mbox j = s.mbox j) ∧ (∀ j, (s.setRing f r x).xferQ j = s.xferQ j) ∧
    (∀ j, (s.setRing f r x).part j = s.part j) ∧ (∀ j, (s.setRing f r x).chan j = s.chan j) ∧
    (∀ j, (s.setRing f r x).engine j = s.engine j) ∧ (∀ j, (s.setRing f r x).nbank j = s.nbank j) :=
  ⟨fun _ => rfl, fun _ => rfl, fun _ => rfl, fun _ => rfl, fun _ => rfl, fun _ => rfl, fun _ => rfl, fun _ => rfl, fun _ => rfl, fun _ => rfl, fun _ => rfl, fun _ => rfl, fun _ => rfl, fun _ => rfl, fun _ => rfl, fun _ => rfl, fun _ => rfl, fun _ => rfl, fun _ => rfl, fun _ => rfl⟩
@[simp] theorem State.setMbox_units (s : State) (f : Nat) (x : Mbox) :
    (∀ j, (s.setMbox f x).axis j = s.axis j) ∧ (∀ j, (s.setMbox f x).gen j = s.gen j) ∧
    (∀ j, (s.setMbox f x).clist j = s.clist j) ∧ (∀ j, (s.setMbox f x).pin j = s.pin j) ∧
    (∀ j, (s.setMbox f x).pair j = s.pair j) ∧ (∀ j, (s.setMbox f x).trigIn j = s.trigIn j) ∧
    (∀ j, (s.setMbox f x).lane j = s.lane j) ∧ (∀ j, (s.setMbox f x).bond j = s.bond j) ∧
    (∀ j, (s.setMbox f x).cam j = s.cam j) ∧ (∀ j, (s.setMbox f x).pipe j = s.pipe j) ∧
    (∀ j, (s.setMbox f x).asy j = s.asy j) ∧ (∀ j, (s.setMbox f x).view j = s.view j) ∧
    (∀ j, (s.setMbox f x).pageSlot j = s.pageSlot j) ∧ (∀ j, (s.setMbox f x).cru j = s.cru j) ∧
    (∀ j, (s.setMbox f x).xferQ j = s.xferQ j) ∧ (∀ j, (s.setMbox f x).part j = s.part j) ∧
    (∀ j, (s.setMbox f x).chan j = s.chan j) ∧ (∀ j, (s.setMbox f x).engine j = s.engine j) ∧
    (∀ j, (s.setMbox f x).nbank j = s.nbank j) ∧ (∀ i j, (s.setMbox f x).ring i j = s.ring i j) :=
  ⟨fun _ => rfl, fun _ => rfl, fun _ => rfl, fun _ => rfl, fun _ => rfl, fun _ => rfl, fun _ => rfl, fun _ => rfl, fun _ => rfl, fun _ => rfl, fun _ => rfl, fun _ => rfl, fun _ => rfl, fun _ => rfl, fun _ => rfl, fun _ => rfl, fun _ => rfl, fun _ => rfl, fun _ => rfl, fun _ _ => rfl⟩
@[simp] theorem State.setBench_units (s : State) (x : BenchX) :
    (∀ j, (s.setBench x).axis j = s.axis j) ∧ (∀ j, (s.setBench x).gen j = s.gen j) ∧
    (∀ j, (s.setBench x).clist j = s.clist j) ∧ (∀ j, (s.setBench x).pin j = s.pin j) ∧
    (∀ j, (s.setBench x).pair j = s.pair j) ∧ (∀ j, (s.setBench x).trigIn j = s.trigIn j) ∧
    (∀ j, (s.setBench x).lane j = s.lane j) ∧ (∀ j, (s.setBench x).bond j = s.bond j) ∧
    (∀ j, (s.setBench x).cam j = s.cam j) ∧ (∀ j, (s.setBench x).pipe j = s.pipe j) ∧
    (∀ j, (s.setBench x).asy j = s.asy j) ∧ (∀ j, (s.setBench x).view j = s.view j) ∧
    (∀ j, (s.setBench x).pageSlot j = s.pageSlot j) ∧ (∀ j, (s.setBench x).cru j = s.cru j) ∧
    (∀ j, (s.setBench x).mbox j = s.mbox j) ∧ (∀ j, (s.setBench x).xferQ j = s.xferQ j) ∧
    (∀ j, (s.setBench x).part j = s.part j) ∧ (∀ j, (s.setBench x).chan j = s.chan j) ∧
    (∀ j, (s.setBench x).engine j = s.engine j) ∧ (∀ j, (s.setBench x).nbank j = s.nbank j) ∧
    (∀ i j, (s.setBench x).ring i j = s.ring i j) :=
  ⟨fun _ => rfl, fun _ => rfl, fun _ => rfl, fun _ => rfl, fun _ => rfl, fun _ => rfl, fun _ => rfl, fun _ => rfl, fun _ => rfl, fun _ => rfl, fun _ => rfl, fun _ => rfl, fun _ => rfl, fun _ => rfl, fun _ => rfl, fun _ => rfl, fun _ => rfl, fun _ => rfl, fun _ => rfl, fun _ => rfl, fun _ _ => rfl⟩
@[simp] theorem State.setClk_units (s : State) (x : ClkX) :
    (∀ j, (s.setClk x).axis j = s.axis j) ∧ (∀ j, (s.setClk x).gen j = s.gen j) ∧
    (∀ j, (s.setClk x).clist j = s.clist j) ∧ (∀ j, (s.setClk x).pin j = s.pin j) ∧
    (∀ j, (s.setClk x).pair j = s.pair j) ∧ (∀ j, (s.setClk x).trigIn j = s.trigIn j) ∧
    (∀ j, (s.setClk x).lane j = s.lane j) ∧ (∀ j, (s.setClk x).bond j = s.bond j) ∧
    (∀ j, (s.setClk x).cam j = s.cam j) ∧ (∀ j, (s.setClk x).pipe j = s.pipe j) ∧
    (∀ j, (s.setClk x).asy j = s.asy j) ∧ (∀ j, (s.setClk x).view j = s.view j) ∧
    (∀ j, (s.setClk x).pageSlot j = s.pageSlot j) ∧ (∀ j, (s.setClk x).cru j = s.cru j) ∧
    (∀ j, (s.setClk x).mbox j = s.mbox j) ∧ (∀ j, (s.setClk x).xferQ j = s.xferQ j) ∧
    (∀ j, (s.setClk x).part j = s.part j) ∧ (∀ j, (s.setClk x).chan j = s.chan j) ∧
    (∀ j, (s.setClk x).engine j = s.engine j) ∧ (∀ j, (s.setClk x).nbank j = s.nbank j) ∧
    (∀ i j, (s.setClk x).ring i j = s.ring i j) :=
  ⟨fun _ => rfl, fun _ => rfl, fun _ => rfl, fun _ => rfl, fun _ => rfl, fun _ => rfl, fun _ => rfl, fun _ => rfl, fun _ => rfl, fun _ => rfl, fun _ => rfl, fun _ => rfl, fun _ => rfl, fun _ => rfl, fun _ => rfl, fun _ => rfl, fun _ => rfl, fun _ => rfl, fun _ => rfl, fun _ => rfl, fun _ _ => rfl⟩
@[simp] theorem State.setPwr_units (s : State) (x : PwrX) :
    (∀ j, (s.setPwr x).axis j = s.axis j) ∧ (∀ j, (s.setPwr x).gen j = s.gen j) ∧
    (∀ j, (s.setPwr x).clist j = s.clist j) ∧ (∀ j, (s.setPwr x).pin j = s.pin j) ∧
    (∀ j, (s.setPwr x).pair j = s.pair j) ∧ (∀ j, (s.setPwr x).trigIn j = s.trigIn j) ∧
    (∀ j, (s.setPwr x).lane j = s.lane j) ∧ (∀ j, (s.setPwr x).bond j = s.bond j) ∧
    (∀ j, (s.setPwr x).cam j = s.cam j) ∧ (∀ j, (s.setPwr x).pipe j = s.pipe j) ∧
    (∀ j, (s.setPwr x).asy j = s.asy j) ∧ (∀ j, (s.setPwr x).view j = s.view j) ∧
    (∀ j, (s.setPwr x).pageSlot j = s.pageSlot j) ∧ (∀ j, (s.setPwr x).cru j = s.cru j) ∧
    (∀ j, (s.setPwr x).mbox j = s.mbox j) ∧ (∀ j, (s.setPwr x).xferQ j = s.xferQ j) ∧
    (∀ j, (s.setPwr x).part j = s.part j) ∧ (∀ j, (s.setPwr x).chan j = s.chan j) ∧
    (∀ j, (s.setPwr x).engine j = s.engine j) ∧ (∀ j, (s.setPwr x).nbank j = s.nbank j) ∧
    (∀ i j, (s.setPwr x).ring i j = s.ring i j) :=
  ⟨fun _ => rfl, fun _ => rfl, fun _ => rfl, fun _ => rfl, fun _ => rfl, fun _ => rfl, fun _ => rfl, fun _ => rfl, fun _ => rfl, fun _ => rfl, fun _ => rfl, fun _ => rfl, fun _ => rfl, fun _ => rfl, fun _ => rfl, fun _ => rfl, fun _ => rfl, fun _ => rfl, fun _ => rfl, fun _ => rfl, fun _ _ => rfl⟩
@[simp] theorem State.setTouch_units (s : State) (x : TouchX) :
    (∀ j, (s.setTouch x).axis j = s.axis j) ∧ (∀ j, (s.setTouch x).gen j = s.gen j) ∧
    (∀ j, (s.setTouch x).clist j = s.clist j) ∧ (∀ j, (s.setTouch x).pin j = s.pin j) ∧
    (∀ j, (s.setTouch x).pair j = s.pair j) ∧ (∀ j, (s.setTouch x).trigIn j = s.trigIn j) ∧
    (∀ j, (s.setTouch x).lane j = s.lane j) ∧ (∀ j, (s.setTouch x).bond j = s.bond j) ∧
    (∀ j, (s.setTouch x).cam j = s.cam j) ∧ (∀ j, (s.setTouch x).pipe j = s.pipe j) ∧
    (∀ j, (s.setTouch x).asy j = s.asy j) ∧ (∀ j, (s.setTouch x).view j = s.view j) ∧
    (∀ j, (s.setTouch x).pageSlot j = s.pageSlot j) ∧ (∀ j, (s.setTouch x).cru j = s.cru j) ∧
    (∀ j, (s.setTouch x).mbox j = s.mbox j) ∧ (∀ j, (s.setTouch x).xferQ j = s.xferQ j) ∧
    (∀ j, (s.setTouch x).part j = s.part j) ∧ (∀ j, (s.setTouch x).chan j = s.chan j) ∧
    (∀ j, (s.setTouch x).engine j = s.engine j) ∧ (∀ j, (s.setTouch x).nbank j = s.nbank j) ∧
    (∀ i j, (s.setTouch x).ring i j = s.ring i j) :=
  ⟨fun _ => rfl, fun _ => rfl, fun _ => rfl, fun _ => rfl, fun _ => rfl, fun _ => rfl, fun _ => rfl, fun _ => rfl, fun _ => rfl, fun _ => rfl, fun _ => rfl, fun _ => rfl, fun _ => rfl, fun _ => rfl, fun _ => rfl, fun _ => rfl, fun _ => rfl, fun _ => rfl, fun _ => rfl, fun _ => rfl, fun _ _ => rfl⟩
@[simp] theorem State.setBoot_units (s : State) (x : BootX) :
    (∀ j, (s.setBoot x).axis j = s.axis j) ∧ (∀ j, (s.setBoot x).gen j = s.gen j) ∧
    (∀ j, (s.setBoot x).clist j = s.clist j) ∧ (∀ j, (s.setBoot x).pin j = s.pin j) ∧
    (∀ j, (s.setBoot x).pair j = s.pair j) ∧ (∀ j, (s.setBoot x).trigIn j = s.trigIn j) ∧
    (∀ j, (s.setBoot x).lane j = s.lane j) ∧ (∀ j, (s.setBoot x).bond j = s.bond j) ∧
    (∀ j, (s.setBoot x).cam j = s.cam j) ∧ (∀ j, (s.setBoot x).pipe j = s.pipe j) ∧
    (∀ j, (s.setBoot x).asy j = s.asy j) ∧ (∀ j, (s.setBoot x).view j = s.view j) ∧
    (∀ j, (s.setBoot x).pageSlot j = s.pageSlot j) ∧ (∀ j, (s.setBoot x).cru j = s.cru j) ∧
    (∀ j, (s.setBoot x).mbox j = s.mbox j) ∧ (∀ j, (s.setBoot x).xferQ j = s.xferQ j) ∧
    (∀ j, (s.setBoot x).part j = s.part j) ∧ (∀ j, (s.setBoot x).chan j = s.chan j) ∧
    (∀ j, (s.setBoot x).engine j = s.engine j) ∧ (∀ j, (s.setBoot x).nbank j = s.nbank j) ∧
    (∀ i j, (s.setBoot x).ring i j = s.ring i j) :=
  ⟨fun _ => rfl, fun _ => rfl, fun _ => rfl, fun _ => rfl, fun _ => rfl, fun _ => rfl, fun _ => rfl, fun _ => rfl, fun _ => rfl, fun _ => rfl, fun _ => rfl, fun _ => rfl, fun _ => rfl, fun _ => rfl, fun _ => rfl, fun _ => rfl, fun _ => rfl, fun _ => rfl, fun _ => rfl, fun _ => rfl, fun _ _ => rfl⟩
@[simp] theorem State.setHost_units (s : State) (x : HostX) :
    (∀ j, (s.setHost x).axis j = s.axis j) ∧ (∀ j, (s.setHost x).gen j = s.gen j) ∧
    (∀ j, (s.setHost x).clist j = s.clist j) ∧ (∀ j, (s.setHost x).pin j = s.pin j) ∧
    (∀ j, (s.setHost x).pair j = s.pair j) ∧ (∀ j, (s.setHost x).trigIn j = s.trigIn j) ∧
    (∀ j, (s.setHost x).lane j = s.lane j) ∧ (∀ j, (s.setHost x).bond j = s.bond j) ∧
    (∀ j, (s.setHost x).cam j = s.cam j) ∧ (∀ j, (s.setHost x).pipe j = s.pipe j) ∧
    (∀ j, (s.setHost x).asy j = s.asy j) ∧ (∀ j, (s.setHost x).view j = s.view j) ∧
    (∀ j, (s.setHost x).pageSlot j = s.pageSlot j) ∧ (∀ j, (s.setHost x).cru j = s.cru j) ∧
    (∀ j, (s.setHost x).mbox j = s.mbox j) ∧ (∀ j, (s.setHost x).xferQ j = s.xferQ j) ∧
    (∀ j, (s.setHost x).part j = s.part j) ∧ (∀ j, (s.setHost x).chan j = s.chan j) ∧
    (∀ j, (s.setHost x).engine j = s.engine j) ∧ (∀ j, (s.setHost x).nbank j = s.nbank j) ∧
    (∀ i j, (s.setHost x).ring i j = s.ring i j) :=
  ⟨fun _ => rfl, fun _ => rfl, fun _ => rfl, fun _ => rfl, fun _ => rfl, fun _ => rfl, fun _ => rfl, fun _ => rfl, fun _ => rfl, fun _ => rfl, fun _ => rfl, fun _ => rfl, fun _ => rfl, fun _ => rfl, fun _ => rfl, fun _ => rfl, fun _ => rfl, fun _ => rfl, fun _ => rfl, fun _ => rfl, fun _ _ => rfl⟩
@[simp] theorem State.setTwin_units (s : State) (x : TwinX) :
    (∀ j, (s.setTwin x).axis j = s.axis j) ∧ (∀ j, (s.setTwin x).gen j = s.gen j) ∧
    (∀ j, (s.setTwin x).clist j = s.clist j) ∧ (∀ j, (s.setTwin x).pin j = s.pin j) ∧
    (∀ j, (s.setTwin x).pair j = s.pair j) ∧ (∀ j, (s.setTwin x).trigIn j = s.trigIn j) ∧
    (∀ j, (s.setTwin x).lane j = s.lane j) ∧ (∀ j, (s.setTwin x).bond j = s.bond j) ∧
    (∀ j, (s.setTwin x).cam j = s.cam j) ∧ (∀ j, (s.setTwin x).pipe j = s.pipe j) ∧
    (∀ j, (s.setTwin x).asy j = s.asy j) ∧ (∀ j, (s.setTwin x).view j = s.view j) ∧
    (∀ j, (s.setTwin x).pageSlot j = s.pageSlot j) ∧ (∀ j, (s.setTwin x).cru j = s.cru j) ∧
    (∀ j, (s.setTwin x).mbox j = s.mbox j) ∧ (∀ j, (s.setTwin x).xferQ j = s.xferQ j) ∧
    (∀ j, (s.setTwin x).part j = s.part j) ∧ (∀ j, (s.setTwin x).chan j = s.chan j) ∧
    (∀ j, (s.setTwin x).engine j = s.engine j) ∧ (∀ j, (s.setTwin x).nbank j = s.nbank j) ∧
    (∀ i j, (s.setTwin x).ring i j = s.ring i j) :=
  ⟨fun _ => rfl, fun _ => rfl, fun _ => rfl, fun _ => rfl, fun _ => rfl, fun _ => rfl, fun _ => rfl, fun _ => rfl, fun _ => rfl, fun _ => rfl, fun _ => rfl, fun _ => rfl, fun _ => rfl, fun _ => rfl, fun _ => rfl, fun _ => rfl, fun _ => rfl, fun _ => rfl, fun _ => rfl, fun _ => rfl, fun _ _ => rfl⟩
@[simp] theorem State.setXferQ_units (s : State) (f : Nat) (l : List Xfer) :
    (∀ j, (s.setXferQ f l).axis j = s.axis j) ∧ (∀ j, (s.setXferQ f l).gen j = s.gen j) ∧
    (∀ j, (s.setXferQ f l).clist j = s.clist j) ∧ (∀ j, (s.setXferQ f l).pin j = s.pin j) ∧
    (∀ j, (s.setXferQ f l).pair j = s.pair j) ∧ (∀ j, (s.setXferQ f l).trigIn j = s.trigIn j) ∧
    (∀ j, (s.setXferQ f l).lane j = s.lane j) ∧ (∀ j, (s.setXferQ f l).bond j = s.bond j) ∧
    (∀ j, (s.setXferQ f l).cam j = s.cam j) ∧ (∀ j, (s.setXferQ f l).pipe j = s.pipe j) ∧
    (∀ j, (s.setXferQ f l).asy j = s.asy j) ∧ (∀ j, (s.setXferQ f l).view j = s.view j) ∧
    (∀ j, (s.setXferQ f l).pageSlot j = s.pageSlot j) ∧ (∀ j, (s.setXferQ f l).cru j = s.cru j) ∧
    (∀ j, (s.setXferQ f l).mbox j = s.mbox j) ∧ (∀ j, (s.setXferQ f l).part j = s.part j) ∧
    (∀ j, (s.setXferQ f l).chan j = s.chan j) ∧ (∀ j, (s.setXferQ f l).engine j = s.engine j) ∧
    (∀ j, (s.setXferQ f l).nbank j = s.nbank j) ∧ (∀ i j, (s.setXferQ f l).ring i j = s.ring i j) :=
  ⟨fun _ => rfl, fun _ => rfl, fun _ => rfl, fun _ => rfl, fun _ => rfl, fun _ => rfl, fun _ => rfl, fun _ => rfl, fun _ => rfl, fun _ => rfl, fun _ => rfl, fun _ => rfl, fun _ => rfl, fun _ => rfl, fun _ => rfl, fun _ => rfl, fun _ => rfl, fun _ => rfl, fun _ => rfl, fun _ _ => rfl⟩
@[simp] theorem State.setPart_units (s : State) (t : Nat) (p : List Byte) :
    (∀ j, (s.setPart t p).axis j = s.axis j) ∧ (∀ j, (s.setPart t p).gen j = s.gen j) ∧
    (∀ j, (s.setPart t p).clist j = s.clist j) ∧ (∀ j, (s.setPart t p).pin j = s.pin j) ∧
    (∀ j, (s.setPart t p).pair j = s.pair j) ∧ (∀ j, (s.setPart t p).trigIn j = s.trigIn j) ∧
    (∀ j, (s.setPart t p).lane j = s.lane j) ∧ (∀ j, (s.setPart t p).bond j = s.bond j) ∧
    (∀ j, (s.setPart t p).cam j = s.cam j) ∧ (∀ j, (s.setPart t p).pipe j = s.pipe j) ∧
    (∀ j, (s.setPart t p).asy j = s.asy j) ∧ (∀ j, (s.setPart t p).view j = s.view j) ∧
    (∀ j, (s.setPart t p).pageSlot j = s.pageSlot j) ∧ (∀ j, (s.setPart t p).cru j = s.cru j) ∧
    (∀ j, (s.setPart t p).mbox j = s.mbox j) ∧ (∀ j, (s.setPart t p).xferQ j = s.xferQ j) ∧
    (∀ j, (s.setPart t p).chan j = s.chan j) ∧ (∀ j, (s.setPart t p).engine j = s.engine j) ∧
    (∀ j, (s.setPart t p).nbank j = s.nbank j) ∧ (∀ i j, (s.setPart t p).ring i j = s.ring i j) :=
  ⟨fun _ => rfl, fun _ => rfl, fun _ => rfl, fun _ => rfl, fun _ => rfl, fun _ => rfl, fun _ => rfl, fun _ => rfl, fun _ => rfl, fun _ => rfl, fun _ => rfl, fun _ => rfl, fun _ => rfl, fun _ => rfl, fun _ => rfl, fun _ => rfl, fun _ => rfl, fun _ => rfl, fun _ => rfl, fun _ _ => rfl⟩
@[simp] theorem State.setChan_units (s : State) (ch : Nat) (x : Chan) :
    (∀ j, (s.setChan ch x).axis j = s.axis j) ∧ (∀ j, (s.setChan ch x).gen j = s.gen j) ∧
    (∀ j, (s.setChan ch x).clist j = s.clist j) ∧ (∀ j, (s.setChan ch x).pin j = s.pin j) ∧
    (∀ j, (s.setChan ch x).pair j = s.pair j) ∧ (∀ j, (s.setChan ch x).trigIn j = s.trigIn j) ∧
    (∀ j, (s.setChan ch x).lane j = s.lane j) ∧ (∀ j, (s.setChan ch x).bond j = s.bond j) ∧
    (∀ j, (s.setChan ch x).cam j = s.cam j) ∧ (∀ j, (s.setChan ch x).pipe j = s.pipe j) ∧
    (∀ j, (s.setChan ch x).asy j = s.asy j) ∧ (∀ j, (s.setChan ch x).view j = s.view j) ∧
    (∀ j, (s.setChan ch x).pageSlot j = s.pageSlot j) ∧ (∀ j, (s.setChan ch x).cru j = s.cru j) ∧
    (∀ j, (s.setChan ch x).mbox j = s.mbox j) ∧ (∀ j, (s.setChan ch x).xferQ j = s.xferQ j) ∧
    (∀ j, (s.setChan ch x).part j = s.part j) ∧ (∀ j, (s.setChan ch x).engine j = s.engine j) ∧
    (∀ j, (s.setChan ch x).nbank j = s.nbank j) ∧ (∀ i j, (s.setChan ch x).ring i j = s.ring i j) :=
  ⟨fun _ => rfl, fun _ => rfl, fun _ => rfl, fun _ => rfl, fun _ => rfl, fun _ => rfl, fun _ => rfl, fun _ => rfl, fun _ => rfl, fun _ => rfl, fun _ => rfl, fun _ => rfl, fun _ => rfl, fun _ => rfl, fun _ => rfl, fun _ => rfl, fun _ => rfl, fun _ => rfl, fun _ => rfl, fun _ _ => rfl⟩
@[simp] theorem State.setEngine_units (s : State) (e : Nat) (x : Engine) :
    (∀ j, (s.setEngine e x).axis j = s.axis j) ∧ (∀ j, (s.setEngine e x).gen j = s.gen j) ∧
    (∀ j, (s.setEngine e x).clist j = s.clist j) ∧ (∀ j, (s.setEngine e x).pin j = s.pin j) ∧
    (∀ j, (s.setEngine e x).pair j = s.pair j) ∧ (∀ j, (s.setEngine e x).trigIn j = s.trigIn j) ∧
    (∀ j, (s.setEngine e x).lane j = s.lane j) ∧ (∀ j, (s.setEngine e x).bond j = s.bond j) ∧
    (∀ j, (s.setEngine e x).cam j = s.cam j) ∧ (∀ j, (s.setEngine e x).pipe j = s.pipe j) ∧
    (∀ j, (s.setEngine e x).asy j = s.asy j) ∧ (∀ j, (s.setEngine e x).view j = s.view j) ∧
    (∀ j, (s.setEngine e x).pageSlot j = s.pageSlot j) ∧ (∀ j, (s.setEngine e x).cru j = s.cru j) ∧
    (∀ j, (s.setEngine e x).mbox j = s.mbox j) ∧ (∀ j, (s.setEngine e x).xferQ j = s.xferQ j) ∧
    (∀ j, (s.setEngine e x).part j = s.part j) ∧ (∀ j, (s.setEngine e x).chan j = s.chan j) ∧
    (∀ j, (s.setEngine e x).nbank j = s.nbank j) ∧ (∀ i j, (s.setEngine e x).ring i j = s.ring i j) :=
  ⟨fun _ => rfl, fun _ => rfl, fun _ => rfl, fun _ => rfl, fun _ => rfl, fun _ => rfl, fun _ => rfl, fun _ => rfl, fun _ => rfl, fun _ => rfl, fun _ => rfl, fun _ => rfl, fun _ => rfl, fun _ => rfl, fun _ => rfl, fun _ => rfl, fun _ => rfl, fun _ => rfl, fun _ => rfl, fun _ _ => rfl⟩
@[simp] theorem State.setMemx_units (s : State) (x : MemX) :
    (∀ j, (s.setMemx x).axis j = s.axis j) ∧ (∀ j, (s.setMemx x).gen j = s.gen j) ∧
    (∀ j, (s.setMemx x).clist j = s.clist j) ∧ (∀ j, (s.setMemx x).pin j = s.pin j) ∧
    (∀ j, (s.setMemx x).pair j = s.pair j) ∧ (∀ j, (s.setMemx x).trigIn j = s.trigIn j) ∧
    (∀ j, (s.setMemx x).lane j = s.lane j) ∧ (∀ j, (s.setMemx x).bond j = s.bond j) ∧
    (∀ j, (s.setMemx x).cam j = s.cam j) ∧ (∀ j, (s.setMemx x).pipe j = s.pipe j) ∧
    (∀ j, (s.setMemx x).asy j = s.asy j) ∧ (∀ j, (s.setMemx x).view j = s.view j) ∧
    (∀ j, (s.setMemx x).pageSlot j = s.pageSlot j) ∧ (∀ j, (s.setMemx x).cru j = s.cru j) ∧
    (∀ j, (s.setMemx x).mbox j = s.mbox j) ∧ (∀ j, (s.setMemx x).xferQ j = s.xferQ j) ∧
    (∀ j, (s.setMemx x).part j = s.part j) ∧ (∀ j, (s.setMemx x).chan j = s.chan j) ∧
    (∀ j, (s.setMemx x).engine j = s.engine j) ∧ (∀ j, (s.setMemx x).nbank j = s.nbank j) ∧
    (∀ i j, (s.setMemx x).ring i j = s.ring i j) :=
  ⟨fun _ => rfl, fun _ => rfl, fun _ => rfl, fun _ => rfl, fun _ => rfl, fun _ => rfl, fun _ => rfl, fun _ => rfl, fun _ => rfl, fun _ => rfl, fun _ => rfl, fun _ => rfl, fun _ => rfl, fun _ => rfl, fun _ => rfl, fun _ => rfl, fun _ => rfl, fun _ => rfl, fun _ => rfl, fun _ => rfl, fun _ _ => rfl⟩
@[simp] theorem State.setNoz_units (s : State) (x : NozX) :
    (∀ j, (s.setNoz x).axis j = s.axis j) ∧ (∀ j, (s.setNoz x).gen j = s.gen j) ∧
    (∀ j, (s.setNoz x).clist j = s.clist j) ∧ (∀ j, (s.setNoz x).pin j = s.pin j) ∧
    (∀ j, (s.setNoz x).pair j = s.pair j) ∧ (∀ j, (s.setNoz x).trigIn j = s.trigIn j) ∧
    (∀ j, (s.setNoz x).lane j = s.lane j) ∧ (∀ j, (s.setNoz x).bond j = s.bond j) ∧
    (∀ j, (s.setNoz x).cam j = s.cam j) ∧ (∀ j, (s.setNoz x).pipe j = s.pipe j) ∧
    (∀ j, (s.setNoz x).asy j = s.asy j) ∧ (∀ j, (s.setNoz x).view j = s.view j) ∧
    (∀ j, (s.setNoz x).pageSlot j = s.pageSlot j) ∧ (∀ j, (s.setNoz x).cru j = s.cru j) ∧
    (∀ j, (s.setNoz x).mbox j = s.mbox j) ∧ (∀ j, (s.setNoz x).xferQ j = s.xferQ j) ∧
    (∀ j, (s.setNoz x).part j = s.part j) ∧ (∀ j, (s.setNoz x).chan j = s.chan j) ∧
    (∀ j, (s.setNoz x).engine j = s.engine j) ∧ (∀ j, (s.setNoz x).nbank j = s.nbank j) ∧
    (∀ i j, (s.setNoz x).ring i j = s.ring i j) :=
  ⟨fun _ => rfl, fun _ => rfl, fun _ => rfl, fun _ => rfl, fun _ => rfl, fun _ => rfl, fun _ => rfl, fun _ => rfl, fun _ => rfl, fun _ => rfl, fun _ => rfl, fun _ => rfl, fun _ => rfl, fun _ => rfl, fun _ => rfl, fun _ => rfl, fun _ => rfl, fun _ => rfl, fun _ => rfl, fun _ => rfl, fun _ _ => rfl⟩
@[simp] theorem State.setNbank_units (s : State) (b : Nat) (x : NozBank) :
    (∀ j, (s.setNbank b x).axis j = s.axis j) ∧ (∀ j, (s.setNbank b x).gen j = s.gen j) ∧
    (∀ j, (s.setNbank b x).clist j = s.clist j) ∧ (∀ j, (s.setNbank b x).pin j = s.pin j) ∧
    (∀ j, (s.setNbank b x).pair j = s.pair j) ∧ (∀ j, (s.setNbank b x).trigIn j = s.trigIn j) ∧
    (∀ j, (s.setNbank b x).lane j = s.lane j) ∧ (∀ j, (s.setNbank b x).bond j = s.bond j) ∧
    (∀ j, (s.setNbank b x).cam j = s.cam j) ∧ (∀ j, (s.setNbank b x).pipe j = s.pipe j) ∧
    (∀ j, (s.setNbank b x).asy j = s.asy j) ∧ (∀ j, (s.setNbank b x).view j = s.view j) ∧
    (∀ j, (s.setNbank b x).pageSlot j = s.pageSlot j) ∧ (∀ j, (s.setNbank b x).cru j = s.cru j) ∧
    (∀ j, (s.setNbank b x).mbox j = s.mbox j) ∧ (∀ j, (s.setNbank b x).xferQ j = s.xferQ j) ∧
    (∀ j, (s.setNbank b x).part j = s.part j) ∧ (∀ j, (s.setNbank b x).chan j = s.chan j) ∧
    (∀ j, (s.setNbank b x).engine j = s.engine j) ∧ (∀ i j, (s.setNbank b x).ring i j = s.ring i j) :=
  ⟨fun _ => rfl, fun _ => rfl, fun _ => rfl, fun _ => rfl, fun _ => rfl, fun _ => rfl, fun _ => rfl, fun _ => rfl, fun _ => rfl, fun _ => rfl, fun _ => rfl, fun _ => rfl, fun _ => rfl, fun _ => rfl, fun _ => rfl, fun _ => rfl, fun _ => rfl, fun _ => rfl, fun _ => rfl, fun _ _ => rfl⟩
@[simp] theorem State.hostWrite_units (s : State) (a : Nat) (bs : List Byte) :
    (∀ j, (s.hostWrite a bs).axis j = s.axis j) ∧ (∀ j, (s.hostWrite a bs).gen j = s.gen j) ∧
    (∀ j, (s.hostWrite a bs).clist j = s.clist j) ∧ (∀ j, (s.hostWrite a bs).pin j = s.pin j) ∧
    (∀ j, (s.hostWrite a bs).pair j = s.pair j) ∧ (∀ j, (s.hostWrite a bs).trigIn j = s.trigIn j) ∧
    (∀ j, (s.hostWrite a bs).lane j = s.lane j) ∧ (∀ j, (s.hostWrite a bs).bond j = s.bond j) ∧
    (∀ j, (s.hostWrite a bs).cam j = s.cam j) ∧ (∀ j, (s.hostWrite a bs).pipe j = s.pipe j) ∧
    (∀ j, (s.hostWrite a bs).asy j = s.asy j) ∧ (∀ j, (s.hostWrite a bs).view j = s.view j) ∧
    (∀ j, (s.hostWrite a bs).pageSlot j = s.pageSlot j) ∧ (∀ j, (s.hostWrite a bs).cru j = s.cru j) ∧
    (∀ j, (s.hostWrite a bs).mbox j = s.mbox j) ∧ (∀ j, (s.hostWrite a bs).xferQ j = s.xferQ j) ∧
    (∀ j, (s.hostWrite a bs).part j = s.part j) ∧ (∀ j, (s.hostWrite a bs).chan j = s.chan j) ∧
    (∀ j, (s.hostWrite a bs).engine j = s.engine j) ∧ (∀ j, (s.hostWrite a bs).nbank j = s.nbank j) ∧
    (∀ i j, (s.hostWrite a bs).ring i j = s.ring i j) :=
  ⟨fun _ => rfl, fun _ => rfl, fun _ => rfl, fun _ => rfl, fun _ => rfl, fun _ => rfl, fun _ => rfl, fun _ => rfl, fun _ => rfl, fun _ => rfl, fun _ => rfl, fun _ => rfl, fun _ => rfl, fun _ => rfl, fun _ => rfl, fun _ => rfl, fun _ => rfl, fun _ => rfl, fun _ => rfl, fun _ => rfl, fun _ _ => rfl⟩
@[simp] theorem State.pass_units (s : State) (dt : Nat) :
    (∀ j, (s.pass dt).axis j = s.axis j) ∧ (∀ j, (s.pass dt).gen j = s.gen j) ∧
    (∀ j, (s.pass dt).clist j = s.clist j) ∧ (∀ j, (s.pass dt).pin j = s.pin j) ∧
    (∀ j, (s.pass dt).pair j = s.pair j) ∧ (∀ j, (s.pass dt).trigIn j = s.trigIn j) ∧
    (∀ j, (s.pass dt).bond j = s.bond j) ∧ (∀ j, (s.pass dt).pipe j = s.pipe j) ∧ (∀ j, (s.pass dt).asy j = s.asy j) ∧
    (∀ j, (s.pass dt).view j = s.view j) ∧ (∀ j, (s.pass dt).pageSlot j = s.pageSlot j) ∧
    (∀ j, (s.pass dt).cru j = s.cru j) ∧ (∀ j, (s.pass dt).mbox j = s.mbox j) ∧
    (∀ j, (s.pass dt).xferQ j = s.xferQ j) ∧ (∀ j, (s.pass dt).part j = s.part j) ∧
    (∀ j, (s.pass dt).chan j = s.chan j) ∧ (∀ j, (s.pass dt).engine j = s.engine j) ∧
    (∀ j, (s.pass dt).nbank j = s.nbank j) ∧ (∀ i j, (s.pass dt).ring i j = s.ring i j) :=
  ⟨fun _ => rfl, fun _ => rfl, fun _ => rfl, fun _ => rfl, fun _ => rfl, fun _ => rfl, fun _ => rfl, fun _ => rfl, fun _ => rfl, fun _ => rfl, fun _ => rfl, fun _ => rfl, fun _ => rfl, fun _ => rfl, fun _ => rfl, fun _ => rfl, fun _ => rfl, fun _ => rfl, fun _ _ => rfl⟩
@[simp] theorem State.emit_units (s : State) (o : Out) :
    (∀ j, (s.emit o).axis j = s.axis j) ∧ (∀ j, (s.emit o).gen j = s.gen j) ∧ (∀ j, (s.emit o).clist j = s.clist j) ∧
    (∀ j, (s.emit o).pin j = s.pin j) ∧ (∀ j, (s.emit o).pair j = s.pair j) ∧
    (∀ j, (s.emit o).trigIn j = s.trigIn j) ∧ (∀ j, (s.emit o).lane j = s.lane j) ∧
    (∀ j, (s.emit o).bond j = s.bond j) ∧ (∀ j, (s.emit o).cam j = s.cam j) ∧ (∀ j, (s.emit o).pipe j = s.pipe j) ∧
    (∀ j, (s.emit o).asy j = s.asy j) ∧ (∀ j, (s.emit o).view j = s.view j) ∧
    (∀ j, (s.emit o).pageSlot j = s.pageSlot j) ∧ (∀ j, (s.emit o).cru j = s.cru j) ∧
    (∀ j, (s.emit o).mbox j = s.mbox j) ∧ (∀ j, (s.emit o).xferQ j = s.xferQ j) ∧
    (∀ j, (s.emit o).part j = s.part j) ∧ (∀ j, (s.emit o).chan j = s.chan j) ∧
    (∀ j, (s.emit o).engine j = s.engine j) ∧ (∀ j, (s.emit o).nbank j = s.nbank j) ∧
    (∀ i j, (s.emit o).ring i j = s.ring i j) :=
  ⟨fun _ => rfl, fun _ => rfl, fun _ => rfl, fun _ => rfl, fun _ => rfl, fun _ => rfl, fun _ => rfl, fun _ => rfl, fun _ => rfl, fun _ => rfl, fun _ => rfl, fun _ => rfl, fun _ => rfl, fun _ => rfl, fun _ => rfl, fun _ => rfl, fun _ => rfl, fun _ => rfl, fun _ => rfl, fun _ => rfl, fun _ _ => rfl⟩
@[simp] theorem State.report_units (s : State) (r : Report) :
    (∀ j, (s.report r).axis j = s.axis j) ∧ (∀ j, (s.report r).gen j = s.gen j) ∧
    (∀ j, (s.report r).clist j = s.clist j) ∧ (∀ j, (s.report r).pin j = s.pin j) ∧
    (∀ j, (s.report r).pair j = s.pair j) ∧ (∀ j, (s.report r).trigIn j = s.trigIn j) ∧
    (∀ j, (s.report r).lane j = s.lane j) ∧ (∀ j, (s.report r).bond j = s.bond j) ∧
    (∀ j, (s.report r).cam j = s.cam j) ∧ (∀ j, (s.report r).pipe j = s.pipe j) ∧
    (∀ j, (s.report r).asy j = s.asy j) ∧ (∀ j, (s.report r).view j = s.view j) ∧
    (∀ j, (s.report r).pageSlot j = s.pageSlot j) ∧ (∀ j, (s.report r).cru j = s.cru j) ∧
    (∀ j, (s.report r).mbox j = s.mbox j) ∧ (∀ j, (s.report r).xferQ j = s.xferQ j) ∧
    (∀ j, (s.report r).part j = s.part j) ∧ (∀ j, (s.report r).chan j = s.chan j) ∧
    (∀ j, (s.report r).engine j = s.engine j) ∧ (∀ j, (s.report r).nbank j = s.nbank j) ∧
    (∀ i j, (s.report r).ring i j = s.ring i j) :=
  ⟨fun _ => rfl, fun _ => rfl, fun _ => rfl, fun _ => rfl, fun _ => rfl, fun _ => rfl, fun _ => rfl, fun _ => rfl, fun _ => rfl, fun _ => rfl, fun _ => rfl, fun _ => rfl, fun _ => rfl, fun _ => rfl, fun _ => rfl, fun _ => rfl, fun _ => rfl, fun _ => rfl, fun _ => rfl, fun _ => rfl, fun _ _ => rfl⟩
@[simp] theorem State.fault_units (s : State) (c i src level : Nat) :
    (∀ j, (s.fault c i src level).axis j = s.axis j) ∧ (∀ j, (s.fault c i src level).gen j = s.gen j) ∧
    (∀ j, (s.fault c i src level).clist j = s.clist j) ∧ (∀ j, (s.fault c i src level).pin j = s.pin j) ∧
    (∀ j, (s.fault c i src level).pair j = s.pair j) ∧ (∀ j, (s.fault c i src level).trigIn j = s.trigIn j) ∧
    (∀ j, (s.fault c i src level).lane j = s.lane j) ∧ (∀ j, (s.fault c i src level).bond j = s.bond j) ∧
    (∀ j, (s.fault c i src level).cam j = s.cam j) ∧ (∀ j, (s.fault c i src level).pipe j = s.pipe j) ∧
    (∀ j, (s.fault c i src level).asy j = s.asy j) ∧ (∀ j, (s.fault c i src level).view j = s.view j) ∧
    (∀ j, (s.fault c i src level).pageSlot j = s.pageSlot j) ∧ (∀ j, (s.fault c i src level).cru j = s.cru j) ∧
    (∀ j, (s.fault c i src level).mbox j = s.mbox j) ∧ (∀ j, (s.fault c i src level).xferQ j = s.xferQ j) ∧
    (∀ j, (s.fault c i src level).part j = s.part j) ∧ (∀ j, (s.fault c i src level).chan j = s.chan j) ∧
    (∀ j, (s.fault c i src level).engine j = s.engine j) ∧ (∀ j, (s.fault c i src level).nbank j = s.nbank j) ∧
    (∀ i j, (s.fault c i src level).ring i j = s.ring i j) :=
  ⟨fun _ => rfl, fun _ => rfl, fun _ => rfl, fun _ => rfl, fun _ => rfl, fun _ => rfl, fun _ => rfl, fun _ => rfl, fun _ => rfl, fun _ => rfl, fun _ => rfl, fun _ => rfl, fun _ => rfl, fun _ => rfl, fun _ => rfl, fun _ => rfl, fun _ => rfl, fun _ => rfl, fun _ => rfl, fun _ => rfl, fun _ _ => rfl⟩

end Sys2Proof.Machine
end

