-- ==== Sys2Proof/Laws/Bits.lean ====
section
/-!
SUPPORT. Fields of words, and what the operations that write a register leave to a later read: the word, a field of it,
one bit of it.
-/
namespace Sys2Proof.Machine
open Sys2Proof

theorem bitOf_putFld (w : Word) (lo n v i : Nat) :
    bitOf (putFld w lo n v) i =
      if lo ≤ i ∧ i < lo + n ∧ i < 32 then v.testBit (i - lo) else bitOf w i := by
  unfold bitOf putFld
  by_cases h32 : i < 32
  · simp only [BitVec.getLsbD_or, BitVec.getLsbD_and, BitVec.getLsbD_not, BitVec.getLsbD_ofNat, Nat.testBit_mul_two_pow,
      Nat.testBit_two_pow_sub_one, Nat.testBit_mod_two_pow, h32, decide_true, Bool.true_and]
    by_cases h1 : lo ≤ i
    · by_cases h2 : i < lo + n
      · have h3 : i - lo < n := by omega
        simp [h1, h2, h3]
      · have h3 : ¬ i - lo < n := by omega
        simp [h1, h2, h3]
    · simp [h1]
  · rw [BitVec.getLsbD_of_ge _ _ (by omega), BitVec.getLsbD_of_ge _ _ (by omega)]
    simp [h32]

theorem testBit_fldOf (w : Word) (lo n i : Nat) : (fldOf w lo n).testBit i = (decide (i < n) && bitOf w (lo + i)) := by
  unfold fldOf bitOf
  rw [Nat.testBit_mod_two_pow, Nat.testBit_div_two_pow]
  simp [BitVec.testBit_toNat, Nat.add_comm]

/-- The field written reads as the value's low bits. -/
theorem fldOf_putFld (w : Word) (lo n v : Nat) (h : lo + n ≤ 32) : fldOf (putFld w lo n v) lo n = v % 2 ^ n := by
  apply Nat.eq_of_testBit_eq
  intro i
  rw [testBit_fldOf, bitOf_putFld, Nat.testBit_mod_two_pow]
  by_cases hi : i < n
  · have : lo ≤ lo + i ∧ lo + i < lo + n ∧ lo + i < 32 := by omega
    simp [hi, this]
  · simp [hi]

/-- Bits outside the field written read as before. -/
theorem fldOf_putFld_ne (w : Word) (lo n v lo' n' : Nat) (h : lo' + n' ≤ lo ∨ lo + n ≤ lo') :
    fldOf (putFld w lo n v) lo' n' = fldOf w lo' n' := by
  apply Nat.eq_of_testBit_eq
  intro i
  rw [testBit_fldOf, testBit_fldOf, bitOf_putFld]
  by_cases hi : i < n'
  · have : ¬ (lo ≤ lo' + i ∧ lo' + i < lo + n ∧ lo' + i < 32) := by omega
    simp [this]
  · simp [hi]

theorem fldOf_lt (w : Word) (lo n : Nat) : fldOf w lo n < 2 ^ n := Nat.mod_lt _ (Nat.two_pow_pos n)

/-- The bit written reads as written. -/
theorem bitOf_putFld_one (w : Word) (i : Nat) (b : Bool) (h : i < 32) : bitOf (putFld w i 1 (b2n b)) i = b := by
  rw [bitOf_putFld, if_pos ⟨Nat.le_refl i, Nat.lt_succ_self i, h⟩, Nat.sub_self]
  cases b <;> rfl

/-- A bit outside the field written reads as before. -/
theorem bitOf_putFld_ne (w : Word) (lo n v i : Nat) (h : i < lo ∨ lo + n ≤ i) : bitOf (putFld w lo n v) i = bitOf w i := by
  rw [bitOf_putFld, if_neg (by omega)]

/-! ## Reading after writing a register -/

/-- A register reads as last written; every other register reads as before. -/
@[simp] theorem State.rd_wr (s : State) (k j : Nat) (v : Word) : (s.wr k v).rd j = if j = k then v else s.rd j :=
  sget_sset _ _ _ _ _
theorem State.rd_wr_self (s : State) (k : Nat) (v : Word) : (s.wr k v).rd k = v := by simp
theorem State.rd_wr_ne (s : State) (k j : Nat) (v : Word) (h : j ≠ k) : (s.wr k v).rd j = s.rd j := by simp [h]
@[simp] theorem State.rd_setFld (s : State) (k lo n v j : Nat) :
    (s.setFld k lo n v).rd j = if j = k then putFld (s.rd k) lo n v else s.rd j := State.rd_wr _ _ _ _
@[simp] theorem State.rd_setBit (s : State) (k i j : Nat) (b : Bool) :
    (s.setBit k i b).rd j = if j = k then putFld (s.rd k) i 1 (b2n b) else s.rd j := State.rd_wr _ _ _ _
@[simp] theorem State.rd_addSat (s : State) (k lo n d j : Nat) :
    (s.addSat k lo n d).rd j = if j = k then putFld (s.rd k) lo n (satAdd n (s.fld k lo n) d) else s.rd j :=
  State.rd_wr _ _ _ _
@[simp] theorem State.rd_addWrap (s : State) (k lo n d j : Nat) :
    (s.addWrap k lo n d).rd j = if j = k then putFld (s.rd k) lo n (s.fld k lo n + d) else s.rd j := State.rd_wr _ _ _ _
theorem State.rd_wr64 (s : State) (k v j : Nat) :
    (s.wr64 k v).rd j = if j = k + 4 then w32 (v / 2 ^ 32) else if j = k then w32 v else s.rd j := by
  simp [State.wr64]

/-- Every operation that writes a register keeps the store's canonical form. -/
theorem State.wr_wf (s : State) (k : Nat) (v : Word) (h : swf (resetOf s.bootGen) s.regs = true) :
    swf (resetOf (s.wr k v).bootGen) (s.wr k v).regs = true := swf_sset _ _ _ _ h

end Sys2Proof.Machine
end

