-- ==== Sys2Proof/Laws/Flags.lean ====
section
/-!
SUPPORT. What the operations on flags, events, reports and causes leave alone, and the frames of the spec's claims: how they
compose.
-/
namespace Sys2Proof.Machine
open Sys2Proof

/-- What sending a vector does: nothing, a pending bit, or the message. -/
theorem State.sendVec_cases (s : State) (f v : Nat) :
    s.sendVec f v = s ∨ s.sendVec f v = s.setBit (Reg.PBA f (v / 32)) (v % 32) true ∨
      s.sendVec f v = s.emit (.msix f v) := by
  unfold State.sendVec
  by_cases h1 : s.bit (Reg.HOSTEP_FNSTAT f) 4 = true
  · rw [if_pos h1]
    by_cases h2 : (s.bit (Reg.HOSTEP_FNSTAT f) 5 || s.bit (Reg.MSIX f v 3) 0) = true
    · rw [if_pos h2]; exact .inr (.inl rfl)
    · rw [if_neg h2]; exact .inr (.inr rfl)
  · rw [if_neg h1]; exact .inl rfl

/-! ## sendVec -/

@[simp] theorem State.sendVec_pending (s : State) (f v : Nat) : (s.sendVec f v).pending = s.pending := by
  rcases s.sendVec_cases f v with h | h | h <;> simp only [h, State.setBit_pending, State.emit_pending]
@[simp] theorem State.sendVec_devTime (s : State) (f v : Nat) : (s.sendVec f v).devTime = s.devTime := by
  rcases s.sendVec_cases f v with h | h | h <;> simp only [h, State.setBit_devTime, State.emit_devTime]
@[simp] theorem State.sendVec_bootGen (s : State) (f v : Nat) : (s.sendVec f v).bootGen = s.bootGen := by
  rcases s.sendVec_cases f v with h | h | h <;> simp only [h, State.setBit_bootGen, State.emit_bootGen]
@[simp] theorem State.sendVec_freeIdx (s : State) (f v : Nat) : (s.sendVec f v).freeIdx = s.freeIdx := by
  rcases s.sendVec_cases f v with h | h | h <;> simp only [h, State.setBit_freeIdx, State.emit_freeIdx]
@[simp] theorem State.sendVec_hiLatch (s : State) (f v : Nat) : (s.sendVec f v).hiLatch = s.hiLatch := by
  rcases s.sendVec_cases f v with h | h | h <;> simp only [h, State.setBit_hiLatch, State.emit_hiLatch]
@[simp] theorem State.sendVec_tick (s : State) (f v : Nat) : (s.sendVec f v).tick = s.tick := by
  rcases s.sendVec_cases f v with h | h | h <;> simp only [h, State.setBit_tick, State.emit_tick]
@[simp] theorem State.sendVec_idleT (s : State) (f v : Nat) : (s.sendVec f v).idleT = s.idleT := by
  rcases s.sendVec_cases f v with h | h | h <;> simp only [h, State.setBit_idleT, State.emit_idleT]
@[simp] theorem State.sendVec_slew (s : State) (f v : Nat) : (s.sendVec f v).slew = s.slew := by
  rcases s.sendVec_cases f v with h | h | h <;> simp only [h, State.setBit_slew, State.emit_slew]
@[simp] theorem State.sendVec_reports (s : State) (f v : Nat) : (s.sendVec f v).reports = s.reports := by
  rcases s.sendVec_cases f v with h | h | h <;> simp only [h, State.setBit_reports, State.emit_reports]
@[simp] theorem State.sendVec_causes (s : State) (f v : Nat) : (s.sendVec f v).causes = s.causes := by
  rcases s.sendVec_cases f v with h | h | h <;> simp only [h, State.setBit_causes, State.emit_causes]
@[simp] theorem State.sendVec_expls (s : State) (f v : Nat) : (s.sendVec f v).expls = s.expls := by
  rcases s.sendVec_cases f v with h | h | h <;> simp only [h, State.setBit_expls, State.emit_expls]
@[simp] theorem State.sendVec_events (s : State) (f v : Nat) : (s.sendVec f v).events = s.events := by
  rcases s.sendVec_cases f v with h | h | h <;> simp only [h, State.setBit_events, State.emit_events]
@[simp] theorem State.sendVec_axes (s : State) (f v : Nat) : (s.sendVec f v).axes = s.axes := by
  rcases s.sendVec_cases f v with h | h | h <;> simp only [h, State.setBit_axes, State.emit_axes]
@[simp] theorem State.sendVec_gens (s : State) (f v : Nat) : (s.sendVec f v).gens = s.gens := by
  rcases s.sendVec_cases f v with h | h | h <;> simp only [h, State.setBit_gens, State.emit_gens]
@[simp] theorem State.sendVec_lists (s : State) (f v : Nat) : (s.sendVec f v).lists = s.lists := by
  rcases s.sendVec_cases f v with h | h | h <;> simp only [h, State.setBit_lists, State.emit_lists]
@[simp] theorem State.sendVec_pins (s : State) (f v : Nat) : (s.sendVec f v).pins = s.pins := by
  rcases s.sendVec_cases f v with h | h | h <;> simp only [h, State.setBit_pins, State.emit_pins]
@[simp] theorem State.sendVec_pairs (s : State) (f v : Nat) : (s.sendVec f v).pairs = s.pairs := by
  rcases s.sendVec_cases f v with h | h | h <;> simp only [h, State.setBit_pairs, State.emit_pairs]
@[simp] theorem State.sendVec_trigIns (s : State) (f v : Nat) : (s.sendVec f v).trigIns = s.trigIns := by
  rcases s.sendVec_cases f v with h | h | h <;> simp only [h, State.setBit_trigIns, State.emit_trigIns]
@[simp] theorem State.sendVec_sched (s : State) (f v : Nat) : (s.sendVec f v).sched = s.sched := by
  rcases s.sendVec_cases f v with h | h | h <;> simp only [h, State.setBit_sched, State.emit_sched]
@[simp] theorem State.sendVec_lanes (s : State) (f v : Nat) : (s.sendVec f v).lanes = s.lanes := by
  rcases s.sendVec_cases f v with h | h | h <;> simp only [h, State.setBit_lanes, State.emit_lanes]
@[simp] theorem State.sendVec_bonds (s : State) (f v : Nat) : (s.sendVec f v).bonds = s.bonds := by
  rcases s.sendVec_cases f v with h | h | h <;> simp only [h, State.setBit_bonds, State.emit_bonds]
@[simp] theorem State.sendVec_cams (s : State) (f v : Nat) : (s.sendVec f v).cams = s.cams := by
  rcases s.sendVec_cases f v with h | h | h <;> simp only [h, State.setBit_cams, State.emit_cams]
@[simp] theorem State.sendVec_pipes (s : State) (f v : Nat) : (s.sendVec f v).pipes = s.pipes := by
  rcases s.sendVec_cases f v with h | h | h <;> simp only [h, State.setBit_pipes, State.emit_pipes]
@[simp] theorem State.sendVec_asys (s : State) (f v : Nat) : (s.sendVec f v).asys = s.asys := by
  rcases s.sendVec_cases f v with h | h | h <;> simp only [h, State.setBit_asys, State.emit_asys]
@[simp] theorem State.sendVec_views (s : State) (f v : Nat) : (s.sendVec f v).views = s.views := by
  rcases s.sendVec_cases f v with h | h | h <;> simp only [h, State.setBit_views, State.emit_views]
@[simp] theorem State.sendVec_pages (s : State) (f v : Nat) : (s.sendVec f v).pages = s.pages := by
  rcases s.sendVec_cases f v with h | h | h <;> simp only [h, State.setBit_pages, State.emit_pages]
@[simp] theorem State.sendVec_crus (s : State) (f v : Nat) : (s.sendVec f v).crus = s.crus := by
  rcases s.sendVec_cases f v with h | h | h <;> simp only [h, State.setBit_crus, State.emit_crus]
@[simp] theorem State.sendVec_rings (s : State) (f v : Nat) : (s.sendVec f v).rings = s.rings := by
  rcases s.sendVec_cases f v with h | h | h <;> simp only [h, State.setBit_rings, State.emit_rings]
@[simp] theorem State.sendVec_xfers (s : State) (f v : Nat) : (s.sendVec f v).xfers = s.xfers := by
  rcases s.sendVec_cases f v with h | h | h <;> simp only [h, State.setBit_xfers, State.emit_xfers]
@[simp] theorem State.sendVec_host (s : State) (f v : Nat) : (s.sendVec f v).host = s.host := by
  rcases s.sendVec_cases f v with h | h | h <;> simp only [h, State.setBit_host, State.emit_host]
@[simp] theorem State.sendVec_noz (s : State) (f v : Nat) : (s.sendVec f v).noz = s.noz := by
  rcases s.sendVec_cases f v with h | h | h <;> simp only [h, State.setBit_noz, State.emit_noz]
@[simp] theorem State.sendVec_nbanks (s : State) (f v : Nat) : (s.sendVec f v).nbanks = s.nbanks := by
  rcases s.sendVec_cases f v with h | h | h <;> simp only [h, State.setBit_nbanks, State.emit_nbanks]
@[simp] theorem State.sendVec_twin (s : State) (f v : Nat) : (s.sendVec f v).twin = s.twin := by
  rcases s.sendVec_cases f v with h | h | h <;> simp only [h, State.setBit_twin, State.emit_twin]
@[simp] theorem State.sendVec_memx (s : State) (f v : Nat) : (s.sendVec f v).memx = s.memx := by
  rcases s.sendVec_cases f v with h | h | h <;> simp only [h, State.setBit_memx, State.emit_memx]
@[simp] theorem State.sendVec_chans (s : State) (f v : Nat) : (s.sendVec f v).chans = s.chans := by
  rcases s.sendVec_cases f v with h | h | h <;> simp only [h, State.setBit_chans, State.emit_chans]
@[simp] theorem State.sendVec_engines (s : State) (f v : Nat) : (s.sendVec f v).engines = s.engines := by
  rcases s.sendVec_cases f v with h | h | h <;> simp only [h, State.setBit_engines, State.emit_engines]
@[simp] theorem State.sendVec_mboxes (s : State) (f v : Nat) : (s.sendVec f v).mboxes = s.mboxes := by
  rcases s.sendVec_cases f v with h | h | h <;> simp only [h, State.setBit_mboxes, State.emit_mboxes]
@[simp] theorem State.sendVec_bench (s : State) (f v : Nat) : (s.sendVec f v).bench = s.bench := by
  rcases s.sendVec_cases f v with h | h | h <;> simp only [h, State.setBit_bench, State.emit_bench]
@[simp] theorem State.sendVec_clk (s : State) (f v : Nat) : (s.sendVec f v).clk = s.clk := by
  rcases s.sendVec_cases f v with h | h | h <;> simp only [h, State.setBit_clk, State.emit_clk]
@[simp] theorem State.sendVec_pwr (s : State) (f v : Nat) : (s.sendVec f v).pwr = s.pwr := by
  rcases s.sendVec_cases f v with h | h | h <;> simp only [h, State.setBit_pwr, State.emit_pwr]
@[simp] theorem State.sendVec_touch (s : State) (f v : Nat) : (s.sendVec f v).touch = s.touch := by
  rcases s.sendVec_cases f v with h | h | h <;> simp only [h, State.setBit_touch, State.emit_touch]
@[simp] theorem State.sendVec_boot (s : State) (f v : Nat) : (s.sendVec f v).boot = s.boot := by
  rcases s.sendVec_cases f v with h | h | h <;> simp only [h, State.setBit_boot, State.emit_boot]
@[simp] theorem State.sendVec_devMem (s : State) (f v : Nat) : (s.sendVec f v).devMem = s.devMem := by
  rcases s.sendVec_cases f v with h | h | h <;> simp only [h, State.setBit_devMem, State.emit_devMem]
@[simp] theorem State.sendVec_hostMem (s : State) (f v : Nat) : (s.sendVec f v).hostMem = s.hostMem := by
  rcases s.sendVec_cases f v with h | h | h <;> simp only [h, State.setBit_hostMem, State.emit_hostMem]
@[simp] theorem State.sendVec_parts (s : State) (f v : Nat) : (s.sendVec f v).parts = s.parts := by
  rcases s.sendVec_cases f v with h | h | h <;> simp only [h, State.setBit_parts, State.emit_parts]
@[simp] theorem State.sendVec_units (s : State) (f v : Nat) :
    (∀ j, (s.sendVec f v).axis j = s.axis j) ∧ (∀ j, (s.sendVec f v).gen j = s.gen j) ∧
    (∀ j, (s.sendVec f v).clist j = s.clist j) ∧ (∀ j, (s.sendVec f v).pin j = s.pin j) ∧
    (∀ j, (s.sendVec f v).pair j = s.pair j) ∧ (∀ j, (s.sendVec f v).trigIn j = s.trigIn j) ∧
    (∀ j, (s.sendVec f v).lane j = s.lane j) ∧ (∀ j, (s.sendVec f v).bond j = s.bond j) ∧
    (∀ j, (s.sendVec f v).cam j = s.cam j) ∧ (∀ j, (s.sendVec f v).pipe j = s.pipe j) ∧
    (∀ j, (s.sendVec f v).asy j = s.asy j) ∧ (∀ j, (s.sendVec f v).view j = s.view j) ∧
    (∀ j, (s.sendVec f v).pageSlot j = s.pageSlot j) ∧ (∀ j, (s.sendVec f v).cru j = s.cru j) ∧
    (∀ j, (s.sendVec f v).mbox j = s.mbox j) ∧ (∀ j, (s.sendVec f v).xferQ j = s.xferQ j) ∧
    (∀ j, (s.sendVec f v).part j = s.part j) ∧ (∀ j, (s.sendVec f v).chan j = s.chan j) ∧
    (∀ j, (s.sendVec f v).engine j = s.engine j) ∧ (∀ j, (s.sendVec f v).nbank j = s.nbank j) ∧
    (∀ i j, (s.sendVec f v).ring i j = s.ring i j) := by
  simp only [State.axis, State.gen, State.clist, State.pin, State.pair, State.trigIn, State.lane, State.bond, State.cam, State.pipe, State.asy, State.view, State.pageSlot, State.cru, State.mbox, State.xferQ, State.part, State.chan, State.engine, State.nbank, State.ring,
    State.sendVec_axes, State.sendVec_gens, State.sendVec_lists, State.sendVec_pins, State.sendVec_pairs, State.sendVec_trigIns, State.sendVec_lanes, State.sendVec_bonds, State.sendVec_cams, State.sendVec_pipes, State.sendVec_asys, State.sendVec_views, State.sendVec_pages, State.sendVec_crus, State.sendVec_mboxes, State.sendVec_xfers, State.sendVec_parts, State.sendVec_chans, State.sendVec_engines, State.sendVec_nbanks, State.sendVec_rings, implies_true, and_self]


/-! ## irqUpdate -/

@[simp] theorem State.irqUpdate_pending (s : State) (n : Nat) (w : Bool) : (s.irqUpdate n w).pending = s.pending := by
  unfold State.irqUpdate; dsimp only; split <;> simp only [State.sendVec_pending, State.setBit_pending]
@[simp] theorem State.irqUpdate_devTime (s : State) (n : Nat) (w : Bool) : (s.irqUpdate n w).devTime = s.devTime := by
  unfold State.irqUpdate; dsimp only; split <;> simp only [State.sendVec_devTime, State.setBit_devTime]
@[simp] theorem State.irqUpdate_bootGen (s : State) (n : Nat) (w : Bool) : (s.irqUpdate n w).bootGen = s.bootGen := by
  unfold State.irqUpdate; dsimp only; split <;> simp only [State.sendVec_bootGen, State.setBit_bootGen]
@[simp] theorem State.irqUpdate_freeIdx (s : State) (n : Nat) (w : Bool) : (s.irqUpdate n w).freeIdx = s.freeIdx := by
  unfold State.irqUpdate; dsimp only; split <;> simp only [State.sendVec_freeIdx, State.setBit_freeIdx]
@[simp] theorem State.irqUpdate_hiLatch (s : State) (n : Nat) (w : Bool) : (s.irqUpdate n w).hiLatch = s.hiLatch := by
  unfold State.irqUpdate; dsimp only; split <;> simp only [State.sendVec_hiLatch, State.setBit_hiLatch]
@[simp] theorem State.irqUpdate_tick (s : State) (n : Nat) (w : Bool) : (s.irqUpdate n w).tick = s.tick := by
  unfold State.irqUpdate; dsimp only; split <;> simp only [State.sendVec_tick, State.setBit_tick]
@[simp] theorem State.irqUpdate_idleT (s : State) (n : Nat) (w : Bool) : (s.irqUpdate n w).idleT = s.idleT := by
  unfold State.irqUpdate; dsimp only; split <;> simp only [State.sendVec_idleT, State.setBit_idleT]
@[simp] theorem State.irqUpdate_slew (s : State) (n : Nat) (w : Bool) : (s.irqUpdate n w).slew = s.slew := by
  unfold State.irqUpdate; dsimp only; split <;> simp only [State.sendVec_slew, State.setBit_slew]
@[simp] theorem State.irqUpdate_reports (s : State) (n : Nat) (w : Bool) : (s.irqUpdate n w).reports = s.reports := by
  unfold State.irqUpdate; dsimp only; split <;> simp only [State.sendVec_reports, State.setBit_reports]
@[simp] theorem State.irqUpdate_causes (s : State) (n : Nat) (w : Bool) : (s.irqUpdate n w).causes = s.causes := by
  unfold State.irqUpdate; dsimp only; split <;> simp only [State.sendVec_causes, State.setBit_causes]
@[simp] theorem State.irqUpdate_expls (s : State) (n : Nat) (w : Bool) : (s.irqUpdate n w).expls = s.expls := by
  unfold State.irqUpdate; dsimp only; split <;> simp only [State.sendVec_expls, State.setBit_expls]
@[simp] theorem State.irqUpdate_events (s : State) (n : Nat) (w : Bool) : (s.irqUpdate n w).events = s.events := by
  unfold State.irqUpdate; dsimp only; split <;> simp only [State.sendVec_events, State.setBit_events]
@[simp] theorem State.irqUpdate_axes (s : State) (n : Nat) (w : Bool) : (s.irqUpdate n w).axes = s.axes := by
  unfold State.irqUpdate; dsimp only; split <;> simp only [State.sendVec_axes, State.setBit_axes]
@[simp] theorem State.irqUpdate_gens (s : State) (n : Nat) (w : Bool) : (s.irqUpdate n w).gens = s.gens := by
  unfold State.irqUpdate; dsimp only; split <;> simp only [State.sendVec_gens, State.setBit_gens]
@[simp] theorem State.irqUpdate_lists (s : State) (n : Nat) (w : Bool) : (s.irqUpdate n w).lists = s.lists := by
  unfold State.irqUpdate; dsimp only; split <;> simp only [State.sendVec_lists, State.setBit_lists]
@[simp] theorem State.irqUpdate_pins (s : State) (n : Nat) (w : Bool) : (s.irqUpdate n w).pins = s.pins := by
  unfold State.irqUpdate; dsimp only; split <;> simp only [State.sendVec_pins, State.setBit_pins]
@[simp] theorem State.irqUpdate_pairs (s : State) (n : Nat) (w : Bool) : (s.irqUpdate n w).pairs = s.pairs := by
  unfold State.irqUpdate; dsimp only; split <;> simp only [State.sendVec_pairs, State.setBit_pairs]
@[simp] theorem State.irqUpdate_trigIns (s : State) (n : Nat) (w : Bool) : (s.irqUpdate n w).trigIns = s.trigIns := by
  unfold State.irqUpdate; dsimp only; split <;> simp only [State.sendVec_trigIns, State.setBit_trigIns]
@[simp] theorem State.irqUpdate_sched (s : State) (n : Nat) (w : Bool) : (s.irqUpdate n w).sched = s.sched := by
  unfold State.irqUpdate; dsimp only; split <;> simp only [State.sendVec_sched, State.setBit_sched]
@[simp] theorem State.irqUpdate_lanes (s : State) (n : Nat) (w : Bool) : (s.irqUpdate n w).lanes = s.lanes := by
  unfold State.irqUpdate; dsimp only; split <;> simp only [State.sendVec_lanes, State.setBit_lanes]
@[simp] theorem State.irqUpdate_bonds (s : State) (n : Nat) (w : Bool) : (s.irqUpdate n w).bonds = s.bonds := by
  unfold State.irqUpdate; dsimp only; split <;> simp only [State.sendVec_bonds, State.setBit_bonds]
@[simp] theorem State.irqUpdate_cams (s : State) (n : Nat) (w : Bool) : (s.irqUpdate n w).cams = s.cams := by
  unfold State.irqUpdate; dsimp only; split <;> simp only [State.sendVec_cams, State.setBit_cams]
@[simp] theorem State.irqUpdate_pipes (s : State) (n : Nat) (w : Bool) : (s.irqUpdate n w).pipes = s.pipes := by
  unfold State.irqUpdate; dsimp only; split <;> simp only [State.sendVec_pipes, State.setBit_pipes]
@[simp] theorem State.irqUpdate_asys (s : State) (n : Nat) (w : Bool) : (s.irqUpdate n w).asys = s.asys := by
  unfold State.irqUpdate; dsimp only; split <;> simp only [State.sendVec_asys, State.setBit_asys]
@[simp] theorem State.irqUpdate_views (s : State) (n : Nat) (w : Bool) : (s.irqUpdate n w).views = s.views := by
  unfold State.irqUpdate; dsimp only; split <;> simp only [State.sendVec_views, State.setBit_views]
@[simp] theorem State.irqUpdate_pages (s : State) (n : Nat) (w : Bool) : (s.irqUpdate n w).pages = s.pages := by
  unfold State.irqUpdate; dsimp only; split <;> simp only [State.sendVec_pages, State.setBit_pages]
@[simp] theorem State.irqUpdate_crus (s : State) (n : Nat) (w : Bool) : (s.irqUpdate n w).crus = s.crus := by
  unfold State.irqUpdate; dsimp only; split <;> simp only [State.sendVec_crus, State.setBit_crus]
@[simp] theorem State.irqUpdate_rings (s : State) (n : Nat) (w : Bool) : (s.irqUpdate n w).rings = s.rings := by
  unfold State.irqUpdate; dsimp only; split <;> simp only [State.sendVec_rings, State.setBit_rings]
@[simp] theorem State.irqUpdate_xfers (s : State) (n : Nat) (w : Bool) : (s.irqUpdate n w).xfers = s.xfers := by
  unfold State.irqUpdate; dsimp only; split <;> simp only [State.sendVec_xfers, State.setBit_xfers]
@[simp] theorem State.irqUpdate_host (s : State) (n : Nat) (w : Bool) : (s.irqUpdate n w).host = s.host := by
  unfold State.irqUpdate; dsimp only; split <;> simp only [State.sendVec_host, State.setBit_host]
@[simp] theorem State.irqUpdate_noz (s : State) (n : Nat) (w : Bool) : (s.irqUpdate n w).noz = s.noz := by
  unfold State.irqUpdate; dsimp only; split <;> simp only [State.sendVec_noz, State.setBit_noz]
@[simp] theorem State.irqUpdate_nbanks (s : State) (n : Nat) (w : Bool) : (s.irqUpdate n w).nbanks = s.nbanks := by
  unfold State.irqUpdate; dsimp only; split <;> simp only [State.sendVec_nbanks, State.setBit_nbanks]
@[simp] theorem State.irqUpdate_twin (s : State) (n : Nat) (w : Bool) : (s.irqUpdate n w).twin = s.twin := by
  unfold State.irqUpdate; dsimp only; split <;> simp only [State.sendVec_twin, State.setBit_twin]
@[simp] theorem State.irqUpdate_memx (s : State) (n : Nat) (w : Bool) : (s.irqUpdate n w).memx = s.memx := by
  unfold State.irqUpdate; dsimp only; split <;> simp only [State.sendVec_memx, State.setBit_memx]
@[simp] theorem State.irqUpdate_chans (s : State) (n : Nat) (w : Bool) : (s.irqUpdate n w).chans = s.chans := by
  unfold State.irqUpdate; dsimp only; split <;> simp only [State.sendVec_chans, State.setBit_chans]
@[simp] theorem State.irqUpdate_engines (s : State) (n : Nat) (w : Bool) : (s.irqUpdate n w).engines = s.engines := by
  unfold State.irqUpdate; dsimp only; split <;> simp only [State.sendVec_engines, State.setBit_engines]
@[simp] theorem State.irqUpdate_mboxes (s : State) (n : Nat) (w : Bool) : (s.irqUpdate n w).mboxes = s.mboxes := by
  unfold State.irqUpdate; dsimp only; split <;> simp only [State.sendVec_mboxes, State.setBit_mboxes]
@[simp] theorem State.irqUpdate_bench (s : State) (n : Nat) (w : Bool) : (s.irqUpdate n w).bench = s.bench := by
  unfold State.irqUpdate; dsimp only; split <;> simp only [State.sendVec_bench, State.setBit_bench]
@[simp] theorem State.irqUpdate_clk (s : State) (n : Nat) (w : Bool) : (s.irqUpdate n w).clk = s.clk := by
  unfold State.irqUpdate; dsimp only; split <;> simp only [State.sendVec_clk, State.setBit_clk]
@[simp] theorem State.irqUpdate_pwr (s : State) (n : Nat) (w : Bool) : (s.irqUpdate n w).pwr = s.pwr := by
  unfold State.irqUpdate; dsimp only; split <;> simp only [State.sendVec_pwr, State.setBit_pwr]
@[simp] theorem State.irqUpdate_touch (s : State) (n : Nat) (w : Bool) : (s.irqUpdate n w).touch = s.touch := by
  unfold State.irqUpdate; dsimp only; split <;> simp only [State.sendVec_touch, State.setBit_touch]
@[simp] theorem State.irqUpdate_boot (s : State) (n : Nat) (w : Bool) : (s.irqUpdate n w).boot = s.boot := by
  unfold State.irqUpdate; dsimp only; split <;> simp only [State.sendVec_boot, State.setBit_boot]
@[simp] theorem State.irqUpdate_devMem (s : State) (n : Nat) (w : Bool) : (s.irqUpdate n w).devMem = s.devMem := by
  unfold State.irqUpdate; dsimp only; split <;> simp only [State.sendVec_devMem, State.setBit_devMem]
@[simp] theorem State.irqUpdate_hostMem (s : State) (n : Nat) (w : Bool) : (s.irqUpdate n w).hostMem = s.hostMem := by
  unfold State.irqUpdate; dsimp only; split <;> simp only [State.sendVec_hostMem, State.setBit_hostMem]
@[simp] theorem State.irqUpdate_parts (s : State) (n : Nat) (w : Bool) : (s.irqUpdate n w).parts = s.parts := by
  unfold State.irqUpdate; dsimp only; split <;> simp only [State.sendVec_parts, State.setBit_parts]
@[simp] theorem State.irqUpdate_units (s : State) (n : Nat) (w : Bool) :
    (∀ j, (s.irqUpdate n w).axis j = s.axis j) ∧ (∀ j, (s.irqUpdate n w).gen j = s.gen j) ∧
    (∀ j, (s.irqUpdate n w).clist j = s.clist j) ∧ (∀ j, (s.irqUpdate n w).pin j = s.pin j) ∧
    (∀ j, (s.irqUpdate n w).pair j = s.pair j) ∧ (∀ j, (s.irqUpdate n w).trigIn j = s.trigIn j) ∧
    (∀ j, (s.irqUpdate n w).lane j = s.lane j) ∧ (∀ j, (s.irqUpdate n w).bond j = s.bond j) ∧
    (∀ j, (s.irqUpdate n w).cam j = s.cam j) ∧ (∀ j, (s.irqUpdate n w).pipe j = s.pipe j) ∧
    (∀ j, (s.irqUpdate n w).asy j = s.asy j) ∧ (∀ j, (s.irqUpdate n w).view j = s.view j) ∧
    (∀ j, (s.irqUpdate n w).pageSlot j = s.pageSlot j) ∧ (∀ j, (s.irqUpdate n w).cru j = s.cru j) ∧
    (∀ j, (s.irqUpdate n w).mbox j = s.mbox j) ∧ (∀ j, (s.irqUpdate n w).xferQ j = s.xferQ j) ∧
    (∀ j, (s.irqUpdate n w).part j = s.part j) ∧ (∀ j, (s.irqUpdate n w).chan j = s.chan j) ∧
    (∀ j, (s.irqUpdate n w).engine j = s.engine j) ∧ (∀ j, (s.irqUpdate n w).nbank j = s.nbank j) ∧
    (∀ i j, (s.irqUpdate n w).ring i j = s.ring i j) := by
  simp only [State.axis, State.gen, State.clist, State.pin, State.pair, State.trigIn, State.lane, State.bond, State.cam, State.pipe, State.asy, State.view, State.pageSlot, State.cru, State.mbox, State.xferQ, State.part, State.chan, State.engine, State.nbank, State.ring,
    State.irqUpdate_axes, State.irqUpdate_gens, State.irqUpdate_lists, State.irqUpdate_pins, State.irqUpdate_pairs, State.irqUpdate_trigIns, State.irqUpdate_lanes, State.irqUpdate_bonds, State.irqUpdate_cams, State.irqUpdate_pipes, State.irqUpdate_asys, State.irqUpdate_views, State.irqUpdate_pages, State.irqUpdate_crus, State.irqUpdate_mboxes, State.irqUpdate_xfers, State.irqUpdate_parts, State.irqUpdate_chans, State.irqUpdate_engines, State.irqUpdate_nbanks, State.irqUpdate_rings, implies_true, and_self]


/-! ## noteFlag -/

@[simp] theorem State.noteFlag_pending (s : State) (k i : Nat) : (s.noteFlag k i).pending = s.pending := id rfl
@[simp] theorem State.noteFlag_devTime (s : State) (k i : Nat) : (s.noteFlag k i).devTime = s.devTime := id rfl
@[simp] theorem State.noteFlag_bootGen (s : State) (k i : Nat) : (s.noteFlag k i).bootGen = s.bootGen := id rfl
@[simp] theorem State.noteFlag_freeIdx (s : State) (k i : Nat) : (s.noteFlag k i).freeIdx = s.freeIdx := id rfl
@[simp] theorem State.noteFlag_regs (s : State) (k i : Nat) : (s.noteFlag k i).regs = s.regs := id rfl
@[simp] theorem State.noteFlag_hiLatch (s : State) (k i : Nat) : (s.noteFlag k i).hiLatch = s.hiLatch := id rfl
@[simp] theorem State.noteFlag_idleT (s : State) (k i : Nat) : (s.noteFlag k i).idleT = s.idleT := id rfl
@[simp] theorem State.noteFlag_slew (s : State) (k i : Nat) : (s.noteFlag k i).slew = s.slew := id rfl
@[simp] theorem State.noteFlag_reports (s : State) (k i : Nat) : (s.noteFlag k i).reports = s.reports := id rfl
@[simp] theorem State.noteFlag_causes (s : State) (k i : Nat) : (s.noteFlag k i).causes = s.causes := id rfl
@[simp] theorem State.noteFlag_expls (s : State) (k i : Nat) : (s.noteFlag k i).expls = s.expls := id rfl
@[simp] theorem State.noteFlag_events (s : State) (k i : Nat) : (s.noteFlag k i).events = s.events := id rfl
@[simp] theorem State.noteFlag_axes (s : State) (k i : Nat) : (s.noteFlag k i).axes = s.axes := id rfl
@[simp] theorem State.noteFlag_gens (s : State) (k i : Nat) : (s.noteFlag k i).gens = s.gens := id rfl
@[simp] theorem State.noteFlag_lists (s : State) (k i : Nat) : (s.noteFlag k i).lists = s.lists := id rfl
@[simp] theorem State.noteFlag_pins (s : State) (k i : Nat) : (s.noteFlag k i).pins = s.pins := id rfl
@[simp] theorem State.noteFlag_pairs (s : State) (k i : Nat) : (s.noteFlag k i).pairs = s.pairs := id rfl
@[simp] theorem State.noteFlag_trigIns (s : State) (k i : Nat) : (s.noteFlag k i).trigIns = s.trigIns := id rfl
@[simp] theorem State.noteFlag_sched (s : State) (k i : Nat) : (s.noteFlag k i).sched = s.sched := id rfl
@[simp] theorem State.noteFlag_lanes (s : State) (k i : Nat) : (s.noteFlag k i).lanes = s.lanes := id rfl
@[simp] theorem State.noteFlag_bonds (s : State) (k i : Nat) : (s.noteFlag k i).bonds = s.bonds := id rfl
@[simp] theorem State.noteFlag_cams (s : State) (k i : Nat) : (s.noteFlag k i).cams = s.cams := id rfl
@[simp] theorem State.noteFlag_pipes (s : State) (k i : Nat) : (s.noteFlag k i).pipes = s.pipes := id rfl
@[simp] theorem State.noteFlag_asys (s : State) (k i : Nat) : (s.noteFlag k i).asys = s.asys := id rfl
@[simp] theorem State.noteFlag_views (s : State) (k i : Nat) : (s.noteFlag k i).views = s.views := id rfl
@[simp] theorem State.noteFlag_pages (s : State) (k i : Nat) : (s.noteFlag k i).pages = s.pages := id rfl
@[simp] theorem State.noteFlag_crus (s : State) (k i : Nat) : (s.noteFlag k i).crus = s.crus := id rfl
@[simp] theorem State.noteFlag_rings (s : State) (k i : Nat) : (s.noteFlag k i).rings = s.rings := id rfl
@[simp] theorem State.noteFlag_xfers (s : State) (k i : Nat) : (s.noteFlag k i).xfers = s.xfers := id rfl
@[simp] theorem State.noteFlag_host (s : State) (k i : Nat) : (s.noteFlag k i).host = s.host := id rfl
@[simp] theorem State.noteFlag_noz (s : State) (k i : Nat) : (s.noteFlag k i).noz = s.noz := id rfl
@[simp] theorem State.noteFlag_nbanks (s : State) (k i : Nat) : (s.noteFlag k i).nbanks = s.nbanks := id rfl
@[simp] theorem State.noteFlag_twin (s : State) (k i : Nat) : (s.noteFlag k i).twin = s.twin := id rfl
@[simp] theorem State.noteFlag_memx (s : State) (k i : Nat) : (s.noteFlag k i).memx = s.memx := id rfl
@[simp] theorem State.noteFlag_chans (s : State) (k i : Nat) : (s.noteFlag k i).chans = s.chans := id rfl
@[simp] theorem State.noteFlag_engines (s : State) (k i : Nat) : (s.noteFlag k i).engines = s.engines := id rfl
@[simp] theorem State.noteFlag_mboxes (s : State) (k i : Nat) : (s.noteFlag k i).mboxes = s.mboxes := id rfl
@[simp] theorem State.noteFlag_bench (s : State) (k i : Nat) : (s.noteFlag k i).bench = s.bench := id rfl
@[simp] theorem State.noteFlag_clk (s : State) (k i : Nat) : (s.noteFlag k i).clk = s.clk := id rfl
@[simp] theorem State.noteFlag_pwr (s : State) (k i : Nat) : (s.noteFlag k i).pwr = s.pwr := id rfl
@[simp] theorem State.noteFlag_touch (s : State) (k i : Nat) : (s.noteFlag k i).touch = s.touch := id rfl
@[simp] theorem State.noteFlag_boot (s : State) (k i : Nat) : (s.noteFlag k i).boot = s.boot := id rfl
@[simp] theorem State.noteFlag_devMem (s : State) (k i : Nat) : (s.noteFlag k i).devMem = s.devMem := id rfl
@[simp] theorem State.noteFlag_hostMem (s : State) (k i : Nat) : (s.noteFlag k i).hostMem = s.hostMem := id rfl
@[simp] theorem State.noteFlag_parts (s : State) (k i : Nat) : (s.noteFlag k i).parts = s.parts := id rfl
@[simp] theorem State.noteFlag_out (s : State) (k i : Nat) : (s.noteFlag k i).out = s.out := id rfl
@[simp] theorem State.noteFlag_units (s : State) (k i : Nat) :
    (∀ j, (s.noteFlag k i).axis j = s.axis j) ∧ (∀ j, (s.noteFlag k i).gen j = s.gen j) ∧
    (∀ j, (s.noteFlag k i).clist j = s.clist j) ∧ (∀ j, (s.noteFlag k i).pin j = s.pin j) ∧
    (∀ j, (s.noteFlag k i).pair j = s.pair j) ∧ (∀ j, (s.noteFlag k i).trigIn j = s.trigIn j) ∧
    (∀ j, (s.noteFlag k i).lane j = s.lane j) ∧ (∀ j, (s.noteFlag k i).bond j = s.bond j) ∧
    (∀ j, (s.noteFlag k i).cam j = s.cam j) ∧ (∀ j, (s.noteFlag k i).pipe j = s.pipe j) ∧
    (∀ j, (s.noteFlag k i).asy j = s.asy j) ∧ (∀ j, (s.noteFlag k i).view j = s.view j) ∧
    (∀ j, (s.noteFlag k i).pageSlot j = s.pageSlot j) ∧ (∀ j, (s.noteFlag k i).cru j = s.cru j) ∧
    (∀ j, (s.noteFlag k i).mbox j = s.mbox j) ∧ (∀ j, (s.noteFlag k i).xferQ j = s.xferQ j) ∧
    (∀ j, (s.noteFlag k i).part j = s.part j) ∧ (∀ j, (s.noteFlag k i).chan j = s.chan j) ∧
    (∀ j, (s.noteFlag k i).engine j = s.engine j) ∧ (∀ j, (s.noteFlag k i).nbank j = s.nbank j) ∧
    (∀ i j, (s.noteFlag k i).ring i j = s.ring i j) := by
  simp only [State.axis, State.gen, State.clist, State.pin, State.pair, State.trigIn, State.lane, State.bond, State.cam, State.pipe, State.asy, State.view, State.pageSlot, State.cru, State.mbox, State.xferQ, State.part, State.chan, State.engine, State.nbank, State.ring,
    State.noteFlag_axes, State.noteFlag_gens, State.noteFlag_lists, State.noteFlag_pins, State.noteFlag_pairs, State.noteFlag_trigIns, State.noteFlag_lanes, State.noteFlag_bonds, State.noteFlag_cams, State.noteFlag_pipes, State.noteFlag_asys, State.noteFlag_views, State.noteFlag_pages, State.noteFlag_crus, State.noteFlag_mboxes, State.noteFlag_xfers, State.noteFlag_parts, State.noteFlag_chans, State.noteFlag_engines, State.noteFlag_nbanks, State.noteFlag_rings, implies_true, and_self]

@[simp] theorem State.noteFlag_rd (s : State) (k i : Nat) (j : Nat) : (s.noteFlag k i).rd j = s.rd j := by
  simp [State.rd]

/-! ## irq -/

@[simp] theorem State.irq_pending (s : State) (k n i : Nat) : (s.irq k n i).pending = s.pending := by
  simp only [State.irq, State.noteFlag_pending, State.irqUpdate_pending, State.setBit_pending]
@[simp] theorem State.irq_devTime (s : State) (k n i : Nat) : (s.irq k n i).devTime = s.devTime := by
  simp only [State.irq, State.noteFlag_devTime, State.irqUpdate_devTime, State.setBit_devTime]
@[simp] theorem State.irq_bootGen (s : State) (k n i : Nat) : (s.irq k n i).bootGen = s.bootGen := by
  simp only [State.irq, State.noteFlag_bootGen, State.irqUpdate_bootGen, State.setBit_bootGen]
@[simp] theorem State.irq_freeIdx (s : State) (k n i : Nat) : (s.irq k n i).freeIdx = s.freeIdx := by
  simp only [State.irq, State.noteFlag_freeIdx, State.irqUpdate_freeIdx, State.setBit_freeIdx]
@[simp] theorem State.irq_hiLatch (s : State) (k n i : Nat) : (s.irq k n i).hiLatch = s.hiLatch := by
  simp only [State.irq, State.noteFlag_hiLatch, State.irqUpdate_hiLatch, State.setBit_hiLatch]
@[simp] theorem State.irq_idleT (s : State) (k n i : Nat) : (s.irq k n i).idleT = s.idleT := by
  simp only [State.irq, State.noteFlag_idleT, State.irqUpdate_idleT, State.setBit_idleT]
@[simp] theorem State.irq_slew (s : State) (k n i : Nat) : (s.irq k n i).slew = s.slew := by
  simp only [State.irq, State.noteFlag_slew, State.irqUpdate_slew, State.setBit_slew]
@[simp] theorem State.irq_reports (s : State) (k n i : Nat) : (s.irq k n i).reports = s.reports := by
  simp only [State.irq, State.noteFlag_reports, State.irqUpdate_reports, State.setBit_reports]
@[simp] theorem State.irq_causes (s : State) (k n i : Nat) : (s.irq k n i).causes = s.causes := by
  simp only [State.irq, State.noteFlag_causes, State.irqUpdate_causes, State.setBit_causes]
@[simp] theorem State.irq_expls (s : State) (k n i : Nat) : (s.irq k n i).expls = s.expls := by
  simp only [State.irq, State.noteFlag_expls, State.irqUpdate_expls, State.setBit_expls]
@[simp] theorem State.irq_events (s : State) (k n i : Nat) : (s.irq k n i).events = s.events := by
  simp only [State.irq, State.noteFlag_events, State.irqUpdate_events, State.setBit_events]
@[simp] theorem State.irq_axes (s : State) (k n i : Nat) : (s.irq k n i).axes = s.axes := by
  simp only [State.irq, State.noteFlag_axes, State.irqUpdate_axes, State.setBit_axes]
@[simp] theorem State.irq_gens (s : State) (k n i : Nat) : (s.irq k n i).gens = s.gens := by
  simp only [State.irq, State.noteFlag_gens, State.irqUpdate_gens, State.setBit_gens]
@[simp] theorem State.irq_lists (s : State) (k n i : Nat) : (s.irq k n i).lists = s.lists := by
  simp only [State.irq, State.noteFlag_lists, State.irqUpdate_lists, State.setBit_lists]
@[simp] theorem State.irq_pins (s : State) (k n i : Nat) : (s.irq k n i).pins = s.pins := by
  simp only [State.irq, State.noteFlag_pins, State.irqUpdate_pins, State.setBit_pins]
@[simp] theorem State.irq_pairs (s : State) (k n i : Nat) : (s.irq k n i).pairs = s.pairs := by
  simp only [State.irq, State.noteFlag_pairs, State.irqUpdate_pairs, State.setBit_pairs]
@[simp] theorem State.irq_trigIns (s : State) (k n i : Nat) : (s.irq k n i).trigIns = s.trigIns := by
  simp only [State.irq, State.noteFlag_trigIns, State.irqUpdate_trigIns, State.setBit_trigIns]
@[simp] theorem State.irq_sched (s : State) (k n i : Nat) : (s.irq k n i).sched = s.sched := by
  simp only [State.irq, State.noteFlag_sched, State.irqUpdate_sched, State.setBit_sched]
@[simp] theorem State.irq_lanes (s : State) (k n i : Nat) : (s.irq k n i).lanes = s.lanes := by
  simp only [State.irq, State.noteFlag_lanes, State.irqUpdate_lanes, State.setBit_lanes]
@[simp] theorem State.irq_bonds (s : State) (k n i : Nat) : (s.irq k n i).bonds = s.bonds := by
  simp only [State.irq, State.noteFlag_bonds, State.irqUpdate_bonds, State.setBit_bonds]
@[simp] theorem State.irq_cams (s : State) (k n i : Nat) : (s.irq k n i).cams = s.cams := by
  simp only [State.irq, State.noteFlag_cams, State.irqUpdate_cams, State.setBit_cams]
@[simp] theorem State.irq_pipes (s : State) (k n i : Nat) : (s.irq k n i).pipes = s.pipes := by
  simp only [State.irq, State.noteFlag_pipes, State.irqUpdate_pipes, State.setBit_pipes]
@[simp] theorem State.irq_asys (s : State) (k n i : Nat) : (s.irq k n i).asys = s.asys := by
  simp only [State.irq, State.noteFlag_asys, State.irqUpdate_asys, State.setBit_asys]
@[simp] theorem State.irq_views (s : State) (k n i : Nat) : (s.irq k n i).views = s.views := by
  simp only [State.irq, State.noteFlag_views, State.irqUpdate_views, State.setBit_views]
@[simp] theorem State.irq_pages (s : State) (k n i : Nat) : (s.irq k n i).pages = s.pages := by
  simp only [State.irq, State.noteFlag_pages, State.irqUpdate_pages, State.setBit_pages]
@[simp] theorem State.irq_crus (s : State) (k n i : Nat) : (s.irq k n i).crus = s.crus := by
  simp only [State.irq, State.noteFlag_crus, State.irqUpdate_crus, State.setBit_crus]
@[simp] theorem State.irq_rings (s : State) (k n i : Nat) : (s.irq k n i).rings = s.rings := by
  simp only [State.irq, State.noteFlag_rings, State.irqUpdate_rings, State.setBit_rings]
@[simp] theorem State.irq_xfers (s : State) (k n i : Nat) : (s.irq k n i).xfers = s.xfers := by
  simp only [State.irq, State.noteFlag_xfers, State.irqUpdate_xfers, State.setBit_xfers]
@[simp] theorem State.irq_host (s : State) (k n i : Nat) : (s.irq k n i).host = s.host := by
  simp only [State.irq, State.noteFlag_host, State.irqUpdate_host, State.setBit_host]
@[simp] theorem State.irq_noz (s : State) (k n i : Nat) : (s.irq k n i).noz = s.noz := by
  simp only [State.irq, State.noteFlag_noz, State.irqUpdate_noz, State.setBit_noz]
@[simp] theorem State.irq_nbanks (s : State) (k n i : Nat) : (s.irq k n i).nbanks = s.nbanks := by
  simp only [State.irq, State.noteFlag_nbanks, State.irqUpdate_nbanks, State.setBit_nbanks]
@[simp] theorem State.irq_twin (s : State) (k n i : Nat) : (s.irq k n i).twin = s.twin := by
  simp only [State.irq, State.noteFlag_twin, State.irqUpdate_twin, State.setBit_twin]
@[simp] theorem State.irq_memx (s : State) (k n i : Nat) : (s.irq k n i).memx = s.memx := by
  simp only [State.irq, State.noteFlag_memx, State.irqUpdate_memx, State.setBit_memx]
@[simp] theorem State.irq_chans (s : State) (k n i : Nat) : (s.irq k n i).chans = s.chans := by
  simp only [State.irq, State.noteFlag_chans, State.irqUpdate_chans, State.setBit_chans]
@[simp] theorem State.irq_engines (s : State) (k n i : Nat) : (s.irq k n i).engines = s.engines := by
  simp only [State.irq, State.noteFlag_engines, State.irqUpdate_engines, State.setBit_engines]
@[simp] theorem State.irq_mboxes (s : State) (k n i : Nat) : (s.irq k n i).mboxes = s.mboxes := by
  simp only [State.irq, State.noteFlag_mboxes, State.irqUpdate_mboxes, State.setBit_mboxes]
@[simp] theorem State.irq_bench (s : State) (k n i : Nat) : (s.irq k n i).bench = s.bench := by
  simp only [State.irq, State.noteFlag_bench, State.irqUpdate_bench, State.setBit_bench]
@[simp] theorem State.irq_clk (s : State) (k n i : Nat) : (s.irq k n i).clk = s.clk := by
  simp only [State.irq, State.noteFlag_clk, State.irqUpdate_clk, State.setBit_clk]
@[simp] theorem State.irq_pwr (s : State) (k n i : Nat) : (s.irq k n i).pwr = s.pwr := by
  simp only [State.irq, State.noteFlag_pwr, State.irqUpdate_pwr, State.setBit_pwr]
@[simp] theorem State.irq_touch (s : State) (k n i : Nat) : (s.irq k n i).touch = s.touch := by
  simp only [State.irq, State.noteFlag_touch, State.irqUpdate_touch, State.setBit_touch]
@[simp] theorem State.irq_boot (s : State) (k n i : Nat) : (s.irq k n i).boot = s.boot := by
  simp only [State.irq, State.noteFlag_boot, State.irqUpdate_boot, State.setBit_boot]
@[simp] theorem State.irq_devMem (s : State) (k n i : Nat) : (s.irq k n i).devMem = s.devMem := by
  simp only [State.irq, State.noteFlag_devMem, State.irqUpdate_devMem, State.setBit_devMem]
@[simp] theorem State.irq_hostMem (s : State) (k n i : Nat) : (s.irq k n i).hostMem = s.hostMem := by
  simp only [State.irq, State.noteFlag_hostMem, State.irqUpdate_hostMem, State.setBit_hostMem]
@[simp] theorem State.irq_parts (s : State) (k n i : Nat) : (s.irq k n i).parts = s.parts := by
  simp only [State.irq, State.noteFlag_parts, State.irqUpdate_parts, State.setBit_parts]
@[simp] theorem State.irq_units (s : State) (k n i : Nat) :
    (∀ j, (s.irq k n i).axis j = s.axis j) ∧ (∀ j, (s.irq k n i).gen j = s.gen j) ∧
    (∀ j, (s.irq k n i).clist j = s.clist j) ∧ (∀ j, (s.irq k n i).pin j = s.pin j) ∧
    (∀ j, (s.irq k n i).pair j = s.pair j) ∧ (∀ j, (s.irq k n i).trigIn j = s.trigIn j) ∧
    (∀ j, (s.irq k n i).lane j = s.lane j) ∧ (∀ j, (s.irq k n i).bond j = s.bond j) ∧
    (∀ j, (s.irq k n i).cam j = s.cam j) ∧ (∀ j, (s.irq k n i).pipe j = s.pipe j) ∧
    (∀ j, (s.irq k n i).asy j = s.asy j) ∧ (∀ j, (s.irq k n i).view j = s.view j) ∧
    (∀ j, (s.irq k n i).pageSlot j = s.pageSlot j) ∧ (∀ j, (s.irq k n i).cru j = s.cru j) ∧
    (∀ j, (s.irq k n i).mbox j = s.mbox j) ∧ (∀ j, (s.irq k n i).xferQ j = s.xferQ j) ∧
    (∀ j, (s.irq k n i).part j = s.part j) ∧ (∀ j, (s.irq k n i).chan j = s.chan j) ∧
    (∀ j, (s.irq k n i).engine j = s.engine j) ∧ (∀ j, (s.irq k n i).nbank j = s.nbank j) ∧
    (∀ i j, (s.irq k n i).ring i j = s.ring i j) := by
  simp only [State.axis, State.gen, State.clist, State.pin, State.pair, State.trigIn, State.lane, State.bond, State.cam, State.pipe, State.asy, State.view, State.pageSlot, State.cru, State.mbox, State.xferQ, State.part, State.chan, State.engine, State.nbank, State.ring,
    State.irq_axes, State.irq_gens, State.irq_lists, State.irq_pins, State.irq_pairs, State.irq_trigIns, State.irq_lanes, State.irq_bonds, State.irq_cams, State.irq_pipes, State.irq_asys, State.irq_views, State.irq_pages, State.irq_crus, State.irq_mboxes, State.irq_xfers, State.irq_parts, State.irq_chans, State.irq_engines, State.irq_nbanks, State.irq_rings, implies_true, and_self]


/-! ## publish -/

@[simp] theorem State.publish_pending (s : State) (ch : Nat) : (s.publish ch).pending = s.pending := by
  unfold State.publish; split <;> rfl
@[simp] theorem State.publish_devTime (s : State) (ch : Nat) : (s.publish ch).devTime = s.devTime := by
  unfold State.publish; split <;> rfl
@[simp] theorem State.publish_bootGen (s : State) (ch : Nat) : (s.publish ch).bootGen = s.bootGen := by
  unfold State.publish; split <;> rfl
@[simp] theorem State.publish_freeIdx (s : State) (ch : Nat) : (s.publish ch).freeIdx = s.freeIdx := by
  unfold State.publish; split <;> rfl
@[simp] theorem State.publish_regs (s : State) (ch : Nat) : (s.publish ch).regs = s.regs := by
  unfold State.publish; split <;> rfl
@[simp] theorem State.publish_hiLatch (s : State) (ch : Nat) : (s.publish ch).hiLatch = s.hiLatch := by
  unfold State.publish; split <;> rfl
@[simp] theorem State.publish_tick (s : State) (ch : Nat) : (s.publish ch).tick = s.tick := by
  unfold State.publish; split <;> rfl
@[simp] theorem State.publish_idleT (s : State) (ch : Nat) : (s.publish ch).idleT = s.idleT := by
  unfold State.publish; split <;> rfl
@[simp] theorem State.publish_slew (s : State) (ch : Nat) : (s.publish ch).slew = s.slew := by
  unfold State.publish; split <;> rfl
@[simp] theorem State.publish_reports (s : State) (ch : Nat) : (s.publish ch).reports = s.reports := by
  unfold State.publish; split <;> rfl
@[simp] theorem State.publish_causes (s : State) (ch : Nat) : (s.publish ch).causes = s.causes := by
  unfold State.publish; split <;> rfl
@[simp] theorem State.publish_expls (s : State) (ch : Nat) : (s.publish ch).expls = s.expls := by
  unfold State.publish; split <;> rfl
@[simp] theorem State.publish_axes (s : State) (ch : Nat) : (s.publish ch).axes = s.axes := by
  unfold State.publish; split <;> rfl
@[simp] theorem State.publish_gens (s : State) (ch : Nat) : (s.publish ch).gens = s.gens := by
  unfold State.publish; split <;> rfl
@[simp] theorem State.publish_lists (s : State) (ch : Nat) : (s.publish ch).lists = s.lists := by
  unfold State.publish; split <;> rfl
@[simp] theorem State.publish_pins (s : State) (ch : Nat) : (s.publish ch).pins = s.pins := by
  unfold State.publish; split <;> rfl
@[simp] theorem State.publish_pairs (s : State) (ch : Nat) : (s.publish ch).pairs = s.pairs := by
  unfold State.publish; split <;> rfl
@[simp] theorem State.publish_trigIns (s : State) (ch : Nat) : (s.publish ch).trigIns = s.trigIns := by
  unfold State.publish; split <;> rfl
@[simp] theorem State.publish_sched (s : State) (ch : Nat) : (s.publish ch).sched = s.sched := by
  unfold State.publish; split <;> rfl
@[simp] theorem State.publish_lanes (s : State) (ch : Nat) : (s.publish ch).lanes = s.lanes := by
  unfold State.publish; split <;> rfl
@[simp] theorem State.publish_bonds (s : State) (ch : Nat) : (s.publish ch).bonds = s.bonds := by
  unfold State.publish; split <;> rfl
@[simp] theorem State.publish_cams (s : State) (ch : Nat) : (s.publish ch).cams = s.cams := by
  unfold State.publish; split <;> rfl
@[simp] theorem State.publish_pipes (s : State) (ch : Nat) : (s.publish ch).pipes = s.pipes := by
  unfold State.publish; split <;> rfl
@[simp] theorem State.publish_asys (s : State) (ch : Nat) : (s.publish ch).asys = s.asys := by
  unfold State.publish; split <;> rfl
@[simp] theorem State.publish_views (s : State) (ch : Nat) : (s.publish ch).views = s.views := by
  unfold State.publish; split <;> rfl
@[simp] theorem State.publish_pages (s : State) (ch : Nat) : (s.publish ch).pages = s.pages := by
  unfold State.publish; split <;> rfl
@[simp] theorem State.publish_crus (s : State) (ch : Nat) : (s.publish ch).crus = s.crus := by
  unfold State.publish; split <;> rfl
@[simp] theorem State.publish_rings (s : State) (ch : Nat) : (s.publish ch).rings = s.rings := by
  unfold State.publish; split <;> rfl
@[simp] theorem State.publish_xfers (s : State) (ch : Nat) : (s.publish ch).xfers = s.xfers := by
  unfold State.publish; split <;> rfl
@[simp] theorem State.publish_host (s : State) (ch : Nat) : (s.publish ch).host = s.host := by
  unfold State.publish; split <;> rfl
@[simp] theorem State.publish_noz (s : State) (ch : Nat) : (s.publish ch).noz = s.noz := by
  unfold State.publish; split <;> rfl
@[simp] theorem State.publish_nbanks (s : State) (ch : Nat) : (s.publish ch).nbanks = s.nbanks := by
  unfold State.publish; split <;> rfl
@[simp] theorem State.publish_twin (s : State) (ch : Nat) : (s.publish ch).twin = s.twin := by
  unfold State.publish; split <;> rfl
@[simp] theorem State.publish_memx (s : State) (ch : Nat) : (s.publish ch).memx = s.memx := by
  unfold State.publish; split <;> rfl
@[simp] theorem State.publish_chans (s : State) (ch : Nat) : (s.publish ch).chans = s.chans := by
  unfold State.publish; split <;> rfl
@[simp] theorem State.publish_engines (s : State) (ch : Nat) : (s.publish ch).engines = s.engines := by
  unfold State.publish; split <;> rfl
@[simp] theorem State.publish_mboxes (s : State) (ch : Nat) : (s.publish ch).mboxes = s.mboxes := by
  unfold State.publish; split <;> rfl
@[simp] theorem State.publish_bench (s : State) (ch : Nat) : (s.publish ch).bench = s.bench := by
  unfold State.publish; split <;> rfl
@[simp] theorem State.publish_clk (s : State) (ch : Nat) : (s.publish ch).clk = s.clk := by
  unfold State.publish; split <;> rfl
@[simp] theorem State.publish_pwr (s : State) (ch : Nat) : (s.publish ch).pwr = s.pwr := by
  unfold State.publish; split <;> rfl
@[simp] theorem State.publish_touch (s : State) (ch : Nat) : (s.publish ch).touch = s.touch := by
  unfold State.publish; split <;> rfl
@[simp] theorem State.publish_boot (s : State) (ch : Nat) : (s.publish ch).boot = s.boot := by
  unfold State.publish; split <;> rfl
@[simp] theorem State.publish_devMem (s : State) (ch : Nat) : (s.publish ch).devMem = s.devMem := by
  unfold State.publish; split <;> rfl
@[simp] theorem State.publish_hostMem (s : State) (ch : Nat) : (s.publish ch).hostMem = s.hostMem := by
  unfold State.publish; split <;> rfl
@[simp] theorem State.publish_parts (s : State) (ch : Nat) : (s.publish ch).parts = s.parts := by
  unfold State.publish; split <;> rfl
@[simp] theorem State.publish_out (s : State) (ch : Nat) : (s.publish ch).out = s.out := by
  unfold State.publish; split <;> rfl
@[simp] theorem State.publish_units (s : State) (ch : Nat) :
    (∀ j, (s.publish ch).axis j = s.axis j) ∧ (∀ j, (s.publish ch).gen j = s.gen j) ∧
    (∀ j, (s.publish ch).clist j = s.clist j) ∧ (∀ j, (s.publish ch).pin j = s.pin j) ∧
    (∀ j, (s.publish ch).pair j = s.pair j) ∧ (∀ j, (s.publish ch).trigIn j = s.trigIn j) ∧
    (∀ j, (s.publish ch).lane j = s.lane j) ∧ (∀ j, (s.publish ch).bond j = s.bond j) ∧
    (∀ j, (s.publish ch).cam j = s.cam j) ∧ (∀ j, (s.publish ch).pipe j = s.pipe j) ∧
    (∀ j, (s.publish ch).asy j = s.asy j) ∧ (∀ j, (s.publish ch).view j = s.view j) ∧
    (∀ j, (s.publish ch).pageSlot j = s.pageSlot j) ∧ (∀ j, (s.publish ch).cru j = s.cru j) ∧
    (∀ j, (s.publish ch).mbox j = s.mbox j) ∧ (∀ j, (s.publish ch).xferQ j = s.xferQ j) ∧
    (∀ j, (s.publish ch).part j = s.part j) ∧ (∀ j, (s.publish ch).chan j = s.chan j) ∧
    (∀ j, (s.publish ch).engine j = s.engine j) ∧ (∀ j, (s.publish ch).nbank j = s.nbank j) ∧
    (∀ i j, (s.publish ch).ring i j = s.ring i j) := by
  simp only [State.axis, State.gen, State.clist, State.pin, State.pair, State.trigIn, State.lane, State.bond, State.cam, State.pipe, State.asy, State.view, State.pageSlot, State.cru, State.mbox, State.xferQ, State.part, State.chan, State.engine, State.nbank, State.ring,
    State.publish_axes, State.publish_gens, State.publish_lists, State.publish_pins, State.publish_pairs, State.publish_trigIns, State.publish_lanes, State.publish_bonds, State.publish_cams, State.publish_pipes, State.publish_asys, State.publish_views, State.publish_pages, State.publish_crus, State.publish_mboxes, State.publish_xfers, State.publish_parts, State.publish_chans, State.publish_engines, State.publish_nbanks, State.publish_rings, implies_true, and_self]

@[simp] theorem State.publish_rd (s : State) (ch : Nat) (j : Nat) : (s.publish ch).rd j = s.rd j := by
  simp [State.rd]

/-! ## produce -/

@[simp] theorem State.produce_pending (s : State) (p : Nat) : (s.produce p).pending = s.pending := by
  unfold State.produce; dsimp only; split <;> simp only [State.publish_pending]
@[simp] theorem State.produce_devTime (s : State) (p : Nat) : (s.produce p).devTime = s.devTime := by
  unfold State.produce; dsimp only; split <;> simp only [State.publish_devTime]
@[simp] theorem State.produce_bootGen (s : State) (p : Nat) : (s.produce p).bootGen = s.bootGen := by
  unfold State.produce; dsimp only; split <;> simp only [State.publish_bootGen]
@[simp] theorem State.produce_freeIdx (s : State) (p : Nat) : (s.produce p).freeIdx = s.freeIdx := by
  unfold State.produce; dsimp only; split <;> simp only [State.publish_freeIdx]
@[simp] theorem State.produce_regs (s : State) (p : Nat) : (s.produce p).regs = s.regs := by
  unfold State.produce; dsimp only; split <;> simp only [State.publish_regs]
@[simp] theorem State.produce_hiLatch (s : State) (p : Nat) : (s.produce p).hiLatch = s.hiLatch := by
  unfold State.produce; dsimp only; split <;> simp only [State.publish_hiLatch]
@[simp] theorem State.produce_tick (s : State) (p : Nat) : (s.produce p).tick = s.tick := by
  unfold State.produce; dsimp only; split <;> simp only [State.publish_tick]
@[simp] theorem State.produce_idleT (s : State) (p : Nat) : (s.produce p).idleT = s.idleT := by
  unfold State.produce; dsimp only; split <;> simp only [State.publish_idleT]
@[simp] theorem State.produce_slew (s : State) (p : Nat) : (s.produce p).slew = s.slew := by
  unfold State.produce; dsimp only; split <;> simp only [State.publish_slew]
@[simp] theorem State.produce_reports (s : State) (p : Nat) : (s.produce p).reports = s.reports := by
  unfold State.produce; dsimp only; split <;> simp only [State.publish_reports]
@[simp] theorem State.produce_causes (s : State) (p : Nat) : (s.produce p).causes = s.causes := by
  unfold State.produce; dsimp only; split <;> simp only [State.publish_causes]
@[simp] theorem State.produce_expls (s : State) (p : Nat) : (s.produce p).expls = s.expls := by
  unfold State.produce; dsimp only; split <;> simp only [State.publish_expls]
@[simp] theorem State.produce_axes (s : State) (p : Nat) : (s.produce p).axes = s.axes := by
  unfold State.produce; dsimp only; split <;> simp only [State.publish_axes]
@[simp] theorem State.produce_gens (s : State) (p : Nat) : (s.produce p).gens = s.gens := by
  unfold State.produce; dsimp only; split <;> simp only [State.publish_gens]
@[simp] theorem State.produce_lists (s : State) (p : Nat) : (s.produce p).lists = s.lists := by
  unfold State.produce; dsimp only; split <;> simp only [State.publish_lists]
@[simp] theorem State.produce_pins (s : State) (p : Nat) : (s.produce p).pins = s.pins := by
  unfold State.produce; dsimp only; split <;> simp only [State.publish_pins]
@[simp] theorem State.produce_pairs (s : State) (p : Nat) : (s.produce p).pairs = s.pairs := by
  unfold State.produce; dsimp only; split <;> simp only [State.publish_pairs]
@[simp] theorem State.produce_trigIns (s : State) (p : Nat) : (s.produce p).trigIns = s.trigIns := by
  unfold State.produce; dsimp only; split <;> simp only [State.publish_trigIns]
@[simp] theorem State.produce_sched (s : State) (p : Nat) : (s.produce p).sched = s.sched := by
  unfold State.produce; dsimp only; split <;> simp only [State.publish_sched]
@[simp] theorem State.produce_lanes (s : State) (p : Nat) : (s.produce p).lanes = s.lanes := by
  unfold State.produce; dsimp only; split <;> simp only [State.publish_lanes]
@[simp] theorem State.produce_bonds (s : State) (p : Nat) : (s.produce p).bonds = s.bonds := by
  unfold State.produce; dsimp only; split <;> simp only [State.publish_bonds]
@[simp] theorem State.produce_cams (s : State) (p : Nat) : (s.produce p).cams = s.cams := by
  unfold State.produce; dsimp only; split <;> simp only [State.publish_cams]
@[simp] theorem State.produce_pipes (s : State) (p : Nat) : (s.produce p).pipes = s.pipes := by
  unfold State.produce; dsimp only; split <;> simp only [State.publish_pipes]
@[simp] theorem State.produce_asys (s : State) (p : Nat) : (s.produce p).asys = s.asys := by
  unfold State.produce; dsimp only; split <;> simp only [State.publish_asys]
@[simp] theorem State.produce_views (s : State) (p : Nat) : (s.produce p).views = s.views := by
  unfold State.produce; dsimp only; split <;> simp only [State.publish_views]
@[simp] theorem State.produce_pages (s : State) (p : Nat) : (s.produce p).pages = s.pages := by
  unfold State.produce; dsimp only; split <;> simp only [State.publish_pages]
@[simp] theorem State.produce_crus (s : State) (p : Nat) : (s.produce p).crus = s.crus := by
  unfold State.produce; dsimp only; split <;> simp only [State.publish_crus]
@[simp] theorem State.produce_rings (s : State) (p : Nat) : (s.produce p).rings = s.rings := by
  unfold State.produce; dsimp only; split <;> simp only [State.publish_rings]
@[simp] theorem State.produce_xfers (s : State) (p : Nat) : (s.produce p).xfers = s.xfers := by
  unfold State.produce; dsimp only; split <;> simp only [State.publish_xfers]
@[simp] theorem State.produce_host (s : State) (p : Nat) : (s.produce p).host = s.host := by
  unfold State.produce; dsimp only; split <;> simp only [State.publish_host]
@[simp] theorem State.produce_noz (s : State) (p : Nat) : (s.produce p).noz = s.noz := by
  unfold State.produce; dsimp only; split <;> simp only [State.publish_noz]
@[simp] theorem State.produce_nbanks (s : State) (p : Nat) : (s.produce p).nbanks = s.nbanks := by
  unfold State.produce; dsimp only; split <;> simp only [State.publish_nbanks]
@[simp] theorem State.produce_twin (s : State) (p : Nat) : (s.produce p).twin = s.twin := by
  unfold State.produce; dsimp only; split <;> simp only [State.publish_twin]
@[simp] theorem State.produce_memx (s : State) (p : Nat) : (s.produce p).memx = s.memx := by
  unfold State.produce; dsimp only; split <;> simp only [State.publish_memx]
@[simp] theorem State.produce_chans (s : State) (p : Nat) : (s.produce p).chans = s.chans := by
  unfold State.produce; dsimp only; split <;> simp only [State.publish_chans]
@[simp] theorem State.produce_engines (s : State) (p : Nat) : (s.produce p).engines = s.engines := by
  unfold State.produce; dsimp only; split <;> simp only [State.publish_engines]
@[simp] theorem State.produce_mboxes (s : State) (p : Nat) : (s.produce p).mboxes = s.mboxes := by
  unfold State.produce; dsimp only; split <;> simp only [State.publish_mboxes]
@[simp] theorem State.produce_bench (s : State) (p : Nat) : (s.produce p).bench = s.bench := by
  unfold State.produce; dsimp only; split <;> simp only [State.publish_bench]
@[simp] theorem State.produce_clk (s : State) (p : Nat) : (s.produce p).clk = s.clk := by
  unfold State.produce; dsimp only; split <;> simp only [State.publish_clk]
@[simp] theorem State.produce_pwr (s : State) (p : Nat) : (s.produce p).pwr = s.pwr := by
  unfold State.produce; dsimp only; split <;> simp only [State.publish_pwr]
@[simp] theorem State.produce_touch (s : State) (p : Nat) : (s.produce p).touch = s.touch := by
  unfold State.produce; dsimp only; split <;> simp only [State.publish_touch]
@[simp] theorem State.produce_boot (s : State) (p : Nat) : (s.produce p).boot = s.boot := by
  unfold State.produce; dsimp only; split <;> simp only [State.publish_boot]
@[simp] theorem State.produce_devMem (s : State) (p : Nat) : (s.produce p).devMem = s.devMem := by
  unfold State.produce; dsimp only; split <;> simp only [State.publish_devMem]
@[simp] theorem State.produce_hostMem (s : State) (p : Nat) : (s.produce p).hostMem = s.hostMem := by
  unfold State.produce; dsimp only; split <;> simp only [State.publish_hostMem]
@[simp] theorem State.produce_parts (s : State) (p : Nat) : (s.produce p).parts = s.parts := by
  unfold State.produce; dsimp only; split <;> simp only [State.publish_parts]
@[simp] theorem State.produce_out (s : State) (p : Nat) : (s.produce p).out = s.out := by
  unfold State.produce; dsimp only; split <;> simp only [State.publish_out]
@[simp] theorem State.produce_units (s : State) (p : Nat) :
    (∀ j, (s.produce p).axis j = s.axis j) ∧ (∀ j, (s.produce p).gen j = s.gen j) ∧
    (∀ j, (s.produce p).clist j = s.clist j) ∧ (∀ j, (s.produce p).pin j = s.pin j) ∧
    (∀ j, (s.produce p).pair j = s.pair j) ∧ (∀ j, (s.produce p).trigIn j = s.trigIn j) ∧
    (∀ j, (s.produce p).lane j = s.lane j) ∧ (∀ j, (s.produce p).bond j = s.bond j) ∧
    (∀ j, (s.produce p).cam j = s.cam j) ∧ (∀ j, (s.produce p).pipe j = s.pipe j) ∧
    (∀ j, (s.produce p).asy j = s.asy j) ∧ (∀ j, (s.produce p).view j = s.view j) ∧
    (∀ j, (s.produce p).pageSlot j = s.pageSlot j) ∧ (∀ j, (s.produce p).cru j = s.cru j) ∧
    (∀ j, (s.produce p).mbox j = s.mbox j) ∧ (∀ j, (s.produce p).xferQ j = s.xferQ j) ∧
    (∀ j, (s.produce p).part j = s.part j) ∧ (∀ j, (s.produce p).chan j = s.chan j) ∧
    (∀ j, (s.produce p).engine j = s.engine j) ∧ (∀ j, (s.produce p).nbank j = s.nbank j) ∧
    (∀ i j, (s.produce p).ring i j = s.ring i j) := by
  simp only [State.axis, State.gen, State.clist, State.pin, State.pair, State.trigIn, State.lane, State.bond, State.cam, State.pipe, State.asy, State.view, State.pageSlot, State.cru, State.mbox, State.xferQ, State.part, State.chan, State.engine, State.nbank, State.ring,
    State.produce_axes, State.produce_gens, State.produce_lists, State.produce_pins, State.produce_pairs, State.produce_trigIns, State.produce_lanes, State.produce_bonds, State.produce_cams, State.produce_pipes, State.produce_asys, State.produce_views, State.produce_pages, State.produce_crus, State.produce_mboxes, State.produce_xfers, State.produce_parts, State.produce_chans, State.produce_engines, State.produce_nbanks, State.produce_rings, implies_true, and_self]

@[simp] theorem State.produce_rd (s : State) (p : Nat) (j : Nat) : (s.produce p).rd j = s.rd j := by
  simp [State.rd]

/-! ## causeOn -/

@[simp] theorem State.causeOn_pending (s : State) (c i src : Nat) : (s.causeOn c i src).pending = s.pending := by
  unfold State.causeOn; split <;> simp only [State.setBit_pending]
@[simp] theorem State.causeOn_devTime (s : State) (c i src : Nat) : (s.causeOn c i src).devTime = s.devTime := by
  unfold State.causeOn; split <;> simp only [State.setBit_devTime]
@[simp] theorem State.causeOn_bootGen (s : State) (c i src : Nat) : (s.causeOn c i src).bootGen = s.bootGen := by
  unfold State.causeOn; split <;> simp only [State.setBit_bootGen]
@[simp] theorem State.causeOn_freeIdx (s : State) (c i src : Nat) : (s.causeOn c i src).freeIdx = s.freeIdx := by
  unfold State.causeOn; split <;> simp only [State.setBit_freeIdx]
@[simp] theorem State.causeOn_hiLatch (s : State) (c i src : Nat) : (s.causeOn c i src).hiLatch = s.hiLatch := by
  unfold State.causeOn; split <;> simp only [State.setBit_hiLatch]
@[simp] theorem State.causeOn_tick (s : State) (c i src : Nat) : (s.causeOn c i src).tick = s.tick := by
  unfold State.causeOn; split <;> simp only [State.setBit_tick]
@[simp] theorem State.causeOn_idleT (s : State) (c i src : Nat) : (s.causeOn c i src).idleT = s.idleT := by
  unfold State.causeOn; split <;> simp only [State.setBit_idleT]
@[simp] theorem State.causeOn_slew (s : State) (c i src : Nat) : (s.causeOn c i src).slew = s.slew := by
  unfold State.causeOn; split <;> simp only [State.setBit_slew]
@[simp] theorem State.causeOn_reports (s : State) (c i src : Nat) : (s.causeOn c i src).reports = s.reports := by
  unfold State.causeOn; split <;> simp only [State.setBit_reports]
@[simp] theorem State.causeOn_expls (s : State) (c i src : Nat) : (s.causeOn c i src).expls = s.expls := by
  unfold State.causeOn; split <;> simp only [State.setBit_expls]
@[simp] theorem State.causeOn_events (s : State) (c i src : Nat) : (s.causeOn c i src).events = s.events := by
  unfold State.causeOn; split <;> simp only [State.setBit_events]
@[simp] theorem State.causeOn_axes (s : State) (c i src : Nat) : (s.causeOn c i src).axes = s.axes := by
  unfold State.causeOn; split <;> simp only [State.setBit_axes]
@[simp] theorem State.causeOn_gens (s : State) (c i src : Nat) : (s.causeOn c i src).gens = s.gens := by
  unfold State.causeOn; split <;> simp only [State.setBit_gens]
@[simp] theorem State.causeOn_lists (s : State) (c i src : Nat) : (s.causeOn c i src).lists = s.lists := by
  unfold State.causeOn; split <;> simp only [State.setBit_lists]
@[simp] theorem State.causeOn_pins (s : State) (c i src : Nat) : (s.causeOn c i src).pins = s.pins := by
  unfold State.causeOn; split <;> simp only [State.setBit_pins]
@[simp] theorem State.causeOn_pairs (s : State) (c i src : Nat) : (s.causeOn c i src).pairs = s.pairs := by
  unfold State.causeOn; split <;> simp only [State.setBit_pairs]
@[simp] theorem State.causeOn_trigIns (s : State) (c i src : Nat) : (s.causeOn c i src).trigIns = s.trigIns := by
  unfold State.causeOn; split <;> simp only [State.setBit_trigIns]
@[simp] theorem State.causeOn_sched (s : State) (c i src : Nat) : (s.causeOn c i src).sched = s.sched := by
  unfold State.causeOn; split <;> simp only [State.setBit_sched]
@[simp] theorem State.causeOn_lanes (s : State) (c i src : Nat) : (s.causeOn c i src).lanes = s.lanes := by
  unfold State.causeOn; split <;> simp only [State.setBit_lanes]
@[simp] theorem State.causeOn_bonds (s : State) (c i src : Nat) : (s.causeOn c i src).bonds = s.bonds := by
  unfold State.causeOn; split <;> simp only [State.setBit_bonds]
@[simp] theorem State.causeOn_cams (s : State) (c i src : Nat) : (s.causeOn c i src).cams = s.cams := by
  unfold State.causeOn; split <;> simp only [State.setBit_cams]
@[simp] theorem State.causeOn_pipes (s : State) (c i src : Nat) : (s.causeOn c i src).pipes = s.pipes := by
  unfold State.causeOn; split <;> simp only [State.setBit_pipes]
@[simp] theorem State.causeOn_asys (s : State) (c i src : Nat) : (s.causeOn c i src).asys = s.asys := by
  unfold State.causeOn; split <;> simp only [State.setBit_asys]
@[simp] theorem State.causeOn_views (s : State) (c i src : Nat) : (s.causeOn c i src).views = s.views := by
  unfold State.causeOn; split <;> simp only [State.setBit_views]
@[simp] theorem State.causeOn_pages (s : State) (c i src : Nat) : (s.causeOn c i src).pages = s.pages := by
  unfold State.causeOn; split <;> simp only [State.setBit_pages]
@[simp] theorem State.causeOn_crus (s : State) (c i src : Nat) : (s.causeOn c i src).crus = s.crus := by
  unfold State.causeOn; split <;> simp only [State.setBit_crus]
@[simp] theorem State.causeOn_rings (s : State) (c i src : Nat) : (s.causeOn c i src).rings = s.rings := by
  unfold State.causeOn; split <;> simp only [State.setBit_rings]
@[simp] theorem State.causeOn_xfers (s : State) (c i src : Nat) : (s.causeOn c i src).xfers = s.xfers := by
  unfold State.causeOn; split <;> simp only [State.setBit_xfers]
@[simp] theorem State.causeOn_host (s : State) (c i src : Nat) : (s.causeOn c i src).host = s.host := by
  unfold State.causeOn; split <;> simp only [State.setBit_host]
@[simp] theorem State.causeOn_noz (s : State) (c i src : Nat) : (s.causeOn c i src).noz = s.noz := by
  unfold State.causeOn; split <;> simp only [State.setBit_noz]
@[simp] theorem State.causeOn_nbanks (s : State) (c i src : Nat) : (s.causeOn c i src).nbanks = s.nbanks := by
  unfold State.causeOn; split <;> simp only [State.setBit_nbanks]
@[simp] theorem State.causeOn_twin (s : State) (c i src : Nat) : (s.causeOn c i src).twin = s.twin := by
  unfold State.causeOn; split <;> simp only [State.setBit_twin]
@[simp] theorem State.causeOn_memx (s : State) (c i src : Nat) : (s.causeOn c i src).memx = s.memx := by
  unfold State.causeOn; split <;> simp only [State.setBit_memx]
@[simp] theorem State.causeOn_chans (s : State) (c i src : Nat) : (s.causeOn c i src).chans = s.chans := by
  unfold State.causeOn; split <;> simp only [State.setBit_chans]
@[simp] theorem State.causeOn_engines (s : State) (c i src : Nat) : (s.causeOn c i src).engines = s.engines := by
  unfold State.causeOn; split <;> simp only [State.setBit_engines]
@[simp] theorem State.causeOn_mboxes (s : State) (c i src : Nat) : (s.causeOn c i src).mboxes = s.mboxes := by
  unfold State.causeOn; split <;> simp only [State.setBit_mboxes]
@[simp] theorem State.causeOn_bench (s : State) (c i src : Nat) : (s.causeOn c i src).bench = s.bench := by
  unfold State.causeOn; split <;> simp only [State.setBit_bench]
@[simp] theorem State.causeOn_clk (s : State) (c i src : Nat) : (s.causeOn c i src).clk = s.clk := by
  unfold State.causeOn; split <;> simp only [State.setBit_clk]
@[simp] theorem State.causeOn_pwr (s : State) (c i src : Nat) : (s.causeOn c i src).pwr = s.pwr := by
  unfold State.causeOn; split <;> simp only [State.setBit_pwr]
@[simp] theorem State.causeOn_touch (s : State) (c i src : Nat) : (s.causeOn c i src).touch = s.touch := by
  unfold State.causeOn; split <;> simp only [State.setBit_touch]
@[simp] theorem State.causeOn_boot (s : State) (c i src : Nat) : (s.causeOn c i src).boot = s.boot := by
  unfold State.causeOn; split <;> simp only [State.setBit_boot]
@[simp] theorem State.causeOn_devMem (s : State) (c i src : Nat) : (s.causeOn c i src).devMem = s.devMem := by
  unfold State.causeOn; split <;> simp only [State.setBit_devMem]
@[simp] theorem State.causeOn_hostMem (s : State) (c i src : Nat) : (s.causeOn c i src).hostMem = s.hostMem := by
  unfold State.causeOn; split <;> simp only [State.setBit_hostMem]
@[simp] theorem State.causeOn_parts (s : State) (c i src : Nat) : (s.causeOn c i src).parts = s.parts := by
  unfold State.causeOn; split <;> simp only [State.setBit_parts]
@[simp] theorem State.causeOn_out (s : State) (c i src : Nat) : (s.causeOn c i src).out = s.out := by
  unfold State.causeOn; split <;> simp only [State.setBit_out]
@[simp] theorem State.causeOn_units (s : State) (c i src : Nat) :
    (∀ j, (s.causeOn c i src).axis j = s.axis j) ∧ (∀ j, (s.causeOn c i src).gen j = s.gen j) ∧
    (∀ j, (s.causeOn c i src).clist j = s.clist j) ∧ (∀ j, (s.causeOn c i src).pin j = s.pin j) ∧
    (∀ j, (s.causeOn c i src).pair j = s.pair j) ∧ (∀ j, (s.causeOn c i src).trigIn j = s.trigIn j) ∧
    (∀ j, (s.causeOn c i src).lane j = s.lane j) ∧ (∀ j, (s.causeOn c i src).bond j = s.bond j) ∧
    (∀ j, (s.causeOn c i src).cam j = s.cam j) ∧ (∀ j, (s.causeOn c i src).pipe j = s.pipe j) ∧
    (∀ j, (s.causeOn c i src).asy j = s.asy j) ∧ (∀ j, (s.causeOn c i src).view j = s.view j) ∧
    (∀ j, (s.causeOn c i src).pageSlot j = s.pageSlot j) ∧ (∀ j, (s.causeOn c i src).cru j = s.cru j) ∧
    (∀ j, (s.causeOn c i src).mbox j = s.mbox j) ∧ (∀ j, (s.causeOn c i src).xferQ j = s.xferQ j) ∧
    (∀ j, (s.causeOn c i src).part j = s.part j) ∧ (∀ j, (s.causeOn c i src).chan j = s.chan j) ∧
    (∀ j, (s.causeOn c i src).engine j = s.engine j) ∧ (∀ j, (s.causeOn c i src).nbank j = s.nbank j) ∧
    (∀ i j, (s.causeOn c i src).ring i j = s.ring i j) := by
  simp only [State.axis, State.gen, State.clist, State.pin, State.pair, State.trigIn, State.lane, State.bond, State.cam, State.pipe, State.asy, State.view, State.pageSlot, State.cru, State.mbox, State.xferQ, State.part, State.chan, State.engine, State.nbank, State.ring,
    State.causeOn_axes, State.causeOn_gens, State.causeOn_lists, State.causeOn_pins, State.causeOn_pairs, State.causeOn_trigIns, State.causeOn_lanes, State.causeOn_bonds, State.causeOn_cams, State.causeOn_pipes, State.causeOn_asys, State.causeOn_views, State.causeOn_pages, State.causeOn_crus, State.causeOn_mboxes, State.causeOn_xfers, State.causeOn_parts, State.causeOn_chans, State.causeOn_engines, State.causeOn_nbanks, State.causeOn_rings, implies_true, and_self]


/-! ## causeOff -/

@[simp] theorem State.causeOff_pending (s : State) (c i src : Nat) : (s.causeOff c i src).pending = s.pending := by
  unfold State.causeOff; split <;> simp only [State.setBit_pending]
@[simp] theorem State.causeOff_devTime (s : State) (c i src : Nat) : (s.causeOff c i src).devTime = s.devTime := by
  unfold State.causeOff; split <;> simp only [State.setBit_devTime]
@[simp] theorem State.causeOff_bootGen (s : State) (c i src : Nat) : (s.causeOff c i src).bootGen = s.bootGen := by
  unfold State.causeOff; split <;> simp only [State.setBit_bootGen]
@[simp] theorem State.causeOff_freeIdx (s : State) (c i src : Nat) : (s.causeOff c i src).freeIdx = s.freeIdx := by
  unfold State.causeOff; split <;> simp only [State.setBit_freeIdx]
@[simp] theorem State.causeOff_hiLatch (s : State) (c i src : Nat) : (s.causeOff c i src).hiLatch = s.hiLatch := by
  unfold State.causeOff; split <;> simp only [State.setBit_hiLatch]
@[simp] theorem State.causeOff_tick (s : State) (c i src : Nat) : (s.causeOff c i src).tick = s.tick := by
  unfold State.causeOff; split <;> simp only [State.setBit_tick]
@[simp] theorem State.causeOff_idleT (s : State) (c i src : Nat) : (s.causeOff c i src).idleT = s.idleT := by
  unfold State.causeOff; split <;> simp only [State.setBit_idleT]
@[simp] theorem State.causeOff_slew (s : State) (c i src : Nat) : (s.causeOff c i src).slew = s.slew := by
  unfold State.causeOff; split <;> simp only [State.setBit_slew]
@[simp] theorem State.causeOff_reports (s : State) (c i src : Nat) : (s.causeOff c i src).reports = s.reports := by
  unfold State.causeOff; split <;> simp only [State.setBit_reports]
@[simp] theorem State.causeOff_events (s : State) (c i src : Nat) : (s.causeOff c i src).events = s.events := by
  unfold State.causeOff; split <;> simp only [State.setBit_events]
@[simp] theorem State.causeOff_axes (s : State) (c i src : Nat) : (s.causeOff c i src).axes = s.axes := by
  unfold State.causeOff; split <;> simp only [State.setBit_axes]
@[simp] theorem State.causeOff_gens (s : State) (c i src : Nat) : (s.causeOff c i src).gens = s.gens := by
  unfold State.causeOff; split <;> simp only [State.setBit_gens]
@[simp] theorem State.causeOff_lists (s : State) (c i src : Nat) : (s.causeOff c i src).lists = s.lists := by
  unfold State.causeOff; split <;> simp only [State.setBit_lists]
@[simp] theorem State.causeOff_pins (s : State) (c i src : Nat) : (s.causeOff c i src).pins = s.pins := by
  unfold State.causeOff; split <;> simp only [State.setBit_pins]
@[simp] theorem State.causeOff_pairs (s : State) (c i src : Nat) : (s.causeOff c i src).pairs = s.pairs := by
  unfold State.causeOff; split <;> simp only [State.setBit_pairs]
@[simp] theorem State.causeOff_trigIns (s : State) (c i src : Nat) : (s.causeOff c i src).trigIns = s.trigIns := by
  unfold State.causeOff; split <;> simp only [State.setBit_trigIns]
@[simp] theorem State.causeOff_sched (s : State) (c i src : Nat) : (s.causeOff c i src).sched = s.sched := by
  unfold State.causeOff; split <;> simp only [State.setBit_sched]
@[simp] theorem State.causeOff_lanes (s : State) (c i src : Nat) : (s.causeOff c i src).lanes = s.lanes := by
  unfold State.causeOff; split <;> simp only [State.setBit_lanes]
@[simp] theorem State.causeOff_bonds (s : State) (c i src : Nat) : (s.causeOff c i src).bonds = s.bonds := by
  unfold State.causeOff; split <;> simp only [State.setBit_bonds]
@[simp] theorem State.causeOff_cams (s : State) (c i src : Nat) : (s.causeOff c i src).cams = s.cams := by
  unfold State.causeOff; split <;> simp only [State.setBit_cams]
@[simp] theorem State.causeOff_pipes (s : State) (c i src : Nat) : (s.causeOff c i src).pipes = s.pipes := by
  unfold State.causeOff; split <;> simp only [State.setBit_pipes]
@[simp] theorem State.causeOff_asys (s : State) (c i src : Nat) : (s.causeOff c i src).asys = s.asys := by
  unfold State.causeOff; split <;> simp only [State.setBit_asys]
@[simp] theorem State.causeOff_views (s : State) (c i src : Nat) : (s.causeOff c i src).views = s.views := by
  unfold State.causeOff; split <;> simp only [State.setBit_views]
@[simp] theorem State.causeOff_pages (s : State) (c i src : Nat) : (s.causeOff c i src).pages = s.pages := by
  unfold State.causeOff; split <;> simp only [State.setBit_pages]
@[simp] theorem State.causeOff_crus (s : State) (c i src : Nat) : (s.causeOff c i src).crus = s.crus := by
  unfold State.causeOff; split <;> simp only [State.setBit_crus]
@[simp] theorem State.causeOff_rings (s : State) (c i src : Nat) : (s.causeOff c i src).rings = s.rings := by
  unfold State.causeOff; split <;> simp only [State.setBit_rings]
@[simp] theorem State.causeOff_xfers (s : State) (c i src : Nat) : (s.causeOff c i src).xfers = s.xfers := by
  unfold State.causeOff; split <;> simp only [State.setBit_xfers]
@[simp] theorem State.causeOff_host (s : State) (c i src : Nat) : (s.causeOff c i src).host = s.host := by
  unfold State.causeOff; split <;> simp only [State.setBit_host]
@[simp] theorem State.causeOff_noz (s : State) (c i src : Nat) : (s.causeOff c i src).noz = s.noz := by
  unfold State.causeOff; split <;> simp only [State.setBit_noz]
@[simp] theorem State.causeOff_nbanks (s : State) (c i src : Nat) : (s.causeOff c i src).nbanks = s.nbanks := by
  unfold State.causeOff; split <;> simp only [State.setBit_nbanks]
@[simp] theorem State.causeOff_twin (s : State) (c i src : Nat) : (s.causeOff c i src).twin = s.twin := by
  unfold State.causeOff; split <;> simp only [State.setBit_twin]
@[simp] theorem State.causeOff_memx (s : State) (c i src : Nat) : (s.causeOff c i src).memx = s.memx := by
  unfold State.causeOff; split <;> simp only [State.setBit_memx]
@[simp] theorem State.causeOff_chans (s : State) (c i src : Nat) : (s.causeOff c i src).chans = s.chans := by
  unfold State.causeOff; split <;> simp only [State.setBit_chans]
@[simp] theorem State.causeOff_engines (s : State) (c i src : Nat) : (s.causeOff c i src).engines = s.engines := by
  unfold State.causeOff; split <;> simp only [State.setBit_engines]
@[simp] theorem State.causeOff_mboxes (s : State) (c i src : Nat) : (s.causeOff c i src).mboxes = s.mboxes := by
  unfold State.causeOff; split <;> simp only [State.setBit_mboxes]
@[simp] theorem State.causeOff_bench (s : State) (c i src : Nat) : (s.causeOff c i src).bench = s.bench := by
  unfold State.causeOff; split <;> simp only [State.setBit_bench]
@[simp] theorem State.causeOff_clk (s : State) (c i src : Nat) : (s.causeOff c i src).clk = s.clk := by
  unfold State.causeOff; split <;> simp only [State.setBit_clk]
@[simp] theorem State.causeOff_pwr (s : State) (c i src : Nat) : (s.causeOff c i src).pwr = s.pwr := by
  unfold State.causeOff; split <;> simp only [State.setBit_pwr]
@[simp] theorem State.causeOff_boot (s : State) (c i src : Nat) : (s.causeOff c i src).boot = s.boot := by
  unfold State.causeOff; split <;> simp only [State.setBit_boot]
@[simp] theorem State.causeOff_devMem (s : State) (c i src : Nat) : (s.causeOff c i src).devMem = s.devMem := by
  unfold State.causeOff; split <;> simp only [State.setBit_devMem]
@[simp] theorem State.causeOff_hostMem (s : State) (c i src : Nat) : (s.causeOff c i src).hostMem = s.hostMem := by
  unfold State.causeOff; split <;> simp only [State.setBit_hostMem]
@[simp] theorem State.causeOff_parts (s : State) (c i src : Nat) : (s.causeOff c i src).parts = s.parts := by
  unfold State.causeOff; split <;> simp only [State.setBit_parts]
@[simp] theorem State.causeOff_out (s : State) (c i src : Nat) : (s.causeOff c i src).out = s.out := by
  unfold State.causeOff; split <;> simp only [State.setBit_out]
@[simp] theorem State.causeOff_units (s : State) (c i src : Nat) :
    (∀ j, (s.causeOff c i src).axis j = s.axis j) ∧ (∀ j, (s.causeOff c i src).gen j = s.gen j) ∧
    (∀ j, (s.causeOff c i src).clist j = s.clist j) ∧ (∀ j, (s.causeOff c i src).pin j = s.pin j) ∧
    (∀ j, (s.causeOff c i src).pair j = s.pair j) ∧ (∀ j, (s.causeOff c i src).trigIn j = s.trigIn j) ∧
    (∀ j, (s.causeOff c i src).lane j = s.lane j) ∧ (∀ j, (s.causeOff c i src).bond j = s.bond j) ∧
    (∀ j, (s.causeOff c i src).cam j = s.cam j) ∧ (∀ j, (s.causeOff c i src).pipe j = s.pipe j) ∧
    (∀ j, (s.causeOff c i src).asy j = s.asy j) ∧ (∀ j, (s.causeOff c i src).view j = s.view j) ∧
    (∀ j, (s.causeOff c i src).pageSlot j = s.pageSlot j) ∧ (∀ j, (s.causeOff c i src).cru j = s.cru j) ∧
    (∀ j, (s.causeOff c i src).mbox j = s.mbox j) ∧ (∀ j, (s.causeOff c i src).xferQ j = s.xferQ j) ∧
    (∀ j, (s.causeOff c i src).part j = s.part j) ∧ (∀ j, (s.causeOff c i src).chan j = s.chan j) ∧
    (∀ j, (s.causeOff c i src).engine j = s.engine j) ∧ (∀ j, (s.causeOff c i src).nbank j = s.nbank j) ∧
    (∀ i j, (s.causeOff c i src).ring i j = s.ring i j) := by
  simp only [State.axis, State.gen, State.clist, State.pin, State.pair, State.trigIn, State.lane, State.bond, State.cam, State.pipe, State.asy, State.view, State.pageSlot, State.cru, State.mbox, State.xferQ, State.part, State.chan, State.engine, State.nbank, State.ring,
    State.causeOff_axes, State.causeOff_gens, State.causeOff_lists, State.causeOff_pins, State.causeOff_pairs, State.causeOff_trigIns, State.causeOff_lanes, State.causeOff_bonds, State.causeOff_cams, State.causeOff_pipes, State.causeOff_asys, State.causeOff_views, State.causeOff_pages, State.causeOff_crus, State.causeOff_mboxes, State.causeOff_xfers, State.causeOff_parts, State.causeOff_chans, State.causeOff_engines, State.causeOff_nbanks, State.causeOff_rings, implies_true, and_self]


/-! ## faultState -/

@[simp] theorem State.faultState_pending (s : State) (c i src level : Nat) : (s.faultState c i src level).pending = s.pending := by
  unfold State.faultState; split <;> simp only [State.causeOn_pending, State.fault_pending]
@[simp] theorem State.faultState_devTime (s : State) (c i src level : Nat) : (s.faultState c i src level).devTime = s.devTime := by
  unfold State.faultState; split <;> simp only [State.causeOn_devTime, State.fault_devTime]
@[simp] theorem State.faultState_bootGen (s : State) (c i src level : Nat) : (s.faultState c i src level).bootGen = s.bootGen := by
  unfold State.faultState; split <;> simp only [State.causeOn_bootGen, State.fault_bootGen]
@[simp] theorem State.faultState_freeIdx (s : State) (c i src level : Nat) : (s.faultState c i src level).freeIdx = s.freeIdx := by
  unfold State.faultState; split <;> simp only [State.causeOn_freeIdx, State.fault_freeIdx]
@[simp] theorem State.faultState_hiLatch (s : State) (c i src level : Nat) : (s.faultState c i src level).hiLatch = s.hiLatch := by
  unfold State.faultState; split <;> simp only [State.causeOn_hiLatch, State.fault_hiLatch]
@[simp] theorem State.faultState_tick (s : State) (c i src level : Nat) : (s.faultState c i src level).tick = s.tick := by
  unfold State.faultState; split <;> simp only [State.causeOn_tick, State.fault_tick]
@[simp] theorem State.faultState_idleT (s : State) (c i src level : Nat) : (s.faultState c i src level).idleT = s.idleT := by
  unfold State.faultState; split <;> simp only [State.causeOn_idleT, State.fault_idleT]
@[simp] theorem State.faultState_slew (s : State) (c i src level : Nat) : (s.faultState c i src level).slew = s.slew := by
  unfold State.faultState; split <;> simp only [State.causeOn_slew, State.fault_slew]
@[simp] theorem State.faultState_expls (s : State) (c i src level : Nat) : (s.faultState c i src level).expls = s.expls := by
  unfold State.faultState; split <;> simp only [State.causeOn_expls, State.fault_expls]
@[simp] theorem State.faultState_events (s : State) (c i src level : Nat) : (s.faultState c i src level).events = s.events := by
  unfold State.faultState; split <;> simp only [State.causeOn_events, State.fault_events]
@[simp] theorem State.faultState_axes (s : State) (c i src level : Nat) : (s.faultState c i src level).axes = s.axes := by
  unfold State.faultState; split <;> simp only [State.causeOn_axes, State.fault_axes]
@[simp] theorem State.faultState_gens (s : State) (c i src level : Nat) : (s.faultState c i src level).gens = s.gens := by
  unfold State.faultState; split <;> simp only [State.causeOn_gens, State.fault_gens]
@[simp] theorem State.faultState_lists (s : State) (c i src level : Nat) : (s.faultState c i src level).lists = s.lists := by
  unfold State.faultState; split <;> simp only [State.causeOn_lists, State.fault_lists]
@[simp] theorem State.faultState_pins (s : State) (c i src level : Nat) : (s.faultState c i src level).pins = s.pins := by
  unfold State.faultState; split <;> simp only [State.causeOn_pins, State.fault_pins]
@[simp] theorem State.faultState_pairs (s : State) (c i src level : Nat) : (s.faultState c i src level).pairs = s.pairs := by
  unfold State.faultState; split <;> simp only [State.causeOn_pairs, State.fault_pairs]
@[simp] theorem State.faultState_trigIns (s : State) (c i src level : Nat) : (s.faultState c i src level).trigIns = s.trigIns := by
  unfold State.faultState; split <;> simp only [State.causeOn_trigIns, State.fault_trigIns]
@[simp] theorem State.faultState_sched (s : State) (c i src level : Nat) : (s.faultState c i src level).sched = s.sched := by
  unfold State.faultState; split <;> simp only [State.causeOn_sched, State.fault_sched]
@[simp] theorem State.faultState_lanes (s : State) (c i src level : Nat) : (s.faultState c i src level).lanes = s.lanes := by
  unfold State.faultState; split <;> simp only [State.causeOn_lanes, State.fault_lanes]
@[simp] theorem State.faultState_bonds (s : State) (c i src level : Nat) : (s.faultState c i src level).bonds = s.bonds := by
  unfold State.faultState; split <;> simp only [State.causeOn_bonds, State.fault_bonds]
@[simp] theorem State.faultState_cams (s : State) (c i src level : Nat) : (s.faultState c i src level).cams = s.cams := by
  unfold State.faultState; split <;> simp only [State.causeOn_cams, State.fault_cams]
@[simp] theorem State.faultState_pipes (s : State) (c i src level : Nat) : (s.faultState c i src level).pipes = s.pipes := by
  unfold State.faultState; split <;> simp only [State.causeOn_pipes, State.fault_pipes]
@[simp] theorem State.faultState_asys (s : State) (c i src level : Nat) : (s.faultState c i src level).asys = s.asys := by
  unfold State.faultState; split <;> simp only [State.causeOn_asys, State.fault_asys]
@[simp] theorem State.faultState_views (s : State) (c i src level : Nat) : (s.faultState c i src level).views = s.views := by
  unfold State.faultState; split <;> simp only [State.causeOn_views, State.fault_views]
@[simp] theorem State.faultState_pages (s : State) (c i src level : Nat) : (s.faultState c i src level).pages = s.pages := by
  unfold State.faultState; split <;> simp only [State.causeOn_pages, State.fault_pages]
@[simp] theorem State.faultState_crus (s : State) (c i src level : Nat) : (s.faultState c i src level).crus = s.crus := by
  unfold State.faultState; split <;> simp only [State.causeOn_crus, State.fault_crus]
@[simp] theorem State.faultState_rings (s : State) (c i src level : Nat) : (s.faultState c i src level).rings = s.rings := by
  unfold State.faultState; split <;> simp only [State.causeOn_rings, State.fault_rings]
@[simp] theorem State.faultState_xfers (s : State) (c i src level : Nat) : (s.faultState c i src level).xfers = s.xfers := by
  unfold State.faultState; split <;> simp only [State.causeOn_xfers, State.fault_xfers]
@[simp] theorem State.faultState_host (s : State) (c i src level : Nat) : (s.faultState c i src level).host = s.host := by
  unfold State.faultState; split <;> simp only [State.causeOn_host, State.fault_host]
@[simp] theorem State.faultState_noz (s : State) (c i src level : Nat) : (s.faultState c i src level).noz = s.noz := by
  unfold State.faultState; split <;> simp only [State.causeOn_noz, State.fault_noz]
@[simp] theorem State.faultState_nbanks (s : State) (c i src level : Nat) : (s.faultState c i src level).nbanks = s.nbanks := by
  unfold State.faultState; split <;> simp only [State.causeOn_nbanks, State.fault_nbanks]
@[simp] theorem State.faultState_twin (s : State) (c i src level : Nat) : (s.faultState c i src level).twin = s.twin := by
  unfold State.faultState; split <;> simp only [State.causeOn_twin, State.fault_twin]
@[simp] theorem State.faultState_memx (s : State) (c i src level : Nat) : (s.faultState c i src level).memx = s.memx := by
  unfold State.faultState; split <;> simp only [State.causeOn_memx, State.fault_memx]
@[simp] theorem State.faultState_chans (s : State) (c i src level : Nat) : (s.faultState c i src level).chans = s.chans := by
  unfold State.faultState; split <;> simp only [State.causeOn_chans, State.fault_chans]
@[simp] theorem State.faultState_engines (s : State) (c i src level : Nat) : (s.faultState c i src level).engines = s.engines := by
  unfold State.faultState; split <;> simp only [State.causeOn_engines, State.fault_engines]
@[simp] theorem State.faultState_mboxes (s : State) (c i src level : Nat) : (s.faultState c i src level).mboxes = s.mboxes := by
  unfold State.faultState; split <;> simp only [State.causeOn_mboxes, State.fault_mboxes]
@[simp] theorem State.faultState_bench (s : State) (c i src level : Nat) : (s.faultState c i src level).bench = s.bench := by
  unfold State.faultState; split <;> simp only [State.causeOn_bench, State.fault_bench]
@[simp] theorem State.faultState_clk (s : State) (c i src level : Nat) : (s.faultState c i src level).clk = s.clk := by
  unfold State.faultState; split <;> simp only [State.causeOn_clk, State.fault_clk]
@[simp] theorem State.faultState_pwr (s : State) (c i src level : Nat) : (s.faultState c i src level).pwr = s.pwr := by
  unfold State.faultState; split <;> simp only [State.causeOn_pwr, State.fault_pwr]
@[simp] theorem State.faultState_touch (s : State) (c i src level : Nat) : (s.faultState c i src level).touch = s.touch := by
  unfold State.faultState; split <;> simp only [State.causeOn_touch, State.fault_touch]
@[simp] theorem State.faultState_boot (s : State) (c i src level : Nat) : (s.faultState c i src level).boot = s.boot := by
  unfold State.faultState; split <;> simp only [State.causeOn_boot, State.fault_boot]
@[simp] theorem State.faultState_devMem (s : State) (c i src level : Nat) : (s.faultState c i src level).devMem = s.devMem := by
  unfold State.faultState; split <;> simp only [State.causeOn_devMem, State.fault_devMem]
@[simp] theorem State.faultState_hostMem (s : State) (c i src level : Nat) : (s.faultState c i src level).hostMem = s.hostMem := by
  unfold State.faultState; split <;> simp only [State.causeOn_hostMem, State.fault_hostMem]
@[simp] theorem State.faultState_parts (s : State) (c i src level : Nat) : (s.faultState c i src level).parts = s.parts := by
  unfold State.faultState; split <;> simp only [State.causeOn_parts, State.fault_parts]
@[simp] theorem State.faultState_out (s : State) (c i src level : Nat) : (s.faultState c i src level).out = s.out := by
  unfold State.faultState; split <;> simp only [State.causeOn_out, State.fault_out]
@[simp] theorem State.faultState_units (s : State) (c i src level : Nat) :
    (∀ j, (s.faultState c i src level).axis j = s.axis j) ∧ (∀ j, (s.faultState c i src level).gen j = s.gen j) ∧
    (∀ j, (s.faultState c i src level).clist j = s.clist j) ∧ (∀ j, (s.faultState c i src level).pin j = s.pin j) ∧
    (∀ j, (s.faultState c i src level).pair j = s.pair j) ∧
    (∀ j, (s.faultState c i src level).trigIn j = s.trigIn j) ∧
    (∀ j, (s.faultState c i src level).lane j = s.lane j) ∧ (∀ j, (s.faultState c i src level).bond j = s.bond j) ∧
    (∀ j, (s.faultState c i src level).cam j = s.cam j) ∧ (∀ j, (s.faultState c i src level).pipe j = s.pipe j) ∧
    (∀ j, (s.faultState c i src level).asy j = s.asy j) ∧ (∀ j, (s.faultState c i src level).view j = s.view j) ∧
    (∀ j, (s.faultState c i src level).pageSlot j = s.pageSlot j) ∧
    (∀ j, (s.faultState c i src level).cru j = s.cru j) ∧ (∀ j, (s.faultState c i src level).mbox j = s.mbox j) ∧
    (∀ j, (s.faultState c i src level).xferQ j = s.xferQ j) ∧ (∀ j, (s.faultState c i src level).part j = s.part j) ∧
    (∀ j, (s.faultState c i src level).chan j = s.chan j) ∧
    (∀ j, (s.faultState c i src level).engine j = s.engine j) ∧
    (∀ j, (s.faultState c i src level).nbank j = s.nbank j) ∧
    (∀ i j, (s.faultState c i src level).ring i j = s.ring i j) := by
  simp only [State.axis, State.gen, State.clist, State.pin, State.pair, State.trigIn, State.lane, State.bond, State.cam, State.pipe, State.asy, State.view, State.pageSlot, State.cru, State.mbox, State.xferQ, State.part, State.chan, State.engine, State.nbank, State.ring,
    State.faultState_axes, State.faultState_gens, State.faultState_lists, State.faultState_pins, State.faultState_pairs, State.faultState_trigIns, State.faultState_lanes, State.faultState_bonds, State.faultState_cams, State.faultState_pipes, State.faultState_asys, State.faultState_views, State.faultState_pages, State.faultState_crus, State.faultState_mboxes, State.faultState_xfers, State.faultState_parts, State.faultState_chans, State.faultState_engines, State.faultState_nbanks, State.faultState_rings, implies_true, and_self]


/-! ## noteGated -/

@[simp] theorem State.noteGated_pending (s : State) (f off unit : Nat) (w : Bool) : (s.noteGated f off unit w).pending = s.pending := id rfl
@[simp] theorem State.noteGated_devTime (s : State) (f off unit : Nat) (w : Bool) : (s.noteGated f off unit w).devTime = s.devTime := id rfl
@[simp] theorem State.noteGated_bootGen (s : State) (f off unit : Nat) (w : Bool) : (s.noteGated f off unit w).bootGen = s.bootGen := id rfl
@[simp] theorem State.noteGated_freeIdx (s : State) (f off unit : Nat) (w : Bool) : (s.noteGated f off unit w).freeIdx = s.freeIdx := id rfl
@[simp] theorem State.noteGated_regs (s : State) (f off unit : Nat) (w : Bool) : (s.noteGated f off unit w).regs = s.regs := id rfl
@[simp] theorem State.noteGated_hiLatch (s : State) (f off unit : Nat) (w : Bool) : (s.noteGated f off unit w).hiLatch = s.hiLatch := id rfl
@[simp] theorem State.noteGated_tick (s : State) (f off unit : Nat) (w : Bool) : (s.noteGated f off unit w).tick = s.tick := id rfl
@[simp] theorem State.noteGated_idleT (s : State) (f off unit : Nat) (w : Bool) : (s.noteGated f off unit w).idleT = s.idleT := id rfl
@[simp] theorem State.noteGated_slew (s : State) (f off unit : Nat) (w : Bool) : (s.noteGated f off unit w).slew = s.slew := id rfl
@[simp] theorem State.noteGated_causes (s : State) (f off unit : Nat) (w : Bool) : (s.noteGated f off unit w).causes = s.causes := id rfl
@[simp] theorem State.noteGated_expls (s : State) (f off unit : Nat) (w : Bool) : (s.noteGated f off unit w).expls = s.expls := id rfl
@[simp] theorem State.noteGated_events (s : State) (f off unit : Nat) (w : Bool) : (s.noteGated f off unit w).events = s.events := id rfl
@[simp] theorem State.noteGated_axes (s : State) (f off unit : Nat) (w : Bool) : (s.noteGated f off unit w).axes = s.axes := id rfl
@[simp] theorem State.noteGated_gens (s : State) (f off unit : Nat) (w : Bool) : (s.noteGated f off unit w).gens = s.gens := id rfl
@[simp] theorem State.noteGated_lists (s : State) (f off unit : Nat) (w : Bool) : (s.noteGated f off unit w).lists = s.lists := id rfl
@[simp] theorem State.noteGated_pins (s : State) (f off unit : Nat) (w : Bool) : (s.noteGated f off unit w).pins = s.pins := id rfl
@[simp] theorem State.noteGated_pairs (s : State) (f off unit : Nat) (w : Bool) : (s.noteGated f off unit w).pairs = s.pairs := id rfl
@[simp] theorem State.noteGated_trigIns (s : State) (f off unit : Nat) (w : Bool) : (s.noteGated f off unit w).trigIns = s.trigIns := id rfl
@[simp] theorem State.noteGated_sched (s : State) (f off unit : Nat) (w : Bool) : (s.noteGated f off unit w).sched = s.sched := id rfl
@[simp] theorem State.noteGated_lanes (s : State) (f off unit : Nat) (w : Bool) : (s.noteGated f off unit w).lanes = s.lanes := id rfl
@[simp] theorem State.noteGated_bonds (s : State) (f off unit : Nat) (w : Bool) : (s.noteGated f off unit w).bonds = s.bonds := id rfl
@[simp] theorem State.noteGated_cams (s : State) (f off unit : Nat) (w : Bool) : (s.noteGated f off unit w).cams = s.cams := id rfl
@[simp] theorem State.noteGated_pipes (s : State) (f off unit : Nat) (w : Bool) : (s.noteGated f off unit w).pipes = s.pipes := id rfl
@[simp] theorem State.noteGated_asys (s : State) (f off unit : Nat) (w : Bool) : (s.noteGated f off unit w).asys = s.asys := id rfl
@[simp] theorem State.noteGated_views (s : State) (f off unit : Nat) (w : Bool) : (s.noteGated f off unit w).views = s.views := id rfl
@[simp] theorem State.noteGated_pages (s : State) (f off unit : Nat) (w : Bool) : (s.noteGated f off unit w).pages = s.pages := id rfl
@[simp] theorem State.noteGated_crus (s : State) (f off unit : Nat) (w : Bool) : (s.noteGated f off unit w).crus = s.crus := id rfl
@[simp] theorem State.noteGated_rings (s : State) (f off unit : Nat) (w : Bool) : (s.noteGated f off unit w).rings = s.rings := id rfl
@[simp] theorem State.noteGated_xfers (s : State) (f off unit : Nat) (w : Bool) : (s.noteGated f off unit w).xfers = s.xfers := id rfl
@[simp] theorem State.noteGated_host (s : State) (f off unit : Nat) (w : Bool) : (s.noteGated f off unit w).host = s.host := id rfl
@[simp] theorem State.noteGated_noz (s : State) (f off unit : Nat) (w : Bool) : (s.noteGated f off unit w).noz = s.noz := id rfl
@[simp] theorem State.noteGated_nbanks (s : State) (f off unit : Nat) (w : Bool) : (s.noteGated f off unit w).nbanks = s.nbanks := id rfl
@[simp] theorem State.noteGated_twin (s : State) (f off unit : Nat) (w : Bool) : (s.noteGated f off unit w).twin = s.twin := id rfl
@[simp] theorem State.noteGated_memx (s : State) (f off unit : Nat) (w : Bool) : (s.noteGated f off unit w).memx = s.memx := id rfl
@[simp] theorem State.noteGated_chans (s : State) (f off unit : Nat) (w : Bool) : (s.noteGated f off unit w).chans = s.chans := id rfl
@[simp] theorem State.noteGated_engines (s : State) (f off unit : Nat) (w : Bool) : (s.noteGated f off unit w).engines = s.engines := id rfl
@[simp] theorem State.noteGated_mboxes (s : State) (f off unit : Nat) (w : Bool) : (s.noteGated f off unit w).mboxes = s.mboxes := id rfl
@[simp] theorem State.noteGated_bench (s : State) (f off unit : Nat) (w : Bool) : (s.noteGated f off unit w).bench = s.bench := id rfl
@[simp] theorem State.noteGated_clk (s : State) (f off unit : Nat) (w : Bool) : (s.noteGated f off unit w).clk = s.clk := id rfl
@[simp] theorem State.noteGated_pwr (s : State) (f off unit : Nat) (w : Bool) : (s.noteGated f off unit w).pwr = s.pwr := id rfl
@[simp] theorem State.noteGated_touch (s : State) (f off unit : Nat) (w : Bool) : (s.noteGated f off unit w).touch = s.touch := id rfl
@[simp] theorem State.noteGated_boot (s : State) (f off unit : Nat) (w : Bool) : (s.noteGated f off unit w).boot = s.boot := id rfl
@[simp] theorem State.noteGated_devMem (s : State) (f off unit : Nat) (w : Bool) : (s.noteGated f off unit w).devMem = s.devMem := id rfl
@[simp] theorem State.noteGated_hostMem (s : State) (f off unit : Nat) (w : Bool) : (s.noteGated f off unit w).hostMem = s.hostMem := id rfl
@[simp] theorem State.noteGated_parts (s : State) (f off unit : Nat) (w : Bool) : (s.noteGated f off unit w).parts = s.parts := id rfl
@[simp] theorem State.noteGated_out (s : State) (f off unit : Nat) (w : Bool) : (s.noteGated f off unit w).out = s.out := id rfl
@[simp] theorem State.noteGated_units (s : State) (f off unit : Nat) (w : Bool) :
    (∀ j, (s.noteGated f off unit w).axis j = s.axis j) ∧ (∀ j, (s.noteGated f off unit w).gen j = s.gen j) ∧
    (∀ j, (s.noteGated f off unit w).clist j = s.clist j) ∧ (∀ j, (s.noteGated f off unit w).pin j = s.pin j) ∧
    (∀ j, (s.noteGated f off unit w).pair j = s.pair j) ∧ (∀ j, (s.noteGated f off unit w).trigIn j = s.trigIn j) ∧
    (∀ j, (s.noteGated f off unit w).lane j = s.lane j) ∧ (∀ j, (s.noteGated f off unit w).bond j = s.bond j) ∧
    (∀ j, (s.noteGated f off unit w).cam j = s.cam j) ∧ (∀ j, (s.noteGated f off unit w).pipe j = s.pipe j) ∧
    (∀ j, (s.noteGated f off unit w).asy j = s.asy j) ∧ (∀ j, (s.noteGated f off unit w).view j = s.view j) ∧
    (∀ j, (s.noteGated f off unit w).pageSlot j = s.pageSlot j) ∧ (∀ j, (s.noteGated f off unit w).cru j = s.cru j) ∧
    (∀ j, (s.noteGated f off unit w).mbox j = s.mbox j) ∧ (∀ j, (s.noteGated f off unit w).xferQ j = s.xferQ j) ∧
    (∀ j, (s.noteGated f off unit w).part j = s.part j) ∧ (∀ j, (s.noteGated f off unit w).chan j = s.chan j) ∧
    (∀ j, (s.noteGated f off unit w).engine j = s.engine j) ∧ (∀ j, (s.noteGated f off unit w).nbank j = s.nbank j) ∧
    (∀ i j, (s.noteGated f off unit w).ring i j = s.ring i j) := by
  simp only [State.axis, State.gen, State.clist, State.pin, State.pair, State.trigIn, State.lane, State.bond, State.cam, State.pipe, State.asy, State.view, State.pageSlot, State.cru, State.mbox, State.xferQ, State.part, State.chan, State.engine, State.nbank, State.ring,
    State.noteGated_axes, State.noteGated_gens, State.noteGated_lists, State.noteGated_pins, State.noteGated_pairs, State.noteGated_trigIns, State.noteGated_lanes, State.noteGated_bonds, State.noteGated_cams, State.noteGated_pipes, State.noteGated_asys, State.noteGated_views, State.noteGated_pages, State.noteGated_crus, State.noteGated_mboxes, State.noteGated_xfers, State.noteGated_parts, State.noteGated_chans, State.noteGated_engines, State.noteGated_nbanks, State.noteGated_rings, implies_true, and_self]

@[simp] theorem State.noteGated_rd (s : State) (f off unit : Nat) (w : Bool) (j : Nat) : (s.noteGated f off unit w).rd j = s.rd j := by
  simp [State.rd]

/-! ## noteLocked -/

@[simp] theorem State.noteLocked_pending (s : State) (u : LockId) : (s.noteLocked u).pending = s.pending := id rfl
@[simp] theorem State.noteLocked_devTime (s : State) (u : LockId) : (s.noteLocked u).devTime = s.devTime := id rfl
@[simp] theorem State.noteLocked_bootGen (s : State) (u : LockId) : (s.noteLocked u).bootGen = s.bootGen := id rfl
@[simp] theorem State.noteLocked_freeIdx (s : State) (u : LockId) : (s.noteLocked u).freeIdx = s.freeIdx := id rfl
@[simp] theorem State.noteLocked_regs (s : State) (u : LockId) : (s.noteLocked u).regs = s.regs := id rfl
@[simp] theorem State.noteLocked_hiLatch (s : State) (u : LockId) : (s.noteLocked u).hiLatch = s.hiLatch := id rfl
@[simp] theorem State.noteLocked_tick (s : State) (u : LockId) : (s.noteLocked u).tick = s.tick := id rfl
@[simp] theorem State.noteLocked_idleT (s : State) (u : LockId) : (s.noteLocked u).idleT = s.idleT := id rfl
@[simp] theorem State.noteLocked_slew (s : State) (u : LockId) : (s.noteLocked u).slew = s.slew := id rfl
@[simp] theorem State.noteLocked_causes (s : State) (u : LockId) : (s.noteLocked u).causes = s.causes := id rfl
@[simp] theorem State.noteLocked_expls (s : State) (u : LockId) : (s.noteLocked u).expls = s.expls := id rfl
@[simp] theorem State.noteLocked_events (s : State) (u : LockId) : (s.noteLocked u).events = s.events := id rfl
@[simp] theorem State.noteLocked_axes (s : State) (u : LockId) : (s.noteLocked u).axes = s.axes := id rfl
@[simp] theorem State.noteLocked_gens (s : State) (u : LockId) : (s.noteLocked u).gens = s.gens := id rfl
@[simp] theorem State.noteLocked_lists (s : State) (u : LockId) : (s.noteLocked u).lists = s.lists := id rfl
@[simp] theorem State.noteLocked_pins (s : State) (u : LockId) : (s.noteLocked u).pins = s.pins := id rfl
@[simp] theorem State.noteLocked_pairs (s : State) (u : LockId) : (s.noteLocked u).pairs = s.pairs := id rfl
@[simp] theorem State.noteLocked_trigIns (s : State) (u : LockId) : (s.noteLocked u).trigIns = s.trigIns := id rfl
@[simp] theorem State.noteLocked_sched (s : State) (u : LockId) : (s.noteLocked u).sched = s.sched := id rfl
@[simp] theorem State.noteLocked_lanes (s : State) (u : LockId) : (s.noteLocked u).lanes = s.lanes := id rfl
@[simp] theorem State.noteLocked_bonds (s : State) (u : LockId) : (s.noteLocked u).bonds = s.bonds := id rfl
@[simp] theorem State.noteLocked_cams (s : State) (u : LockId) : (s.noteLocked u).cams = s.cams := id rfl
@[simp] theorem State.noteLocked_pipes (s : State) (u : LockId) : (s.noteLocked u).pipes = s.pipes := id rfl
@[simp] theorem State.noteLocked_asys (s : State) (u : LockId) : (s.noteLocked u).asys = s.asys := id rfl
@[simp] theorem State.noteLocked_views (s : State) (u : LockId) : (s.noteLocked u).views = s.views := id rfl
@[simp] theorem State.noteLocked_pages (s : State) (u : LockId) : (s.noteLocked u).pages = s.pages := id rfl
@[simp] theorem State.noteLocked_crus (s : State) (u : LockId) : (s.noteLocked u).crus = s.crus := id rfl
@[simp] theorem State.noteLocked_rings (s : State) (u : LockId) : (s.noteLocked u).rings = s.rings := id rfl
@[simp] theorem State.noteLocked_xfers (s : State) (u : LockId) : (s.noteLocked u).xfers = s.xfers := id rfl
@[simp] theorem State.noteLocked_host (s : State) (u : LockId) : (s.noteLocked u).host = s.host := id rfl
@[simp] theorem State.noteLocked_noz (s : State) (u : LockId) : (s.noteLocked u).noz = s.noz := id rfl
@[simp] theorem State.noteLocked_nbanks (s : State) (u : LockId) : (s.noteLocked u).nbanks = s.nbanks := id rfl
@[simp] theorem State.noteLocked_twin (s : State) (u : LockId) : (s.noteLocked u).twin = s.twin := id rfl
@[simp] theorem State.noteLocked_memx (s : State) (u : LockId) : (s.noteLocked u).memx = s.memx := id rfl
@[simp] theorem State.noteLocked_chans (s : State) (u : LockId) : (s.noteLocked u).chans = s.chans := id rfl
@[simp] theorem State.noteLocked_engines (s : State) (u : LockId) : (s.noteLocked u).engines = s.engines := id rfl
@[simp] theorem State.noteLocked_mboxes (s : State) (u : LockId) : (s.noteLocked u).mboxes = s.mboxes := id rfl
@[simp] theorem State.noteLocked_bench (s : State) (u : LockId) : (s.noteLocked u).bench = s.bench := id rfl
@[simp] theorem State.noteLocked_clk (s : State) (u : LockId) : (s.noteLocked u).clk = s.clk := id rfl
@[simp] theorem State.noteLocked_pwr (s : State) (u : LockId) : (s.noteLocked u).pwr = s.pwr := id rfl
@[simp] theorem State.noteLocked_touch (s : State) (u : LockId) : (s.noteLocked u).touch = s.touch := id rfl
@[simp] theorem State.noteLocked_boot (s : State) (u : LockId) : (s.noteLocked u).boot = s.boot := id rfl
@[simp] theorem State.noteLocked_devMem (s : State) (u : LockId) : (s.noteLocked u).devMem = s.devMem := id rfl
@[simp] theorem State.noteLocked_hostMem (s : State) (u : LockId) : (s.noteLocked u).hostMem = s.hostMem := id rfl
@[simp] theorem State.noteLocked_parts (s : State) (u : LockId) : (s.noteLocked u).parts = s.parts := id rfl
@[simp] theorem State.noteLocked_out (s : State) (u : LockId) : (s.noteLocked u).out = s.out := id rfl
@[simp] theorem State.noteLocked_units (s : State) (u : LockId) :
    (∀ j, (s.noteLocked u).axis j = s.axis j) ∧ (∀ j, (s.noteLocked u).gen j = s.gen j) ∧
    (∀ j, (s.noteLocked u).clist j = s.clist j) ∧ (∀ j, (s.noteLocked u).pin j = s.pin j) ∧
    (∀ j, (s.noteLocked u).pair j = s.pair j) ∧ (∀ j, (s.noteLocked u).trigIn j = s.trigIn j) ∧
    (∀ j, (s.noteLocked u).lane j = s.lane j) ∧ (∀ j, (s.noteLocked u).bond j = s.bond j) ∧
    (∀ j, (s.noteLocked u).cam j = s.cam j) ∧ (∀ j, (s.noteLocked u).pipe j = s.pipe j) ∧
    (∀ j, (s.noteLocked u).asy j = s.asy j) ∧ (∀ j, (s.noteLocked u).view j = s.view j) ∧
    (∀ j, (s.noteLocked u).pageSlot j = s.pageSlot j) ∧ (∀ j, (s.noteLocked u).cru j = s.cru j) ∧
    (∀ j, (s.noteLocked u).mbox j = s.mbox j) ∧ (∀ j, (s.noteLocked u).xferQ j = s.xferQ j) ∧
    (∀ j, (s.noteLocked u).part j = s.part j) ∧ (∀ j, (s.noteLocked u).chan j = s.chan j) ∧
    (∀ j, (s.noteLocked u).engine j = s.engine j) ∧ (∀ j, (s.noteLocked u).nbank j = s.nbank j) ∧
    (∀ i j, (s.noteLocked u).ring i j = s.ring i j) := by
  simp only [State.axis, State.gen, State.clist, State.pin, State.pair, State.trigIn, State.lane, State.bond, State.cam, State.pipe, State.asy, State.view, State.pageSlot, State.cru, State.mbox, State.xferQ, State.part, State.chan, State.engine, State.nbank, State.ring,
    State.noteLocked_axes, State.noteLocked_gens, State.noteLocked_lists, State.noteLocked_pins, State.noteLocked_pairs, State.noteLocked_trigIns, State.noteLocked_lanes, State.noteLocked_bonds, State.noteLocked_cams, State.noteLocked_pipes, State.noteLocked_asys, State.noteLocked_views, State.noteLocked_pages, State.noteLocked_crus, State.noteLocked_mboxes, State.noteLocked_xfers, State.noteLocked_parts, State.noteLocked_chans, State.noteLocked_engines, State.noteLocked_nbanks, State.noteLocked_rings, implies_true, and_self]

@[simp] theorem State.noteLocked_rd (s : State) (u : LockId) (j : Nat) : (s.noteLocked u).rd j = s.rd j := by
  simp [State.rd]

/-! ## Registers that flags write -/

theorem not_irqKey_ne {j : Nat} (h : ¬ irqKey j) {n : Nat} (hn : n < 320) : j ≠ Reg.IRQ_ASSERT (n / 32) := by
  intro e; apply h; left; simp only [e, Reg.IRQ_ASSERT]; omega

theorem not_irqKey_ne_pba {j : Nat} (h : ¬ irqKey j) {v : Nat} (hv : v < 2048) : j ≠ Reg.PBA 0 (v / 32) := by
  intro e; apply h; right; simp only [e, Reg.PBA, Reg.fnBase]; omega

theorem State.rd_sendVec (s : State) (v j : Nat) (hv : v < 2048) (h : ¬ irqKey j) : (s.sendVec 0 v).rd j = s.rd j := by
  have := not_irqKey_ne_pba h hv
  unfold State.sendVec
  split
  · split <;> simp [this]
  · rfl

theorem State.rd_irqUpdate (s : State) (n j : Nat) (w : Bool) (hn : n < 320) (h : ¬ irqKey j) :
    (s.irqUpdate n w).rd j = s.rd j := by
  have h1 := not_irqKey_ne h hn
  unfold State.irqUpdate
  dsimp only
  split
  · rw [State.rd_sendVec _ _ _ (fldOf_lt _ _ _) h]; simp [h1]
  · simp [h1]

/-- Setting an interrupt flag writes that flag, IRQ_ASSERT and the pending bits of function 0, and no other register. -/
theorem State.rd_irq (s : State) (k n i j : Nat) (hn : n < 320) (h : ¬ irqKey j) :
    (s.irq k n i).rd j = if j = k then putFld (s.rd k) i 1 (b2n true) else s.rd j := by
  unfold State.irq
  rw [State.noteFlag_rd, State.rd_irqUpdate _ _ _ _ hn h]; simp

/-! ## Frames -/

theorem Same.refl (l : List Area) (s : State) : Same l s s := fun a _ => by cases a <;> rfl

theorem Same.trans {l : List Area} {s t u : State} (h : Same l s t) (k : Same l t u) : Same l s u := by
  intro a ha
  have h1 := h a ha
  have h2 := k a ha
  cases a <;> exact Eq.trans h2 h1

theorem Same.mono {l m : List Area} {s t : State} (h : Same l s t) (k : l ⊆ m) : Same m s t :=
  fun a ha => h a (fun hl => ha (k hl))

theorem Keeps.refl (K : Nat → Prop) (l : List Area) (s : State) : Keeps K l s s := ⟨fun _ _ => rfl, Same.refl _ s⟩

theorem Keeps.trans {K : Nat → Prop} {l : List Area} {s t u : State} (h : Keeps K l s t) (k : Keeps K l t u) :
    Keeps K l s u := ⟨fun j hj => (k.1 j hj).trans (h.1 j hj), h.2.trans k.2⟩

theorem Keeps.mono {K L : Nat → Prop} {l m : List Area} {s t : State} (h : Keeps K l s t) (hK : ∀ k, K k → L k) (hl : l ⊆ m) :
    Keeps L m s t :=
  ⟨fun j hj => h.1 j (fun hk => hj (hK j hk)), h.2.mono (List.cons_subset_cons _ hl)⟩

/-- A write to a register of the frame stays inside it. -/
theorem Keeps.wr {K : Nat → Prop} (l : List Area) (s : State) (k : Nat) (v : Word) (h : K k) : Keeps K l s (s.wr k v) := by
  refine ⟨fun j hj => ?_, fun a ha => ?_⟩
  · rw [State.rd_wr_ne]; intro e; subst e; exact hj h
  · cases a <;> first | rfl | simp at ha

theorem Keeps.irq {K : Nat → Prop} {l : List Area} (s : State) (k n i : Nat) (hn : n < 320) (h : K k)
    (hK : ∀ j, irqKey j → K j) (hl : Area.out ∈ l) : Keeps K l s (s.irq k n i) := by
  refine ⟨fun j hj => ?_, fun a ha => ?_⟩
  · have h1 : ¬ irqKey j := fun e => hj (hK j e)
    rw [State.rd_irq _ _ _ _ _ hn h1, if_neg (fun e => hj (by rw [e]; exact h))]
  · cases a <;> first | (simp [Area.same]; done) | (exfalso; apply ha; simp [hl])

theorem Same.each {α : Type} {l : List Area} {f : State → α → State} (hf : ∀ s x, Same l s (f s x)) (s : State) (xs : List α) :
    Same l s (s.each xs f) := by
  unfold State.each
  induction xs generalizing s with
  | nil => exact Same.refl l s
  | cons x r ih => exact (hf s x).trans (ih _)


end Sys2Proof.Machine
end

