-- ==== Sys2Proof/WellFormed.lean ====
section
/-!
DEFINITION. Which commands can stand at the block's boundary: a well-formed command's lists have the lengths that the
spec gives them. Every meaning is total; it is also defined on the terms this check refuses, where it means nothing.
-/
namespace Sys2Proof

/-- Something arrived on a lane (R119): a run of blocks is not empty. -/
def LaneRx.wf (rx : LaneRx) : Bool := decide (0 < rx.blocks.length)

/-- What a bond's lanes received of one packet (R155): at least one lane, each with a run of blocks. -/
def BondRx.wf (rx : BondRx) : Bool := decide (0 < rx.lanes.length) && rx.lanes.all LaneRx.wf

/-- A register access has bytes and is one request: at most 4 KiB (R362, Table 12.1). -/
def accessWf (n : Nat) : Bool := decide (0 < n) && decide (n ≤ 4096)

/-- The units that STARTUP_STAGE reports as failed in their self-test: kind 0 a lane, 1 a pipeline, 2 a row of a nozzle
bank (264 rows each, R35), 3 a bench core, 4 a pseudo-channel (Table 17.2). -/
def startupBadWf (e : Fin 5 × Nat) : Bool :=
  decide (e.2 < match e.1.val with
    | 0 => 104
    | 1 => 104
    | 2 => 8448
    | 3 => 5
    | _ => 64)

/-- The command can stand at the block's boundary. -/
def Instr.wf : Instr → Bool
  | .registerWrite _ _ _ w => accessWf w.data.length && w.data.any Option.isSome
  | .registerRead _ _ _ r => accessWf r.ben.length
  | .bar2Access _ _ len data _ =>
    accessWf len && (match data with
      | some d => d.length == len
      | none => true)
  | .absFrameEnd _ frame _ => decide (0 < frame.length) && decide (frame.length ≤ 64)
  | .a1Packet _ groups _ => decide (0 < groups.length)
  | .tsecho _ rx _ => rx.wf
  | .cameraHeart _ rx _ => rx.wf
  | .lineSegment _ rx _ => rx.wf
  | .frameSegment _ rx _ => rx.wf
  | .regrsp _ rx _ => rx.wf
  | .capr _ rx _ => rx.wf
  | .fmt _ rx _ => rx.wf
  | .capend _ rx _ => rx.wf
  | .theart _ rx _ => rx.wf
  | .rowInlayDone _ peer _ => peer.length == 0 || peer.length == 1536
  | .monitorWindow bytes _ _ => bytes.length == 60
  | .invalidateRequest _ _ n _ _ => decide (0 < n)
  | .linkup speed width _ _ _ _ _ =>
    decide (0 < speed.val) && [1, 2, 4, 8, 16].contains width.val
  | .bulk (.tracks _ bytes _) _ => bytes.length % 12 == 0 && decide (0 < bytes.length)
  | .startupStage bad _ => bad.all startupBadWf
  | _ => true

end Sys2Proof
end

