-- ==== Sys2Proof/Tests/Slice0.lean ====
section
/-!
SUPPORT. The smoke test of WellFormed, a few decided facts taken from the manual's own tables, and for the statements of
Certificates/Slice0/Obligations.lean a state and operands that meet the hypotheses of each clause.
-/
namespace Sys2Proof.Tests
open Sys2Proof Sys2Proof.Machine
set_option Elab.async false

/-- s with registers set to words. -/
def put (s : State) (l : List (Nat × Nat)) : State := l.foldl (fun t e => t.wr e.1 (w32 e.2)) s

/-- The device in operation: every domain on, every clock enable set, start-up done, mailboxes ready. -/
def base : State := put State.reset ((List.range 8).map (fun w => (Reg.CLK_GATE w, 0xFFFFFFFF)) ++
  [(Reg.PWR_ON, 0xFFFFFF), (Reg.GLB_BOOTSTAT, 10), (Reg.MBX_STAT 0, 1)])

/-- The device in operation with a mode of BootX. -/
def inMode (s : State) (m : Nat) : State := s.setBoot { s.boot with mode := m }

/-- s at device time t, on a link that is not idle. -/
def atT (t : Nat) (s : State) : State := { s with devTime := t, idleT := t }

/-- The statements speak of the state after dt ticks: with dt = 0, s itself is one. -/
def Now (s : State) : Prop := s = s.pass 0

/-- No packet waits on the twin link, no time is owed, and a link that is not idle was so until now. -/
def quiet (s : State) : Bool := s.twin.txq == [] && (s.linkIdle || s.idleT == s.devTime) && s.slew == {}

/-- In no time no lane sends. -/
theorem txLane_self (s : State) (t n : Nat) (a : TxAcc) : s.txLane t t a n = a := by
  simp only [State.txLane]
  split
  · simp [State.txTrain]
  · split
    · simp [State.txBlocks]
    · split
      · simp only [State.txSym]
        cases (a.lane n).a1Tx <;> simp only [State.txSyms] <;> exact if_pos (by omega)
      · split
        · simp [State.txPattern]
        · rfl

/-- A quiet state is the one that no time leads to from it. -/
theorem now_of_quiet {s : State} (h : quiet s = true) : Now s := by
  simp only [quiet, Bool.and_eq_true, Bool.or_eq_true, beq_iff_eq] at h
  obtain ⟨⟨hq, hi⟩, hs⟩ := h
  have hl : ∀ (l : List Nat) (a : TxAcc), l.foldl (fun a n => s.txLane s.devTime s.devTime a n) a = a := by
    intro l a
    simp only [txLane_self]
    induction l with
    | nil => rfl
    | cons n r ih => exact ih
  have ha : s.after 0 = s.devTime := by simp [State.after, hs, Slew.drop]
  have hi' : (if s.linkIdle = true then s.idleT else s.devTime) = s.idleT := by
    rcases hi with h | h <;> simp [h]
  simp only [Now, State.pass, ha, State.txAll, hq, List.length_nil, State.txTwin, hl, hi']
  cases s; simp_all [Slew.drop]


/-! ### WellFormed: one term that it takes, and for each check a term that it refuses -/

/-- Blocks as they travel after the scrambled bits `prior`: sync header and payload each. -/
def onWire (prior : BitVec 58) : List (Nat × BitVec 64) → List (BitVec 66)
  | [] => []
  | (h, d) :: r => let w := scramble prior d
    wireOf h w :: onWire (scrNext prior w) r

/-- A control block of payload p on the wire. -/
def ctlBlk (p : BitVec 64) : WireBlk := { prior := 0x155, bits := wireOf 2 (scramble 0x155 p) }

/-- The blocks of one packet on one lane: header word h with its length and HCRC, content and check word. -/
def laneOf (h : Nat) (content : List Byte) : LaneRx :=
  { prior := 0x155, blocks := onWire 0x155 ((2, pktHdr h) :: (pktBlocks h (pktLen content) content).map (fun w => (1, w))) }

/-- A bond of one lane that receives one packet. -/
def bondOf (h : Nat) (content : List Byte) : BondRx := { first := 0, lanes := [laneOf h content] }

/-- A reception without a block. -/
def noBlocks : LaneRx := { prior := 0, blocks := [] }

theorem test_wf_takes : (Instr.lineSegment 0 (bondOf 0x80 [1#8]) 1).wf = true ∧ (Instr.theart 0 (laneOf 0x88 []) 1).wf = true ∧
    (Instr.absFrameEnd 0 [true] 1).wf = true ∧ (Instr.rowInlayDone 0 [] 1).wf = true ∧
    (Instr.linkup 5 16 false [] 0 0 1).wf = true ∧ (Instr.startupStage [(2, 8447)] 1).wf = true ∧
    (Instr.monitorWindow (List.replicate 60 0) 0 1).wf = true := by decide +kernel
theorem test_wf_registerWrite : ∀ p,
    (Instr.registerWrite p 0 0 ⟨[none, none], false, 1⟩).wf = false ∧ (Instr.registerWrite p 0 0 ⟨[], false, 1⟩).wf = false ∧
    (Instr.registerWrite p 0 0 ⟨List.replicate 4097 (some 1#8), false, 1⟩).wf = false := by
  intro p; refine ⟨rfl, rfl, ?_⟩; simp only [Instr.wf]; decide +kernel
theorem test_wf_registerRead : ∀ p, (Instr.registerRead p 0 0 ⟨[], 1⟩).wf = false := by intro p; rfl
theorem test_wf_bar2_length : (Instr.bar2Access 0 0 2 (some [some 1#8]) false).wf = false ∧
    (Instr.bar2Access 0 0 0 none false).wf = false ∧ (Instr.bar2Access 0 0 4097 none false).wf = false := by decide +kernel
theorem test_wf_absFrameEnd : (Instr.absFrameEnd 0 [] 1).wf = false ∧
    (Instr.absFrameEnd 0 (List.replicate 65 true) 1).wf = false := by decide +kernel
theorem test_wf_a1Packet : (Instr.a1Packet 0 [] 1).wf = false := by decide +kernel
theorem test_wf_packet_blocks : (Instr.tsecho 0 ⟨0, [noBlocks]⟩ 1).wf = false ∧ (Instr.cameraHeart 0 ⟨0, [noBlocks]⟩ 1).wf = false ∧
    (Instr.lineSegment 0 ⟨0, [noBlocks]⟩ 1).wf = false ∧ (Instr.frameSegment 0 ⟨0, [noBlocks]⟩ 1).wf = false ∧
    (Instr.regrsp 0 ⟨0, [noBlocks]⟩ 1).wf = false ∧ (Instr.capr 0 ⟨0, [noBlocks]⟩ 1).wf = false ∧
    (Instr.fmt 0 ⟨0, [noBlocks]⟩ 1).wf = false ∧
    (Instr.capend 0 ⟨0, [noBlocks]⟩ 1).wf = false ∧ (Instr.theart 0 noBlocks 1).wf = false := by decide +kernel
theorem test_wf_rowInlayDone : (Instr.rowInlayDone 0 [0#8] 1).wf = false := by decide +kernel
theorem test_wf_monitorWindow : (Instr.monitorWindow [0] 0 1).wf = false := by decide +kernel
theorem test_wf_invalidateRequest : (Instr.invalidateRequest 0 0 0 0 1).wf = false := by decide +kernel
theorem test_wf_linkup : (Instr.linkup 0 16 false [] 0 0 1).wf = false ∧ (Instr.linkup 5 3 false [] 0 0 1).wf = false := by
  decide +kernel
theorem test_wf_bulk : (Instr.bulk (.tracks 0 [] true) 1).wf = false ∧ (Instr.bulk (.tracks 0 [0#8] true) 1).wf = false := by
  decide +kernel
theorem test_wf_startupStage : (Instr.startupStage [(0, 104)] 1).wf = false ∧ (Instr.startupStage [(2, 8448)] 1).wf = false ∧
    (Instr.startupStage [(3, 5)] 1).wf = false ∧ (Instr.startupStage [(4, 64)] 1).wf = false := by decide +kernel

/-! ### Facts of the manual's own tables -/

/-- The check values of the CRCs over "123456789": CRC-8 of R154, CRC-32 of IEEE 802.3, CRC-16 of Table 6.3. -/
theorem test_crc_check_values : crcBytes 8 0x07 0 ((List.range 9).map (fun i => BitVec.ofNat 8 (0x31 + i))) = 0xF4 ∧
    crc32 ((List.range 9).map (fun i => BitVec.ofNat 8 (0x31 + i))) = 0xCBF43926 ∧
    crc16 ((List.range 9).map (fun i => BitVec.ofNat 8 (0x31 + i))) = 0x29B1 := by decide +kernel

/-- The worked example of "Device memory and DMA": address 0x1_2345_6700 under salt 0x5A3 lies in LC14, the next granule in
LC15. -/
theorem test_hash_example : hashLc 0x5A3 0x123456700 = 14 ∧ hashLc 0x5A3 0x123456800 = 15 := by decide +kernel

/-- Table 13.6: two refusals at once answer with the one of lowest rank. -/
theorem test_status_rank : pickStatus [(true, St.state), (true, St.isolation), (true, St.badParam)] = St.isolation ∧
    pickStatus [(true, St.capacity), (true, St.noObject)] = St.noObject ∧ pickStatus [(false, St.busy)] = 0 := by decide +kernel

/-- Table 15.4: temper points. -/
theorem test_temper_points : temperMHz 4 = 1550 ∧ temperMv 4 = 770 ∧ temperMHz 5 = 1600 ∧ temperMv 5 = 800 := by decide +kernel

/-- R484 step 3: which reset source an L4 reaction uses. -/
theorem test_l4_cause : l4Cause 0xC01 = 3 ∧ l4Cause 0xD07 = 3 ∧ l4Cause 0x90A = 2 ∧ l4Cause 0xB02 = 4 := by decide +kernel

/-- decodeTableWord: the table gives no row a bit, so every word spells no command. -/
theorem test_no_table_word (n w : Nat) : decodeTableWord n w = none := rfl

/-- R120: the payload 1 after zeros shows the taps of x^58 + x^39 + 1, and descrambling undoes scrambling. -/
theorem test_scrambler : scramble 0 1 = 0x0400008000000001 ∧
    descramble 0x2A51234 (scramble 0x2A51234 0xDEADBEEF01234567) = 0xDEADBEEF01234567 := by decide +kernel

/-- R119, R120: a reception's blocks carry what was sent; the header goes first, and 0b00 and 0b11 are in error. -/
theorem test_blocks : rxBlks 5 (onWire 5 [(1, 7), (2, 0x1E)]) = [.data 7, .ctl 0x1E] ∧
    rxBlks 5 [wireOf 0 7, wireOf 3 7] = [.bad, .bad] ∧ wireOf 2 1 = 6 := by decide +kernel

/-- Table 6.6: the header payload of the trigger of line 1 below HCRC. -/
theorem test_trig_header :
    (TrigMsg.hdr { gen := 0, cam := 0, kind := 0, tpos := 0, idx := 1, expt := 0x560000 + 8411, ovs := false, follow := false }).toNat
      % 2 ^ 56 = 0x5620DB00010090 := by decide +kernel

/-- R149: K28.5 at negative and at positive running disparity, 0011111010 and its complement. -/
theorem test_comma_group : encK false 0xBC = 0b0101111100 ∧ encK true 0xBC = 0b1010000011 := by decide +kernel

/-- R250: f at the ends of the table: f(0) = 4/29 and f(1) = 1, as unsigned 1.23. -/
theorem test_f_table : fEntry 0 = 1157049 ∧ fEntry 1024 = 8388608 := by decide +kernel

/-- R357: PF0's lists run from the header's last capability and from 0x100 on, each to its end; a VF's skip what only PF0 has. -/
theorem test_capabilities : capNext 0 0x070 = 0 ∧ capNext 0 0x180 = 0x190 ∧ capNext 1 0x180 = 0x1E0 ∧ capNext 1 0x1E0 = 0x340 ∧
    capNext 0 0x360 = 0 := by decide +kernel
/-! ## Position -/

/-- Axis 7 measures in a mode, at device time 10^9. -/
def axS (mode : Nat) (x : Axis) (l : List (Nat × Nat)) : State :=
  atT 1000000000 ((put base ([(Reg.POS_AXEN 7, 1), (Reg.POS_AXCTLA 7, mode)] ++ l)).setAxis 7 x)

theorem wit_PosCommands_PosAxisCommands : Up base (Reg.POS_AXCMD 7) ∧ (base.axis 7).tApply ≠ some base.devTime ∧
    ((axS 0 { tApply := some 1000000000 } []).axis 7).tApply = some (axS 0 {} []).devTime ∧
    Up (axS 0 { tApply := some 1000000000 } []) (Reg.POS_AXCMD 7) ∧ base.unitUp Reg.POS_SNAP = true ∧
    Up (axS 2 {} []) (Reg.POS_AXCMD 7) ∧ (axS 2 {} []).fld (Reg.POS_AXABSPER 7) 0 16 = 0 ∧ (axS 2 {} []).axIn 7 2 = true ∧
    ((axS 2 {} []).axis 7).frame = none ∧ ((axS 2 {} []).axis 7).gap = none ∧ base.axIn 7 2 = false ∧
    (axS 2 {} [(Reg.POS_AXABSPER 7, 1)]).fld (Reg.POS_AXABSPER 7) 0 16 ≠ 0 := by unfold Up; decide +kernel
theorem wit_PosCommands_PosControlWrites : Up base (Reg.POS_AXCTL 7) ∧ base.unlocked .pos = false ∧ base.axEn 7 = false ∧
    Up (put base [(Reg.POS_LOCK, 1)]) (Reg.POS_AXCTL 7) ∧
    (put base [(Reg.POS_LOCK, 1)]).unlocked .pos = true ∧ (axS 0 {} [(Reg.POS_LOCK, 1)]).unlocked .pos = true ∧
    (axS 0 {} []).axEn 7 = true ∧ fldOf 3#32 0 2 = 3 ∧ fldOf 1#32 0 2 ≠ 3 ∧ bitOf 1#32 0 = true ∧ bitOf 2#32 0 = false := by
  unfold Up; decide +kernel
theorem wit_QuadratureCounting : quiet (axS 0 { lastAB := some 0 } []) = true ∧ (axS 0 { lastAB := some 0 } []).posClk = true ∧
    (axS 0 { lastAB := some 0 } []).axEn 7 = true ∧ (axS 0 { lastAB := some 0 } []).axMode 7 = 0 ∧
    0 + (axS 0 { lastAB := some 0 } []).axMinIv 7 false ≤ (axS 0 {} []).devTime ∧
    ((true != false) = !(false != false)) := by decide +kernel
theorem wit_PosInputs_ab : quiet (axS 0 { lastAB := some 0, pinA := true } []) = true ∧
    (axS 0 { lastAB := some 0, pinA := true } []).axMode 7 = 0 ∧ (axS 0 { lastAB := some 0, pinA := true } []).posClk = true ∧
    0 + (axS 0 { lastAB := some 0, pinA := true } []).axMinIv 7 false ≤ 1000000000 ∧ ((true != false) = !(false != false)) ∧
    (axS 0 { lastAB := some 0, pinA := true } []).axEn 7 = true := by decide +kernel
theorem wit_PosInputs_z : quiet (axS 0 { lastZ := some 0, pinZ := true } []) = true ∧
    quiet (axS 0x80 { lastZ := some 0, pinZ := true } []) = true ∧
    0 + (axS 0 { lastZ := some 0, pinZ := true } []).axMinIv 7 true ≤ 1000000000 ∧
    1000000000 < 999999999 + (axS 0 {} []).axMinIv 7 true ∧
    (axS 0 { lastZ := some 0, pinZ := true } []).bit (Reg.POS_AXCTLA 7) 7 = false ∧
    (axS 0x80 { lastZ := some 0, pinZ := true } []).bit (Reg.POS_AXCTLA 7) 7 = true ∧
    (axS 0 { lastZ := some 0, pinZ := true } []).axQualified 7 = true ∧
    (axS 0 { lastZ := some 0, pinZ := true } []).bit (Reg.POS_AXSTAT 7) 6 = false ∧
    ((axS 0 { lastZ := some 0, pinZ := true } []).axis 7).decZ = false ∧
    true = !(axS 0 { lastZ := some 0 } []).bit (Reg.POS_AXCTLA 7) 7 := by decide +kernel
/-- Trigger input 15 is on, with its pin high, and axis 7 measures. -/
def inS : State := (axS 0 {} [(Reg.TRG_INCFG 15, 1)]).setTrigIn 15 { pin := true, last := some 0 }
theorem wit_PosInputs_trig : quiet inS = true ∧ inS.posClk = true ∧ inS.axEn 7 = true ∧ inS.inOn 15 = true ∧
    (inS.trigIn 15).last = some 0 ∧ (inS.trigIn 15).pin ≠ (inS.trigIn 15).level ∧
    0 + inS.inMinIv 15 ≤ inS.devTime := by decide +kernel
theorem wit_PosInputs_samples : quiet (axS 0 { glitch := some 0 } []) = true ∧
    0 + (axS 0 { glitch := some 0 } []).axGlWin 7 ≤ 1000000000 ∧
    quiet (axS 1 {} []) = true ∧ (axS 1 {} []).axMode 7 = 1 := by decide +kernel
theorem wit_PosInputs_requests : usTicks ((axS 2 {} []).fld (Reg.POS_AXABSPER 7) 0 16) = 0 ∧ quiet (axS 2 {} []) = true ∧
    usTicks ((axS 2 {} [(Reg.POS_AXABSPER 7, 1)]).fld (Reg.POS_AXABSPER 7) 0 16) = 1600 ∧
    ((axS 2 {} []).axis 7).tReq + 1600 ≤ 1000000000 ∧ 1000000000 < 1000000000 + 1600 ∧ (axS 2 {} []).axMode 7 = 2 ∧
    ((axS 2 {} []).axis 7).frame = none ∧ ((axS 2 {} []).axis 7).gap = none ∧
    ((axS 2 { frame := some 0 } []).axis 7).frame.isSome = true ∧ ((axS 2 { gap := some 0 } []).axis 7).gap.isSome = true ∧
    0 + (axS 2 { gap := some 0 } []).absGap 7 ≤ 1000000000 ∧ 1000000000 < 1000000000 + (axS 2 {} []).absGap 7 ∧
    1000000000 < (axS 2 {} []).absEnd 7 1000000000 := by decide +kernel
theorem wit_PosInputs_frames : quiet (axS 2 { frame := some 0, frameFmt := 13#32 } []) = true ∧
    (axS 2 { frame := some 0, frameFmt := 13#32 } []).axMode 7 = 2 ∧
    (axS 2 { frame := some 0, frameFmt := 13#32 } []).absEnd 7 0 ≤ 1000000000 ∧
    absGood 13#32 0#32 [] = false ∧ absGood 13#32 0#32 (List.replicate 13 true) = true ∧
    ((axS 2 { frame := some 0, frameFmt := 13#32 } []).axis 7).word = none ∧
    ((axS 2 { frame := some 0, frameFmt := 13#32 } []).axis 7).absLoad = false := by decide +kernel
theorem wit_PosTime_PosTimers : quiet (axS 0 { spdLen := 5 } []) = true ∧
    (axS 0 { spdLen := 5 } []).bit (Reg.POS_AXSTAT 7) 2 = false ∧
    ((axS 0 { spdLen := 5 } []).axis 7).tChange + 1600 * (axS 0 { spdLen := 5 } []).fld (Reg.POS_AXSTILLT 7) 0 17 ≤
      (axS 0 {} []).devTime ∧ ((axS 0 { spdLen := 5 } []).axis 7).spdT + ((axS 0 { spdLen := 5 } []).axis 7).spdLen ≤ 1000000000
    := by decide +kernel
theorem wit_PosTime_PositionPublication : quiet base = true ∧ quiet State.reset = true ∧ (∀ n < 8, (base.axis n).resync = false) ∧
    base.posClk = true ∧ State.reset.posClk = false ∧ quiet (axS 0 { m := 5, far := 5 } []) = true ∧
    (axS 0 { m := 5, far := 5 } []).axHold 7 = false ∧ (axS 0 { m := 5, far := 5 } []).axRev 7 = false ∧
    aheadIn false ((axS 0 { m := 5, far := 5 } []).axE 7 1000000000) ((axS 0 { m := 5, far := 5 } []).axPos 7) = true ∧
    (axS 0 { m := 5, far := 70000 } []).fld (Reg.POS_AXHYST 7) 0 16 ≤ (posDiff 70000#48 5#48).natAbs := by decide +kernel
/-! ## Triggers and events -/

/-- Generator 95 runs with pitch 5 PT at camera 0xFF, and its next crossing is due at tick 16. -/
def genS (g : Gen) (l : List (Nat × Nat)) : State :=
  { (put base ([(Reg.TRG_TSSTAT 95, 1), (Reg.TRG_TSCTLA 95, 0x7F * 8)] ++ l)).setGen 95 g with
    sched := [{ tc := 16, kind := .gen 95 g.run 0 0#48 }] }
theorem wit_TrgGenerators_TrgGenCommands : Up base (Reg.TRG_TSCMD 95) ∧ base.genRun 95 = false ∧ (base.gen 95).pitchI = 0 ∧
    (genS {} []).genRun 95 = true ∧ ((genS { pitchI := 5 } []).gen 95).pitchI ≠ 0 ∧ (genS { pitchI := 5 } []).genMsg 95 = false ∧
    (genS { pitchI := 5 } []).bit (Reg.TRG_TSSTAT 95) 1 = false ∧
    roundShift ((genS { pitchI := 5 } []).axVel ((genS { pitchI := 5 } []).genAxis 95) * 0) 24 = 0 ∧
    gridCount (xOfPos ((genS { pitchI := 5 } [(Reg.TRG_TSPHASE_LO 95, 1)]).rdPos (Reg.TRG_TSPHASE_LO 95)))
      ((genS { pitchI := 5 } []).genPitch 95) (posAdd ((genS { pitchI := 5 } []).axHwm 0) 0) = 0 := by unfold Up; decide +kernel
theorem wit_TrgGenerators_TrgCrossings : quiet base = true ∧ base.sched = [] ∧ quiet (genS {} []) = true ∧
    (genS { pitchI := 5 } []).sched = [{ tc := 16, kind := .gen 95 ((genS { pitchI := 5 } []).gen 95).run 0 0#48 }] ∧
    ((genS {} []).gen 95).lastT = none ∧ 16 < 0 + (genS { pitchI := 5, lastT := some 0 } []).genMinPer 95 ∧
    quiet (atT 20 (genS { pitchI := 5, wait := some 20 } [])) = true ∧ (atT 20 (genS { wait := some 20 } [])).devTime = 20 ∧
    ((genS { pitchI := 5, wait := some 20 } []).gen 95).wait = some 20 ∧ (genS { wait := some 20 } []).genRun 95 = true := by
  decide +kernel
theorem wit_TrgListsAndPins_TrgListWrites : base.fnOk 0 = true ∧ base.trgClk = true ∧ base.unlocked .trg = false ∧
    (put base [(Reg.TRG_LOCK, 1)]).unlocked .trg = true ∧
    fldOf 3#32 0 16 < (put base [(Reg.TRG_CLSIZE 63, 4)]).clSize 63 ∧
    (3 + (put base [(Reg.TRG_CLSIZE 63, 4)]).clSize 63 - (put base [(Reg.TRG_CLSIZE 63, 4)]).clWr 63 % 4) % 4 ≤
      ((put base [(Reg.TRG_CLSIZE 63, 4)]).clRd 63 + 2 * 4 - (put base [(Reg.TRG_CLSIZE 63, 4)]).clWr 63 - 1) % 4 ∧
    ¬ (fldOf 4#32 0 16 < (put base [(Reg.TRG_CLSIZE 63, 4)]).clSize 63) ∧
    (put base [(Reg.TRG_CLCTL 63, 1)]).clEn 63 = true := by decide +kernel
/-- Pin 31, in a state at tick 100. -/
def pinS (x : Pin) : State := atT 100 (base.setPin 31 x)
theorem wit_TrgListsAndPins_TrgPins_end : quiet (pinS { shaped := true, start := 50, pulseEnd := 60 }) = true ∧
    (pinS { shaped := true, start := 50, pulseEnd := 60 }).pinRaw 31 100 = false ∧ 60 < 100 ∧ 100 < max 60 (50 + 32) + 32 ∧
    (pinS {}).pairOn 15 = false ∧ quiet (pinS { fallT := some 0, level := true }) = true ∧ 0 + 32 ≤ 100 ∧
    quiet (pinS { pulseEnd := 190 }) = true ∧ (pinS { pulseEnd := 190 }).pinRaw 31 100 = true := by decide +kernel
theorem wit_TrgListsAndPins_TrgPins_pairs : quiet (base.setPair 15 { turn0 := some 0 }) = true ∧
    quiet (base.setPair 15 { turn1 := some 0 }) = true ∧
    ((base.setPair 15 { turn0 := some 0 }).pair 15).turn1 = none ∧ ((base.setPair 15 { turn1 := some 0 }).pair 15).turn0 = none ∧
    ((base.setPair 15 { turn0 := some 0 }).pin 30).shaped = false ∧ ((base.setPair 15 {}).pin 30).endT = none ∧
    quiet (put base [(Reg.TRG_LOCK, 1)]) = true ∧ Up (put base [(Reg.TRG_LOCK, 1)]) (Reg.TRG_PAIRCTL 15) ∧
    (put base [(Reg.TRG_LOCK, 1)]).unlocked .trg = true ∧ (put base [(Reg.TRG_LOCK, 1)]).pairOn 15 = bitOf 0#32 0 ∧
    (put base [(Reg.TRG_LOCK, 1)]).pairOn 15 ≠ bitOf 1#32 0 := by unfold Up; decide +kernel
theorem wit_TrgListsAndPins_TrgPins_inputs : quiet inS = true ∧ inS.inOn 15 = true ∧ 0 + inS.inMinIv 15 ≤ inS.devTime ∧
    true ≠ (inS.trigIn 15).level ∧ true ≠ inS.bit (Reg.TRG_INCFG 15) 1 ∧
    inS.devTime < 999999999 + (put base [(Reg.TRG_INCFG 15, 1)]).inMinIv 15 := by decide +kernel
theorem wit_EventRouting : quiet base = true ∧ base.clkOn 233 = true ∧ base.events = [] ∧
    quiet ({ base with events := [(255, 0)] } : State) = true ∧
    (put base [(Reg.EVR_SUB 640, 0x1FF)]).subscribed 640 255 = true ∧ (put base [(Reg.EVR_SUB 640, 0x1FF)]).gateOk 640 = true ∧
    (put base [(Reg.EVR_SUB 639, 0x1FF)]).subscribed (544 + 95) 255 = true ∧ (put base [(Reg.EVR_SUB 639, 0x1FF)]).gateOk 639 = true ∧
    base.posClk = true ∧ base.clkOn 235 = true ∧ base.subscribed 640 255 = false ∧ base.bit Reg.EVR_PE 13 = false ∧
    Up base (Reg.EVR_PUB 0) ∧ base.unlocked .evr = false ∧ (put base [(Reg.EVR_LOCK, 1)]).unlocked .evr = true := by
  unfold Up; decide +kernel
/-! ## Lanes -/

/-- Lane 103 in a state, with its record and registers, at tick 10^9. -/
def laneS (st : Nat) (x : LaneX) (l : List (Nat × Nat)) : State :=
  atT 1000000000 ((put base ([(laneStat 103, st)] ++ l)).setLane 103 x)
theorem wit_LaneTraining_LaneCommands : Up base (Reg.LANE_CTL 103) ∧ base.unlocked .lane = false ∧
    (put base [(Reg.LANE_LOCK, 1)]).unlocked .lane = true ∧ laneCtlOk (0xFFFFFFFF#32 &&& 0x1FFF#32) = false ∧
    laneCtlOk (1#32 &&& 0x1FFF#32) = true ∧
    (put base [(Reg.LANE_LOCK, 1), (Reg.LANE_CTLA 103, 1)]).laneCtlBit 103 0 = true ∧ base.laneCtlBit 103 0 = false ∧
    base.laneInInlay 103 = false ∧
    ((put base [(Reg.LANE_BOND 103, 1 + 256 * 15), (laneStat 103, 7)]).setBond 0 {
      sw := some { lane := 91, spare := 103, pos := 0, seq := 1, again := false, t := 0 } }).laneInInlay 103 = true := by
  unfold Up; decide +kernel
/-- The checker of lane 103 is on, or its far-end loop. -/
theorem wit_LaneTraining_LaneCommands_prbs : quiet (laneS 1 {} [(Reg.LANE_TEST 103, 0x20)]) = true ∧
    (laneS 1 {} [(Reg.LANE_TEST 103, 0x20)]).bit (Reg.LANE_TEST 103) 5 = true ∧
    (laneS 1 {} [(Reg.LANE_TEST 103, 0x20)]).laneSt 103 ∈ [0, 1, 9, 10] ∧ quiet (laneS 9 {} [(Reg.LANE_TEST 103, 3)]) = true ∧
    (laneS 9 {} [(Reg.LANE_TEST 103, 3)]).bit (Reg.LANE_TEST 103) 5 = false ∧ (laneS 9 {} []).laneSt 103 = 9 ∧
    (laneS 9 {} [(Reg.LANE_TEST 103, 3)]).fld (Reg.LANE_TEST 103) 0 2 = 3 := by decide +kernel
theorem wit_LaneBringup_detect : quiet (laneS 1 {} []) = true ∧ (laneS 1 {} []).laneSt 103 = 1 ∧
    ((laneS 1 {} []).lane 103).noDet = false ∧
    ((laneS 1 {} []).lane 103).since + usTicks 100000 ≤ 1000000000 := by decide +kernel
theorem wit_LaneBringup_train : quiet (laneS 2 {} []) = true ∧ (laneS 2 {} []).laneSt 103 = 2 ∧ ctlOf (ctlBlk 0#64) 0x2D = none ∧
    ctlOf (ctlBlk 0x2D#64) 0x2D = some 0x2D#64 ∧ trainOk 103 0x2D#64 = false ∧
    ctlOf (ctlBlk 0x207FE2D#64) 0x2D = some 0x207FE2D#64 ∧ trainOk 103 0x207FE2D#64 = true ∧
    ((laneS 2 {} []).lane 103).trAck = false ∧ ((laneS 2 {} []).lane 103).trLastTx = false ∧
    ((laneS 2 {} []).lane 103).trRun + 1 < 8 ∧
    8 ≤ ((laneS 2 { trRun := 7 } []).lane 103).trRun + 1 ∧
    (pickRate ((laneS 2 { trRun := 7 } []).laneRx 103) (blkBits 0x207FE2D#64 14 5) false).isSome = true ∧
    (pickRate ((laneS 2 { trRun := 7 } []).laneTx 103) (blkBits 0x207FE2D#64 9 5) false).isSome = true ∧
    0 < (laneS 2 {} []).after 100000 * 1000 / blockMilli 0 - (laneS 2 {} []).devTime * 1000 / blockMilli 0 ∧
    ((laneS 2 {} []).lane 103).since + usTicks 2000 ≤ 1000000000 := by decide +kernel
theorem wit_LaneBringup_lock : quiet (laneS 3 {} []) = true ∧ (laneS 3 {} []).laneSt 103 = 3 ∧ quiet (laneS 4 {} []) = true ∧
    (laneS 4 {} []).laneSt 103 = 4 ∧ quiet (laneS 8 {} []) = true ∧ (laneS 8 {} []).laneSt 103 = 8 ∧
    (laneS 8 {} []).lanePos 103 ≠ 15 ∧
    0 + (laneS 8 {} []).relockTime 103 ≤ 1000000000 := by decide +kernel
theorem wit_LaneBringup_comma : (laneS 3 {} []).laneDue 103 = laneS 3 {} [] ∧ isComma 0 (commaPay 0 0 0) = false ∧
    isComma 2 (commaPay 0x78 0x0200 0x963C5A0FE1) = true ∧
    blkBits (commaPay 0x78 0x0200 0x963C5A0FE1) 17 1 = 1 ∧ ((laneS 3 {} []).lane 103).comma = false ∧
    quiet (laneS 3 { comma := true } []) = true ∧ ((laneS 3 { comma := true } []).lane 103).comma = true := by decide +kernel
theorem wit_LaneTraining_LaneEqualisation : ctlOf (ctlBlk 0x33) 0x33 = some 0x33#64 ∧ ctlOf (ctlBlk 0x66) 0x66 = some 0x66#64 ∧
    quiet (laneS 5 {} []) = true ∧ (laneS 5 {} []).laneSt 103 = 5 ∧ (laneS 1 {} []).laneSt 103 = 1 ∧
    quiet (laneS 4 { eqAnswer := some (0, 7#64) } []) = true ∧
    ((laneS 4 { eqAnswer := some (0, 7#64) } []).lane 103).eqAnswer = some (blkBits 0x33#64 8 8, 7#64) ∧
    ((laneS 4 {} []).lane 103).eqAnswer = none ∧
    quiet (laneS 4 { eqReq := some { seq := 0, tap := 0, cmd := 0, preset := 0, t := 0, repeats := 3 } } []) = true ∧
    blkBits 0x66#64 8 8 = 0 ∧ blkBits 0x166#64 8 8 ≠ 0 ∧ 0 + usTicks 20 ≤ 1000000000 := by decide +kernel
/-- The inlay of lane 91's position to the spare 103 waits for its confirmation. -/
def inlayS : State :=
  atT 1000000000 ((put base [(Reg.LANE_BOND 103, 1 + 256 * 15), (laneStat 103, 7), (Reg.LANE_BOND 91, 1), (laneStat 91, 6)]).setBond 0
    { active := true, sw := some { lane := 91, spare := 103, pos := 0, seq := 1, again := false, t := 0 } })
theorem wit_LaneFaultsAndSpares_inlay : quiet inlayS = true ∧ inlayS.laneSends 103 = true ∧ inlayS.laneBond 103 = some 0 ∧
    (inlayS.bond 0).active = true ∧ (inlayS.bond 0).late = [] ∧ inlayS.lanes = [] ∧
    (∃ w ∈ (inlayS.bond 0).sw, w.spare = 103 ∧ w.lane = 91 ∧ w.again = false ∧ w.t + usTicks 20 ≤ inlayS.devTime) ∧
    ctlOf (ctlBlk 0x1104B#64) 0x4B = some 0x1104B#64 ∧ blkBits 0x1104B#64 12 1 = 1 ∧
    blkBits 0x1104B#64 8 4 = 0 ∧ blkBits 0x1104B#64 16 8 = 1 := by decide +kernel
theorem wit_LaneFaultsAndSpares : quiet (laneS 13 {} []) = true ∧ (laneS 13 {} []).laneSt 103 = 13 ∧ quiet (laneS 12 {} []) = true ∧
    (laneS 12 {} []).laneSt 103 = 12 ∧ quiet (laneS 6 {} []) = true ∧ (laneS 6 {} []).laneSt 103 = 6 := by decide +kernel
theorem wit_LaneFaultsAndSpares_a1 : quiet (laneS 11 { a1Was := true, a1Commas := 3 } []) = true ∧ (laneS 11 {} []).laneSt 103 = 11 ∧
    decSym? none (encK false 0xBC) = some (true, 0xBC) ∧ decSym? none 0 = none ∧
    ((laneS 11 { a1Was := true } []).lane 103).since + usTicks 1000 < 1000000000 ∧ ((laneS 12 {} []).lane 103).a1Err + 1 < 4 ∧
    4 ≤ ((laneS 12 { a1Err := 3 } []).lane 103).a1Err + 1 := by decide +kernel
/-! ## Link -/

/-- The packet that a reception brings. -/
def rxPkt (rx : BondRx) (n : Packet → Nat) : Packet :=
  match pktHeader (bondStream rx) with
  | some (h, rest) =>
    let d := pktData (n { hdr := h, data := [], cut := false }) rest
    { hdr := h, data := d.1, cut := d.2 }
  | none => { hdr := 0, data := [], cut := true }

theorem carries_rxPkt {rx : BondRx} (h : (pktHeader (bondStream rx)).isSome = true) (n : Packet → Nat) :
    Carries rx n (rxPkt rx n) := by
  obtain ⟨⟨hd, rest⟩, hx⟩ := Option.isSome_iff_exists.mp h
  exact ⟨rest, by simp [rxPkt, hx], by simp [rxPkt, hx]⟩

/-- A whole packet of a type arrives for camera c: what Brings says, decided. -/
def arrives (s : State) (c : Nat) (rx : BondRx) (type : Nat) (n : Packet → Nat) : Bool :=
  s.bondHears c && (s.bondBlks c rx).linkClk && (pktHeader (bondStream rx)).isSome && pktHdrOk (rxPkt rx n) type &&
    pktWhole (rxPkt rx n) (n { hdr := (rxPkt rx n).hdr, data := [], cut := false })

theorem brings_of_arrives {s : State} {c : Nat} {rx : BondRx} {type : Nat} {n : Packet → Nat}
    (h : arrives s c rx type n = true) : Brings s c rx type n (rxPkt rx n) := by
  simp only [arrives, Bool.and_eq_true] at h
  obtain ⟨⟨⟨⟨h1, h2⟩, h3⟩, h4⟩, h5⟩ := h
  exact ⟨h1, h2, carries_rxPkt h3 n, h4, h5⟩

/-- The length a segment's header states. -/
def lenOf (p : Packet) : Nat := pktBits p 44 12 + 1
/-- A one-tap line format of 8 pixels of 8 bits (R175). -/
def fmtRec : List Byte := leBytes 4 0x01080000 ++ leBytes 4 0x00010008 ++ leBytes 12 0 ++ leBytes 4 8 ++ leBytes 40 0 ++
  leBytes 8 (8 * 65536 + 2 ^ 32)
/-- Camera 95 on lane 91, a bond of one lane in operation, with the format received, at tick 10^9. -/
def camS (x : Cam) (b : Bond) (l : List (Nat × Nat)) : State :=
  atT 1000000000 (((put base ([(Reg.LANE_BOND 91, 1 + 2 * 95 + 2 ^ 12), (laneStat 91, 6), (Reg.LINK_CAMCFGA 95, 1),
    (Reg.LINK_CAMSTAT 95, 2)] ++ l)).setCam 95 { x with tables := [(0, fmtRec)] }).setBond 95 b)
def lrec5 : LineRec := { i := 9, t := 0#48, expt := 0, ovs := false, kind := 0, tidx := 5, run := 1 }
def recS : State := camS { recs := [lrec5] } { active := true } []
/-- The content of a line of 8 pixels, a LINE packet of it as the only segment or the first of several, and a FRAME row. -/
def line8 : List Byte := leBytes 8 0x0807060504030201 ++ leBytes 4 0
def lineRx (last : Nat) : BondRx := bondOf (0x80 + 5 * 256 + last * 2 ^ 32 + 2 ^ 44) line8
def rowRx : BondRx := bondOf (0x81 + 5 * 256 + 2 ^ 41 + 2 ^ 42 + 2 ^ 44) line8
/-- A packet whose HCRC does not hold, and a header of an unknown type. -/
def badRx : BondRx := { first := 0, lanes := [{ prior := 0x155, blocks := onWire 0x155 [(2, 0x80)] }] }
def oddRx : BondRx := bondOf 0xF0 []
/-- A LINE packet whose check word does not hold. -/
def falseRx : BondRx :=
  { first := 0, lanes := [{ prior := 0x155, blocks := onWire 0x155 [(2, pktHdr (0x80 + 2 ^ 44)), (1, 1), (1, 2)] }] }

theorem wit_LinkLines_LinkPacketChecks : quiet recS = true ∧ base.bondHears 95 = false ∧ recS.bondHears 95 = true ∧
    pktHeader (bondStream { first := 0, lanes := [] }) = none ∧ (recS.bondBlks 95 badRx).linkClk = true ∧
    (pktHeader (bondStream badRx)).isSome = true ∧ hcrc (pktBytes (rxPkt badRx lenOf)) ≠ pktBits (rxPkt badRx lenOf) 56 8 ∧
    (pktHeader (bondStream oddRx)).isSome = true ∧ pktBits (rxPkt oddRx lenOf) 0 8 ∉ pktTypes ∧
    (pktHeader (bondStream (lineRx 1))).isSome = true ∧ pktHdrOk (rxPkt (lineRx 1) lenOf) 0x80 = true ∧
    pktBits (rxPkt (lineRx 1) lenOf) 0 8 ≠ 0x81 ∧ (pktHeader (bondStream falseRx)).isSome = true ∧
    pktHdrOk (rxPkt falseRx lenOf) 0x80 = true ∧ pktWhole (rxPkt falseRx lenOf) 2 = false := by decide +kernel
theorem wit_LinkLines_TransmitOrder : ({} : LaneX).busy < 1023 ∧ 1023 ≤ ({ busy := 1023, ctls := [0] } : LaneX).busy ∧
    ((({ busy := 1023, ctls := [0] } : LaneX).next 0).isSome = true) ∧
    ([{ cls := 1, hdr := 0, data := [] }, { cls := 3, hdr := 0, data := [] }] : List TxPkt).Pairwise (fun a b => a.cls ≤ b.cls)
    := by decide +kernel
theorem wit_LinkLines : base.camDelivers 95 = false ∧ (camS {} {} []).camDelivers 95 = false ∧
    arrives (camS {} {} []) 95 (lineRx 0) 0x80 lenOf = true ∧ arrives (camS {} {} []) 95 rowRx 0x81 lenOf = true ∧
    (recS.bondBlks 95 (lineRx 1)).camDelivers 95 = true ∧ arrives recS 95 (lineRx 0) 0x80 lenOf = true ∧
    pktBits (rxPkt (lineRx 0) lenOf) 24 8 = 0 ∧ pktBits (rxPkt (lineRx 0) lenOf) 32 1 = 0 ∧
    arrives recS 95 (lineRx 1) 0x80 lenOf = true ∧ pktBits (rxPkt (lineRx 1) lenOf) 24 8 = 0 ∧
    pktBits (rxPkt (lineRx 1) lenOf) 32 1 = 1 ∧ pktBits (rxPkt (lineRx 1) lenOf) 33 1 = 0 ∧
    splitRecs (recS.camFmt 95) (pktBits (rxPkt (lineRx 1) lenOf) 8 16) (recS.cam 95).recs = some ([], lrec5, []) ∧
    ((recS.bondBlks 95 (lineRx 1)).bond 95).resume ≤ (recS.bondBlks 95 (lineRx 1)).rxStart 95 (lineRx 1) ∧
    (segBytes 0 (fmtLineb (recS.camFmt 95)) true (rxPkt (lineRx 1) lenOf)).length = fmtLineb (recS.camFmt 95) := by decide +kernel
theorem wit_LinkLines_frame : quiet recS = true ∧ arrives recS 95 rowRx 0x81 lenOf = true ∧
    (recS.bondBlks 95 rowRx).camDelivers 95 = true ∧
    pktBits (rxPkt rowRx lenOf) 38 3 = 0 ∧ pktBits (rxPkt rowRx lenOf) 41 1 = 1 ∧ pktBits (rxPkt rowRx lenOf) 43 1 = 0 ∧
    pktBits (rxPkt rowRx lenOf) 24 14 = 0 ∧
    (segBytes 0 (fmtLineb (recS.camFmt 95)) true (rxPkt rowRx lenOf)).length = fmtLineb (recS.camFmt 95) := by decide +kernel
/-- A time echo of SEQ 7 with T2 1000 and T3 1010; camera 95 takes part in rounds, SEQ 7 being in flight. -/
def echoRx : BondRx := bondOf 0x93 (leBytes 4 7 ++ leBytes 8 1000 ++ leBytes 8 1010)
def roundS (st : Nat) (x : Cam) : State := camS x { active := true } [(Reg.LINK_CAMCFGA 95, 0x81), (Reg.LINK_CAMSTAT 95, st)]
theorem wit_LinkTimeAndHeartbeats_LinkTimeRounds : quiet (roundS 2 {}) = true ∧ (roundS 2 {}).linkClk = true ∧
    (roundS 2 {}).bit (Reg.LINK_CAMCFGA 95) 0 = true ∧
    (roundS 2 {}).bit (Reg.LINK_CAMCFGA 95) 7 = true ∧ ((roundS 2 {}).bond 95).active = true ∧ (roundS 2 {}).camA1 95 = false ∧
    ((roundS 2 {}).cam 95).tsSent = none ∧ base.bit (Reg.LINK_CAMCFGA 95) 0 = false ∧ quiet base = true ∧
    1000000000 < 1000000000 + usTicks (clampN 100 1000 (base.fld Reg.LINK_TSPER 0 16)) := by decide +kernel
theorem wit_LinkTimeAndHeartbeats_LinkTimeRounds_echo : quiet (roundS 2 { round := some (7, 900) }) = true ∧
    arrives (roundS 2 { round := some (7, 900) }) 95 echoRx 0x93 (fun _ => 3) = true ∧
    (((roundS 2 { round := some (7, 900) }).bondBlks 95 echoRx).cam 95).round = some (7, 900) ∧
    leAt (rxPkt echoRx (fun _ => 3)).data 0 4 = 7 ∧ ((roundS 2 { round := some (7, 900) }).bondBlks 95 echoRx).capsOn 95 = false ∧
    (roundS 2 {}).devTime < 999999999 + usTicks 100 ∧ 900 + usTicks 100 ≤ (roundS 2 {}).devTime ∧ (roundS 1 {}).capsOn 95 = true ∧
    quiet (roundS 1 { round := some (7, 900) }) = true := by decide +kernel
/-- A camera's HEART. -/
def heartRx : BondRx := bondOf 0xA1 (leBytes 12 0)
theorem wit_LinkTimeAndHeartbeats_LinkHeartbeats : quiet recS = true ∧ recS.heartCams.filter
      (fun c => (recS.cam c).hbSent.all (fun t => decide (t + usTicks recS.hbPer ≤ recS.devTime))) = [95] ∧ recS.linkClk = true ∧
    (put base [(Reg.CLK_GATE 6, 0), (Reg.CLK_GATE 7, 0)]).linkClk = false ∧ arrives recS 95 heartRx 0xA1 (fun _ => 2) = true ∧
    ((recS.bondBlks 95 heartRx).bond 95).active = true ∧ recS.camA1 95 = false ∧ (recS.cam 95).hbLost = false ∧
    (recS.cam 95).lastHb + usTicks (3 * recS.hbPer) ≤ recS.devTime ∧ (base.bond 95).active = false ∧
    base.bit (Reg.LINK_CAMSTAT 95) 5 = false ∧ ((camS { hbLost := true } {} []).cam 95).hbLost = true ∧
    recS.devTime < 999999999 + usTicks (3 * recS.hbPer) := by decide +kernel
/-- Camera 95 in its exchange, a CAPR, a table and the end of capabilities. -/
def capS (x : Cam) (cfg : Nat) : State :=
  camS x { active := false } [(Reg.LINK_CAMCFGA 95, cfg), (Reg.LINK_CAMSTAT 95, 1), (Reg.LINK_CAPREC 95 0, 0x01000020),
    (laneStat 91, 5)]
def caprRx (v : Nat) : BondRx := bondOf 0xC1 (leBytes 132 v)
def fmtRx : BondRx := bondOf (0xC2 + 9 * 2 ^ 44) (fmtRec ++ leBytes 4 0)
def capendRx : BondRx := bondOf 0x1C3 []
theorem wit_LinkExchange_caps : quiet (capS {} 1) = true ∧ ((capS {} 1).bondBlks 95 fmtRx).capsOn 95 = true ∧
    arrives (capS {} 1) 95 (caprRx 0x20) 0xC1 (fun _ => 17) = true ∧ leAt (rxPkt (caprRx 0x20) (fun _ => 17)).data 0 1 = 0x20 ∧
    arrives (capS {} 1) 95 (caprRx 0x30) 0xC1 (fun _ => 17) = true ∧ leAt (rxPkt (caprRx 0x30) (fun _ => 17)).data 0 1 = 0x30 ∧
    arrives (capS {} 1) 95 fmtRx 0xC2 lenOf = true ∧ ((capS {} 1).cam 95).lastFmt = none ∧
    fmtOk ((rxPkt fmtRx lenOf).data.take (64 + 8 * (pktBits (rxPkt fmtRx lenOf) 44 12 - 8))) = true := by decide +kernel
theorem wit_LinkExchange_capend : arrives (capS {} 1) 95 capendRx 0xC3 (fun _ => 0) = true ∧
    pktBits (rxPkt capendRx (fun _ => 0)) 8 8 = 1 ∧ ((capS {} 1).bondBlks 95 capendRx).capsGood 95 1 = false ∧
    quiet (capS { gotRec := true, nGot := 1 } 0x81) = true ∧ (capS { gotRec := true, nGot := 1 } 0x81).capsGood 95 1 = true ∧
    (capS {} 0x81).bit (Reg.LINK_CAMCFGA 95) 7 = true ∧ (capS { gotRec := true, nGot := 1 } 1).capsGood 95 1 = true ∧
    (capS {} 1).bit (Reg.LINK_CAMCFGA 95) 7 = false := by decide +kernel
/-- A register response of TAG 15, and the request it answers. -/
def rspRx : BondRx := bondOf 0xFB2 (leBytes 4 7)
def req15 : RegReq := { tag := 15, write := false, count := 1, f := 0, slot := 3 }
def reqS (l : List RegReq) : State := camS { reqs := l } { active := true } []
theorem wit_LinkExchange_regs : quiet (reqS []) = true ∧ quiet (reqS [req15]) = true ∧
    arrives (reqS []) 95 rspRx 0xB2 ((reqS []).rspBlocks 95) = true ∧
    arrives (reqS [req15]) 95 rspRx 0xB2 ((reqS [req15]).rspBlocks 95) = true ∧
    pktBits (rxPkt rspRx ((reqS []).rspBlocks 95)) 8 8 = 15 ∧ (reqS []).regReq 95 15 = none ∧
    (reqS [req15]).regReq 95 15 = some req15 ∧ req15.t + usTicks ((reqS [req15]).fld Reg.LINK_REGTMO 0 16) ≤ (reqS []).devTime ∧
    Up base (Reg.LINK_CAMCFG 95) ∧ base.unlocked .link = false ∧ Up (put recS [(Reg.LINK_LOCK, 1)]) (Reg.LINK_CAMCFG 95) ∧
    (put base [(Reg.LINK_LOCK, 1)]).unlocked .link = true ∧ (recS.bond 95).active = true ∧ (base.bond 95).active = false := by
  unfold Up; decide +kernel
/-- Camera 95 speaks Alaol-1 on lane 91. -/
def a1S : State := camS { recs := [lrec5] } { active := true }
  [(Reg.LANE_CTLA 91, 3), (Reg.LINK_FMTMEM 95 0 5, 8), (laneStat 91, 12)]
def a1Line : List Byte := leBytes 3 0x501 ++ leBytes 4 8 ++ leBytes 8 0
def a1Groups (b : List Byte) : List (BitVec 10) := encSyms false (a1Syms (b ++ leBytes 4 (crc32 b)))
def a1Bytes (b : List Byte) : Option (List Byte) := (a1Decode (a1S.lane 91).a1Rx (a1Groups b)).bind a1Body
theorem wit_LinkExchange_a1 : quiet a1S = true ∧ a1S.laneA1 91 = true ∧ a1S.laneSt 91 = 12 ∧
    (a1S.each (a1Groups a1Line) (fun t g => t.a1Group 91 g (t.lane 91).a1Al)).laneSt 91 = 12 ∧
    (a1S.each (a1Groups a1Line) (fun t g => t.a1Group 91 g (t.lane 91).a1Al)).laneBond 91 = some 95 ∧
    (a1S.each (a1Groups a1Line) (fun t g => t.a1Group 91 g (t.lane 91).a1Al)).linkClk = true ∧
    (a1Decode (a1S.lane 91).a1Rx [encK false 0xBC]).bind a1Body = none ∧
    (a1Bytes [9#8]).any (fun b => leAt b 0 1 != 1 && leAt b 0 1 != 5) = true ∧
    (a1Bytes (leBytes 3 5)).any (fun b => leAt b 0 1 == 5 && a1Whole b (max b.length 7) &&
    b.length % 4 == 3) = true := by decide +kernel
theorem wit_LinkExchange_a1Line : (a1Bytes a1Line).any (fun b => leAt b 0 1 == 1 && a1Whole b (11 + leAt b 3 4) &&
      leAt b 3 4 == fmtLineb (a1S.camFmt 95) &&
      splitRecs (a1S.camFmt 95) (leAt b 1 2) (a1S.cam 95).recs == some ([], lrec5, [])) = true ∧
    a1S.camDelivers 95 = true ∧ (a1S.bond 95).resume ≤ a1S.devTime := by decide +kernel

/-! ## Pipelines and assay stages -/

/-- Pipeline 103 with registers and records. -/
def pipeS (x : Pipe) (y : Asy) (l : List (Nat × Nat)) : State := ((put base l).setPipe 103 x).setAsy 103 y
/-- A grid line of an axis' run. -/
def outL : OutLine := { i := 9, x := 90, expt := 0, code := 0, planes := [[1, 2]] }
theorem wit_PipeControl : Up base (Reg.PIPE_CTL 103) ∧ base.unlocked .pipe = false ∧
    (put base [(Reg.PIPE_LOCK, 1)]).unlocked .pipe = true ∧
    base.pipeEn 103 = false ∧ bitOf 1#32 0 = true ∧ (put base [(Reg.PIPE_BIND 103, 1)]).bit (Reg.PIPE_BIND 103) 0 = true ∧
    base.pipeBit 103 6 = false ∧ (put base [(Reg.PIPE_CTL 103, 1)]).pipeEn 103 = true ∧ bitOf 0#32 0 = false ∧
    base.pipeBit 103 3 = false ∧ (put base [(Reg.PIPE_STAT 103, 8)]).pipeBit 103 3 = true ∧ (base.pipe 103).waiting = [] ∧
    quiet base = true ∧
    quiet (put base [(Reg.PIPE_STAT 103, 8)]) = true := by
  unfold Up; decide +kernel
/-- Bank word 0x7C of a block that the assay stage takes, in a context of 32 words. -/
def asyBank : Bank := { ctx := [0#32, 4#32] ++ List.replicate 29 0#32 ++ [1#32] }
def runP (done : Bool) : PRun := { id := 4, phase := 0#48, first := 0, nextOut := 9, issued := some 9, ended := done, seen := 10 }
def blkP (b : Bank) : PBlk := { run := 4, i0 := 9, seq := 1, frame := 0, bank := b }
def lineA : AsyLine := { run := 4, i0 := 9, seq := 1, o := outL, last := false }
/-- A block of one line, so that the line that passes ends it. -/
def endBlk (b : Bank) : PBlk := { blkP b with cut := some 1 }
theorem wit_PipeLines : quiet base = true ∧ base.pipeClk 103 = true ∧
    quiet (pipeS { inq := [{ gap := false, lrec := some lrec5 }], runs := [runP false] } {} []) = true ∧
    (pipeS { inq := [{ gap := false, lrec := some lrec5 }] } {} []).plateStalled 103 = false ∧ (endBlk asyBank).area = false ∧
    ((pipeS { inq := [{ gap := false, lrec := some lrec5 }] } {} []).pipe 103).inq = { gap := false, lrec := some lrec5 } :: [] ∧
    (base.pipe 103).inq = [] ∧ ((pipeS { runs := [runP false] } {} []).pipe 103).hold = none ∧
    ((pipeS { runs := [runP false] } {} []).pipe 103).runs.find? (fun r => !r.fin) = some (runP false) ∧
    ((pipeS { runs := [runP false], blks := [endBlk asyBank] } {} []).pipe 103).blkOf 4 9 = some (endBlk asyBank) ∧
    (endBlk asyBank).emitted < (endBlk asyBank).total ∧ plateReady asyBank (runP false) 9 = false ∧
    plateReady asyBank (runP true) 9 = true ∧
    ([runP true].find? (fun r => !r.fin)) = some (runP true) ∧
    ((pipeS { hold := some outL, holdRun := 4, blks := [endBlk asyBank] } {} []).pipe 103).blkOf 4 outL.i = some (endBlk asyBank) ∧
    bitOf (asyBank.w 0x7C) 0 = true ∧ ((pipeS {} { queue := [lineA] } []).asy 103).queue ≠ [] ∧ (base.asy 103).queue = [] ∧
    bitOf (({} : Bank).w 0x7C) 0 = false ∧ (endBlk asyBank).passed + 1 = (endBlk asyBank).total := by decide +kernel
/-- Sprue 103 loads the banks of pipeline 91; the bench serves its duties. -/
def sprueS : State := pipeS { rep := some 91, loading := true } {} [(Reg.PIPE_SPRUE, 0), (Reg.LANE_SPRUE, 0)]
theorem wit_PipeControl_PipeFaultsAndSpares : quiet sprueS = true ∧ (sprueS.pipe 103).rep = some 91 ∧
    (sprueS.pipe 103).loading = true ∧
    (sprueS.pipe 103).lateSwap = false ∧ (base.pipe 103).rep = none ∧
    (put base [(Reg.PIPE_SPRUE, 0x8000)]).bit Reg.PIPE_SPRUE (8 + 7) = true ∧
    (put base [(Reg.LANE_SPRUE, 0x800000)]).bit Reg.LANE_SPRUE (16 + 7) = true ∧ sprueS.bit Reg.PIPE_SPRUE (8 + 7) = false ∧
    sprueS.bit Reg.LANE_SPRUE (16 + 7) = false ∧ sprueS.fwDuty 1 = true ∧ State.reset.fwDuty 1 = false := by decide +kernel
theorem wit_PipeControl_PipeFaultsAndSpares_lanes : quiet (laneS 7 {} []) = true ∧ (laneS 7 {} []).fwDuty 1 = true ∧
    (laneS 7 {} []).laneSt 103 = 7 ∧
    quiet (laneS 0 {} [(Reg.LANE_BOND 103, 1)]) = true ∧ (laneS 0 {} [(Reg.LANE_BOND 103, 1)]).bit (Reg.LANE_BOND 103) 0 = true ∧
    (laneS 0 {} []).laneSt 103 = 0 ∧ (laneS 0 {} []).bit (Reg.LANE_BOND 103) 0 = false ∧ ((laneS 0 {} []).lane 103).selfT = none ∧
    quiet (laneS 9 { selfT := some 0 } []) = true ∧ (laneS 9 {} []).laneSt 103 ≠ 7 ∧ 0 + usTicks 10 ≤ (laneS 9 {} []).devTime ∧
    (laneS 9 {} []).devTime < 999999999 + usTicks 10 := by decide +kernel
def cellB : TbCell := { u := 0, v := 0, px := 0, py := 0, means := [], x0 := 0 }
/-- A page with one mark at column 8, row 0, of which 200 rows are placed. -/
def pageA : AsyPage := { q := 0, page := 1, pstart := 0#48, rows := 200, desc := List.replicate 44 0#8 ++ [1#8] ++ List.replicate 19 0#8 }
def rowA : AsyRow := { line := lineA, placed := true, noref := false, r := 0 }
/-- Assay context: FMT of ASY_CFG with marks enabled, scales of one pixel per row, and a core of 32 columns from 0. -/
def markBank : Bank := { ctx := [32 * 65536#32], asy := [2#32, 0#32, 0x10000#32, 0x10000#32] }
def markS : State := pipeS { blks := [endBlk markBank] } { page := some pageA, hist := [rowA] } []
theorem wit_PipeLines_AssayStage : quiet base = true ∧ quiet (put base [(Reg.CLK_GATE 3, 0)]) = true ∧
    quiet (pipeS {} { tb := [cellB, cellB], page := some pageA, rows := [rowA] } []) = true ∧
    quiet markS = true ∧ base.pipeClk 103 = true ∧ State.reset.pipeClk 103 = false ∧
    ((pipeS {} { tb := [cellB] } []).asy 103).tb ≠ [] ∧ ((pipeS {} { queue := [lineA] } []).asy 103).tb = [] ∧
    ((pipeS {} { queue := [lineA] } []).asy 103).queue = lineA :: [] ∧ ((pipeS {} { queue := [lineA] } []).asy 103).rows = [] ∧
    (base.asy 103).tb = [] ∧ ((pipeS {} { tb := [cellB, cellB], page := some pageA, rows := [rowA] } []).asy 103).rows = rowA :: [] ∧
    [cellB] ≠ [] ∧ (base.asy 103).page = none ∧ (markS.asy 103).page = some pageA ∧ (markS.asy 103).hist = rowA :: [] ∧
    { pageA with marks := [3] }.marks.contains 3 = true ∧ markS.blkBank 103 4 9 = markBank ∧ markBank.af 0 1 1 = 1 ∧
    pageA.desc ≠ [] ∧ 0 < pgMarks pageA.desc ∧ pageA.marks.contains 0 = false ∧
    0 ≤ (markPlace markBank pageA [rowA] 0).1 ∧ inCore markBank (markPlace markBank pageA [rowA] 0).1.toNat = true ∧
    (rowA.r : Int) ≤ max 0 ((markPlace markBank pageA [rowA] 0).2 - 32) ∧
    (markPlace markBank pageA [rowA] 0).2 + 32 + (markRange markBank : Int) ≤ (pageA.rows : Int) := by decide +kernel
theorem wit_PipeLines_AssayStage_sets : Up base Reg.ASY_RSCMD ∧ Up base (Reg.ASY_CMD 103) ∧ bitOf 0x80#32 7 = true ∧
    (Reg.ASY_RSCMD, 7) ∉ base.now.again ∧ (put base [(Reg.ASY_CFG 103, 0x700)]).fld (Reg.ASY_CFG 103) 8 3 = 7 := by
  unfold Up; decide +kernel
/-! ## The accountant, delivery and memory -/

/-- Plane 7 with the segment 4095: column 0 of camera 95 to track 0xFFFFF; a summary of that column waits. -/
def sumE : Summary := { bytes := leBytes 12 0 ++ [95#8, 0#8] ++ leBytes 2 0 ++ leBytes 2 1 ++ leBytes 14 0 ++ leBytes 6 0 ++ leBytes 2 0x8005 }
def nozS (x : NozX) (b : NozBank) (l : List (Nat × Nat)) : State :=
  ((put base ([(Reg.NOZ_CTL, 1), (Reg.NOZ_PLCFG 7, 1), (Reg.NOZ_PLNHI 7, 0xFFFFF), (Reg.NOZ_PLW1 7, 0), (Reg.NOZ_PLMAP 7,
    4095 + 4096),
    (Reg.NOZ_SEG 4095 0, 95), (Reg.NOZ_SEG 4095 1, 0xFFFFF00), (Reg.NOZ_SEG 4095 2, 1)] ++ l)).setNoz x).setNbank 31 b
def sumS : State := nozS { queue := [sumE] } {} []
theorem wit_NozzleUpdates : quiet base = true ∧ quiet sumS = true ∧ base.bit Reg.NOZ_CTL 0 = false ∧
    sumS.bit Reg.NOZ_CTL 0 = true ∧ sumS.clkOn 234 = true ∧ sumS.noz.queue = sumE :: [] ∧
    (nozS { queue := [sumE], entry := 1 } {} []).nextSlot sumE (8 * sumCols sumE + 1) 1 0 = none ∧
    sumS.nextSlot sumE (8 * sumCols sumE + 1) 0 0 = some (0, 7, 4095) ∧ sumS.attribute 4095 (sumCore sumE + 0) = some 0xFFFFF ∧
    trackBank 0xFFFFF = 31 ∧ (nozS {} { inlay := some { row := 1, spare := 0, copy := true } } []).bankHeld 31 = true ∧
    sumS.bankHeld 31 = false ∧ (nozS {} {} [(Reg.NOZ_TRK 0xFFFFF 2, 0x80000000)]).trkMask 0xFFFFF = true ∧
    sumS.trkMask 0xFFFFF = false ∧
    sumS.fld (Reg.NOZ_PLW1 7) 16 16 ≤ sumN sumE 0 ∧ sumRef sumE 0 = true ∧ sumS.rowLost 31 255 = false ∧
    sumS.rowInlay 31 255 = false ∧
    sumS.planeEn 7 = true ∧ sumS.inPlane 7 0xFFFFF = true := by decide +kernel
theorem wit_NozzleTables : Up base (Reg.NOZ_PLCMD 7) ∧ quiet base = true ∧ quiet (nozS { commits := [7] } {} []) = true ∧
    (Reg.NOZ_PLCMD 7, 0) ∉ base.now.again ∧ 7 ∉ base.noz.commits ∧ 7 ∈ (nozS { commits := [7] } {} []).noz.commits ∧
    base.noz.entry = 0 ∧ base.noz.plane = 0 ∧
    (nozS {} {} [(Reg.NOZ_PLMAPS 7, 4095 + 4096)]).runOverlaps (mapRun ((nozS {} {} [(Reg.NOZ_PLMAPS 7,
    4095 + 4096)]).rd (Reg.NOZ_PLMAPS 7))) = false ∧
    (nozS {} {} [(Reg.NOZ_PLMAPS 7, 4095 + 8192), (Reg.NOZ_SEG 0 0, 95)]).runOverlaps (mapRun 0x2FFF#32) = true ∧
    base.logicalRow 31 263 = none ∧ base.logicalRow 31 255 = some 255 ∧ (base.nbank 31).inlay = none ∧ 255 ∉ (base.nbank 31).lost ∧
    (put base [(Reg.NOZ_BANK 31, 0x8000)]).spareRow 31 = some 7 ∧ (put base [(Reg.NOZ_BANK 31, 0)]).spareRow 31 = none ∧
    base.fwDuty 2 = true ∧ State.reset.fwDuty 2 = false ∧
    sget (fun _ => 0) (base.nbank 31).ce 263 < 3 ∧ sget (fun _ => 0) ((nozS {} { ce := [(255, 3)] } []).nbank 31).ce 255 = 3 ∧
    (∀ e ∈ ((nozS {} { ce := [(255, 3)] } []).nbank 31).waiting, e.1 ≠ 255) ∧
    base.unitUp (Reg.NOZ_TRK 0xFFFFF 0) = true ∧ (put base [(Reg.CLK_GATE 7, 0)]).unitUp (Reg.NOZ_TRK 0xFFFFF 0) = false ∧
    (put base [(Reg.TWIN_STAT, 2)]).fld Reg.TWIN_STAT 0 3 = 2 ∧ (List.replicate 1536 0#8).length = 1536 ∧
    ((nozS {} { inlay := some { row := 255, spare := 7, copy := true } } []).nbank 31).inlay = some
    { row := 255, spare := 7, copy := true } ∧
    ((nozS {} { inlay := some { row := 255, spare := 7, copy := false } } []).nbank 31).waiting = [] ∧
    base.fld Reg.TWIN_STAT 0 3 ≠ 2 ∧
    base.clkOn 234 = true ∧ Up base Reg.NOZ_CMD := by unfold Up; decide +kernel

/-- A fragment of an inner blob, and blocks of camera 95 in pipeline 103 and in the crucible. -/
def frag1 : Frag := { n := 0, stripe := 0, viewten := 0, thi := 1, amaj := 1, blob := { run := 4, i0 := 0, x0 := 0, t0 := 0, seq := 0, blk := 0, page := 0, y0 := 0, c0 := 0, c1 := 1 } }
def doneBlk : PBlk := { endBlk asyBank with passed := 1, statDone := true, assayDone := true }
def cruS (x : Cru) (l : List (Nat × Nat)) : State := (put base l).setCru 95 x
theorem wit_Crucible_CrucibleIntake : quiet base = true ∧ quiet (cruS { frags := [frag1] } []) = true ∧
    quiet (pipeS { blks := [doneBlk] } {} []) = true ∧ base.fragReady 95 (base.cru 95).frags [] = none ∧
    (cruS { frags := [frag1] } []).fragReady 95 ((cruS { frags := [frag1] } []).cru 95).frags [] = some ([frag1], []) ∧
    ((pipeS { blks := [doneBlk] } {} []).pipe 103).blks.find? (fun b => !b.posted) = some doneBlk ∧ doneBlk.passed = doneBlk.total ∧
    doneBlk.statDone = true ∧ doneBlk.assayDone = true ∧ doneBlk.late = false ∧ (endBlk asyBank).statDone ≠ true ∧
    ((pipeS { blks := [{ doneBlk with late := true }] } {} []).pipe 103).blks.find? (fun b => b.late &&
    !b.posted) = some { doneBlk with late := true } ∧
    (base.pipe 103).blks.find? (fun b => b.late && !b.posted) = none ∧ base.clkOn 235 = true ∧ State.reset.clkOn 235 = false ∧
    Up base Reg.CRU_CMD := by unfold Up; decide +kernel
def cblk (t : Option (List Byte)) : CBlk := { run := 4, i0 := 0, seq := 7, pipes := [103], tag := t }
def cblkEnd : CBlk := { cblk none with ends := [{ n := 103, blk := doneBlk, x0 := 0, lines := 1 }] }
theorem wit_Crucible_BlockTags : quiet (cruS { blocks := [cblkEnd] } [(Reg.TWIN_STAT, 2)]) = true ∧ base.clkOn 235 = true ∧
    (base.cru 95).blocks = [] ∧ ((cruS { blocks := [cblk none] } []).cru 95).blocks = cblk none :: [] ∧
    (cblk (some [])).tag.isSome = true ∧ (cruS { blocks := [cblk none] } []).blkReady 95 (cblk none) = false ∧ cblkEnd.tag = none ∧
    (cruS { blocks := [cblkEnd] } []).blkReady 95 cblkEnd = true ∧ base.fld Reg.TWIN_STAT 0 3 = 0 ∧
    (cruS { blocks := [cblkEnd] } [(Reg.TWIN_STAT, 2)]).fld Reg.TWIN_STAT 0 3 = 2 ∧ base.twin.peerDig = [] ∧
    takeFirst (fun (e : Nat × Nat × Nat) => e.1 == 95 && e.2.1 == cblkEnd.seq) [(95, 7, 3)] = (some (95, 7, 3), []) ∧
    base.devTime < 0 + usTicks (clampN 1 10000 (base.fld Reg.CRU_TWINWAIT 0 16)) ∧ (atT 16000000 base).devTime = 16000000 ∧
    0 + usTicks (clampN 1 10000 (base.fld Reg.CRU_TWINWAIT 0 16)) ≤ 16000000 := by decide +kernel
/-- Ring 15 of function 15 with its configuration and staged entries. -/
def ringS (x : Ring) (cfg : Nat) (l : List (Nat × Nat)) : State :=
  (put base ([(Reg.DLV_RCFG 15 15, cfg), (Reg.DLV_RSIZE 15 15, 4), (Reg.DLV_RDSIZE 15 15, 1), (Reg.HOSTEP_FNSTAT 15, 0xFF),
    (Reg.DMA_CHSTAT 0, 1), (Reg.DMA_ENGCTL 0, 1), (Reg.HOSTEP_LINK, 0x4000)] ++ l)).setRing 15 15 x
def st1 : Staged := { bytes := [1#8, 2#8], run := [3#8] }
theorem wit_Delivery_DeliveryRings : quiet (ringS { staged := [st1] } 1 []) = true ∧
    (∀ st ∈ st1.stripes, (ringS { staged := [st1] } 9 []).stripeGone (leAt st1.bytes 8 1) st = false) ∧
    (base.ring 15 15).staged = [] ∧ ((ringS { staged := [st1] } 1 []).ring 15 15).staged = st1 :: [] ∧
    (ringS { staged := [st1] } 1 []).ringEn 15 15 = true ∧ (ringS { staged := [st1] } 1 []).ringFull 15 15 = false ∧
    (ringS { staged := [st1] } 1 []).ringChOk 15 15 = true ∧ (ringS { staged := [st1] } 1 []).ringKind 15 15 ≠ 4 ∧
    (ringS { staged := [st1] } 9 []).ringKind 15 15 = 4 ∧ (ringS { staged := [st1] } 9 []).ringEn 15 15 = true ∧
    runPlace ((ringS { staged := [st1] } 9 []).ring 15 15).runs 0 ((ringS { staged := [st1] } 9 []).fld (Reg.DLV_RDSIZE 15 15) 0
    16 * 2 ^ 20) 1 = some 0 ∧
    runPlace [(0, 0, 1048576)] 0 ((ringS { staged := [st1] } 9 []).fld (Reg.DLV_RDSIZE 15 15) 0 16 * 2 ^ 20) 1 = none ∧
    (base.ring 15 15).sigT = none ∧ ((ringS { sigT := some 0 } 1 [(Reg.DLV_RMOD 15 15, 5 * 256)]).ring 15 15).sigT = some 0 ∧
    base.devTime < 0 + usTicks ((ringS { sigT := some 0 } 1 [(Reg.DLV_RMOD 15 15, 5 * 256)]).fld (Reg.DLV_RMOD 15 15) 8 16) ∧
    0 + usTicks ((ringS { sigT := some 0 } 1 [(Reg.DLV_RMOD 15 15, 5 * 256)]).fld (Reg.DLV_RMOD 15 15) 8 16) ≤ 8000 ∧
    (ringS {} 1 []).bit (Reg.HOSTEP_FNSTAT 15) 4 = true ∧
    (put base [(Reg.HOSTEP_FNSTAT 15, 0x1F)]).bit (Reg.HOSTEP_FNSTAT 15) 5 = false ∧
    (put base [(Reg.MSIX 15 0 3, 0)]).bit (Reg.MSIX 15 ((ringS {} 1 []).fld (Reg.DLV_RMOD 15 15) 24 6) 3) 0 = false ∧
    base.fnOk 0 = true ∧ base.unitUp (Reg.DLV_RCIDX 0 15) = true ∧
    base.ringUsed 0 15 < ((1#32).toNat + 2 ^ 32 - base.rdN (Reg.DLV_RCIDX 0 15)) % 2 ^ 32 ∧
    ((0#32).toNat + 2 ^ 32 - base.rdN (Reg.DLV_RCIDX 0 15)) % 2 ^ 32 ≤ base.ringUsed 0 15 := by decide +kernel
def cmdOf (op : Nat) (p : List Byte) : Cmd :=
  { f := 0, slot := 63, op := op, flags := 0, seq := 9, tenant := 0, len := p.length, payload := p, bad := false, t := 0 }
def xferS (op : Nat) (p : List Byte) : State := base.setXferQ 15 [{ cmd := cmdOf op p, headT := some 0 }]
theorem wit_Delivery_TransferQueues : base.xferQ 15 = [] ∧
    (xferS 0x0B02 (leBytes 20 0)).xferQ 15 = { cmd := cmdOf 0x0B02 (leBytes 20 0), headT := some 0 } :: [] ∧
    (cmdOf 0x0B02 (leBytes 20 0)).interim = false ∧ (cmdOf 0x0B02 (leBytes 20 0)).f < 16 ∧ base.bench.restart = none ∧
    ([] : List Byte).length = (cmdOf 0x0B02 (leBytes 20 0)).at 16 4 ∧
    ({ base.bench with restart := some (0, 0) } : BenchX).restart.isSome = true ∧
    quiet (xferS 0x0B02 (leBytes 20 0)) = true ∧ quiet (atT 16000000000 (xferS 0x0B02 (leBytes 20 0))) = true ∧
    0 + usTicks 10000000 ≤ 16000000000 ∧ (xferS 0x0B02 []).devTime < 0 + usTicks 10000000 := by decide +kernel

/-- The memory controller serves, with or without the scrubber. -/
def memS (x : MemX) (l : List (Nat × Nat)) : State := (put base ([(Reg.MEM_CTL, 3)] ++ l)).setMemx x
/-- The same with the salt of page 767 known. -/
def saltS (l : List (Nat × Nat)) : State := { memS {} l with regs := (Reg.MEM_SALT 767, 1#32) :: (memS {} l).regs }
theorem wit_MemoryErrors : quiet (saltS []) = true ∧ (saltS []).memServes 0xB3FFFFFFF = true ∧
    (saltS []).memServes 0xB40000000 = false ∧ (saltS [(Reg.MEM_CTL, 1)]).bit Reg.MEM_CTL 1 = false ∧
    (saltS []).memServes (32 * 0x59FFFFFF) = true ∧ (saltS []).bit Reg.MEM_CTL 1 = true ∧ Up (saltS []) Reg.MEM_CMD := by
  unfold Up; decide +kernel
theorem wit_MemoryErrors_MemoryMonitor : quiet (memS {} []) = true ∧ quiet (atT 1000000000000 (memS {} [])) = true ∧
    0 < (memS {} []).memx.monT + (memS {} []).monTicks ∧ (memS {} []).memx.monT + (memS {} []).monTicks ≤ 1000000000000 ∧
    (memS {} []).fwDuty 3 = true ∧ State.reset.fwDuty 3 = false ∧ (memS {} []).memx.queue = [] ∧
    (memS { resalt := some (767, 5) } []).resaltSets < 4096 ∧
    (atT 1000000000000 (memS { resalt := some (767, 5) } [])).resaltSets = 4096 ∧ (Reg.MEM_CMD, 2) ∉ base.now.again ∧
    (memS {} [(Reg.MEM_CTL, 0)]).bit Reg.MEM_CTL 0 = false ∧ (memS {} []).bit Reg.MEM_CTL 0 = true ∧
    maxList ((List.replicate 60 1).take 60) * 960 ≤ (memS {} [(Reg.MEM_MONCFG, 64)]).fld Reg.MEM_MONCFG 0 8 * 60 ∧
    (memS {} [(Reg.MEM_MONCFG, 64)]).fld Reg.MEM_MONCFG 0 8 * 60 < maxList ((List.replicate 59 0 ++ [60]).take 60) * 960 ∧
    (List.replicate 59 0 ++ [60]).length = 60 ∧ Up (memS {} []) Reg.MEM_CMD ∧
    ((memS { resalt := some (767, 5) } []).memx.resalt.isSome = true) ∧
    768 ≤ (memS {} [(Reg.MEM_RESALTSEL, 768)]).fld Reg.MEM_RESALTSEL 0 10 ∧ (memS {} []).memx.copy = none ∧
    (memS {} []).memx.resalt = none ∧
    (memS {} [(Reg.MEM_RESALTSEL, 767)]).fld Reg.MEM_RESALTSEL 0 10 < 768 ∧
    (memS { resalt := some (767, 5) } []).memx.resalt = some (767, 5) := by
  unfold Up; decide +kernel
theorem wit_MemoryInlays : (memS { copy := some (61, 63) } []).inlayMib < 768 ∧
    (atT 1000000000000 (memS { copy := some (61, 63) } [])).inlayMib = 768 ∧
    quiet (atT 1000000000000 (memS { copy := some (61, 63) } [])) = true ∧ (Reg.MEM_CMD, 1) ∉ base.now.again ∧
    (memS {} []).fwDuty 3 = true ∧ Up (memS {} []) Reg.MEM_CMD ∧ (memS {} []).inlaySelOk 0 0 = false ∧ (memS {} []).memx.copy = none ∧
    (memS {} []).memx.resalt = none ∧ (memS { copy := some (0, 30) } []).memx.copy.isSome = true ∧
    (memS {} [(Reg.MEM_PCSTAT 63, 0x101)]).inlaySelOk 61 63 = true ∧
    (memS {} []).memx.queue = [] ∧ (memS { queue := [61] } []).memx.queue = 61 :: [] ∧
    (memS {} [(Reg.MEM_PCSTAT 63, 0x101)]).pcSprue (61 / 32) = some 63 ∧
    (memS {} [(Reg.MEM_PCSTAT 62, 3), (Reg.MEM_PCSTAT 63, 3)]).pcSprue (61 / 32) = none ∧
    (memS { copy := some (61, 63) } []).memx.copy = some (61, 63) ∧ (memS {} []).pcLc 61 = some 59 := by unfold Up; decide +kernel
/-! ## DMA -/

/-- Channel 511 of tenant 0 in a state of DMA_CHSTAT, with its record and registers. -/
def chS (st : Nat) (x : Chan) (l : List (Nat × Nat)) : State := (put base ([(Reg.DMA_CHSTAT 511, st), (Reg.DMA_ENGCTL 15,
    1)] ++ l)).setChan 511 x
theorem wit_DmaChannels_ChannelCommands : Up base (Reg.DMA_CHCMD 511) ∧ (put base [(Reg.CLK_GATE 6, 0)]).dmaOn 511 = false ∧
    base.dmaOn 511 = true ∧
    (chS 2 {} []).chSt 511 = 2 ∧ (chS 0 {} []).chSt 511 = 0 ∧ (chS 5 {} []).chSt 511 = 5 ∧ (chS 6 {} []).chSt 511 = 6 ∧
    (chS 4 {} []).chSt 511 = 4 ∧
    (chS 0 {} [(Reg.DMA_CHPACE 511, 3)]).chPace 511 = 3 ∧ (chS 0 {} []).chPace 511 = 0 ∧
    (chS 0 {} [(Reg.DMA_CHCFG 511, 1)]).chLinked 511 = true ∧
    (chS 0 {} []).chLinked 511 = false ∧ ((chS 0 {} []).chan 511).desc = none ∧ (chS 0 {} []).chShValid 511 = false ∧
    (chS 0x100 {} []).chShValid 511 = true ∧ (chS 0x100 {} []).chSt 511 = 0 ∧ base.fnOk 0 = true ∧
    base.unitUp (Reg.MBX_DMAKICK 0 511) = true ∧
    (chS 4 {} [(Reg.DMA_CHOWN 511, 16)]).bit (Reg.DMA_CHOWN 511) 4 = true ∧ (chS 4 {} [(Reg.DMA_CHOWN 511, 16)]).chTenant 511 = 0 ∧
    (chS 4 {} [(Reg.DMA_CHOWN 511, 16)]).bit (Reg.DMA_CHOWN 511) 5 = false ∧ base.bit (Reg.DMA_CHOWN 511) 4 = false ∧
    (put base [(Reg.CLK_GATE 6, 0)]).fnOk 0 = true ∧ base.fnOk 0 = true := by
  unfold Up; decide +kernel
def copyD (ctl : Nat) : Desc := { src := 64, dst := 128, len := 32, ctl := w32 ctl }
theorem wit_DmaChannels_EngineService : quiet base = true ∧ quiet (chS 1 { desc := some (copyD 0) } [(Reg.DMA_CHOWN 511,
    16)]) = true ∧
    base.bit (Reg.DMA_ENGCTL 15) 0 = false ∧ base.clkOn 223 = true ∧ (chS 1 {} []).bit (Reg.DMA_ENGCTL 15) 0 = true ∧
    (chS 1 {} []).bit (Reg.DMA_ENGSTAT 15) 10 = false ∧ ((chS 1 {} []).engine 15).ch = none ∧
    (chS 1 { desc := some (copyD 0) } [(Reg.DMA_CHOWN 511, 16)]).enginePick 15 = some 511 ∧
    ((chS 1 { desc := some (copyD 0) } []).chan 511).desc = some (copyD 0) := by decide +kernel
theorem wit_DmaChannels_EngineService_copy : (copyD 0).mode = 0 ∧ (copyD 0).srcHost = false ∧ (copyD 0).dstHost = false ∧
    bitOf (copyD 0).ctl 21 = false ∧
    (copyD 0).bad 0 0 = false ∧ 0 < (copyD 0).len ∧ (copyD 0).len ≤ 256 ∧ ((chS 1 {} []).chan 511).k = 0 ∧
    ((chS 1 {} []).chan 511).done = false ∧ (chS 1 {} []).devAddr 0 64 32 = some 64 ∧ (chS 1 {} []).devAddr 0 128 32 = some 128 := by
  decide +kernel
/-- A linked channel at address 0, with a descriptor there. -/
def linkS (bs : List Byte) (l : List (Nat × Nat)) : State :=
  { chS 1 {} ([(Reg.DMA_CHCFG 511, 1), (Reg.DMA_CHOWN 511, 16)] ++ l) with devMem := memWrite [] 0 bs }
def descB (own : Nat) : List Byte := leBytes 8 64 ++ leBytes 8 128 ++ leBytes 4 32 ++ leBytes 4 0 ++ leBytes 32 0 ++ leBytes 8 own
/-- The same channel with its list on the host, on a link that is up. -/
def hostL (cfg : Nat) : State := linkS [] [(Reg.DMA_CHCFG 511, cfg), (Reg.HOSTEP_LINK, 0x4000), (Reg.HOSTEP_FNSTAT 0, 0xFF)]
theorem wit_DmaDescriptors_Descriptors_host : quiet (hostL 3) = true ∧ (hostL 3).dmaOn 511 = true ∧ (hostL 3).chLinked 511 = true ∧
    (hostL 3).chSt 511 = 1 ∧ (hostL 3).bit (Reg.DMA_CHCFG 511) 1 = true ∧ (hostL 3).bit Reg.HOSTEP_LINK 14 = true ∧
    (hostL 3).hostReady 0 ((hostL 3).bit (Reg.DMA_CHCFG 511) 2) 0 64 = true ∧
    (hostL 7).hostReady 0 ((hostL 7).bit (Reg.DMA_CHCFG 511) 2) 0 64 = false ∧ 64 ≤ (descB 1).length ∧
    leAt (descB 1) 56 8 % 2 = 1 ∧ (descOf (descB 1)).bad (leAt (descB 1) 46 2) (descOf (descB 1)).next = false ∧
    (linkS [] [(Reg.DMA_CHCFG 511, 3)]).bit Reg.HOSTEP_LINK 14 = false := by decide +kernel
theorem wit_DmaDescriptors_Descriptors_fetch : quiet (linkS (descB 0) []) = true ∧ (chS 1 {} []).chLinked 511 = false ∧
    (linkS [] []).dmaOn 511 = true ∧ (linkS [] []).chLinked 511 = true ∧
    (linkS [] []).chSt 511 = 1 ∧ ((linkS [] []).chan 511).desc = none ∧ (linkS [] []).bit (Reg.DMA_CHCFG 511) 1 = false ∧
    (linkS (descB 0) []).chAddr 511 0 64 = some 0 ∧ leAt (memRead (linkS (descB 0) []).devMem 0 64) 56 8 % 2 = 0 ∧
    leAt (memRead (linkS (descB 1) []).devMem 0 64) 56 8 % 2 = 1 ∧
    (descOf (memRead (linkS (descB 1) []).devMem 0 64)).bad (leAt (memRead (linkS (descB 1) []).devMem 0 64) 46 2)
      (descOf (memRead (linkS (descB 1) []).devMem 0 64)).next = false ∧ (linkS [] []).chPace 511 = 0 ∧
    (linkS [] [(Reg.DMA_CHPACE 511, 1)]).chPace 511 ≠ 0 ∧ (linkS [] []).credits 511 = 0 ∧
    ((linkS [] []).setChan 511 { addr := 2 ^ 40 }).chAddr 511 (2 ^ 40) 64 = none := by decide +kernel
/-- Engine 15 has written the last of channel 511's descriptor. -/
def doneS (ctl st : Nat) : State := (chS 2 { desc := some (copyD ctl), done := true, stat := st } [(Reg.DMA_CHOWN 511,
    16)]).setEngine 15 { ch := some 511 }
theorem wit_DmaDescriptors_Descriptors_done : quiet (doneS 0 0) = true ∧ quiet (chS 3 { wait := some 0 } []) = true ∧
    (chS 3 { wait := some 0 } []).dmaOn 511 = true ∧
    base.doneOn 15 = none ∧ (doneS 0 0).doneOn 15 = some (511, copyD 0, 0) ∧ 511 / 32 = 15 ∧ (copyD 0).fenced = false ∧
    (copyD 0x800).fenced = true ∧ (doneS 0x800 0).doneOn 15 = some (511, copyD 0x800, 0) ∧ (copyD 0x800).dstHost = false ∧
    (∃ b ∈ [0, 1, 2, 3, 4, 5, 6, 7, 8, 9, 10], (copyD (0x800 + 2 ^ b)).dstHost = true) ∧
    ((chS 3 {} []).chan 511).wait = none ∧ ((chS 3 { wait := some 0 } []).chan 511).wait = some 0 ∧ (chS 3 {} []).chSt 511 = 3 ∧
    (chS 3 {} [(Reg.DMA_CHSTALL 511, 5)]).devTime < 0 + usTicks (max 1 ((chS 3 {} [(Reg.DMA_CHSTALL 511,
    5)]).fld (Reg.DMA_CHSTALL 511) 0 24)) ∧
    0 + usTicks (max 1 ((chS 3 {} [(Reg.DMA_CHSTALL 511, 5)]).fld (Reg.DMA_CHSTALL 511) 0 24)) ≤ 8000 := by decide +kernel
theorem wit_DmaDescriptors_EngineErrors : quiet (put base [(Reg.CLK_GATE 6, 0)]) = true ∧ quiet base = true ∧
    (put base [(Reg.CLK_GATE 6, 0)]).clkOn 223 = false ∧ base.clkOn 223 = true ∧
    (doneS 0 0).bit (Reg.DMA_CHOWN (32 * 15 + 31)) 4 = true := by decide +kernel

/-! ## Mailboxes and the bench -/

/-- A command slot of PF0 with a command of Table 13.9, as bytes. -/
def bellS (op : Nat) : State :=
  (put base [(Reg.MBX_SLOT 0 (256 * 63), op)]).setBench { base.bench with bells := [(0, 63)] }
def resp1 : Resp := { bytes := respBytes 0 0 63 9 0x0101 [], slot := some 63, irq := false, notice := false }
def heldS (l : List (Nat × Nat)) : State := (put base l).setMbox 0 { held := [resp1] }
theorem wit_Mailboxes : quiet (bellS 0x0101) = true ∧ quiet (heldS []) = true ∧ (heldS []).fwServes = true ∧
    (∀ k, resp1.slot = some k → k < 64) ∧
    base.fnOk 0 = true ∧ base.unitUp (Reg.MBX_CMDDB 0) = true ∧
    (put base [(Reg.MBX_SLOTBUSY_HI 0, 0x80000000)]).bit (Reg.MBX_SLOTBUSY_LO 0 + 4 * (fldOf 63#32 0 6 / 32)) (fldOf 63#32 0 6 %
    32) = true ∧
    base.bit (Reg.MBX_SLOTBUSY_LO 0 + 4 * (fldOf 63#32 0 6 / 32)) (fldOf 63#32 0 6 % 32) = false ∧
    base.unitUp (Reg.MBX_RSPCIDX 0) = true ∧
    ((1#32).toNat + 2 ^ 32 - base.rdN (Reg.MBX_RSPCIDX 0)) % 2 ^ 32 ≤
      ((put base [(Reg.MBX_RSPPIDX 0, 1)]).rdN (Reg.MBX_RSPPIDX 0) + 2 ^ 32 - base.rdN (Reg.MBX_RSPCIDX 0)) % 2 ^ 32 ∧
    (base.rdN (Reg.MBX_RSPPIDX 0) + 2 ^ 32 - base.rdN (Reg.MBX_RSPCIDX 0)) % 2 ^ 32 <
      ((1#32).toNat + 2 ^ 32 - base.rdN (Reg.MBX_RSPCIDX 0)) % 2 ^ 32 ∧
    base.nextFn = none ∧ (bellS 0x0101).fwServes = true ∧ (bellS 0x0101).nextFn = some 0 ∧
    (bellS 0x0101).bench.bells.find? (fun b => b.1 == 0) = some (0, 63) ∧
    (bellS 0x0101).startStatus ((bellS 0x0101).readCmd 0 63) = 0 ∧ (bellS 0xFFFF).startStatus ((bellS 0xFFFF).readCmd 0 63) ≠ 0 ∧
    (base.mbox 0).held = [] ∧ ((heldS []).mbox 0).held = resp1 :: [] ∧ (heldS []).rspRoom 0 = true ∧
    (heldS [(Reg.MBX_RSPPIDX 0, 64)]).rspRoom 0 = false ∧ resp1.bytes.length ≤ 256 ∧ (heldS []).rd64 (Reg.MBX_RSPWB_LO 0) % 2 = 0 ∧
    (heldS [(Reg.MBX_RSPWB_LO 0, 9)]).rd64 (Reg.MBX_RSPWB_LO 0) % 2 = 1 := by decide +kernel
/-- The bench with its cores in service and a record. -/
def benchS (x : BenchX) (l : List (Nat × Nat)) : State := (put base ([(Reg.BENCH_STAT, 0x1F)] ++ l)).setBench x
theorem wit_BenchCores : quiet (benchS { inlay := some (3, 0) } []) = true ∧ (Reg.BENCH_CMD, 0) ∉ base.now.again ∧
    (benchS {} []).bit Reg.BENCH_STAT 4 = true ∧ (benchS {} [(Reg.BENCH_STAT, 0)]).bit Reg.BENCH_STAT 4 = false ∧
    base.bench.inlay = none ∧ (benchS { inlay := some (3, 0) } []).bench.inlay = some (3, 0) ∧
    (cmdOf 0x0701 []).core = 3 ∧ (cmdOf 0x0701 []).interim = false ∧ Up base Reg.BENCH_CMD ∧
    (benchS { restart := some (0, 0) } []).bench.restart.isSome = true ∧ base.bench.restart = none ∧ base.fld Reg.TWIN_STAT 0 3 ≠ 1 ∧
    (benchS {} [(Reg.TWIN_STAT, 1)]).fld Reg.TWIN_STAT 0 3 = 1 ∧ (benchS { restart := some (2, 0) } []).bench.restart = some (2, 0) ∧
    base.bench.activate = none ∧
    (benchS { restart := some (2, 0), activate := some (cmdOf 0x0B04 [], false, 0) } []).bench.activate = some (cmdOf 0x0B04 [],
    false, 0) ∧
    base.devTime < 0 + usTicks 200000 ∧ quiet (atT 320000001 base) = true ∧
    0 + usTicks 200000 < 320000001 := by unfold Up; decide +kernel
def claimS (l : List (Nat × Nat)) (r : List Cmd) : State := (put base l).setBench { base.bench with running := r }
theorem wit_BenchCores_UnitClaims : quiet (claimS [(Reg.BENCH_DWCLAIM, 0x2000)] []) = true ∧ Up base Reg.BENCH_DWCLAIM ∧
    base.bit Reg.BENCH_LOCK 0 = false ∧ (claimS [(Reg.BENCH_LOCK, 1)] []).bit Reg.BENCH_LOCK 0 = true ∧
    bitOf 0x2000#32 13 = true ∧ bitOf 0#32 13 = false ∧
    ((claimS [(Reg.BENCH_DWCLAIM, 0x2000)] []).bit Reg.BENCH_DWCLAIM 13 && (claimS [(Reg.BENCH_DWCLAIM, 0x2000)] []).fwServes &&
      !(claimS [(Reg.BENCH_DWCLAIM, 0x2000)] []).bench.running.any (fun c => (opUnits c.op).contains 13)) = true ∧
    ((claimS [(Reg.BENCH_DWCLAIM, 0x20)] [cmdOf 0x0301 []]).bit Reg.BENCH_DWCLAIM 5 &&
    (claimS [(Reg.BENCH_DWCLAIM, 0x20)] [cmdOf 0x0301 []]).fwServes &&
      !(claimS [(Reg.BENCH_DWCLAIM, 0x20)] [cmdOf 0x0301 []]).bench.running.any (fun c => (opUnits c.op).contains 5)) = false ∧
    (∃ l ∈ claimLocks 13, (put base [(lockReg l, 1)]).bit (lockReg l) 0 = true) := by
  unfold Up; decide +kernel
/-! ## Host endpoint -/

/-- Function 15 is present, and the memory controllers serve. -/
def vfS (x : HostX) (l : List (Nat × Nat)) : State :=
  (put base ([(Reg.MEM_CTL, 1), (Reg.MEM_PARTBASE 15, 0x103), (Reg.MEM_PARTSIZE 15,
    1)] ++ l)).setHost { x with vfEn := true, numVfs := 15 }
theorem wit_HostMemory : base.fnOk 15 = false ∧ (vfS {} []).fnOk 15 = true ∧ (vfS {} []).memUp = true ∧
    (vfS {} [(Reg.MEM_CTL, 0)]).memUp = false ∧
    (vfS {} []).devAddr 15 0x3FFFFFF8 8 = some 0xFFFFFFF8 ∧ (vfS {} []).devAddr 15 0x3FFFFFF9 8 = none := by
  decide +kernel
/-- Channel 511 waits for a host read or a translation for its descriptor. -/
def hostD (ctl len : Nat) : Desc := { src := 64, dst := 128, len := len, ctl := w32 ctl }
def wantS (w : Nat) (d : Option Desc) : State :=
  (chS 2 { desc := d, want := w } [(Reg.DMA_CHOWN 511, 16)]).setEngine 15 { ch := some 511 }
theorem wit_HostReads : quiet (wantS 1 (some (hostD 0 8))) = true ∧ quiet base = true ∧ quiet (vfS { inv := [(15, 31)] } []) = true ∧
    (base.chan 511).want ≠ 1 ∧ ((wantS 1 (some (hostD 0 8))).chan 511).want = 1 ∧
    ((wantS 1 (some (hostD 0 8))).chan 511).desc = some (hostD 0 8) ∧ ((wantS 1 (some (hostD 0 8))).engine 15).ch = some 511 ∧
    ((wantS 1 none).chan 511).desc = none ∧
    (∃ b ∈ [1, 2, 4, 8, 16, 32], (hostD b 8).mode = 0 ∧ (hostD b 8).srcHost = true ∧ (hostD b 8).dstHost = false ∧
    bitOf (hostD b 8).ctl 6 = false ∧
      bitOf (hostD b 8).ctl 21 = false) ∧ ((wantS 1 (some (hostD 0 8))).chan 511).k = 0 ∧
    ((wantS 1 (some (hostD 0 8))).chan 511).done = false ∧
    ((wantS 1 (some (hostD 0 8))).chan 511).buf = [] ∧ (leBytes 8 5).length = (hostD 0 8).len ∧ base.devAddr 0 128 8 = some 128 ∧
    base.devTime < 0 + usTicks (ctoLimit base.host.cto) ∧ 0 + usTicks (ctoLimit base.host.cto) ≤ 10000000000 ∧
    quiet (atT 10000000000 (wantS 1 (some (hostD 0 8)))) = true ∧ (vfS { flr := [(15, 0)] } []).fnFlr 15 = true ∧
    base.fnFlr 15 = false ∧
    ((wantS 2 none).chan 511).want = 2 ∧ base.host.inv = [] ∧ (vfS { inv := [(15, 31)] } []).host.inv = (15,
    31) :: [] := by decide +kernel
theorem wit_Functions : quiet (vfS {} []) = true ∧ quiet (atT 16000000 (vfS { flr := [(15, 0)] } [(Reg.HOSTEP_LINK,
    0x4000)])) = true ∧ base.host.vfEn = false ∧ (vfS {} []).host.vfEn = true ∧ (vfS {} []).fnPresent 15 = true ∧
    (vfS {} []).fnFlr 15 = false ∧
    base.fnPresent 15 = false ∧ base.host.flr.find? (fun e => e.1 == 15) = none ∧
    (vfS { flr := [(15, 0)] } []).host.flr.find? (fun e => e.1 == 15) = some (15, 0) ∧ (vfS {} []).devTime < 0 + usTicks 10000 ∧
    0 + usTicks 10000 ≤ 16000000 ∧ (vfS {} [(Reg.HOSTEP_LINK, 0x4000)]).bit Reg.HOSTEP_LINK 14 = true ∧
    63 < vecCount 15 ∧ (put base [(Reg.PBA 15 1, 0x80000000)]).bit (Reg.PBA 15 (63 / 32)) (63 % 32) = true ∧
    (put base [(Reg.MSIX 15 63 3, 0)]).bit (Reg.MSIX 15 63 3) 0 = false ∧ base.bit (Reg.MSIX 15 63 3) 0 = true ∧
    State.reset.fwServes = false ∧ base.fwServes = true := by decide +kernel
/-- The link is up at speed 6 and width 16, with its power features enabled. -/
def linkUpS (w : Nat) (l : List (Nat × Nat)) : State :=
  (put base ([(Reg.HOSTEP_LINK, 0x4006 + 16 * 8 + w * 256), (Reg.HOSTEP_CTL, 3), (Reg.HOSTEP_L0PCFG,
    0x1411A)] ++ l)).setHost { base.host with ctl := 7 }
theorem wit_LinkPower : quiet base = true ∧ quiet (linkUpS 16 []) = true ∧ quiet (linkUpS 4 []) = true ∧
    quiet { linkUpS 16 [] with devTime := 1000000000 } = true ∧
    (linkUpS 16 []).idleT + usTicks ((linkUpS 16 []).fld Reg.HOSTEP_L1IDLE 0 16) ≤ 1000000000 ∧
    max 0 0 * 1600 < (linkUpS 16 []).fld Reg.HOSTEP_L0PCFG 3 7 * 108600 * (16 / 2) * max 10 ((linkUpS 16 []).fld
    Reg.HOSTEP_L0PWIN 0 16) ∧
    (linkUpS 4 []).fld Reg.HOSTEP_L0PCFG 10 7 * 108600 * 4 * 10 < max 10000000000 0 * 1600 ∧
    (linkUpS 4 []).l0pOn = true ∧ base.bit Reg.HOSTEP_LINK 14 = false ∧ (linkUpS 16 []).bit Reg.HOSTEP_LINK 14 = true ∧
    base.boot.perst = false ∧ base.domOn 1 = true ∧
    ([] : List (Fin 16 × BitVec 5)).Nodup = true ∧ (linkUpS 16 []).host.ctl % 2 = 1 ∧ (linkUpS 16 []).bit Reg.HOSTEP_CTL 1 = true ∧
    (linkUpS 16 []).linkIdle = true ∧ (linkUpS 16 []).fld Reg.HOSTEP_LINK 8 5 = 16 ∧ (linkUpS 16 []).l0pOn = true ∧
    16 / 2 ^ min 4 ((linkUpS 16 []).fld Reg.HOSTEP_L0PCFG 0 3) ≤ 16 / 2 ∧ 16 * (linkUpS 16 []).minbwSum ≤ 1086 * (16 / 2) ∧
    (linkUpS 4 []).fld Reg.HOSTEP_LINK 8 5 = 4 ∧ 2 * 4 ≤ (linkUpS 4 []).fld Reg.HOSTEP_LINK 3 5 ∧ (vfS {} []).fnPresent 15 = true ∧
    (vfS {} []).fld (Reg.HOSTEP_FNSTAT 15) 0 2 ≠ 3 ∧ (vfS {} [(Reg.HOSTEP_FNSTAT 15, 3)]).fld (Reg.HOSTEP_FNSTAT 15) 0 2 = 3 ∧
    511 ∈ (chS 2 {} [(Reg.DMA_CHOWN 511, 31)]).tenantChans 15 ∧ State.reset.bootStage < 10 ∧ 10 ≤ base.bootStage ∧
    (vfS { d3off := true } [(Reg.HOSTEP_FNSTAT 0, 3)]).host.d3off = true ∧ base.host.d3off = false := by decide +kernel

/-! ## Touchstone -/

/-- Reports wait for the touchstone. -/
def touchS (r : List Report) (x : TouchX) (l : List (Nat × Nat)) : State := { (put base l).setTouch x with reports := r }
def repQ (sig src lv : Nat) : Report := { sig := sig, src := src, level := lv, t := 0 }
/-- A fault of TB has just been recorded, which explains faults of the cameras. -/
def explS : State := { touchS [repQ 0x105 9 1] {} [] with
  expls := [{ sig := 0xC01, src := 0, level := 1, seq := 3, tEnd := 5, stateType := true }] }
def joinS : State := touchS [repQ 0x504 7 1] { opens := [{ seq := 258, sig := 0x504, t := 0 }] } [(Reg.TOUCH_REC 258 3, 258),
    (Reg.TOUCH_REC 258 2, 1)]
def openS : State := touchS [] { opens := [{ seq := 258, sig := 0x504, t := 0 }, { seq := 259, sig := 0x101, t := 3000 }] }
  [(Reg.TOUCH_REC 258 3, 258), (Reg.TOUCH_REC 258 1, 0x40000), (Reg.TOUCH_REC 259 3, 259), (Reg.TOUCH_REC 259 1, 0x40000)]
def secS : State := { touchS [] { second := [(0x501, 3, 1, 7), (0x502, 3, 1, 9)] } [] with
  causes := [(0x501, 3), (0x502, 3)]
  expls := [{ sig := 0xC01, src := 0, level := 1, seq := 9, tEnd := 50, stateType := false }] }
def recsS (wr rd : Nat) : State := touchS [] {} [(Reg.TOUCH_RECWR, wr), (Reg.TOUCH_RECRD, rd), (Reg.TOUCH_REC rd 1, 0x30000000),
    (Reg.TOUCH_REC rd 0, 0x01050105)]
/-- A class is ACTIVE and long at rest. -/
def restS (c : Nat) : State := { touchS [] {} [(Reg.TOUCH_CLSSTAT c, 0x1A), (Reg.TOUCH_STAT, 0xFFFFFFFF), (Reg.POS_AXSTAT 7, 0xA), (Reg.TOUCH_ARRAY c, 5)] with
  devTime := 100000000000, idleT := 100000000000 }
def forceS (w : Nat) : State := touchS [] {} [(Reg.TOUCH_FORCE, w)]
def resetS (cmds : List (Nat × Nat)) (b : BenchX) : State :=
  (touchS [] { resets := [{ t := 15, t0 := 0, cause := 0, cmds := cmds }] } []).setBench b
theorem wit_FaultRecords : base.reports = [] ∧ pickReport joinS.reports = some (repQ 0x504 7 1) ∧
    joinS.reports.erase (repQ 0x504 7 1) = [] ∧
    0x504 / 256 = 5 ∧ 7 / 2 ^ mapShift 5 4 < 128 ∧ joinS.explainedBy 0 5 7 = none ∧ quiet base = true ∧ quiet joinS = true ∧
    quiet explS = true ∧ joinS.effLevel 5 1 = 1 ∧
    joinS.touch.opens.find? (fun o => o.sig == 0x504) = some { seq := 258, sig := 0x504, t := 0 } ∧
    joinS.rdN (Reg.TOUCH_REC 258 3) = 258 ∧
    joinS.fld (Reg.TOUCH_REC 258 0) 8 3 ≤ 1 ∧ (∀ o ∈ joinS.touch.opens, (0 : Nat) < o.t + usTicks 2) ∧
    (touchS [repQ 0x504 7 1] {} []).touch.opens = [] ∧ pickReport explS.reports = some (repQ 0x105 9 1) ∧
    (explS.explainedBy 0 1 9).isSome = true ∧ 9 / 2 ^ mapShift 1 5 < 128 := by decide +kernel
theorem wit_FaultRecords_l4 : pickReport (touchS [repQ 0x701 5 4] {} []).reports = some (repQ 0x701 5 4) ∧
    (touchS [repQ 0x701 5 4] {} []).explainedBy 0 7 5 = none ∧ quiet (touchS [repQ 0x701 5 4] {} []) = true ∧
    (touchS [repQ 0x701 5 4] {} []).effLevel 7 4 = 4 ∧
    5 / 2 ^ mapShift 7 1 < 128 ∧ base.twinState = 0 ∧ base.bit Reg.GLB_CTL 0 = false ∧ base.fld Reg.GLB_BOOTSTAT 0 4 = 10 ∧
    base.fld Reg.GLB_BOOTSTAT 4 4 ≠ 2 := by decide +kernel
theorem wit_FaultRecords_close : openS.reports = [] ∧ quiet (atT 3200 openS) = true ∧ (atT 3200 openS).devTime = 3200 ∧
    0 + usTicks 2 ≤ 3200 ∧ 3200 < 3000 + usTicks 2 ∧
    openS.rdN (Reg.TOUCH_REC 258 3) = 258 ∧ (∀ o ∈ openS.touch.opens, o.seq % 256 ≠ 5 % 256) ∧
    secS.touch.second = [(0x501, 3, 1, 7), (0x502, 3, 1, 9)] ∧ secS.hasCause 5 1 3 = true ∧
    quiet secS = true ∧ secS.expls.any (fun e => e.seq == 7 && secS.explLive 0 e) = false ∧
    secS.expls.any (fun e => e.seq == 9 && secS.explLive 0 e) = true ∧ (∀ e ∈ secS.touch.second, e.1 / 256 ≠ 0) ∧
    quiet (recsS 5 4) = true ∧
    (recsS 5 4).fwServes = true ∧ (put (recsS 5 4) [(Reg.MBX_STAT 0, 0)]).fwServes = false ∧
    leAt ((recsS 5 4).recBytes 4) 7 1 / 16 = 3 ∧ (recsS 700 400).rdN Reg.TOUCH_RECWR = 700 := by decide +kernel
theorem wit_FaultClasses : base.clsQuiet 3 = false ∧ (restS 3).clsQuiet 3 = true ∧ (restS 5).clsQuiet 5 = true ∧
    quiet (restS 3) = true ∧ quiet (restS 5) = true ∧ quiet (resetS [] {}) = true ∧
    quiet (atT 1600 (touchS [] { forced := [(0x501, 3, 1600), (0xD05, 2, 9000)] } [])) = true ∧
    Up (forceS 0x0003010A) Reg.TOUCH_FORCECMD ∧ (forceS 0x0003010A).fld Reg.TOUCH_FORCE 0 4 = 10 ∧
    (forceS 0x0003010A).fld Reg.TOUCH_FORCE 8 8 = 1 ∧ srcExists 10 1 ((forceS 0x0003010A).fld Reg.TOUCH_FORCE 16 16) = true ∧
    (forceS 0x00050406).fld Reg.TOUCH_FORCE 0 4 = 6 ∧ (forceS 0x00050406).fld Reg.TOUCH_FORCE 8 8 = 4 ∧
    (forceS 0x00050406).fld Reg.TOUCH_FORCE 16 16 < 96 ∧ ¬ (forceS 0xFFFFFFFF).fld Reg.TOUCH_FORCE 0 4 < 15 ∧
    (∀ r ∈ base.touch.resets, r.t ≠ 15) ∧ (resetS [] { restart := some (0, 0) }).bench.restart.isSome = true ∧
    (resetS [] { inlay := some (1, 0) }).bench.inlay.isSome = true ∧
    (resetS [] {}).touch.resets.find? (fun r => r.t == 15) = some { t := 15, t0 := 0, cause := 0, cmds := [] } ∧
    (resetS [] {}).bench.restart = none ∧ (resetS [] {}).bench.inlay = none := by
  unfold Up; decide +kernel

/-! ## Clock and power -/

def clkS (x : ClkX) (l : List (Nat × Nat)) : State := (put base l).setClk x
def pwrS (x : PwrX) (l : List (Nat × Nat)) : State := (put base l).setPwr x
/-- Both references are good, and the timebase stands on one of them; the twin clock exists. -/
def tbS (src : Nat) (x : ClkX) (l : List (Nat × Nat)) : State :=
  (clkS x ([(Reg.CLK_MON, 7), (Reg.CLK_TBSTAT, src), (Reg.TWIN_CTL, 1)] ++ l)).setBond 96 { active := true }
/-- Group 7 stands at a point and moves. -/
def temS (p g : Nat) (x : ClkX) : State := clkS x [(Reg.CLK_TPSTAT 7, p), (Reg.CLK_TPCFG 7, g), (Reg.CLK_LOCK, 1)]
def half (volt : Bool) (n : Nat) : Temper := { k := 7, volt := volt, next := n, t := 0, t0 := 0 }
def move (volt : Bool) (n : Nat) : ClkX := { temper := [half volt n] }
/-- The timebase prefers TREC and reverts to it by itself; it stands on REF_IN, and both are good. -/
def tbR (x : ClkX) : State := tbS 0 x [(Reg.CLK_TBSEL, 3)]
theorem wit_ClockReferences : base.boot.mode = 0 ∧ 2 ≤ (tbS 0 {} []).fld Reg.GLB_BOOTSTAT 0 4 ∧ (tbS 0 {} []).clk.sw = none ∧
    (tbS 0 {} []).tbSrc = 0 ∧
    quiet (tbS 0 {} []) = true ∧ (∀ r : Fin 3, (tbS 0 {} []).bit Reg.CLK_MON r.val = true) ∧
    (tbS 0 {} [(Reg.CLK_MON, 5)]).bit Reg.CLK_MON 1 = false ∧
    quiet (tbS 0 {} [(Reg.CLK_MON, 5)]) = true ∧ (tbS 0 {} [(Reg.CLK_MON, 5)]).tbSrc = 0 ∧ (tbS 1 {} []).tbSrc = 1 ∧
    (tbS 1 {} []).tbPref = 0 ∧
    quiet (tbS 1 {} []) = true ∧ (tbS 0 { sw := some (1, 0, true) } []).clk.sw = some (1, 0, true) ∧
    quiet (tbS 0 { sw := some (1, 0, true) } []) = true ∧
    base.twinClk = false ∧ (tbS 0 {} []).twinClk = true ∧ (put base [(Reg.GLB_BOOTSTAT, 1)]).fld Reg.GLB_BOOTSTAT 0 4 < 2 ∧
    quiet base = true ∧
    (tbR {}).refQuiet 1 = true ∧ (tbS 0 { lostT := [(1, 0)] } []).refQuiet 1 = false ∧
    quiet (tbS 0 { lostT := [(1, 0)] } []) = true := by decide +kernel
theorem wit_ClockReferences_back : quiet (tbR {}) = true ∧ (tbR {}).tbPref = 1 ∧ (tbR {}).tbSrc ≠ 1 ∧
    (tbR {}).bit Reg.CLK_TBSEL 1 = true ∧ (tbR {}).clk.sw = none ∧
    (tbR {}).clk.holdT = none ∧ (Reg.CLK_CMD, 0) ∉ (tbS 0 { sw := some (1, 0, true) } []).now.again ∧
    quiet (atT 12800000 (tbR { holdT := some 0 })) = true ∧ (atT 12800000 (tbR { holdT := some 0 })).clk.holdT = some 0 ∧
    0 + usTicks 8000 ≤ (atT 12800000 (tbR { holdT := some 0 })).devTime ∧ (tbR {}).bit Reg.CLK_MON (tbR {}).tbPref = true ∧
    (tbR {}).bit Reg.CLK_MON (tbR {}).tbSrc = true ∧ quiet (tbR { holdT := some 0 }) = true ∧
    (tbR { holdT := some 0 }).devTime < 0 + usTicks 8000 ∧
    (put base [(Reg.CLK_TBSEL, 0)]).bit Reg.CLK_TBSEL 1 = false ∧ quiet (put base [(Reg.CLK_TBSEL, 0)]) = true ∧
    Up base Reg.CLK_CMD ∧ Up (tbR {}) Reg.CLK_CMD ∧ base.bit Reg.CLK_MON base.tbPref = false ∧
    (∀ m : Fin 6, (inMode base m.val).boot.mode = m.val) := by unfold Up; decide +kernel
/-- CLK_LOCK is open. -/
def opnS (x : ClkX) (l : List (Nat × Nat)) : State := clkS x ([(Reg.CLK_LOCK, 1)] ++ l)
/-- GPLL2 slews to 500 MHz, and the multiplexer of group 7 switches to its PLL. -/
def busyS : State := clkS { mux := [(9, 1, 0)], slew := [(5, 500, 0)] } [(Reg.CLK_PLLSTAT 5, 0x1F40001), (Reg.CLK_PLLSTAT 13, 1)]
theorem wit_ClockDomains : Up base (Reg.CLK_MUX 14) ∧ base.unlocked .clk = false ∧ (opnS {} []).unlocked .clk = true ∧
    Up (opnS {} []) (Reg.CLK_MUX 9) ∧
    (opnS {} [(Reg.CLK_MUXSTAT 14, 3)]).bit (Reg.CLK_MUXSTAT 14) 1 = true ∧ 103 ∈ groupPipes (9 - 2) ∧
    (opnS {} [(Reg.PIPE_BIND 103, 1)]).bit (Reg.PIPE_BIND 103) 0 = true ∧ (opnS {} []).bit (Reg.CLK_MUXSTAT 9) 1 = false ∧
    (∀ n ∈ groupPipes 7, (opnS {} []).bit (Reg.PIPE_BIND n) 0 = false) ∧ bitOf 1#32 0 ≠ (opnS {} []).bit (Reg.CLK_MUXSTAT 9) 0 ∧
    bitOf 0#32 0 = (opnS {} []).bit (Reg.CLK_MUXSTAT 9) 0 ∧ quiet base = true ∧ base.boot.mode = 0 ∧
    base.clk.mux.find? (fun e => e.1 == 9) = none ∧ quiet busyS = true ∧ busyS.boot.mode = 0 ∧
    busyS.clk.mux.find? (fun e => e.1 == 9) = some (9, 1, 0) ∧ (busyS.clockRuns 9 (busyS.fld (Reg.CLK_MUXSTAT 9) 0 1) &&
    busyS.clockRuns 9 1) = true ∧
    ((put busyS [(Reg.CLK_PLLSTAT 13, 0)]).clockRuns 9 1) = false ∧ quiet (put busyS [(Reg.CLK_PLLSTAT 13, 0)]) = true ∧
    busyS.devTime < 0 + usTicks 50 ∧ quiet (atT 80000 busyS) = true ∧
    0 + usTicks 50 ≤ (atT 80000 busyS).devTime := by unfold Up; decide +kernel
theorem wit_ClockDomains_pll : base.domOn (10 + 13) = true ∧ (put base [(Reg.PWR_ON, 0x3F)]).domOn (10 + 13) = false ∧
    quiet (put base [(Reg.PWR_ON, 0x3F)]) = true ∧
    Up base (Reg.CLK_PLLCFG 5) ∧ (opnS {} []).unlocked .clk = true ∧ Up (opnS {} []) (Reg.CLK_PLLCFG 5) ∧
    fldOf 500#32 0 12 ≠ (opnS {} []).fld (Reg.CLK_PLLCFG 5) 0 12 ∧
    fldOf ((opnS {} []).rd (Reg.CLK_PLLCFG 5)) 0 12 = (opnS {} []).fld (Reg.CLK_PLLCFG 5) 0 12 ∧
    (put base [(Reg.HOSTEP_LINK, 0x4000)]).bit Reg.HOSTEP_LINK 14 = true ∧ quiet (put base [(Reg.HOSTEP_LINK, 0x4000)]) = true ∧
    base.boot.perst = false ∧
    busyS.clk.slew.find? (fun e => e.1 == 5) = some (5, 500, 0) ∧ base.clk.slew.find? (fun e => e.1 == 5) = none ∧
    busyS.devTime < 0 + slewTicks (busyS.fld (Reg.CLK_PLLSTAT 5) 16 12) 400 ∧
    0 + slewTicks ((atT 80000 busyS).fld (Reg.CLK_PLLSTAT 5) 16 12) 500 ≤ (atT 80000 busyS).devTime ∧
    Up base (Reg.CLK_GATE 7) := by unfold Up; decide +kernel
/-- A die temperature is at or above every threshold. -/
def hotS (x : PwrX) : State := pwrS x [(Reg.PWR_THERM, 0x6455)]
theorem wit_TemperMoves : Up base (Reg.CLK_TPCFG 7) ∧ base.unlocked .clk = false ∧ (temS 3 5 {}).unlocked .clk = true ∧
    Up (temS 3 5 {}) (Reg.CLK_TPCFG 7) ∧
    (temS 3 5 {}).tpPoint 7 = 3 ∧ (temS 3 5 {}).temperOf 7 = none ∧ 3 ≠ min 5 (fldOf 5#32 0 3) ∧ 3 = min 5 (fldOf 3#32 0 3) ∧
    min 5 (fldOf 2#32 0 3) < 3 ∧
    (temS 3 5 {}).domOn 23 = true ∧ 7 ∉ (temS 3 5 {}).clk.iso ∧ (temS 3 5 (move true 4)).temperOf 7 = some (half true 4) ∧
    (temS 3 5 (move true 4)).tpTarget 7 = 5 ∧ quiet base = true ∧ base.temperOf 7 = none ∧ quiet (temS 3 5 (move true 4)) = true ∧
    (temS 3 5 (move true 4)).boot.mode = 0 ∧ (temS 3 5 (move true 4)).devTime < 0 + (temS 3 5 (move true 4)).temperTicks (half
    true 4) ∧
    (∀ v : Bool, quiet (atT 79999 (temS 3 4 (move v 4))) = true ∧ (atT 79999 (temS 3 4 (move v 4))).temperOf 7 = some (half v 4) ∧
      0 + (atT 79999 (temS 3 4 (move v 4))).temperTicks (half v 4) ≤ (atT 79999 (temS 3 4 (move v 4))).devTime) ∧
    (true = decide (3 < 4)) ∧ (temS 3 4 (move false 4)).tpTarget 7 = 4 ∧
    (temS 3 5 (move false 4)).tpTarget 7 = 5 := by unfold Up; decide +kernel
theorem wit_TemperMoves_late : quiet (atT 80000 (temS 3 5 (move true 4))) = true ∧
    (atT 79999 (temS 3 5 (move true 4))).devTime < 0 + usTicks 50 ∧
    0 + usTicks 50 ≤ (atT 80000 (temS 3 5 (move true 4))).devTime ∧ base.domOn 23 = true ∧
    (put base [(Reg.PWR_ON, 0x3F)]).domOn (16 + 7) = false ∧
    quiet (put base [(Reg.PWR_ON, 0x3F)]) = true ∧ (∀ m : Fin 6, (inMode base m.val).boot.mode = m.val) := by decide +kernel
theorem wit_TemperMoves_hot : 16 * ((hotS {}).fld Reg.PWR_THERM 0 8 : Int) ≤ (1840#16).toInt ∧
    (1200#16).toInt < 16 * ((hotS {}).fld Reg.PWR_THERM 0 8 : Int) ∧
    16 * ((hotS {}).fld Reg.PWR_THERM 8 8 : Int) ≤ (1840#16).toInt ∧ (hotS {}).pwr.warn = false ∧ (hotS {}).pwr.hot = false ∧
    quiet (hotS {}) = true ∧
    (hotS {}).pwr.tempT.any (fun t0 => decide ((hotS {}).devTime < t0 + usTicks 100)) = false ∧
    (hotS { tempT := some 0 }).pwr.tempT.any (fun t0 => decide ((hotS { tempT := some 0 }).devTime < t0 + usTicks 100)) = true ∧
    quiet (hotS { tempT := some 0 }) = true ∧ (∀ b ∈ [5, 6, 7], (hotS {}).hasCause 13 b 31 = false) ∧ base.pwr.hot = false ∧
    quiet base = true ∧
    (hotS { hot := true }).devTime < (hotS { hot := true }).pwr.hotT + usTicks 1000 ∧ quiet (hotS { hot := true }) = true ∧
    (atT 1600000 (hotS { hot := true })).pwr.hot = true ∧ 0 + usTicks 1000 ≤ (atT 1600000 (hotS { hot := true })).devTime ∧
    quiet (atT 1600000 (hotS { hot := true })) = true ∧ (put base [(Reg.CLK_TPSTAT 0, 4)]).tpPoint 0 ≠ 0 ∧
    base.tpPoint 7 = 0 := by decide +kernel
/-- PWR_LOCK is open, and the domains of a map are on. -/
def pwS (x : PwrX) (on : Nat) : State := pwrS x [(Reg.PWR_LOCK, 1), (Reg.PWR_ON, on)]
/-- s at 10 ms. -/
def lateS (s : State) : State := atT 16000000 s
theorem wit_PowerDomains : Up base (Reg.PWR_CTL 23) ∧ base.unlocked .pwr = false ∧ (pwS {} 0x3F).unlocked .pwr = true ∧
    Up (pwS {} 0x3F) (Reg.PWR_CTL 23) ∧
    (∃ e ∈ domPre 23, (pwS {} 0xF).domOn e = false) ∧ (∃ e ∈ domDeps 4, (pwS {} 0xFFFFFF).domOn e = true) ∧
    (∀ e ∈ domPre 23, (pwS {} 0x3F).domOn e = true) ∧ (pwS {} 0x3F).domOn 23 = false ∧
    (∀ e ∈ domDeps 23, (pwS {} 0xFFFFFF).domOn e = false) ∧
    (pwS {} 0xFFFFFF).domOn 23 = true ∧ (pwS { ramp := some (22, 0) } 0x3F).pwr.ramp.isSome = true ∧
    (pwS {} 0x3F).pwr.ramp = none ∧ (pwS {} 0x3F).pwr.drain = none ∧
    base.boot.mode = 0 ∧ base.pwr.ramp = none ∧ base.pwr.drain = none ∧ quiet base = true ∧
    quiet (pwS { ramp := some (23, 0) } 0x3F) = true ∧
    (pwS { ramp := some (23, 0) } 0x3F).pwr.ramp = some (23, 0) ∧ (pwS { ramp := some (23, 0) } 0x3F).pwr.wait = [] ∧
    (pwS { ramp := some (23, 0) } 0x3F).host.d3save = [] ∧ (∃ b ∈ [(12 : Fin 13)], b.val = 12) ∧ (∃ d : Fin 24, d.val < 16) := by
  unfold Up; decide +kernel
theorem wit_PowerDomains_late : (pwS { ramp := some (23, 0) } 0x3F).devTime < 0 + usTicks (domLimit 23) ∧
    quiet (lateS (pwS { ramp := some (23, 0) } 0x3F)) = true ∧
    0 + usTicks (domLimit 23) ≤ (lateS (pwS { ramp := some (23, 0) } 0x3F)).devTime ∧
    (pwS { drain := some (15, 0) } 0xFFFF).pwr.drain = some (15, 0) ∧ (pwS { drain := some (15, 0) } 0xFFFF).pwr.wait = [] ∧
    quiet (pwS { drain := some (15, 0) } 0xFFFF) = true ∧ (pwS { drain := some (15, 0) } 0xFFFF).devTime < 0 + usTicks 4 ∧
    quiet (lateS (pwS { drain := some (15, 0) } 0xFFFF)) = true ∧
    0 + usTicks 4 ≤ (lateS (pwS { drain := some (15, 0) } 0xFFFF)).devTime := by decide +kernel
/-- PD_DELIVERY waits for its channels. -/
def stopS (on : Nat) (l : List (Nat × Nat)) : State := put (pwS { stopWait := [(4, 0)] } on) l
theorem wit_PowerDomains_chans : (∀ e ∈ base.pwr.stopWait, e.1 ≠ 4) ∧
    (stopS 0xFFFF []).pwr.stopWait.find? (fun e => e.1 == 4) = some (4, 0) ∧
    (stopS 0xFFFF [(Reg.DMA_CHSTAT 511, 2)]).domChans 4 ≠ [] ∧ (stopS 0xFFFF [(Reg.DMA_CHSTAT 511, 2)]).devTime < 0 + usTicks 10000 ∧
    quiet (stopS 0xFFFF [(Reg.DMA_CHSTAT 511, 2)]) = true ∧ quiet (stopS 0xFFFF []) = true ∧
    (stopS 0xFFFF []).domChans 4 = [] ∧ (stopS 0xFFFF []).domOn 4 = true ∧ (∀ k ∈ domDeps 4, (stopS 0xFFFF []).domOn k = false) ∧
    quiet (lateS (stopS 0xFFFF [])) = true ∧ 0 + usTicks 10000 ≤ (lateS (stopS 0xFFFF [])).devTime := by decide +kernel

/-! ## Mailbox commands -/

/-- A command of PF0 whose payload is padded to the size of its slot. -/
def cmdP (op : Nat) (p : List Byte) : Cmd := { cmdOf op p with payload := p ++ List.replicate (240 - p.length) 0 }
/-- The device with one command running. -/
def runS (op : Nat) (p : List Byte) (s : State) : State := s.setBench
    { s.bench with running := [cmdP op p, { cmdOf 0x0101 [] with slot := 5 }] }
/-- A tenant record (Table 13.8): tenant 3 with its memory range, weight and queue depth. -/
def part3 : List Byte := leBytes 8 3 ++ leBytes 8 0x1000000010101 ++ leBytes 160 0
def tenS (l : List (Nat × Nat)) : State := (put base l).setPart 3 part3
/-- Camera 95 is bound to axis 7. -/
def boundS (x : Cam) (l : List (Nat × Nat)) : State := camS { x with bound := true, axis := 7 } { active := true } l
/-- The same command with a malformed header. -/
def spoil (s : State) : State := s.setBench { s.bench with running := s.bench.running.map (fun c => { c with bad := true }) }
/-- The status that the command of an opcode in slot 63 of PF0 is answered with, where the bench serves it. -/
def statusOf (op : Nat) (rf : State → Cmd → List (Bool × Nat)) (s : State) : Option Nat :=
  (s.cmdAt 0 63 op).bind (fun c => if s.boot.mode = 0 ∧ s.cmdServed c = true then some (Answer s c (rf s c)) else none)
/-- The state meets the hypotheses of a command that is accepted, and with a malformed header those of one that is refused. -/
def served (op : Nat) (rf : State → Cmd → List (Bool × Nat)) (s : State) : Bool :=
  statusOf op rf s == some 0 && (statusOf op rf (spoil s)).any (· != 0)
/-- A register pair of a list (R399). -/
def pair (off v : Nat) : List Byte := leBytes 8 (off + v * 2 ^ 32)
/-- Pipeline 91 is bound to camera 95. -/
def pipedS (l : List (Nat × Nat)) : State := boundS {} ([(Reg.PIPE_BIND 91, 1 + 2 * 95), (Reg.PIPE_BLK 91, 16)] ++ l)
/-- Page 5 of one pixel (Table 8.2), and a state in which it is READY in slot 3. -/
def page5 : List Byte := leBytes 4 5 ++ leBytes 4 1 ++ leBytes 4 1 ++ [0#8, 0#8, 1#8, 0#8] ++ leBytes 8 64 ++ leBytes 4 64 ++
    leBytes 52 0
def pagedS : State := { base.setPageSlot 3 1 with
  devMem := memWrite [] (128 * 3) (page5.take 15 ++ [2#8] ++ page5.drop 16) }
/-- Plane 7 has the tracks 0 to 100. -/
def planeS : State := put (boundS {} []) [(Reg.NOZ_PLNLO 7, 0), (Reg.NOZ_PLNHI 7, 100), (Reg.NOZ_PLCFG 7, 0x110)]
/-- Camera 95, columns 0 to 3, nozzles 5 to 6, one nozzle a column (Table 9.2). -/
def seg95 : Nat := 95 + 3 * 2 ^ 24 + 5 * 2 ^ 40 + 2 * 2 ^ 64 + 4096 * 2 ^ 112
def twS (x : TwinX) (l : List (Nat × Nat)) : State := (put base ([(Reg.TWIN_CTL, 1)] ++ l)).setTwin x

/-! ## Twin operation -/

/-- The twin unit in a state and role (TWIN_STAT), and its record. -/
def twA (st role : Nat) (x : TwinX) (l : List (Nat × Nat)) : State := twS x ([(Reg.TWIN_STAT, st + 8 * role)] ++ l)
/-- A heartbeat of a partner (R424) on lane TW7: SEQ, state, role, epoch, and the position of axis 7. -/
def theartRx (seq ep pos : Nat) : LaneRx :=
  laneOf 0xD0 (leBytes 4 seq ++ [2#8, 0#8] ++ leBytes 2 ep ++ [1#8] ++ leBytes 3 0 ++ leBytes 42 0 ++ leBytes 6 pos)
/-- The same state with lane TW7 ACTIVE. -/
def tw7 (s : State) : State := put s [(laneStat 111, 6)]
/-- The content that a reception on a lane brings. -/
def laneData (rx : LaneRx) : List Byte := ((pktHeader (laneBlks rx)).map (fun e => (pktData 8 e.2).1)).getD []
/-- The state after a reception on lane TW7. -/
def heard (s : State) (rx : LaneRx) : State := s.each (laneBlks rx) (fun t b => t.blkCount 111 b)
/-- What TwinSigns asks of a heartbeat that is taken. -/
def takes (s : State) (rx : LaneRx) : Bool :=
  match pktHeader (laneBlks rx) with
  | some (h, rest) =>
    let p : Packet := { hdr := h, data := (pktData 8 rest).1, cut := (pktData 8 rest).2 }
    (heard s rx).twinEn && (heard s rx).laneSt 111 == 6 && pktHdrOk p 0xD0 && pktWhole p 8 && (heard s rx).hbNew (leAt p.data 0 4)
  | none => false
def itemA : TwinNamed := { kind := 2, a := 15, page := 5#32, pstart := 9#48 }
def snapA : TwinSnap := { axes := [(7, 500#48, 600#48)], gens := [], lists := [], views := [(15, 7#32)], places := [], ready := [], seqs := [] }
/-- Both signs were there until tick 12800, 8 µs after they were last seen. -/
def absS (st role : Nat) (x : TwinX) : State := atT 12800 (twA st role x [])
theorem wit_TwinSigns : quiet base = true ∧ base.boot.mode = 0 ∧ base.twinEn = false ∧ quiet (atT 1600 (twA 2 0 {} [])) = true ∧
    ((atT 1600 (twA 2 0 {} [])).twinEn && !(atT 1600 (twA 2 0 {} [])).twinFenced &&
      decide ((atT 1600 (twA 2 0 {} [])).twin.tAlive + 400 ≤ (atT 1600 (twA 2 0 {} [])).devTime)) = true ∧
    ((atT 1600 (twA 2 0 {} [])).twinEn && decide ((atT 1600 (twA 2 0 {} [])).twin.tSeq + usTicks 1 ≤ (atT 1600 (twA 2 0 {}
    [])).devTime)) = true ∧
    (∀ st : Fin 5, ∀ role : Fin 2, quiet (absS st.val role.val {}) = true) ∧
    (absS 2 1 {}).hbGone = true ∧ (absS 2 1 {}).witGone = true ∧ (absS 2 1 {}).twinActs = true ∧
    (absS 2 1 {}).twinRole = 1 ∧ (absS 2 0 {}).twinRole ≠ 1 ∧ (absS 1 1 { step := 1 }).twinActs = false ∧
    (absS 1 1 { step := 1 }).twinState = 1 ∧ (absS 4 0 {}).twinActs = false ∧ (absS 4 0 {}).twinState ≠ 1 := by decide +kernel
theorem wit_TwinSigns_one : quiet (absS 2 1 { witT := some 12800 }) = true ∧ (absS 2 1 { witT := some 12800 }).hbGone = true ∧
    (absS 2 1 { witT := some 12800 }).witGone = false ∧ (absS 2 1 { witT := some 12800 }).witNow = true ∧
    (absS 2 1 { witT := some 12800 }).twin.lostHb = false ∧ quiet (absS 2 1 { witT := some 5 }) = true ∧
    (absS 2 1 { witT := some 10000 }).witGone = false ∧ (absS 2 1 { witT := some 10000 }).witNow = false ∧
    quiet (absS 2 1 { hbT := some 12800 }) = true ∧ (absS 2 1 { hbT := some 12800 }).hbGone = false ∧
    (absS 2 1 { hbT := some 12800 }).hbNow = true ∧ (absS 2 1 { hbT := some 12800 }).twin.lostWit = false := by decide +kernel
theorem wit_TwinSigns_heart : pktHeader (laneBlks noBlocks) = none ∧ quiet (tw7 (twA 2 0 {} [])) = true ∧
    takes (tw7 (twA 2 0 {} [])) (theartRx 9 0x7000 100) = true ∧
    takes (tw7 (twA 2 0 { hbSeq := some 9 } [])) (theartRx 9 0x7000 100) = false ∧
    quiet (tw7 (twA 2 0 { hbSeq := some 9 } [])) = true ∧
    (heard (tw7 (twA 2 0 {} [])) (theartRx 9 0x7000 100)).bit Reg.LINK_ROLE 16 = false ∧
    (heard (tw7 (twA 2 0 {} [])) (theartRx 9 0x7000 100)).twinEpoch < leAt (laneData (theartRx 9 0x7000 100)) 6 2 ∧
    (heard (tw7 (twA 2 0 {} [])) (theartRx 9 0x7000 100)).twin.hoLead = false := by decide +kernel
/-- Axis 7 counts and runs in step with the partner's, which stands elsewhere. -/
def axisS : State := (tw7 (twA 2 0 { hbSeq := some 5 } [(Reg.POS_AXEN 7, 1), (Reg.POS_AXTWTOL 7, 16)])).setAxis 7 { twinRun := 3 }
theorem wit_TwinSigns_axis : quiet axisS = true ∧ takes axisS (theartRx 9 0 1000) = true ∧
    (heard axisS (theartRx 9 0 1000)).twinState = 2 ∧ (heard axisS (theartRx 9 0 1000)).axEn 7 = true ∧
    ((heard axisS (theartRx 9 0 1000)).axis 7).twinRun = 3 ∧ (heard axisS (theartRx 9 0 1000)).rdN (Reg.POS_AXTWTOL 7) <
      (posDiff ((heard axisS (theartRx 9 0 1000)).axPos 7) (posn (leAt (laneData (theartRx 9 0 1000)) (12 + 6 * 7) 6))).natAbs ∧
    (heard axisS (theartRx 9 0 1000)).hbAhead (leAt (laneData (theartRx 9 0 1000)) 0 4) = some 4 := by decide +kernel
/-- A parted FOLLOW whose camera 95 keeps Alaol-2 time. -/
def partS (l : List (Nat × Nat)) : State := (twA 3 1 {} ([(Reg.LINK_CAPREC 95 0, 0x200), (Reg.LINK_CAMSTAT 95,
    4)] ++ l)).setBond 95 { active := true }
theorem wit_TwinPairing : base.boot.mode = 0 ∧ quiet base = true ∧ base.twinEn = false ∧
    quiet (twA 1 0 { step := 2, good := 1 } []) = true ∧
    (twA 1 0 { step := 2, good := 1 } []).twinState = 1 ∧ (twA 1 0 { step := 2, good := 1 } []).twinEn = true ∧
    (twA 1 0 { step := 2, good := 1 } []).roundDue = true ∧ (twA 2 0 { roundT := some 0 } []).roundDue = false ∧
    quiet (twA 2 0 { roundT := some 0 } []) = true ∧ (twA 2 0 { roundT := some 0 } []).twinRole = 0 ∧
    (0 : Int).natAbs ≤ (twA 1 0 {} []).fld Reg.TWIN_TLIM 0 16 ∧
    (twA 1 0 {} [(Reg.TWIN_TLIM, 0)]).fld Reg.TWIN_TLIM 0 16 < (800 : Int).natAbs ∧
    quiet (twA 1 0 {} [(Reg.TWIN_TLIM, 0)]) = true ∧ (∀ role : Fin 2, quiet (twA 2 role.val {} []) = true ∧
    (twA 2 role.val {} []).twinState = 2 ∧
      (twA 2 role.val {} []).twinRole = role.val ∧ (twA 2 role.val {} []).roundDue = true) ∧
    quiet (twA 3 1 {} []) = true ∧ (twA 3 1 {} []).twinState = 3 ∧ (twA 3 1 {} []).twinRole = 1 ∧ (twA 3 1 {} []).roundDue = true ∧
    (twA 3 1 {} []).camsOfs = none ∧ quiet (partS []) = true ∧ (partS []).camsOfs = some 0 ∧
    (partS []).twinState = 3 := by decide +kernel
theorem wit_TwinPairing_answer : quiet (twA 1 0 { step := 1 } []) = true ∧ (twA 1 0 { step := 1 } []).twinState = 1 ∧
    (twA 1 0 { step := 1 } []).twin.step = 1 ∧
    (twA 1 0 { step := 1 } []).pairqOk 0#32 0#64 0#64 0#16 true false = true ∧ (twA 1 0 { step := 1 } []).twin.rejoin = false ∧
    (twA 1 0 { step := 1 } []).pairqOk 7#32 0#64 0#64 0#16 true false = false ∧ (twA 1 0 { step := 2 } []).twin.step ≠ 1 ∧
    quiet (twA 1 0 { step := 2 } []) = true ∧ (twA 2 0 {} []).twinState ≠ 1 ∧ (twA 2 0 {} []).pairReady = false ∧
    ((twA 0 2 { hbT := some 0, peerArmed := true } [(Reg.TWIN_STAT, 0x210)]).setBond 96 { active := true }).twinState ≠ 1 ∧
    quiet ((twA 0 2 { hbT := some 0, peerArmed := true } [(Reg.TWIN_STAT, 0x210)]).setBond 96 { active := true }) = true ∧
    (((twA 0 2 { hbT := some 0, peerArmed := true } [(Reg.TWIN_STAT, 0x210)]).setBond 96 { active := true }).pairReady &&
      (((twA 0 2 { hbT := some 0, peerArmed := true } [(Reg.TWIN_STAT, 0x210)]).setBond 96 { active := true }).twin.peerArmed ||
        ((twA 0 2 { hbT := some 0, peerArmed := true } [(Reg.TWIN_STAT, 0x210)]).setBond 96 { active := true }).twin.peerState ==
    1) &&
      ((twA 0 2 { hbT := some 0, peerArmed := true } [(Reg.TWIN_STAT, 0x210)]).setBond 96 { active := true }).hbNow &&
      (((twA 0 2 { hbT := some 0, peerArmed := true } [(Reg.TWIN_STAT, 0x210)]).setBond 96 { active := true }).bond 96).active) =
    true := by decide +kernel
theorem wit_TwinPairing_ts : (snapA.axes.map (·.1)).Nodup ∧ (snapA.views.map (·.1)).Nodup ∧
    (twA 1 1 { step := 3 } []).twin.ts = none ∧
    (∀ role : Fin 2, quiet (atT 1600 (twA 1 role.val { step := 3, ts := some 1600 } [])) = true ∧
      (atT 1600 (twA 1 role.val { step := 3, ts := some 1600 } [])).twin.ts = some 1600 ∧
      (atT 1600 (twA 1 role.val { step := 3, ts := some 1600 } [])).twinState = 1 ∧
      (atT 1600 (twA 1 role.val { step := 3, ts := some 1600 } [])).twin.step = 3 ∧
      (atT 1600 (twA 1 role.val { step := 3, ts := some 1600 } [])).twinRole = role.val ∧
      1600 ≤ (atT 1600 (twA 1 role.val { step := 3, ts := some 1600 } [])).devTime) ∧
    quiet (twA 1 1 { step := 3, ts := some 1600 } []) = true ∧ ¬ 1600 ≤ (twA 1 1 { step := 3, ts := some 1600 } []).devTime ∧
    quiet (twA 1 1 { step := 4 } []) = true ∧ (twA 1 1 { step := 4 } []).twinRole = 1 ∧ 4 ≤ (twA 1 1 { step := 4 } []).twin.step ∧
    quiet (atT 160000 (twA 3 0 { hbT := some 160000, hbSince := some 0 } [])) = true ∧
    ((atT 160000 (twA 3 0 { hbT := some 160000, hbSince := some 0 } [])).twinEn &&
      (atT 160000 (twA 3 0 { hbT := some 160000, hbSince := some 0 } [])).twinState == 3 &&
      (atT 160000 (twA 3 0 { hbT := some 160000, hbSince := some 0 } [])).hbNow &&
      (atT 160000 (twA 3 0 { hbT := some 160000, hbSince := some 0 } [])).twin.hbSince.any
        (fun t => decide (t + usTicks 100 ≤ (atT 160000 (twA 3 0 { hbT := some 160000, hbSince := some 0 } [])).devTime))) = true
    := by decide +kernel
def itmA : TwinItem := itemOf itemA
theorem wit_TwinExchanges : base.twinEn = false ∧ quiet base = true ∧ quiet (twA 2 1 {} []) = true ∧
    (twA 2 1 {} []).twinEn = true ∧ (twA 2 1 {} []).paired = true ∧
    (twA 2 1 {} []).twinRole = 1 ∧ quiet (twA 0 2 {} []) = true ∧ (twA 0 2 {} []).twinEn = true ∧ (twA 0 2 {} []).paired = false ∧
    quiet (twA 2 1 { items := [itmA] } []) = true ∧
    (twA 2 1 { items := [itmA] } []).twin.items.find? (fun y => y.same itmA) = some itmA ∧
    (twA 2 1 {} []).twin.items.find? (fun y => y.same itmA) = none ∧ quiet (twA 1 1 { step := 3 } []) = true ∧
    (twA 1 1 { step := 3 } []).twin.step = 3 ∧
    (twA 5 1 {} [(Reg.TWIN_STAT, 0x8D)]).twinFenced = true ∧ quiet (twA 5 1 {} [(Reg.TWIN_STAT, 0x8D)]) = true ∧
    (twA 2 1 {} []).anyInlay = false ∧
    ((twA 2 1 {} []).setBench { inlay := some (1, 0) }).anyInlay = true ∧
    quiet ((twA 2 1 {} []).setBench { inlay := some (1, 0) }) = true ∧
    (twA 2 0 { hoLead := true } []).twin.hoLead = true ∧ quiet (twA 2 0 { hoLead := true } []) = true ∧
    (twA 2 0 {} []).twinRole ≠ 1 := by decide +kernel
theorem wit_TwinExchanges_cameras : quiet (twA 2 0 {} []) = true ∧ (twA 2 0 {} []).paired = true ∧
    (∀ e ∈ (twA 2 0 {} []).twin.ownDig, ¬ (e.1 = 95 ∧ e.2.1 = 7)) ∧
    ((twA 2 0 {} []).cru 95).blocks = [] ∧ (twA 2 0 {} []).twin.nozOwn = [] ∧ quiet (twA 2 0 { nozOwn := [(0, 3, 0)] } []) = true ∧
    (twA 2 0 { nozOwn := [(0, 3, 0)] } []).twin.nozOwn = (0, 3, 0) :: [] ∧
    quiet ((twA 2 0 {} []).setCru 95 { blocks := [cblk (some [3#8])] }) = true ∧
    (((twA 2 0 {} []).setCru 95 { blocks := [cblk (some [3#8])] }).cru 95).blocks = cblk (some [3#8]) :: [] ∧
    (cblk (some [3#8])).tag = some [3#8] ∧
    (cblk (some [3#8])).seq = (7#32).toNat ∧ (0#64).toNat = (cblk (some [3#8])).digest ∧ (1#64).toNat ≠ (cblk (some [3#8])).digest ∧
    quiet (twA 2 0 { cfgRun := 10 } []) = true ∧ (twA 2 0 { cfgRun := 10 } []).twin.cfgRun = 10 ∧
    (twA 2 0 { cfgRun := 10 } []).twin.items = [] ∧
    (twA 2 0 {} []).twin.cfgRun < 10 ∧ quiet (twA 1 1 { joined := [95] } []) = true ∧
    95 ∈ (twA 1 1 { joined := [95] } []).twin.joined := by decide +kernel
/-- A device time, twin state, role and record, where something is due or not. -/
def dueS (t role : Nat) (x : TwinX) : State := atT t (twA 2 role x [])
theorem wit_TwinHandover : quiet base = true ∧ base.twin.th = none ∧
    (∀ role : Fin 2, quiet (dueS 5 role.val { th := some 5 }) = true ∧ (dueS 5 role.val { th := some 5 }).twinRole = role.val ∧
      ((dueS 5 role.val { th := some 5 }).paired && (dueS 5 role.val { th := some 5 }).twin.th.any
        (fun th => decide (th ≤ (dueS 5 role.val { th := some 5 }).devTime))) = true) ∧
    (dueS 5 0 { th := some 5 }).twin.hoOk = false ∧ (dueS 5 0 { th := some 5, hoOk := true }).twin.hoOk = true ∧
    ((dueS 5 0 { th := some 5, hoOk := true }).paired && (dueS 5 0 { th := some 5, hoOk := true }).twin.th.any
      (fun th => decide (th ≤ (dueS 5 0 { th := some 5, hoOk := true }).devTime))) = true ∧
    quiet (dueS 4000 0 { th := some 5, hoOk := true }) = true ∧
    ((dueS 4000 0 { th := some 5, hoOk := true }).paired && (dueS 4000 0 { th := some 5, hoOk := true }).twinRole == 0 &&
      (dueS 4000 0 { th := some 5, hoOk := true }).twin.hoOk && (dueS 4000 0 { th := some 5, hoOk := true }).twin.th.any
        (fun th => decide (th + usTicks 2 ≤ (dueS 4000 0 { th := some 5, hoOk := true }).devTime))) = true ∧
    quiet (dueS 1600000 0 { hoLead := true }) = true ∧ ((dueS 1600000 0 { hoLead := true }).twin.hoLead &&
      !(dueS 1600000 0 { hoLead := true }).twin.hoOk && decide ((dueS 1600000 0 { hoLead := true }).twin.hoT + usTicks 1000 ≤
        (dueS 1600000 0 { hoLead := true }).devTime)) = true ∧
    quiet (dueS 1600000 0 { fenceT := some 0 }) = true ∧ (dueS 1600000 0 { fenceT := some 0 }).twin.fenceT.any
      (fun t0 => decide (t0 + usTicks 1000 ≤ (dueS 1600000 0 { fenceT := some 0 }).devTime)) = true := by decide +kernel
theorem wit_TwinHandover_cmd :
    (((dueS 1600000 0 { hoCmd := some (0, 63), fenceCmd := some (0, 63) }).setBench
    { running := [cmdOf 0x0D05 []] }).bench.running.find?
      (fun x => x.f == 0 && x.slot == 63 && !x.interim)) = some (cmdOf 0x0D05 []) ∧ (cmdOf 0x0D05 []).f = 0 ∧
    (cmdOf 0x0D05 []).slot = 63 := by decide +kernel
theorem wit_TwinHandover_TwinCommandBits : Up base Reg.TWIN_CMD ∧ Up (twA 0 2 {} []) Reg.TWIN_CMD ∧
    (twA 0 2 {} []).pairOpen = true ∧ (twA 0 2 {} []).twin.peerArmed = false ∧
    (twA 0 2 {} []).twin.peerState ≠ 1 ∧ (twA 2 0 {} []).pairOpen = false ∧
    (twA 0 2 {} [(Reg.TWIN_CTL, 5)]).fld Reg.TWIN_CTL 2 1 = 1 ∧
    (twA 0 2 {} []).fld Reg.TWIN_CTL 2 1 ≠ 1 ∧ (twA 0 2 {} []).hbNow = false ∧ (twA 0 2 { hbT := some 0 } []).hbNow = true ∧
    (twA 5 1 { hbT := some 0, peerRole := 0 } [(Reg.TWIN_STAT, 0x8D)]).unfenceOpen = true ∧ (twA 0 2 {} []).unfenceOpen = false ∧
    (twA 5 1 {} [(Reg.TWIN_STAT, 0x8D)]).twinFenced = true ∧
    (twA 2 0 {} []).handoverOpen = true ∧ (twA 2 0 {} []).anyInlay = false ∧ (twA 2 1 {} []).handoverOpen = false ∧
    (twA 2 0 {} []).twinFenced = false ∧
    (twA 2 0 {} []).twinRole ≠ 1 ∧ (twA 2 1 {} []).twinRole = 1 ∧ (twA 2 1 {} []).twinFenced = false := by unfold Up; decide +kernel

/-! ## Register accesses -/

def latchS : State := { base with hiLatch := [(8, 5#32)] }
theorem wit_RegisterAccess_RegisterReads : quiet base = true ∧ base.boot.mode = 0 ∧ base.fld Reg.HOSTEP_LINK 15 2 < 2 ∧
    (∀ m : Fin 6, (inMode base m.val).boot.mode = m.val) ∧
    base.fnOk 15 = false ∧ base.fnOk 0 = true ∧ (put base [(Reg.CLK_GATE 7, 0)]).unitUp (Reg.POS_AXCTL 7) = false ∧
    quiet (put base [(Reg.CLK_GATE 7, 0)]) = true ∧
    base.unitUp Reg.TOUCH_IRQ = true ∧ arrayEnd Reg.TOUCH_IRQ = none ∧ Reg.TOUCH_IRQ % 4 = 0 ∧ Reg.TOUCH_IRQ < 0x4000000 ∧
    isLow Reg.TOUCH_IRQ = false ∧ isLow (Reg.TOUCH_IRQ - 4) = false ∧ isLow 8 = true ∧ isLow 12 = false ∧ isLow (12 - 4) = true ∧
    base.unitUp 8 = true ∧
    arrayEnd 8 = none ∧ base.unitUp 12 = true ∧ arrayEnd 12 = none ∧ quiet latchS = true ∧
    latchS.hiLatch.find? (fun e => e.1 == 12 - 4) = some (12 - 4, 5#32) := by decide +kernel
theorem wit_RegisterAccess_RegisterWrites : quiet base = true ∧ base.boot.mode = 0 ∧ base.fnOk 15 = false ∧ base.fnOk 0 = true ∧
    base.unitUp (Reg.POS_AXCTL 7) = true ∧ (put base [(Reg.CLK_GATE 7, 0)]).unitUp (Reg.POS_AXCTL 7) = false ∧
    writeFits (Reg.POS_AXCTL 7) [some 1#8] = false ∧
    Reg.PWR_THERM < 0x4000000 ∧ base.unitUp Reg.PWR_THERM = true ∧ arrayEnd Reg.PWR_THERM = none ∧ Reg.PWR_THERM % 4 = 0 ∧
    paged Reg.PWR_THERM = false ∧
    (Reg.rowAt Reg.PWR_THERM).isSome = true ∧ busLockAt Reg.PWR_THERM = none := by decide +kernel
theorem wit_RegisterAccess_RegisterWrites_lock : (∃ u, busLock Reg.PWR_THERM = some u ∧ base.unlocked u = false) ∧
    ¬ (∃ u, busLock Reg.PWR_THERM = some u ∧ (put base [(Reg.PWR_LOCK, 1)]).unlocked u = false) ∧
    quiet (put base [(Reg.PWR_LOCK, 1)]) = true ∧
    Up base (lockReg .pos) ∧ 0#32 ≠ 0xA5C3#32 ∧ lockClaim .pos = some 0 ∧
    (∀ b, lockClaim .pos = some b → (put base [(Reg.BENCH_DWCLAIM, 0x10000)]).bit Reg.BENCH_DWCLAIM (16 + b) = true) ∧
    Up (put base [(Reg.BENCH_DWCLAIM, 0x10000)]) (lockReg .pos) ∧ base.bit Reg.BENCH_DWCLAIM (16 + 0) = false := by
  refine ⟨⟨.pwr, by decide +kernel⟩, ?_, by decide +kernel, ?_, by decide +kernel, by decide +kernel, ?_, ?_, by decide +kernel⟩
  · rintro ⟨u, hu, hl⟩
    obtain rfl : u = .pwr := by
      have h : busLock Reg.PWR_THERM = some .pwr := by decide +kernel
      exact (Option.some.inj (h.symm.trans hu)).symm
    exact absurd hl (by decide +kernel)
  · unfold Up; decide +kernel
  · intro b hb
    obtain rfl : b = 0 := by
      have h : lockClaim .pos = some 0 := by decide +kernel
      exact (Option.some.inj (h.symm.trans hb)).symm
    decide +kernel
  · unfold Up; decide +kernel
/-- No state gives a word write of PWR_THERM an effect beyond its fields. -/
theorem wit_RegisterAccess_RegisterWrites_plain (u : State) : u.busHook 0 Reg.PWR_THERM 5#32 = none := rfl

/-! ## Start-up, reset and quench -/

/-- The start-up stands at stage n with error e, its reference good. -/
def stgS (n e : Nat) : State := put base [(Reg.GLB_BOOTSTAT, n + 16 * e), (Reg.CLK_MON, 1)]
theorem wit_Resets_ResetSources : (∀ m : Fin 6, (inMode base m.val).boot.mode = m.val) ∧ Up base Reg.GLB_RESET ∧
    base.fld Reg.GLB_BOOTSTAT 4 4 ≠ 2 ∧
    Up (stgS 6 2) Reg.GLB_RESET ∧ (stgS 6 2).fld Reg.GLB_BOOTSTAT 4 4 = 2 ∧ (0xD1E5#32 ≠ 0#32) ∧
    (inMode base 2).boot.t + usTicks 10 ≤ (inMode base 2).after 16000 ∧
    (inMode base 2).after 5 < (inMode base 2).boot.t + usTicks 10 := by
  unfold Up; decide +kernel
theorem wit_StartUp : quiet base = true ∧ base.stageOpen = false ∧
    (∀ n < 10, quiet (stgS n 0) = true ∧ (stgS n 0).boot.mode = 0 ∧ (stgS n 0).stageOpen = true ∧
    (stgS n 0).fld Reg.GLB_BOOTSTAT 0 4 = n) ∧
    (stgS 9 0).host.d3wait = false ∧ (∀ b < 32, ((stgS 9 0).nbank b).waiting = []) ∧
    (∀ e < 16, (stgS 9 0).bit (Reg.DMA_ENGSTAT e) 10 = false) ∧
    (stgS 9 0).bit Reg.MEM_STAT 3 = false ∧ Up (stgS 7 1) Reg.GLB_BOOTCMD ∧ quiet (stgS 7 1) = true ∧
    (stgS 7 1).fld Reg.GLB_BOOTSTAT 0 4 = 7 ∧
    (stgS 7 1).fld Reg.GLB_BOOTSTAT 4 4 = 1 ∧ (stgS 8 0).fld Reg.GLB_BOOTSTAT 0 4 ≠ 7 ∧
    Up (stgS 8 0) Reg.GLB_BOOTCMD := by unfold Up; decide +kernel
theorem wit_Resets_QuenchAndTestPort : base.boot.mode = 0 ∧ 3 ≤ base.fld Reg.GLB_BOOTSTAT 0 4 ∧
    (put base [(Reg.GLB_CTL, 2)]).bit Reg.GLB_CTL 1 = true ∧
    3 ≤ (put base [(Reg.GLB_CTL, 2)]).fld Reg.GLB_BOOTSTAT 0 4 ∧ (put base [(Reg.GLB_CTL, 2)]).boot.mode = 0 ∧
    (put base [(Reg.GLB_CTL, 0)]).bit Reg.GLB_CTL 1 = false ∧
    State.reset.fld Reg.GLB_BOOTSTAT 0 4 < 3 ∧ Up base Reg.GLB_QUENCH ∧ Up (stgS 2 0) Reg.GLB_QUENCH ∧
    (stgS 2 0).fld Reg.GLB_BOOTSTAT 0 4 < 3 ∧
    (put base [(Reg.TRG_PINCFG 31, 1)]).pinDriven 31 = true ∧ Up (put base [(Reg.TRG_PINCFG 31, 1)]) Reg.GLB_QUENCH ∧
    (inMode base 5).boot.mode = 5 ∧ (inMode base 3).boot.mode = 3 ∧
    ((inMode base 3).setBoot { base.boot with mode := 3, ir := 0x22 }).boot.ir = 0x22 ∧
    ((put base [(Reg.PWR_ON, 1)]).domOn (busDomain (8 * (Reg.POS_AXCTL 7 / 8))) = false) ∧ busDomain (8 * (Reg.POS_AXCTL 7 / 8)) ≠ 0 ∧
    8 * (Reg.POS_AXCTL 7 / 8) < 0x4000000 ∧ (0x23#8 ≠ 0x02#8 ∧ 0x23#8 ≠ 0x20#8 ∧ 0x23#8 ≠ 0x21#8) := by
  unfold Up; decide +kernel

/-! ## Steps -/

theorem wit_QueueFront : ({ base with pending := [.por] } : State).pending = .por :: [] ∧ base.pending = [] ∧ base.boot.mode = 0 ∧
    (inMode base 2).boot.mode = 2 ∧ (inMode base 2).pending = [] ∧ (inMode base 3).boot.mode ≠ 0 ∧
    (inMode base 3).boot.mode ≠ 2 := by decide +kernel
theorem wit_ClockReferences_PassingTime : base.slew.left = 0 ∧ (∀ n < 112, ¬ (2 ≤ base.laneSt n ∧ base.laneSt n ≤ 8) ∧
    base.laneSt n ≠ 11 ∧ base.laneSt n ≠ 12 ∧
    base.laneGen n = false) ∧ base.twin.txq = [] := by decide +kernel
theorem wit_HeldDevice : (inMode base 3).boot.mode ≠ 0 ∧ reachesHeld .loadmem = false := by decide +kernel
theorem wit_QuenchHolds : (inMode base 3).boot.mode = 3 ∧ (inMode base 3).pending = [] ∧ Steps (inMode base 3) (inMode base 3) :=
  ⟨by decide +kernel, by decide +kernel, rfl⟩
theorem wit_Acknowledgement : Up base Reg.TOUCH_ACK ∧ bitOf 8#32 3 = true ∧ bitOf 8#32 4 = false ∧
    served 0x0902 (fun _ c => [(c.short 1 [] || decide (14 < c.at 0 1), St.badParam)]) (runS 0x0902 [3#8] base) = true := by
    unfold Up; decide +kernel
theorem wit_StatusRank : (∀ e ∈ [(true, St.busy), (true, St.badParam), (false, St.noObject)], e.2 ≠ 0) ∧
    pickStatus [(true, St.busy), (true, St.badParam), (false, St.noObject)] = St.badParam ∧ pickStatus [(false, St.busy)] = 0 ∧
    (cmdOf 0x0101 []).interim = false ∧ Answer base (cmdOf 0x0101 []) [] = 0 ∧
    Answer base (cmdOf 0x0101 []) [(true, St.busy)] ≠ 0 := by decide +kernel

/-! ### Each mailbox command: one accepted, and the same with a malformed header refused -/

theorem wit_Acknowledgement_faultAck : served 0x0902 (fun _ c => [(c.short 1 [] || decide (14 < c.at 0 1), St.badParam)])
    (runS 0x0902 [3#8] base) = true := by
  decide +kernel
theorem wit_SystemCommands_sysInfo : served 0x0101 (fun _ c => [(c.short 0 [], St.badParam)])
    (runS 0x0101 [] base) = true := by
  decide +kernel
theorem wit_SystemCommands_tenantCreate : served 0x0102 (fun s c => [ (c.short 176 [] || s.partBad (c.payload.take 176), St.badParam),
    (s.part (c.at 0 1) != [], St.state), (s.partForeign (c.at 0 1) (c.payload.take 176), St.isolation), (s.partBusy (c.at 0 1)
    (c.payload.take 176) || s.claimedAny partUnits, St.busy), (s.partOver (c.at 0 1) (c.payload.take 176), St.capacity)])
    (runS 0x0102 part3 base) = true := by
  decide +kernel
theorem wit_SystemCommands_tenantModify : served 0x0103 (fun s c => [ (c.short 176 [] || s.partBad (c.payload.take 176), St.badParam),
    (s.part (c.at 0 1) == [], St.noObject), (s.partForeign (c.at 0 1) (c.payload.take 176), St.isolation), (s.partBusy (c.at 0 1)
    (c.payload.take 176) || s.claimedAny partUnits, St.busy), (s.partOver (c.at 0 1) (c.payload.take 176), St.capacity)])
    (runS 0x0103 part3 (tenS [])) = true := by
  decide +kernel
theorem wit_SystemCommands_tenantDestroy : served 0x0104 (fun s c => [ (c.short 1 [] || c.at 0 1 == 0 || decide (15 < c.at 0 1),
    St.badParam), (s.part (c.at 0 1) == [], St.noObject), (s.claimedAny partUnits, St.busy)])
    (runS 0x0104 [3#8] (tenS [])) = true := by
  decide +kernel
theorem wit_SystemCommands_tenantQuery : served 0x0105 (fun s c => [ (c.short 1 [] || c.at 0 1 == 0 || decide (15 < c.at 0 1),
    St.badParam), (decide (c.f ≠ 0) && decide (c.at 0 1 ≠ c.f), St.isolation), (s.part (c.at 0 1) == [], St.noObject)])
    (runS 0x0105 [3#8] (tenS [])) = true := by
  decide +kernel
theorem wit_SystemCommands_tenantReset : served 0x0106 (fun s c => [ (c.short 1 [], St.badParam), (decide (c.f ≠ 0) &&
    decide (c.at 0 1 ≠
    c.f), St.isolation), (decide (15 < c.at 0 1) || !s.tenantIs (c.at 0 1) || !s.tenantIs c.tenant, St.noObject)])
    (runS 0x0106 [3#8] (tenS [])) = true := by
  decide +kernel
theorem wit_SystemCommands_notifySet : served 0x0107 (fun _ c => [(c.short 2 [], St.badParam)])
    (runS 0x0107 (leBytes 2 0xF) base) = true := by
  decide +kernel
theorem wit_CameraCommands_camBind : served 0x0201 (fun s c => s.camRefusals c false ++ [ (c.short 16 [] || c.bindBad || (List.range
    96).any (fun g => s.genMsg g && s.genCam g == c.at 0 1 && s.genAxis g != c.at 7 1), St.badParam),
    (!s.usesAxis c.tenant (c.at 7 1),
    St.isolation), (decide (8 ≤ c.at 7 1), St.noObject), (c.bindAll.any (fun n => decide (104 ≤ n) || s.laneSt n == 13), St.noObject),
    ((s.cam (c.at 0 1)).bound || c.bindAll.any (fun n => !s.clkOn n || s.laneSt n == 9), St.state), (s.claimedAny [3, 4] ||
    c.bindAll.any
    (fun n => s.bit (Reg.LANE_BOND n) 0), St.busy)])
    (runS 0x0201 (leBytes 8 0x0700000000FF015F ++ leBytes 8 0xFFFFFFFFFFFFFF5B) base) = true := by
  decide +kernel
theorem wit_CameraCommands_camUnbind : served 0x0202 (fun s c => s.camRefusals c true ++ [ (c.short 1 [], St.badParam),
    (s.camPipes (c.at
    0 1) != [], St.state), (s.claimedAny [3, 4], St.busy)])
    (runS 0x0202 [95#8] (boundS {} [])) = true := by
  decide +kernel
theorem wit_CameraCommands_camStatus : served 0x0203 (fun s c => s.camRefusals c true ++ [(c.short 1 [], St.badParam)])
    (runS 0x0203 [95#8] (boundS {} [])) = true := by
  decide +kernel
theorem wit_CameraCommands_camFormatWrite : served 0x0204 (fun s c => s.camRefusals c false ++ [ (c.short 196 [(2, 2)] || decide (16 ≤
    c.at 1 1) || !fmtOk ((c.payload.drop 4).take 192) || !fmtSpanOk ((c.payload.drop 4).take 192), St.badParam), (s.claimed 4,
    St.busy)])
    (runS 0x0204 (leBytes 4 0xF5F ++ fmtRec ++ leBytes 120 0) base) = true := by
  decide +kernel
theorem wit_CameraCommands_camFormatSelect : served 0x0205 (fun s c => s.camRefusals c true ++ [ (c.short 2 [] ||
    decide (c.at 1 1 / 2 % 8
    ≠ 0) || ((s.fmtOf (c.at 0 1) ((s.rd (Reg.LINK_CAMCFG (c.at 0 1)) &&& 0xC1#32) ||| w32 (c.at 1 1 % 2 * 2 + c.at 1 1 / 16 *
    4))).any fun
    f => fmtOk f && !fmtSpanOk f), St.badParam), (s.claimed 4, St.busy), (s.fmtOver c.tenant (c.at 0 1) ((s.rd (Reg.LINK_CAMCFG
    (c.at 0
    1)) &&& 0xC1#32) ||| w32 (c.at 1 1 % 2 * 2 + c.at 1 1 / 16 * 4)), St.capacity)])
    (runS 0x0205 (leBytes 2 0x115F) (boundS {} [])) = true := by
  decide +kernel
theorem wit_CameraCommands_camRegRead : served 0x0206 (fun s c => s.camRefusals c true ++ [(!s.tenantIs c.tenant, St.noObject),
    (c.short 8
    [(2, 2)] || c.at 1 1 == 0 || decide (56 < c.at 1 1) || decide (c.at 4 4 % 4 ≠ 0), St.badParam), (!(s.bond (c.at 0 1)).active,
    St.state), (s.claimed 4 || (s.freeTag (c.at 0 1)).isNone, St.busy)])
    (runS 0x0206 (leBytes 8 0x40000015F) (boundS {} [])) = true := by
  decide +kernel
theorem wit_CameraCommands_camRegWrite : served 0x0207 (fun s c => s.camRefusals c true ++ [(!s.tenantIs c.tenant, St.noObject),
    (c.short
    (8 + 4 * c.at 1 1) [(2, 2)] || c.at 1 1 == 0 || decide (56 < c.at 1 1) || decide (c.at 4 4 % 4 ≠ 0), St.badParam),
    (!(s.bond (c.at 0
    1)).active, St.state), (s.claimed 4 || (s.freeTag (c.at 0 1)).isNone, St.busy)])
    (runS 0x0207 (leBytes 12 0x40000015F) (boundS {} [])) = true := by
  decide +kernel
theorem wit_CameraCommands_camRestart : served 0x0208 (fun s c => s.camRefusals c true ++ [(c.short 1 [], St.badParam), (s.claimed 3,
    St.busy)])
    (runS 0x0208 [95#8] (boundS {} [])) = true := by
  decide +kernel
theorem wit_CameraCommands_laneTest : served 0x0209 (fun s c => [ (c.short 8 [(3, 1)] || decide (64 ≤ c.at 2 1) ||
    c.at 2 1 / 4 % 4 == 3
    || c.at 4 4 == 0 || decide (500000 < c.at 4 4) || (c.at 2 1 % 4 != 0 && s.laneRx (c.at 0 2) != s.laneTx (c.at 0 2)), St.badParam),
    (decide (104 ≤ c.at 0 2), St.noObject), ((c.at 2 1 % 4 != 0 && s.bit (Reg.LANE_BOND (c.at 0 2)) 0) || !([0, 1, 9, 10].contains
    (s.laneSt (c.at 0 2))), St.state), (s.claimed 3, St.busy)])
    (runS 0x0209 (leBytes 8 0x50000000067) base) = true := by
  decide +kernel
theorem wit_PipelineCommands_pipeBind : served 0x0301 (fun s c => s.bindRefusals c)
    (runS 0x0301 (leBytes 8 0x100000015F ++ leBytes 40 91) (boundS {} [])) = true := by
  decide +kernel
theorem wit_PipelineCommands_pipeUnbind : served 0x0302 (fun s c => s.camRefusals c true ++ [ (c.short 1 [], St.badParam),
    (s.boundPipes
    (c.at 0 1) == [], St.noObject), ((s.camPipes (c.at 0 1)).any s.pipeEn, St.state), (s.claimed 5, St.busy)])
    (runS 0x0302 [95#8] (pipedS [])) = true := by
  decide +kernel
theorem wit_PipelineCommands_pipeContextWrite : served 0x0303 (fun s c => s.camRefusals c true ++ [ (c.short 8 [(2, 6)] ||
    !c.pairsForm 8
    || (c.pairs 8).any (fun e => !pairOk (Reg.PIPE_COLS 0) 0x04 0x7C e || ctxBad e) || (fmtArea (s.camFmt (c.at 0 1)) &&
    fldOf (c.pairVal
    8 0x04 (w32 (s.camBlkLines (c.at 0 1)))) 0 11 != fmtHeight (s.camFmt (c.at 0 1))), St.badParam),
    (s.stripes (c.at 0 1) (c.at 1 1) ==
    [], St.noObject), (s.claimed 5, St.busy), ((s.bench.nozCams.contains (c.at 0 1) &&
    !s.nozOk (c.at 0 1) (fldOf (c.pairVal 8 0x04 (w32
    (s.camBlkLines (c.at 0 1)))) 0 11)) || (s.bit (Reg.CRU_CAMCFG (c.at 0 1)) 16 &&
    !s.imageOk c.tenant (c.at 0 1) (s.imageLoad (c.at 0 1)
    (fldOf (c.pairVal 8 0x7C (w32 (4 * s.camRingFmt (c.at 0 1)))) 2 2))), St.capacity)])
    (runS 0x0303 (leBytes 8 0xFF5F ++ pair 4 16) (pipedS [])) = true := by
  decide +kernel
theorem wit_PipelineCommands_pipeTableWrite : served 0x0304 (fun s c => s.camRefusals c true ++ [ (c.short 16 [(3, 1), (8, 8)] ||
    decide
    (c.len < 16 + 4 * c.at 6 2) || c.at 6 2 == 0 || decide (56 < c.at 6 2) || decide (2 < c.at 1 1) || decide (2 < c.at 2 1) || decide
    ((if c.at 1 1 = 0 then fmtWidth (s.camFmt (c.at 0 1)) else if c.at 1 1 = 1 then 1024 else 257) < c.at 4 2 + c.at 6 2) ||
    (c.at 1 1 ==
    2 && (List.range (c.at 6 2)).any (fun i => decide (c.at (19 + 4 * i) 1 ≠ 0))), St.badParam), (s.boundPipes (c.at 0 1) == [],
    St.noObject), (s.claimed 5, St.busy)])
    (runS 0x0304 (leBytes 8 0x100000000005F ++ leBytes 8 0 ++ leBytes 4 5) (pipedS [])) = true := by
  decide +kernel
theorem wit_PipelineCommands_pipeArm : served 0x0305 (fun s c => s.camRefusals c true ++ [ (c.short 2 [] || decide (2 ≤ c.at 1 1),
    St.badParam), (s.camPipes (c.at 0 1) == [], St.noObject), (s.claimed 5 || (c.at 1 1 == 1 && s.claimed 1), St.busy)])
    (runS 0x0305 [95#8, 1#8] (pipedS [])) = true := by
  decide +kernel
theorem wit_PipelineCommands_pipeEnable : served 0x0306 (fun s c => s.camRefusals c true ++ [ (c.short 2 [] || decide (2 ≤ c.at 1 1),
    St.badParam), (s.camPipes (c.at 0 1) == [], St.noObject), (s.claimed 5, St.busy)])
    (runS 0x0306 [95#8, 1#8] (pipedS [])) = true := by
  decide +kernel
theorem wit_PipelineCommands_pipeStatus : served 0x0307 (fun s c => s.camRefusals c true ++ [ (c.short 1 [], St.badParam),
    (s.boundPipes
    (c.at 0 1) == [], St.noObject)])
    (runS 0x0307 [95#8] (pipedS [])) = true := by
  decide +kernel
theorem wit_AxisCommands_axisSet : served 0x0401 (fun s c => s.axRefusals c ++ [ (c.short 8 [(1, 7)] || !c.pairsForm 8 ||
    (c.pairs 8).any
    (fun e => !pairOk (Reg.POS_AXEN 0) 0 0xDC e), St.badParam), (s.claimed 0, St.busy)])
    (runS 0x0401 (leBytes 8 7 ++ pair 4 0 ++ pair 0 1) base) = true := by
  decide +kernel
theorem wit_AxisCommands_axisCmd : served 0x0402 (fun s c => s.axRefusals c ++ [ (c.short 2 [] ||
    decide (32 ≤ c.at 1 1), St.badParam),
    (s.claimed 0, St.busy)])
    (runS 0x0402 [7#8, 1#8] base) = true := by
  decide +kernel
theorem wit_AxisCommands_axisRead : served 0x0403 (fun s c => [ (c.short 1 [], St.badParam),
    (if c.at 0 1 < 8 then !s.usesAxis c.tenant
    (c.at 0 1) else c.tenant != 0, St.isolation), (decide (8 ≤ c.at 0 1), St.noObject)])
    (runS 0x0403 [7#8] (axS 0 { m := 5 } [])) = true := by
  decide +kernel
theorem wit_AxisCommands_posSnapshot : served 0x0404 (fun s c => [(c.short 0 [], St.badParam), (s.claimed 0, St.busy)])
    (runS 0x0404 [] (axS 0 { m := 5 } [])) = true := by
  decide +kernel
theorem wit_AxisCommands_tsSet : served 0x0405 (fun s c => s.genRefusals c ++ [ (c.short 8 [(1, 7)] || !c.pairsForm 8 ||
    (c.pairs 8).any
    (fun e => !pairOk (Reg.TRG_TSCTL 0) 0 0x30 e) || s.tsBad (c.pairVal 8 0 (s.rd (Reg.TRG_TSCTL (c.at 0 1)))) (c.pairVal 8 0x20 (s.rd
    (Reg.TRG_TSXDLY (c.at 0 1)))), St.badParam), (s.tsForeign c.tenant (c.pairVal 8 0 (s.rd (Reg.TRG_TSCTL (c.at 0 1)))),
    St.isolation),
    (bitOf (c.pairVal 8 0 (s.rd (Reg.TRG_TSCTL (c.at 0 1)))) 10 && !(s.cam (fldOf (c.pairVal 8 0 (s.rd (Reg.TRG_TSCTL (c.at 0 1)))) 3
    7)).bound, St.noObject), (s.claimed 1, St.busy)])
    (runS 0x0405 (leBytes 8 95 ++ pair 0 7) base) = true := by
  decide +kernel
theorem wit_AxisCommands_tsCmd : served 0x0406 (fun s c => s.genRefusals c ++ [ (c.short 2 [] || decide (16 ≤ c.at 1 1), St.badParam),
    (s.claimed 1, St.busy)])
    (runS 0x0406 [95#8, 8#8] base) = true := by
  decide +kernel
theorem wit_RouteCommands_clSet : served 0x0407 (fun s c => s.listRefusals c ++ [ (c.short 8 [(2, 2)] ||
    decide (32 ≤ c.at 1 1) || c.at 4
    4 == 0 || decide (65536 < c.at 4 4), St.badParam), (!s.usesAxis c.tenant (c.at 1 1 / 2 % 8), St.isolation), (s.clEn (c.at 0 1),
    St.state), (s.claimed 1, St.busy), ((s.ringPlace c.tenant (c.at 0 1) (c.at 4 4)).isNone, St.capacity)])
    (runS 0x0407 (leBytes 4 0x0F3F ++ leBytes 4 100) base) = true := by
  decide +kernel
theorem wit_RouteCommands_clAppend : served 0x0408 (fun s c => s.listRefusals c ++ [ (c.short 16 [(2, 14)] || c.at 1 1 == 0 ||
    decide (14
    < c.at 1 1) || decide (c.len < 16 + 16 * c.at 1 1) || c.entries.any (fun e => entBad e || s.winBad (c.at 0 1) e), St.badParam),
    (c.entries.any (s.entForeign c.tenant), St.isolation), (s.claimed 1, St.busy), (decide ((s.clRd (c.at 0 1) + 2 * s.clSize
    (c.at 0 1) -
    s.clWr (c.at 0 1) - 1) % s.clSize (c.at 0 1) < c.at 1 1), St.capacity)])
    (runS 0x0408 (leBytes 16 0x013F ++ leBytes 16 (127 * 2 ^ 57 + 500)) (put base [(Reg.TRG_CLSIZE 63, 100)])) = true := by
  decide +kernel
theorem wit_RouteCommands_clStatus : served 0x0409 (fun s c => s.listRefusals c ++ [(c.short 1 [], St.badParam)])
    (runS 0x0409 [63#8] base) = true := by
  decide +kernel
theorem wit_RouteCommands_pinSet : served 0x040A (fun s c => [ (c.short 8 [(2, 6)] || decide (2 < c.at 0 1) || !c.pairsForm 8 ||
    (c.pairs
    8).any (fun e => !pairOk (pinBlock (c.at 0 1) 0).1 0 (pinBlock (c.at 0 1) 0).2 e), St.badParam), (s.pinForeign c, St.isolation),
    (decide ((if c.at 0 1 = 0 then 32 else 16) ≤ c.at 1 1), St.noObject), (s.claimed 1, St.busy)])
    (runS 0x040A (leBytes 8 0x1F00 ++ pair 0 1) base) = true := by
  decide +kernel
theorem wit_RouteCommands_routePub : served 0x040B (fun s c => [ (c.short 4 [] || decide (2 ≤ c.at 3 1), St.badParam),
    (!s.owns c.tenant
    Part.evch (c.at 2 1) || (!(c.at 0 2 == 1024 || c.at 0 2 == 1025) && s.producerOwner (c.at 0 2) != c.tenant), St.isolation),
    (!(c.at 0
    2 == 1024 || c.at 0 2 == 1025) && decide (866 ≤ c.at 0 2), St.noObject), (s.claimed (if c.at 0 2 == 1024 ||
    c.at 0 2 == 1025 then 1
    else 2), St.busy), (c.at 3 1 == 1 && decide (352 ≤ c.at 0 2) && decide (c.at 0 2 < 864) &&
    s.routeCycle true (c.at 0 2 - 352) (c.at 2
    1), St.cycle)])
    (runS 0x040B (leBytes 2 865 ++ [255#8, 1#8]) base) = true := by
  decide +kernel
theorem wit_RouteCommands_routeSub : served 0x040C (fun s c => [ (c.short 5 [] || decide (8 ≤ c.at 3 1) || decide (64 ≤ c.at 4 1),
    St.badParam), (s.consumerOwner (c.at 0 2) != c.tenant || !s.maySub c.tenant (c.at 2 1) || (c.at 3 1 / 2 % 2 == 1 && s.gateForeign
    c.tenant (c.at 4 1)), St.isolation), (decide (641 ≤ c.at 0 2), St.noObject), (s.claimed 2 || (decide (c.at 0 2 < 32) &&
    s.claimed 1),
    St.busy), (c.at 3 1 % 2 == 1 && decide (32 ≤ c.at 0 2) && decide (c.at 0 2 < 544) &&
    s.routeCycle false (c.at 0 2 - 32) (c.at 2 1),
    St.cycle)])
    (runS 0x040C (leBytes 2 640 ++ [255#8, 7#8, 63#8]) base) = true := by
  decide +kernel
theorem wit_RouteCommands_routeShare : served 0x040D (fun s c => [ (c.short 4 [(1, 1)], St.badParam),
    (!s.owns c.tenant Part.evch (c.at 0
    1), St.isolation), (s.claimed 2, St.busy)])
    (runS 0x040D ([255#8, 0#8] ++ leBytes 2 0xF0) base) = true := by
  decide +kernel
theorem wit_ReferenceCommands_refPageLoad : served 0x0501 (fun s c => [ (c.short 80 [] || !pageOk (c.payload.take 80) || (s.pageBases
    c.tenant (c.payload.take 80)).isNone || (s.comparing c.tenant).any (fun n => !bandOk (s.pipeCols n).2 (s.rd (Reg.ASY_XSCL n))
    (pgFmt
    (c.payload.take 80))), St.badParam), ((s.tenantPages c.tenant).any (fun e => pgId e.2 == pgId (c.payload.take 80)), St.state),
    (s.claimed 6, St.busy), (decide (s.pageQuota c.tenant ≤ (s.tenantPages c.tenant).length), St.capacity)])
    (runS 0x0501 page5 base) = true := by
  decide +kernel
theorem wit_ReferenceCommands_refPageFree : served 0x0502 (fun s c => [ (c.short 4 [], St.badParam), ((s.findPage c.tenant (c.at 0
    4)).isNone, St.noObject), (s.pagePlaces c.tenant (c.at 0 4) != [] || s.pageWaits c.tenant (c.at 0 4) || s.claimed 6, St.busy)])
    (runS 0x0502 (leBytes 4 5) pagedS) = true := by
  decide +kernel
theorem wit_ReferenceCommands_refPlace : served 0x0503 (fun s c => s.viewRefusals c ++ [ (c.short 14 [(1, 3)] || (s.viewLast (c.at 0
    1)).any (fun q => decide (posDiff (posn (c.at 8 6)) q ≤ 0)), St.badParam), (s.claimed 6, St.busy), (decide (64 ≤ (s.view (c.at 0
    1)).places.length + (s.viewWaits (c.at 0 1)).length), St.capacity)])
    (runS 0x0503 (leBytes 4 15 ++ leBytes 4 5 ++ leBytes 6 100) pagedS) = true := by
  decide +kernel
theorem wit_ReferenceCommands_refViewSet : served 0x0504 (fun s c => s.viewRefusals c ++ [ (c.short 8 [(2, 2)] ||
    decide (16 ≤ c.at 1 1),
    St.badParam), (!s.usesAxis c.tenant (c.at 1 1 / 2), St.isolation), (s.claimed 6 ||
    (s.fld (Reg.ASY_VCTL (c.at 0 1)) 1 3 != c.at 1 1 /
    2 && s.viewNamed (c.at 0 1)), St.busy)])
    (runS 0x0504 (leBytes 4 0x0F0F ++ leBytes 4 9) base) = true := by
  decide +kernel
theorem wit_ReferenceCommands_renderSetWrite : served 0x0505 (fun s c => s.setRefusals c ++ [ (c.short 16 [(1, 3), (10, 6)] ||
    c.at 8 2 ==
    0 || decide (224 < c.at 8 2) || decide (c.len < 16 + c.at 8 2) || decide (0xC000 < c.at 4 4 + c.at 8 2), St.badParam),
    (s.claimed 6 ||
    s.bit Reg.ASY_RSSTAT (c.at 0 1), St.busy)])
    (runS 0x0505 (leBytes 8 7 ++ leBytes 8 9 ++ leBytes 9 0x090807060504030201) base) = true := by
  decide +kernel
theorem wit_ReferenceCommands_renderSetPublish : served 0x0506 (fun s c => s.setRefusals c ++ [(c.short 1 [], St.badParam),
    (s.claimed 6,
    St.busy)])
    (runS 0x0506 [7#8] (put base [(Reg.ASY_CFG 103, 0x701)])) = true := by
  decide +kernel
theorem wit_ReferenceCommands_assayConfig : served 0x0507 (fun s c => s.camRefusals c true ++ [ (c.short 8 [(2, 6)] ||
    !c.pairsForm 8 ||
    (c.pairs 8).any (fun e => !pairOk (Reg.ASY_CFG 0) 0 0x34 e) || (s.stripes (c.at 0 1) (c.at 1 1)).any (s.asyBad c (c.at 0 1)),
    St.badParam), ((s.stripes (c.at 0 1) (c.at 1 1)).any (s.asyForeign c), St.isolation), (s.stripes (c.at 0 1) (c.at 1 1) == [],
    St.noObject), (s.claimed 6, St.busy)])
    (runS 0x0507 (leBytes 8 0xFF5F ++ pair 8 0x10000) (pipedS [])) = true := by
  decide +kernel
theorem wit_ReferenceCommands_refPageStatus : served 0x0508 (fun _ c => [(c.short 4 [], St.badParam)])
    (runS 0x0508 (leBytes 4 5) pagedS) = true := by
  decide +kernel
theorem wit_NozzleCommands_nozPlaneSet : served 0x0601 (fun s c => s.planeRefusals c ++ [ (c.short 36 [(1, 3)] ||
    s.planeBad (c.at 0 1)
    c.planeWords, St.badParam), (s.claimed 7, St.busy)])
    (runS 0x0601 (leBytes 4 7 ++ leBytes 4 0x110 ++ leBytes 20 0 ++ leBytes 4 0 ++ leBytes 4 100) base) = true := by
  decide +kernel
theorem wit_NozzleCommands_nozMapWrite : served 0x0602 (fun s c => s.planeRefusals c ++ [ (c.short 16 [(4, 12)] ||
    c.at 1 1 == 0 || decide
    (14 < c.at 1 1) || decide (c.len < 16 + 16 * c.at 1 1) || (c.at 2 2 != 0 && decide ((s.runOf (c.at 0 1)).2 < c.at 2 2)) ||
    c.segs.any
    (s.segBad (c.at 0 1)) || pairsMeet (s.runAfter c), St.badParam), (c.segs.any (fun g => s.foreign (s.planeOwner (c.at 0 1))
    Part.cam 96
    (sgCam g)), St.isolation), (s.claimed 7, St.busy), ((s.runPlace (c.at 0 1) (s.runAfter c).length).isNone, St.capacity)])
    (runS 0x0602 (leBytes 16 0x107 ++ leBytes 16 seg95) planeS) = true := by
  decide +kernel
theorem wit_NozzleCommands_nozMapCommit : served 0x0603 (fun s c => s.planeRefusals c ++ [ (c.short 1 [], St.badParam),
    ((s.runOf (c.at 0
    1)).2 == 0, St.state), (s.claimed 7, St.busy), (!(s.wr (Reg.NOZ_PLMAP (c.at 0 1)) (w32 ((s.runOf (c.at 0 1)).1 + (s.runOf (c.at 0
    1)).2 * 4096))).nozFits (s.bench.nozCams.map (fun k => (k, s.camBlkLines k))), St.capacity)])
    (runS 0x0603 [7#8] (planeS.setBench { runs := [(7, 5, 1)] })) = true := by
  decide +kernel
theorem wit_NozzleCommands_nozTrackReset : served 0x0605 (fun s c => s.planeRefusals c ++ [ (c.short 12 [(1, 3)] || c.at 8 4 == 0,
    St.badParam), (s.tracksForeign (c.at 0 1) (c.at 4 4) (c.at 8 4), St.isolation), (s.claimed 7, St.busy)])
    (runS 0x0605 (leBytes 4 7 ++ leBytes 4 5 ++ leBytes 4 2) planeS) = true := by
  decide +kernel
theorem wit_NozzleCommands_nozTrackMask : served 0x0606 (fun s c => s.planeRefusals c ++ [ (c.short 13 [(1, 3)] ||
    c.at 8 4 == 0 || decide
    (2 ≤ c.at 12 1), St.badParam), (s.tracksForeign (c.at 0 1) (c.at 4 4) (c.at 8 4), St.isolation), (s.claimed 7, St.busy)])
    (runS 0x0606 (leBytes 4 7 ++ leBytes 4 5 ++ leBytes 4 2 ++ [1#8]) planeS) = true := by
  decide +kernel
theorem wit_NozzleCommands_nozTrackLoad : served 0x0607 (fun s c => s.planeRefusals c ++ [ (c.short 24 [(2, 2), (12, 4)] ||
    c.at 8 4 == 0
    || decide (2 ≤ c.at 1 1), St.badParam), (s.tracksForeign (c.at 0 1) (c.at 4 4) (c.at 8 4), St.isolation), (s.claimed 7, St.busy)])
    (runS 0x0607 (leBytes 4 7 ++ leBytes 4 5 ++ leBytes 16 2) planeS) = true := by
  decide +kernel
theorem wit_NozzleCommands_nozSnapshot : served 0x0608 (fun s c => s.planeRefusals c ++ [(c.short 24 [(2, 14)] ||
    decide (2 ≤ c.at 1 1),
    St.badParam)])
    (runS 0x0608 (leBytes 24 7) planeS) = true := by
  decide +kernel
theorem wit_NozzleCommands_nozStatus : served 0x0609 (fun s c => s.planeRefusals c ++ [(c.short 1 [], St.badParam)])
    (runS 0x0609 [7#8] planeS) = true := by
  decide +kernel
theorem wit_DeliveryCommands_dlvRingSet : served 0x0701 (fun s c => [ (s.ringBad c, St.badParam), (!(c.at 3 1 / 2 % 2 == 1) &&
    s.foreign
    c.tenant Part.cam 96 (c.at 4 1), St.isolation), (decide (16 ≤ c.at 0 1) || (!(c.at 3 1 / 2 % 2 == 1) && decide (96 ≤ c.at 4 1)),
    St.noObject), (s.ringEn c.tenant (c.at 0 1), St.state), (s.claimed 8, St.busy), ((s.ringChan c.tenant (c.at 1 1)).isNone,
    St.capacity)])
    (runS 0x0701 (leBytes 8 0x5F0006000F ++ leBytes 8 0 ++ leBytes 24 64) base) = true := by
  decide +kernel
theorem wit_DeliveryCommands_dlvRingClear : served 0x0702 (fun s c => [ (c.short 1 [], St.badParam), (decide (16 ≤ c.at 0 1),
    St.noObject), (s.claimed 8, St.busy)])
    (runS 0x0702 [15#8] (put ((base.setRing 0 15 { ch := 3, staged := [st1] })) [(Reg.DLV_RCFG 0 15, 1), (Reg.DMA_CHOWN 3,
    48)])) = true := by
  decide +kernel
theorem wit_DeliveryCommands_camDeliverySet : served 0x0703 (fun s c => s.camRefusals c true ++ [ (c.short 16 [(5, 3)] ||
    decide (2 ≤ c.at
    1 1) || decide (c.at 2 2 < 16 ∨ 4095 < c.at 2 2) || decide (c.at 4 1 < 2) || decide (c.at 8 8 % 64 ≠ 0) ||
    (s.devAddr c.tenant (c.at 8
    8) (s.crBytes (c.at 0 1) (c.at 4 1))).isNone, St.badParam), (s.claimed 5 || ((s.devAddr c.tenant (c.at 8 8) (s.crBytes (c.at 0 1)
    (c.at 4 1)) != some (s.rd64 (Reg.CRU_CAMCRBASE_LO (c.at 0 1))) || decide (c.at 4 1 ≠ s.fld (Reg.CRU_CAMCRCFG (c.at 0 1)) 0 8)) &&
    (s.cru (c.at 0 1)).slots.any (·.busy)), St.busy), (c.at 1 1 == 1 && !s.imageOk c.tenant (c.at 0 1) (s.imageLoad (c.at 0 1)
    (((s.camPipes (c.at 0 1)).head?).elim 0 (fun n => s.fld (Reg.PIPE_OUT n) 2 2))), St.capacity)])
    (runS 0x0703 (leBytes 8 0x020010005F ++ leBytes 8 64) (pipedS [(Reg.MEM_CTL, 3)])) = true := by
  decide +kernel
theorem wit_DeliveryCommands_dlvBlockFetch : served 0x0704 (fun s c => s.camRefusals c false ++ [ (c.short 8 [(2, 2)], St.badParam),
    (decide (16 ≤ c.at 1 1) || (s.keptSlot (c.at 0 1) (c.at 4 4)).isNone, St.noObject), (!(s.ringEn c.tenant (c.at 1 1) && s.ringKind
    c.tenant (c.at 1 1) == 4), St.state)])
    (runS 0x0704 (leBytes 8 0x700000F5F) ((put base [(Reg.DLV_RCFG 0 15,
    9)]).setCru 95 { slots := [{ idx := 0, seq := 7, kept := true, busy := true }] }))
      = true := by
  decide +kernel
theorem wit_DeliveryCommands_dlvShareSet : served 0x0705 (fun s c => [ (c.short 5 [] || c.at 1 1 == 0 || c.at 4 1 == 0 || decide (64 <
    c.at 4 1) || decide (1000 < (if c.at 0 1 = 0 then s.partSum 0 [] 12 2 + c.at 2 2 else s.partSum (c.at 0 1) ((s.part (c.at 0
    1)).take
    10 ++ leBytes 1 (c.at 1 1) ++ ((s.part (c.at 0 1)).drop 11).take 1 ++ leBytes 2 (c.at 2 2) ++ leBytes 1 (c.at 4 1) ++ (s.part
    (c.at 0
    1)).drop 15) 12 2 + s.fld (Reg.DLV_TSHARE 0) 16 16)), St.badParam), (decide (16 ≤ c.at 0 1) ||
    !s.tenantIs (c.at 0 1), St.noObject)])
    (runS 0x0705 (leBytes 5 0x0100000100) base) = true := by
  decide +kernel
theorem wit_DeliveryCommands_dlvStatus : served 0x0706 (fun _ c => [(c.short 1 [], St.badParam), (decide (16 ≤ c.at 0 1),
    St.noObject)])
    (runS 0x0706 [15#8] base) = true := by
  decide +kernel
theorem wit_DeliveryCommands_memStatus : served 0x070B (fun _ c => [(c.short 0 [], St.badParam)])
    (runS 0x070B [] base) = true := by
  decide +kernel
theorem wit_DmaCommands_dmaChanSet : served 0x0707 (fun s c => s.chanRefusals c ++ [ (c.short 32 [(12, 4)] ||
    decide (32 ≤ c.at 2 1) ||
    decide (2 < c.at 3 1) || decide (512 ≤ c.at 4 2) || decide ((if c.tenant = 0 then 2048 else 64) ≤ c.at 6 2) ||
    decide (2 ^ 24 ≤ c.at 8
    4) || decide (c.at 16 8 % 64 ≠ 0) || decide (c.at 24 8 % 8 ≠ 0), St.badParam), (c.at 3 1 == 2 &&
    !s.owns c.tenant Part.dmach (c.at 4
    2), St.isolation), (!s.dmaOn (c.at 0 2), St.state), (s.claimed 8 || s.chBusy (c.at 0 2), St.busy), (c.at 3 1 == 2 && closesCycle
    (s.routeEdges.filter (fun e => e.2 != c.at 0 2 + 256 || decide (e.1 < 256))) (c.at 4 2 + 256) (c.at 0 2 + 256), St.cycle)])
    (runS 0x0707 (leBytes 2 511 ++ leBytes 14 0 ++ leBytes 8 64 ++ leBytes 8 8) base) = true := by
  decide +kernel
theorem wit_DmaCommands_dmaChanLoad : served 0x0708 (fun s c => s.chanRefusals c ++ [ (c.short 46 [(2, 6)], St.badParam),
    (!s.dmaOn (c.at
    0 2), St.state), (s.claimed 8 || s.chShValid (c.at 0 2), St.busy)])
    (runS 0x0708 (leBytes 8 511 ++ leBytes 8 64 ++ leBytes 8 128 ++ leBytes 4 32 ++ leBytes 18 0) (chS 0 {} [])) = true := by
  decide +kernel
theorem wit_DmaCommands_dmaChanCtl : served 0x0709 (fun s c => s.chanRefusals c ++ [ (c.short 3 [] || decide (16 ≤ c.at 2 1),
    St.badParam), (!s.dmaOn (c.at 0 2), St.state), (s.claimed 8, St.busy)])
    (runS 0x0709 (leBytes 2 511 ++ [1#8]) (chS 0 {} [])) = true := by
  decide +kernel
theorem wit_DmaCommands_dmaChanStatus : served 0x070A (fun s c => s.chanRefusals c ++ [(c.short 2 [], St.badParam)])
    (runS 0x070A (leBytes 2 511) (chS 0 {} [])) = true := by
  decide +kernel
theorem wit_TwinCommands_twinStatus : served 0x0801 (fun _ c => [(c.short 0 [], St.badParam)])
    (runS 0x0801 [] (twS {} [])) = true := by
  decide +kernel
theorem wit_TwinCommands_twinPair : served 0x0802 (fun s c => [ (c.short 1 [] || decide (1 < c.at 0 1), St.badParam), (!s.pairOpen,
    St.state), (s.claimed 10, St.busy)])
    (runS 0x0802 [1#8] (twS {} [])) = true := by
  decide +kernel
theorem wit_TwinCommands_twinFence : served 0x0803 (fun s c => [(c.short 1 [] || decide (1 < c.at 0 1), St.badParam),
    (decide (c.at 0 1 =
    1) && !s.hbNow, St.state), (s.claimed 10 || (decide (c.at 0 1 = 1) && s.twin.fenceT.isSome), St.busy)])
    (runS 0x0803 [0#8] (twS {} [])) = true := by
  decide +kernel
theorem wit_TwinCommands_twinUnfence : served 0x0804 (fun s c => [(c.short 0 [], St.badParam), (!s.unfenceOpen, St.state),
    (s.claimed 10,
    St.busy)])
    (runS 0x0804 [] (twS { hbT := some 0, peerRole := 0 } [(Reg.TWIN_STAT, 0x8D)])) = true := by
  decide +kernel
theorem wit_TwinCommands_twinHandover : served 0x0805 (fun s c => [ (c.short 0 [], St.badParam), (!s.handoverOpen, St.state),
    (s.anyInlay
    || s.claimed 10, St.busy)])
    (runS 0x0805 [] (twS { hbT := some 0 } [(Reg.TWIN_STAT, 2)])) = true := by
  decide +kernel
theorem wit_TwinCommands_twinUnpair : served 0x0806 (fun s c => [(c.short 0 [], St.badParam), (s.claimed 10, St.busy)])
    (runS 0x0806 [] (twS {} [(Reg.TWIN_STAT, 2)])) = true := by
  decide +kernel
theorem wit_FaultAndFirmwareCommands_FaultCommands_faultRead : served 0x0901 (fun _ c => [(c.short 1 [] ||
    decide (c.at 0 1 = 0) || decide (3 < c.at 0 1),
    St.badParam)])
    (runS 0x0901 [3#8] (base.setMbox 0 { faults := [leBytes 64 5, leBytes 64 6] })) = true := by
  decide +kernel
theorem wit_FaultAndFirmwareCommands_FaultCommands_faultForce : served 0x0903 (fun _ c => [(c.short 6 [(1, 1)], St.badParam)])
    (runS 0x0903 (leBytes 8 0x30A01000A) base) = true := by
  decide +kernel
theorem wit_FaultAndFirmwareCommands_FaultCommands_faultConfig : served 0x0904 (fun _ c => [(c.short 8 [(1, 3)] ||
    decide (14 < c.at 0 1) || decide (c.at 4 4 <
    1000) || decide (10000000 < c.at 4 4), St.badParam)])
    (runS 0x0904 (leBytes 4 3 ++ leBytes 4 1000) base) = true := by
  decide +kernel
theorem wit_FaultAndFirmwareCommands_FaultCommands_faultCounters : served 0x0905 (fun _ c => [(c.short 0 [], St.badParam)])
    (runS 0x0905 [] base) = true := by
  decide +kernel
theorem wit_ClockCommands_clkStatus : served 0x0A01 (fun _ c => [(c.short 0 [], St.badParam)])
    (runS 0x0A01 [] (tbS 0 {} [])) = true := by
  decide +kernel
theorem wit_ClockCommands_temperSet : served 0x0A02 (fun s c => [ (c.short 3 [] || decide (2 ≤ c.at 2 1) || (!(c.at 2 1 % 2 == 1) &&
    decide (5 < c.at 1 1)), St.badParam), (decide (8 ≤ c.at 0 1) || s.clk.iso.contains (c.at 0 1), St.noObject), (s.pwr.hot ||
    !s.domOn
    (16 + c.at 0 1), St.state), (s.claimed 11, St.busy), (decide ((if (c.at 2 1 % 2 == 1) = true then s.needPoint (c.at 0 1) else
    c.at 1
    1) < s.needPoint (c.at 0 1)), St.capacity)])
    (runS 0x0A02 [7#8, 5#8, 0#8] base) = true := by
  decide +kernel
theorem wit_ClockCommands_pwrDomain : served 0x0A03 (fun s c => [ (c.short 2 [] || decide (2 ≤ c.at 1 1) || c.at 0 1 == 0 ||
    c.at 0 1 == 1
    || c.at 0 1 == 3, St.badParam), (decide (24 ≤ c.at 0 1), St.noObject), (if (c.at 1 1 == 1) = true then !(domPre (c.at 0 1)).all
    s.domOn else ((domDeps (c.at 0 1)).filter s.domOn != [] && (!c.force || ((domDeps (c.at 0 1)).filter s.domOn).contains 3)),
    St.state),
    (s.claimed 12 || (!(c.at 1 1 == 1) && !c.force && s.domOn (c.at 0 1) && s.domBound (c.at 0 1)), St.busy)])
    (runS 0x0A03 [23#8, 0#8] base) = true := by
  decide +kernel
theorem wit_ClockCommands_clkSource : served 0x0A04 (fun s c => [ (c.short 1 [] || decide (2 ≤ c.at 0 1), St.badParam),
    (s.claimed 11 ||
    s.bit Reg.CLK_TBSTAT 1, St.busy)])
    (runS 0x0A04 [1#8] (tbS 0 {} [])) = true := by
  decide +kernel
theorem wit_ClockCommands_pwrStatus : served 0x0A05 (fun _ c => [(c.short 0 [], St.badParam)])
    (runS 0x0A05 [] base) = true := by
  decide +kernel
theorem wit_FaultAndFirmwareCommands_FirmwareCommands_fwInfo : served 0x0B01 (fun _ c => [(c.short 0 [], St.badParam)])
    (runS 0x0B01 [] base) = true := by
  decide +kernel
theorem wit_FaultAndFirmwareCommands_FirmwareCommands_fwStage : served 0x0B02 (fun s c => [ (c.short 20 [(1, 7)] ||
    decide (2 ≤ c.at 0 1) || decide (2 ^ 24 < c.at
    16 4), St.badParam), (s.fwBusy, St.busy)])
    (runS 0x0B02 (leBytes 8 0 ++ leBytes 8 64 ++ leBytes 4 100) base) = true := by
  decide +kernel
theorem wit_FaultAndFirmwareCommands_FirmwareCommands_fwVerify : served 0x0B03 (fun s c => [(c.short 0 [], St.badParam),
    (s.bench.staged.isNone, St.state),
    (s.fwBusy, St.busy)])
    (runS 0x0B03 [] (base.setBench { base.bench with staged := some [1#8] })) = true := by
  decide +kernel
theorem wit_FaultAndFirmwareCommands_FirmwareCommands_fwCommit : served 0x0B04 (fun s c => [ (c.short 0 [], St.badParam),
    (!s.bench.verified, St.state),
    (s.activating, St.busy)])
    (runS 0x0B04 [] (base.setBench { base.bench with staged := some [1#8], verified := true })) = true := by
  decide +kernel
theorem wit_FaultAndFirmwareCommands_FirmwareCommands_fwActivate : served 0x0B05 (fun s c => [ (c.short 1 [] ||
    decide (2 ≤ c.at 0 1), St.badParam),
    (!s.bench.verified, St.state), (s.activating, St.busy)])
    (runS 0x0B05 [1#8] (base.setBench { base.bench with staged := some [1#8], verified := true })) = true := by
  decide +kernel

/-- Commands that wait already, and the special cases of TWIN_FENCE, FAULT_FORCE and the transfers. -/
theorem wit_waiting :
    (∃ r ∈ ((tenS []).setTouch { resets := [{ t := 3, t0 := 0, cause := 0, cmds := [(0, 63)] }] }).touch.resets, (0, 63) ∈ r.cmds) ∧
    (∃ r ∈ ((boundS { reqs := [{ req15 with slot := 63 }] } []).cam 95).reqs, r.f = 0 ∧ r.slot = 63) ∧
    (∃ e ∈ (base.setBench { tests := [(103, 100, 0, 63)] }).bench.tests, e.2.2.1 = 0 ∧ e.2.2.2 = 63) ∧
    (base.setBench { tests := [(103, 100, 0, 63)] }).bench.tests.find? (fun e => e.1 == 103 && decide (e.2.1 ≤ base.devTime + 100)) =
      some (103, 100, 0, 63) ∧
    (twS { hoCmd := some (0, 63) } []).twin.hoCmd = some (0, 63) ∧ (twS { fenceCmd := some (0, 63) } []).twin.fenceCmd = some (0,
    63) ∧
    (twS { hbT := some 0 } []).hbNow = true ∧ (cmdP 0x0803 [1#8]).at 0 1 = 1 ∧ (cmdP 0x0803 [1#8]).short 1 [] = false ∧
    (∃ x ∈ (temS 3 5 { temper := [{ k := 7, volt := true, next := 4, t := 0, t0 := 0, cmds := [(0, 63)] }] }).clk.temper, (0,
    63) ∈ x.cmds) ∧
    (∃ x ∈ (base.setPwr { cmds := [(23, false, 0, 63)] }).pwr.cmds, x.2.2 = (0, 63)) ∧
    (tbS 0 { swCmd := some (0, 63) } []).clk.swCmd = some (0, 63) ∧ srcExists 10 1 3 = true ∧ srcExists 10 1 255 = false ∧
    ((boundS {} []).setBond 95 { sw := some { pos := 0, lane := 91, spare := 103, seq := 1, again := false, t := 0 } }).bond 95 ≠
    (boundS {} []).bond 95 ∧
    (∃ x ∈ (planeS.setXferQ 0 [{ cmd := cmdP 0x0607 [] }]).xferQ 0, x.cmd.f = 0 ∧ x.cmd.slot = 63 ∧ x.cmd.interim = false) ∧
    (runS 0x0101 [] base).cmdAt 0 63 0x0101 = some (cmdP 0x0101 []) ∧ (cmdP 0x0101 []).core = 0 ∧
    ((runS 0x0101 [] base).setBench { (runS 0x0101 [] base).bench with inlay := some (0, 0) }).cmdServed (cmdP 0x0101 []) = false ∧
    ((runS 0x0101 [] base).setBench { (runS 0x0101 [] base).bench with restart := some (2, 0) }).cmdServed (cmdP 0x0101 []) = false ∧
    base.xferQ 0 = [] ∧ ¬ base.xferDepth 0 ≤ 0 ∧ (planeS.setXferQ 0 [{ cmd := cmdP 0x0607 [] }]).xferQ 0 ≠ [] ∧
    planeS.xferDepth 0 ≤ ((planeS.setXferQ 0 (List.replicate 256 { cmd := cmdP 0x0607 [] })).xferQ 0).length := by
  decide +kernel

end Sys2Proof.Tests
end

section
/-!
PROOF. Quadrature (R43 to R46): what the operations of a measurement change and leave alone, what an accepted change of A
and B does, and the claim on quadrature counting.
-/
namespace Sys2Proof.Machine
open Sys2Proof

/-! ## Frames of the basic updates -/

section Frames
variable {K : Nat → Prop} {l : List Area} (s : State)

theorem Keeps.setAxis (n : Nat) (x : Axis) (hl : Area.axes ∈ l) : Keeps K l s (s.setAxis n x) := by
  refine ⟨fun _ _ => rfl, fun a ha => ?_⟩
  cases a
  case axes => exact absurd (List.mem_cons_of_mem _ hl) ha
  all_goals rfl

theorem Keeps.fault (c i src level : Nat) (hl : Area.reports ∈ l) : Keeps K l s (s.fault c i src level) := by
  refine ⟨fun _ _ => rfl, fun a ha => ?_⟩
  cases a
  case reports => exact absurd (List.mem_cons_of_mem _ hl) ha
  all_goals rfl

theorem Keeps.produce (p : Nat) (hl : Area.events ∈ l) : Keeps K l s (s.produce p) := by
  refine ⟨fun j _ => s.produce_rd p j, fun a ha => ?_⟩
  cases a
  case events => exact absurd (List.mem_cons_of_mem _ hl) ha
  all_goals simp [Area.same]

theorem Keeps.setAxBit (n i : Nat) (b : Bool) (hk : K (Reg.POS_AXSTAT n)) : Keeps K l s (s.setAxBit n i b) := by
  have hgate : Keeps K l s (s.noteGate (8 * i + n)) := ⟨fun _ _ => rfl, fun a _ => by cases a <;> rfl⟩
  exact hgate.trans (Keeps.wr l _ _ _ hk)

theorem Keeps.axIrq (n i : Nat) (hn : n < 320) (hk : K (Reg.POS_AXIRQ n)) (hK : ∀ j, irqKey j → K j) (ho : Area.out ∈ l)
    (he : Area.events ∈ l) : Keeps K l s (s.axIrq n i) := by
  have hirq : Keeps K l s (s.irq (Reg.POS_AXIRQ n) n i) := Keeps.irq s _ n i hn hk hK ho
  unfold State.axIrq
  dsimp only
  split
  · exact hirq.trans (Keeps.produce _ _ he)
  · exact hirq

end Frames

/-! ## A new measurement (R54, R57, R62) -/

@[simp] theorem State.setAxBit_axis (s : State) (n i : Nat) (b : Bool) (j : Nat) :
    (s.setAxBit n i b).axis j = s.axis j := id rfl

@[simp] theorem State.axIrq_axis (s : State) (n i j : Nat) : (s.axIrq n i).axis j = s.axis j := by
  unfold State.axIrq
  dsimp only
  split <;> simp

/-- The missing-index test may move its reference, and leaves the rest of the axis. -/
theorem State.axNoIdx_axis (s : State) (n : Nat) : ∃ r, (s.axNoIdx n).axis n = { s.axis n with refR := r } := by
  unfold State.axNoIdx
  dsimp only
  split
  · exact ⟨_, by simp only [State.fault_units, State.axIrq_axis, State.setAxis_axis, if_true]; rfl⟩
  · exact ⟨(s.axis n).refR, rfl⟩

/-- A measurement that moves M gives the axis the record it was handed, with M and its instants; the missing-index test may
move the reference. -/
theorem State.axMeasure_axis (s : State) (n : Nat) (x : Axis) (m : Posn) (t : Nat) (hm : m ≠ x.m) :
    ∃ r, (s.axMeasure n x m t).axis n = { x with m := m, tM := t, tChange := t, refR := r } := by
  unfold State.axMeasure
  rw [if_neg hm]
  dsimp only
  split
  · simpa using State.axNoIdx_axis
      (((s.setAxis n { x with m := m, tM := t, tChange := t }).setAxBit n 2 false).axIrq n 4) n
  · simpa using State.axNoIdx_axis (s.setAxis n { x with m := m, tM := t, tChange := t }) n

section Measure
variable (s : State) (n : Nat) (hn : n < 320)
include hn

theorem State.axIrq_keeps (i : Nat) :
    Keeps (inKeysI [Reg.POS_AXSTAT n, Reg.POS_AXIRQ n]) [.axes, .events, .out, .reports] s (s.axIrq n i) :=
  Keeps.axIrq s n i hn (.inl (by simp)) (fun _ => .inr) (by simp) (by simp)

theorem State.axNoIdx_keeps :
    Keeps (inKeysI [Reg.POS_AXSTAT n, Reg.POS_AXIRQ n]) [.axes, .events, .out, .reports] s (s.axNoIdx n) := by
  unfold State.axNoIdx
  dsimp only
  split
  · exact ((Keeps.setAxis s _ _ (by simp)).trans (State.axIrq_keeps _ n hn 11)).trans (Keeps.fault _ _ _ _ _ (by simp))
  · exact Keeps.refl _ _ s

/-- A measurement writes POS_AXSTAT.STILL and POS_AXIRQ of its axis and what follows from an interrupt, and nothing else. -/
theorem State.axMeasure_keeps (x : Axis) (m : Posn) (t : Nat) :
    Keeps (inKeysI [Reg.POS_AXSTAT n, Reg.POS_AXIRQ n]) [.axes, .events, .out, .reports] s (s.axMeasure n x m t) := by
  unfold State.axMeasure
  split
  · exact Keeps.setAxis s _ _ (by simp)
  · dsimp only
    refine (Keeps.setAxis s n { x with m := m, tM := t, tChange := t } (by simp)).trans ?_
    split
    · exact ((Keeps.setAxBit _ n 2 false (.inl (by simp))).trans (State.axIrq_keeps _ n hn 4)).trans
        (State.axNoIdx_keeps _ n hn)
    · exact State.axNoIdx_keeps _ n hn

end Measure

/-! ## The decoder (R43, R44, R46) -/

/-- The velocity estimate leaves M and the decoder's record alone (R55). -/
theorem Axis.quadV_frame (x : Axis) (up : Bool) (t : Nat) :
    (x.quadV up t).m = x.m ∧ (x.quadV up t).decA = x.decA ∧ (x.quadV up t).decB = x.decB ∧
      (x.quadV up t).lastAB = x.lastAB := by
  unfold Axis.quadV
  split
  · split <;> exact ⟨rfl, rfl, rfl, rfl⟩
  · exact ⟨rfl, rfl, rfl, rfl⟩

/-- A change of one input is a count of 4,096 PT, and abForward tells which way, SWAPAB and INV taken in (R43). -/
theorem State.count_axSign_quadCount (s : State) (n : Nat) (da db a b : Bool) (h : (a != da) = !(b != db)) :
    4096 * s.axSign n (quadCount (s.bit (Reg.POS_AXCTLA n) 3) da db a b) =
      if abForward da a b (s.bit (Reg.POS_AXCTLA n) 3) (s.bit (Reg.POS_AXCTLA n) 2) then 4096 else -4096 := by
  unfold State.axSign
  generalize s.bit (Reg.POS_AXCTLA n) 3 = swap
  generalize s.bit (Reg.POS_AXCTLA n) 2 = inv
  revert da db a b swap inv
  decide

/-- A position moved by one count of the decoder is another position. -/
theorem posAdd_count_ne (p : Posn) (up : Bool) : posAdd p (if up then 4096 else -4096) ≠ p := by
  intro h
  have hz : BitVec.ofInt 48 (if up then 4096 else -4096) = 0#48 := by simpa [posAdd] using h
  cases up <;> exact absurd hz (by decide)

/-- An axis whose decoder adopts the pins at time t. -/
def Axis.adopt (x : Axis) (t : Nat) : Axis := { x with decA := x.pinA, decB := x.pinB, lastAB := some t }

section Accept
variable (s : State) (n : Nat)

/-- The counted move of M in PT when the decoder adopts a change of one input (R43). -/
def State.abMove : Int :=
  if abForward (s.axis n).decA (s.axis n).pinA (s.axis n).pinB (s.bit (Reg.POS_AXCTLA n) 3) (s.bit (Reg.POS_AXCTLA n) 2)
    then 4096 else -4096

/-- An accepted change of one input is a measurement, one count from M. -/
theorem State.abAccept_one (h : ((s.axis n).pinA != (s.axis n).decA) = !((s.axis n).pinB != (s.axis n).decB)) :
    ∃ up, s.abAccept n = s.axMeasure n (((s.axis n).adopt s.devTime).quadV up s.devTime)
      (posAdd (s.axis n).m (s.abMove n)) s.devTime := by
  have hboth : ¬ ((s.axis n).pinA ≠ (s.axis n).decA ∧ (s.axis n).pinB ≠ (s.axis n).decB) := by
    rintro ⟨ha, hb⟩
    rw [bne_iff_ne.mpr ha, bne_iff_ne.mpr hb] at h
    cases h
  have hnone : ¬ ((s.axis n).pinA = (s.axis n).decA ∧ (s.axis n).pinB = (s.axis n).decB) := by
    rintro ⟨ha, hb⟩
    simp [ha, hb] at h
  unfold State.abAccept
  dsimp only
  rw [if_neg hboth, if_neg hnone, State.count_axSign_quadCount _ _ _ _ _ _ h]
  exact ⟨_, rfl⟩

/-- An accepted change of one input moves M by one count, and the decoder stands where the pins stand (R43). -/
theorem State.abAccept_count (hn : n < 320)
    (h : ((s.axis n).pinA != (s.axis n).decA) = !((s.axis n).pinB != (s.axis n).decB)) :
    ((s.abAccept n).axis n).m = posAdd (s.axis n).m (s.abMove n) ∧
    ((s.abAccept n).axis n).decA = (s.axis n).pinA ∧ ((s.abAccept n).axis n).decB = (s.axis n).pinB ∧
    ((s.abAccept n).axis n).lastAB = some s.devTime ∧
    Keeps (inKeysI [Reg.POS_AXSTAT n, Reg.POS_AXIRQ n]) [.axes, .events, .out, .reports] s (s.abAccept n) := by
  obtain ⟨up, hacc⟩ := s.abAccept_one n h
  obtain ⟨hm, hA, hB, hT⟩ := ((s.axis n).adopt s.devTime).quadV_frame up s.devTime
  have hmove : posAdd (s.axis n).m (s.abMove n) ≠ (((s.axis n).adopt s.devTime).quadV up s.devTime).m := by
    rw [hm]
    exact posAdd_count_ne _ _
  obtain ⟨r, hr⟩ := s.axMeasure_axis n _ _ s.devTime hmove
  rw [hacc, hr]
  exact ⟨rfl, hA, hB, hT, s.axMeasure_keeps n hn _ _ _⟩

/-- An accepted change of both inputs leaves M; the pins are adopted, POS_AXQERR counts, QERR is reported (R46). -/
theorem State.abAccept_error (ha : (s.axis n).pinA ≠ (s.axis n).decA) (hb : (s.axis n).pinB ≠ (s.axis n).decB) :
    ((s.abAccept n).axis n).m = (s.axis n).m ∧
    ((s.abAccept n).axis n).decA = (s.axis n).pinA ∧ ((s.abAccept n).axis n).decB = (s.axis n).pinB ∧
    (s.abAccept n).rd (Reg.POS_AXQERR n) =
      putFld (s.rd (Reg.POS_AXQERR n)) 0 16 (satAdd 16 (s.fld (Reg.POS_AXQERR n) 0 16) 1) ∧
    (s.abAccept n).reports = s.reports ++ [{ sig := 0x504, src := n, level := 1, t := s.devTime }] ∧
    Keeps (inKeys [Reg.POS_AXQERR n]) [.axes, .reports] s (s.abAccept n) := by
  have hacc : s.abAccept n = ((s.setAxis n ((s.axis n).adopt s.devTime)).addSat (Reg.POS_AXQERR n) 0 16 1).fault 5 4 n 1 :=
    if_pos ⟨ha, hb⟩
  have haxis : (s.abAccept n).axis n = (s.axis n).adopt s.devTime := by
    simp only [hacc, State.fault_units, State.addSat_units, State.setAxis_axis, if_true]
  rw [haxis, hacc]
  refine ⟨rfl, rfl, rfl, ?_, rfl, ?_⟩
  · rw [State.fault_rd, State.rd_addSat, if_pos rfl]
    rfl
  · exact ((Keeps.setAxis s n _ (by simp)).trans (Keeps.wr _ _ _ _ (by simp [inKeys]))).trans
      (Keeps.fault _ _ _ _ _ (by simp))

end Accept

/-! ## Edges on A and B (R44) -/

/-- State s with the levels of A and B of axis n at its pins. -/
def State.abPins (s : State) (n : Nat) (a b : Bool) : State := s.setAxis n { s.axis n with pinA := a, pinB := b }

section Edge
variable (s : State) (n : Nat) (a b : Bool)

theorem State.abPins_axis : (s.abPins n a b).axis n = { s.axis n with pinA := a, pinB := b } := by simp [State.abPins]

theorem State.abPins_keeps {K : Nat → Prop} {l : List Area} (hl : Area.axes ∈ l) : Keeps K l s (s.abPins n a b) :=
  Keeps.setAxis s n _ hl

variable (hin : s.axIn n 0 = true) (ht : ∀ t, (s.axis n).lastAB = some t → t + s.axMinIv n false ≤ s.devTime)
include hin ht

/-- A level change on a decoding axis is accepted once the minimum interval has passed. -/
theorem State.abEdge_accept : s.abEdge n a b = (s.abPins n a b).abAccept n := by
  unfold State.abEdge
  dsimp only
  split
  next =>
    split
    next t hlast => exact if_neg (Nat.not_lt.mpr (ht t (by simpa using hlast)))
    next => rfl
  next hout => exact absurd hin hout

/-- An edge that changes one input counts 4,096 PT in the direction of R43. -/
theorem State.abEdge_count (hn : n < 320) (h : (a != (s.axis n).decA) = !(b != (s.axis n).decB)) :
    ((s.abEdge n a b).axis n).m = posAdd (s.axis n).m
      (if abForward (s.axis n).decA a b (s.bit (Reg.POS_AXCTLA n) 3) (s.bit (Reg.POS_AXCTLA n) 2) then 4096 else -4096) ∧
    ((s.abEdge n a b).axis n).decA = a ∧ ((s.abEdge n a b).axis n).decB = b ∧
    ((s.abEdge n a b).axis n).lastAB = some s.devTime ∧
    Keeps (inKeysI [Reg.POS_AXSTAT n, Reg.POS_AXIRQ n]) [.axes, .events, .out, .reports] s (s.abEdge n a b) := by
  have hacc := (s.abPins n a b).abAccept_count n hn
  rw [State.abMove, s.abPins_axis] at hacc
  obtain ⟨hm, hA, hB, hT, hk⟩ := hacc h
  rw [s.abEdge_accept n a b hin ht]
  exact ⟨hm, hA, hB, hT, (s.abPins_keeps n a b (by simp)).trans hk⟩

/-- An edge that changes both inputs leaves M, and is counted and reported (R46). -/
theorem State.abEdge_error (ha : a ≠ (s.axis n).decA) (hb : b ≠ (s.axis n).decB) :
    ((s.abEdge n a b).axis n).m = (s.axis n).m ∧
    ((s.abEdge n a b).axis n).decA = a ∧ ((s.abEdge n a b).axis n).decB = b ∧
    (s.abEdge n a b).rd (Reg.POS_AXQERR n) =
      putFld (s.rd (Reg.POS_AXQERR n)) 0 16 (satAdd 16 (s.fld (Reg.POS_AXQERR n) 0 16) 1) ∧
    (s.abEdge n a b).reports = s.reports ++ [{ sig := 0x504, src := n, level := 1, t := s.devTime }] ∧
    Keeps (inKeys [Reg.POS_AXQERR n]) [.axes, .reports] s (s.abEdge n a b) := by
  have hacc := (s.abPins n a b).abAccept_error n
  rw [s.abPins_axis] at hacc
  obtain ⟨hm, hA, hB, hcnt, hrep, hk⟩ := hacc ha hb
  rw [s.abEdge_accept n a b hin ht]
  exact ⟨hm, hA, hB, hcnt, hrep, (s.abPins_keeps n a b (by simp)).trans hk⟩

end Edge

/-- ENC_AB_EDGE on a device that runs. -/
theorem exec_encAbEdge_running (s : State) (n : Fin 8) (a b : Bool) (dt : Nat) (h : (s.pass dt).boot.mode = 0) :
    exec (.encAbEdge n a b dt) s = .next ((s.pass dt).abEdge n.val a b) := if_pos h

/-- Settles O5: an edge outside the minimum interval is accepted, and then one changed input is a measurement one count from M,
two are an error. -/
theorem quadratureCounting : Obligations.QuadratureCounting := by
  rintro s₀ s n dt rfl hrun hclk hen a b hmode ht
  have hin : (s₀.pass dt).axIn n.val 0 = true := by simp [State.axIn, hclk, hen, hmode]
  have hexec := exec_encAbEdge_running s₀ n a b dt hrun
  exact ⟨fun h => ⟨_, hexec, State.abEdge_count _ _ a b hin ht (by omega) h⟩,
    fun ha hb => ⟨_, hexec, State.abEdge_error _ _ a b hin ht ha hb⟩⟩

end Sys2Proof.Machine
end

section
/-!
PROOF. Statuses of mailbox commands (R394, R397, R400): what the status that is picked has to do with those that apply, what
an answer leaves for a function and among the running commands, and the claim on the rank of statuses.
-/
namespace Sys2Proof.Machine
open Sys2Proof

/-! ## The status of lowest rank (R400, Table 13.6) -/

/-- One refusal of the fold of `pickStatus`: it replaces the best so far where it applies and ranks lower. -/
def keepLower (best : Nat) (e : Bool × Nat) : Nat :=
  if e.1 && (best == 0 || decide (statusRank e.2 < statusRank best)) then e.2 else best

theorem pickStatus_eq_foldl (l : List (Bool × Nat)) : pickStatus l = l.foldl keepLower 0 := rfl

@[simp] theorem keepLower_false (best st : Nat) : keepLower best (false, st) = best := rfl

@[simp] theorem keepLower_zero_true (st : Nat) : keepLower 0 (true, st) = st := rfl

theorem keepLower_lower {best st : Nat} (h : statusRank st < statusRank best) : keepLower best (true, st) = st := by
  simp only [keepLower, h, decide_true, Bool.or_true, Bool.and_self, if_true]

theorem keepLower_not_lower {best st : Nat} (hb : best ≠ 0) (h : ¬ statusRank st < statusRank best) :
    keepLower best (true, st) = best := by
  simp only [keepLower, h, beq_false_of_ne hb, decide_false, Bool.or_self, Bool.and_false, Bool.false_eq_true, if_false]

/-- OK where none of the refusals applies, else one that applies, and none that applies has a lower rank. -/
def LowestOf (l : List (Bool × Nat)) (st : Nat) : Prop :=
  (st = 0 ∧ ∀ e ∈ l, e.1 = false) ∨
  (st ≠ 0 ∧ (true, st) ∈ l ∧ ∀ e ∈ l, e.1 = true → statusRank st ≤ statusRank e.2)

/-- A refusal looked at after others keeps the best so far the lowest. -/
theorem lowestOf_keepLower {l : List (Bool × Nat)} {best : Nat} (h : LowestOf l best) (e : Bool × Nat) (he : e.2 ≠ 0) :
    LowestOf (l ++ [e]) (keepLower best e) := by
  obtain ⟨applies, st⟩ := e
  have hlast : (true, st) ∈ l ++ [(true, st)] := List.mem_append_right l (List.mem_singleton_self _)
  obtain ⟨rfl, hnone⟩ | ⟨hb, hmem, hleast⟩ := h <;> cases applies
  case inl.false =>
    exact .inl ⟨rfl, List.forall_mem_append.mpr ⟨hnone, List.forall_mem_singleton.mpr rfl⟩⟩
  case inl.true =>
    exact .inr ⟨he, hlast, List.forall_mem_append.mpr ⟨fun e he ht => absurd (ht.symm.trans (hnone e he)) Bool.noConfusion,
      List.forall_mem_singleton.mpr fun _ => Nat.le_refl _⟩⟩
  case inr.false =>
    exact .inr ⟨hb, List.mem_append_left _ hmem, List.forall_mem_append.mpr ⟨hleast,
      List.forall_mem_singleton.mpr Bool.noConfusion⟩⟩
  case inr.true =>
    by_cases hlt : statusRank st < statusRank best
    · rw [keepLower_lower hlt]
      exact .inr ⟨he, hlast, List.forall_mem_append.mpr ⟨fun e he ht => Nat.le_trans (Nat.le_of_lt hlt) (hleast e he ht),
        List.forall_mem_singleton.mpr fun _ => Nat.le_refl _⟩⟩
    · rw [keepLower_not_lower hb hlt]
      exact .inr ⟨hb, List.mem_append_left _ hmem, List.forall_mem_append.mpr ⟨hleast,
        List.forall_mem_singleton.mpr fun _ => Nat.le_of_not_lt hlt⟩⟩

/-- The fold keeps the best so far the lowest of all that it has looked at. -/
theorem lowestOf_foldl {l : List (Bool × Nat)} {best : Nat} (h : LowestOf l best) (rest : List (Bool × Nat))
    (hr : ∀ e ∈ rest, e.2 ≠ 0) : LowestOf (l ++ rest) (rest.foldl keepLower best) := by
  induction rest generalizing l best with
  | nil => rwa [List.append_nil]
  | cons e rest ih =>
    obtain ⟨he, hr⟩ := List.forall_mem_cons.mp hr
    rw [List.append_cons, List.foldl_cons]
    exact ih (lowestOf_keepLower h e he) hr

/-- The status picked is the one of lowest rank (R400). -/
theorem pickStatus_lowestOf (l : List (Bool × Nat)) (hl : ∀ e ∈ l, e.2 ≠ 0) : LowestOf l (pickStatus l) := by
  have hnil : LowestOf [] 0 := .inl ⟨rfl, fun _ h => absurd h List.not_mem_nil⟩
  exact lowestOf_foldl hnil l hl

/-! ## A FINAL (R394, R397) -/

@[simp] theorem State.hold_held (s : State) (f : Nat) (r : Resp) :
    ((s.hold f r).mbox f).held = (s.mbox f).held ++ [r] := by
  simp only [State.hold, State.setMbox_mbox, if_true]

@[simp] theorem State.hold_bench (s : State) (f : Nat) (r : Resp) : (s.hold f r).bench = s.bench := id rfl

@[simp] theorem State.mem_cmdGone_running (s : State) (c x : Cmd) :
    x ∈ (s.cmdGone c).bench.running ↔ x ∈ s.bench.running ∧ ¬ (x.f = c.f ∧ x.slot = c.slot) := by
  simp only [State.cmdGone, State.setBench_bench, List.mem_filter, Bool.not_eq_true', Bool.and_eq_false_iff, beq_eq_false_iff_ne,
    ne_eq, Decidable.not_and_iff_or_not]

/-- REFUSED_CAPACITY is counted in MBX_CAPCNT, which leaves the commands that run as they are. -/
theorem State.answer_running (s : State) (c : Cmd) (status : Nat) (payload : List Byte) (hc : c.interim = false) :
    (s.answer c status payload).bench.running = (s.cmdGone c).bench.running := by
  by_cases hcap : status = St.capacity <;> simp [State.answer, hc, hcap]

/-- A command that no INTERIM has answered gets its FINAL, and its slot with it. -/
theorem State.answer_final (s : State) (c : Cmd) (status : Nat) (payload : List Byte) (hc : c.interim = false) :
    Final (s.answer c status payload) c status payload := by
  constructor
  · simp [State.answer, hc]
  · intro x hx
    rw [s.answer_running c status payload hc, State.mem_cmdGone_running] at hx
    exact hx.2

/-- A command that nothing refuses takes effect, and is answered with OK. -/
theorem State.cmdDo_accepted {s : State} {c : Cmd} {l : List (Bool × Nat)} (eff : State → State × List Byte)
    (h : Answer s c l = 0) : s.cmdDo c l eff = (eff s).1.answer c St.ok (eff s).2 := if_pos h

/-- A command that is refused is answered with the refusal, and has no effect. -/
theorem State.cmdDo_refused {s : State} {c : Cmd} {l : List (Bool × Nat)} (eff : State → State × List Byte)
    (h : Answer s c l ≠ 0) : s.cmdDo c l eff = s.answer c (Answer s c l) [] := if_neg h

/-- Settles O34: the ranks are those of Table 13.6, the fold over the refusals keeps the lowest that applies, and both outcomes
of a command end in a FINAL with the status picked. -/
theorem obligations_statusRank : Obligations.StatusRank := by
  refine ⟨by decide, fun l hl => ?_, fun s c l eff hc => ⟨fun h => ?_, fun h => ?_⟩⟩
  · obtain ⟨hok, hnone⟩ | ⟨hne, hmem, hleast⟩ := pickStatus_lowestOf l hl
    · exact ⟨iff_of_true hok hnone, fun hne => absurd hok hne⟩
    · exact ⟨iff_of_false hne fun hnone => Bool.noConfusion (hnone _ hmem), fun _ => ⟨hmem, hleast⟩⟩
  · rw [State.cmdDo_accepted eff h]
    exact State.answer_final _ _ _ _ hc
  · rw [State.cmdDo_refused eff h]
    exact State.answer_final _ _ _ _ hc

end Sys2Proof.Machine
end

section
/-!
PROOF. Acknowledgements (R486, R492): what the acknowledgement of one class and of several clears and leaves alone, what a
command whose effect is one update is answered with, and the claim on TOUCH_ACK and FAULT_ACK.
-/
namespace Sys2Proof.Machine
open Sys2Proof

/-! ## Frames of an answer and of repeated updates -/

section Frames
variable {K : Nat → Prop} {l : List Area} (s : State)

theorem Keeps.setMbox (f : Nat) (x : Mbox) (hl : Area.mboxes ∈ l) : Keeps K l s (s.setMbox f x) := by
  refine ⟨fun _ _ => rfl, fun a ha => ?_⟩
  cases a
  case mboxes => exact absurd (List.mem_cons_of_mem _ hl) ha
  all_goals rfl

theorem Keeps.setBench (x : BenchX) (hl : Area.bench ∈ l) : Keeps K l s (s.setBench x) := by
  refine ⟨fun _ _ => rfl, fun a ha => ?_⟩
  cases a
  case bench => exact absurd (List.mem_cons_of_mem _ hl) ha
  all_goals rfl

/-- An answer changes what is held for the function and the running commands; REFUSED_CAPACITY is also counted. -/
theorem Keeps.answer (c : Cmd) (status : Nat) (payload : List Byte) (hm : Area.mboxes ∈ l) (hb : Area.bench ∈ l)
    (hcap : status = St.capacity → K (Reg.MBX_CAPCNT c.f)) : Keeps K l s (s.answer c status payload) := by
  have hgone : Keeps K l s (if c.interim then s else s.cmdGone c) := by
    split
    · exact Keeps.refl K l s
    · exact Keeps.setBench s _ hb
  unfold State.answer
  dsimp only
  refine Keeps.trans ?_ (Keeps.setMbox _ _ _ hm)
  split
  next h => exact hgone.trans (Keeps.wr l _ _ _ (hcap h))
  next => exact hgone

/-- Updates that stay inside a frame stay inside it together. -/
theorem Keeps.each {α : Type} (f : State → α → State) (xs : List α) (hf : ∀ t, ∀ x ∈ xs, Keeps K l t (f t x)) :
    Keeps K l s (s.each xs f) := by
  unfold State.each
  induction xs generalizing s with
  | nil => exact Keeps.refl K l s
  | cons x xs ih =>
    obtain ⟨hx, hxs⟩ : (∀ t, Keeps K l t (f t x)) ∧ ∀ t, ∀ y ∈ xs, Keeps K l t (f t y) :=
      ⟨fun t => hf t x List.mem_cons_self, fun t y hy => hf t y (List.mem_cons_of_mem x hy)⟩
    exact (hx s).trans (ih (f s x) hxs)

end Frames

/-- An answer other than REFUSED_CAPACITY writes no register. -/
theorem Told.answer (s : State) (c : Cmd) (status : Nat) (payload : List Byte) (h : status ≠ St.capacity) :
    Told s (s.answer c status payload) :=
  Keeps.answer s c status payload (by simp) (by simp) (fun hcap => absurd hcap h)

theorem Told.rd {s t : State} (h : Told s t) (k : Nat) : t.rd k = s.rd k := h.1 k List.not_mem_nil

/-! ## Rows whose effect is one update (R394, R400) -/

/-- Where the command runs and is served, its row goes on to its effect. -/
theorem State.onCmd_served {s : State} {f : Fin 16} {slot : Fin 64} {op : Nat} {c : Cmd} (hc : s.cmdAt f slot op = some c)
    (hserved : s.cmdServed c = true) (m : Cmd → State → State) : s.onCmd f slot op m = .next (m c s) := by
  unfold State.cmdAt at hc
  simp only [State.onCmd, hc, hserved, if_true]

/-- No such command, or one that is not served: the row does nothing (R389, R391). -/
theorem State.onCmd_rests {s : State} {f : Fin 16} {slot : Fin 64} {op : Nat}
    (hrest : ∀ c, s.cmdAt f slot op = some c → s.cmdServed c = false) (m : Cmd → State → State) :
    s.onCmd f slot op m = .next s := by
  unfold State.cmdAt at hrest
  unfold State.onCmd
  split
  next c hc => rw [hrest c hc, if_neg Bool.false_ne_true]
  next => rfl

/-- A command that a row finds has had no INTERIM. -/
theorem State.cmdAt_interim {s : State} {f : Fin 16} {slot : Fin 64} {op : Nat} {c : Cmd} (h : s.cmdAt f slot op = some c) :
    c.interim = false := by
  have hc := List.find?_some h
  simp only [Bool.and_eq_true, Bool.not_eq_true'] at hc
  exact hc.2

/-- A row that checks its refusals, takes effect at once and answers serves its opcode, with the property that the effect and
its answer have. -/
theorem serves_of_cmdDo {op : Nat} {i : Fin 16 → Fin 64 → Instr} {refusals : State → Cmd → List (Bool × Nat)}
    {P : State → Cmd → State → List Byte → Prop} (eff : Cmd → State → State × List Byte)
    (hi : ∀ f slot s, exec (i f slot) s =
      s.alive fun s => s.onCmd f slot op fun c s => s.cmdDo c (refusals s c) (eff c))
    (hP : ∀ s f slot c, Runs s f slot op c → Answer s c (refusals s c) = 0 →
      P s c ((eff c s).1.answer c St.ok (eff c s).2) (eff c s).2) : Serves op i refusals P := by
  refine ⟨fun s f slot hmode hrest => ⟨s, ?_, rfl⟩, fun s f slot c hruns => ?_⟩
  · exact (hi f slot s).trans ((if_pos hmode).trans (State.onCmd_rests hrest _))
  · obtain ⟨hmode, hc, hserved⟩ := hruns
    have hdo : exec (i f slot) s = .next (s.cmdDo c (refusals s c) (eff c)) :=
      (hi f slot s).trans ((if_pos hmode).trans (State.onCmd_served hc hserved _))
    have hinterim := State.cmdAt_interim hc
    constructor
    · intro h
      rw [State.cmdDo_accepted _ h] at hdo
      exact ⟨_, hdo, _, State.answer_final _ _ _ _ hinterim, hP s f slot c ⟨hmode, hc, hserved⟩ h⟩
    · intro h
      rw [State.cmdDo_refused _ h] at hdo
      exact ⟨_, hdo, State.answer_final _ _ _ _ hinterim, Keeps.answer s c _ _ (by simp) (by simp) (by simp [inKeys])⟩

/-! ## One class acknowledged (R486, R492) -/

/-- Writing 0 to a field clears its bits. -/
theorem bitOf_putFld_zero (w : Word) (lo n : Nat) {i : Nat} (hi : i < 32) :
    bitOf (putFld w lo n 0) i = (bitOf w i && !decide (lo ≤ i ∧ i < lo + n)) := by
  rw [bitOf_putFld]
  by_cases h : lo ≤ i ∧ i < lo + n
  · simp [h, hi]
  · rw [if_neg fun hin => h ⟨hin.1, hin.2.1⟩]
    simp [h]

theorem touch_clsstat_inj {c d : Nat} : Reg.TOUCH_CLSSTAT c = Reg.TOUCH_CLSSTAT d ↔ c = d := by
  unfold Reg.TOUCH_CLSSTAT; omega

theorem touch_array_inj {c d : Nat} : Reg.TOUCH_ARRAY c = Reg.TOUCH_ARRAY d ↔ c = d := by
  unfold Reg.TOUCH_ARRAY; omega

theorem touch_clsstat_ne_stat (c : Nat) : Reg.TOUCH_CLSSTAT c ≠ Reg.TOUCH_STAT := by
  unfold Reg.TOUCH_CLSSTAT Reg.TOUCH_STAT; omega

theorem touch_array_ne_stat (c : Nat) : Reg.TOUCH_ARRAY c ≠ Reg.TOUCH_STAT := by
  unfold Reg.TOUCH_ARRAY Reg.TOUCH_STAT; omega

theorem touch_array_ne_clsstat (c d : Nat) : Reg.TOUCH_ARRAY c ≠ Reg.TOUCH_CLSSTAT d := by
  unfold Reg.TOUCH_ARRAY Reg.TOUCH_CLSSTAT; omega

section Class
variable (s : State) (k : Nat)

theorem State.clsAck_clsstat (c : Nat) : (s.clsAck k).rd (Reg.TOUCH_CLSSTAT c) =
    if c = k then putFld (putFld (s.rd (Reg.TOUCH_CLSSTAT c)) 4 1 0) 0 3 0 else s.rd (Reg.TOUCH_CLSSTAT c) := by
  by_cases h : c = k <;>
    simp [State.clsAck, State.setUnack, touch_clsstat_inj, touch_clsstat_ne_stat, (touch_array_ne_clsstat _ _).symm, h, b2n]

theorem State.clsAck_stat : (s.clsAck k).rd Reg.TOUCH_STAT = putFld (s.rd Reg.TOUCH_STAT) (16 + k) 1 0 := by
  simp [State.clsAck, State.setUnack, (touch_clsstat_ne_stat _).symm, (touch_array_ne_stat _).symm, b2n]

theorem State.clsAck_array (c : Nat) :
    (s.clsAck k).rd (Reg.TOUCH_ARRAY c) = if c = k then 0#32 else s.rd (Reg.TOUCH_ARRAY c) := by
  simp [State.clsAck, State.setUnack, touch_array_inj, touch_array_ne_stat, touch_array_ne_clsstat]

/-- Acknowledging class k writes its TOUCH_CLSSTAT and TOUCH_ARRAY and TOUCH_STAT, and nothing else. -/
theorem State.clsAck_keeps {K : Nat → Prop} {l : List Area} (hcls : K (Reg.TOUCH_CLSSTAT k)) (hstat : K Reg.TOUCH_STAT)
    (harr : K (Reg.TOUCH_ARRAY k)) : Keeps K l s (s.clsAck k) :=
  (((Keeps.wr l s _ _ hcls).trans (Keeps.wr l _ _ _ hstat)).trans (Keeps.wr l _ _ _ hcls)).trans (Keeps.wr l _ _ _ harr)

/-- Acknowledging class k clears what an acknowledgement clears of that class alone. -/
theorem State.clsAck_acked : Acked (fun n => n == k) s (s.clsAck k) := by
  refine ⟨fun c _ j hj => ?_, fun j hj => ?_, fun c _ => ?_⟩
  · rw [State.bit, s.clsAck_clsstat k]
    by_cases hc : c = k
    · have hlevel : (0 ≤ j ∧ j < 0 + 3) = (j < 3) := by simp
      have hunack : (4 ≤ j ∧ j < 4 + 1) = (j = 4) := propext (by omega)
      rw [if_pos hc, bitOf_putFld_zero _ _ _ hj, bitOf_putFld_zero _ _ _ hj, Bool.and_assoc, ← Bool.not_or, Bool.or_comm]
      simp only [hlevel, hunack, hc, beq_self_eq_true, Bool.true_and, State.bit]
    · simp [hc, State.bit]
  · have hunack : decide (16 + k ≤ j ∧ j < 16 + k + 1) = (decide (16 ≤ j) && j - 16 == k) := by
      rw [Bool.eq_iff_iff]
      simp only [Bool.and_eq_true, decide_eq_true_eq, beq_iff_eq]
      omega
    rw [State.bit, s.clsAck_stat k, bitOf_putFld_zero _ _ _ hj, hunack, State.bit]
  · simp [s.clsAck_array k]

end Class

/-! ## Several classes acknowledged -/

theorem Acked.of_none (s : State) : Acked (fun _ => false) s s := by
  simp [Acked]

/-- One acknowledgement after another clears the classes of both. -/
theorem Acked.trans {p q : Nat → Bool} {s t u : State} (h : Acked p s t) (k : Acked q t u) :
    Acked (fun n => p n || q n) s u := by
  obtain ⟨hcls, hstat, harr⟩ := h
  obtain ⟨kcls, kstat, karr⟩ := k
  refine ⟨fun c hc j hj => ?_, fun j hj => ?_, fun c hc => ?_⟩
  · rw [kcls c hc j hj, hcls c hc j hj, Bool.and_assoc, ← Bool.not_or, ← Bool.and_or_distrib_right]
  · rw [kstat j hj, hstat j hj, Bool.and_assoc, ← Bool.not_or, ← Bool.and_or_distrib_left]
  · rw [karr c hc, harr c hc]
    cases hp : p c <;> cases hq : q c <;> simp [hp, hq]

/-- Which classes are picked matters for the 16 classes alone. -/
theorem Acked.congr {p q : Nat → Bool} {s t : State} (hpq : ∀ c < 16, p c = q c) (h : Acked p s t) : Acked q s t := by
  obtain ⟨hcls, hstat, harr⟩ := h
  refine ⟨fun c hc j hj => ?_, fun j hj => ?_, fun c hc => ?_⟩
  · rw [hcls c hc j hj, hpq c hc]
  · rw [hstat j hj, hpq (j - 16) (by omega)]
  · rw [harr c hc, hpq c hc]

/-- The answer to the command leaves the acknowledgement as it is. -/
theorem Acked.told {p : Nat → Bool} {s t u : State} (h : Acked p s t) (hu : Told t u) : Acked p s u := by
  simpa only [Acked, State.bit, hu.rd] using h

theorem State.each_clsAck_acked (s : State) (cs : List Nat) :
    Acked (fun n => cs.contains n) s (s.each cs fun t c => t.clsAck c) := by
  unfold State.each
  induction cs generalizing s with
  | nil => exact Acked.of_none s
  | cons c cs ih =>
    refine ((s.clsAck_acked c).trans (ih (s.clsAck c))).congr fun n _ => ?_
    exact List.contains_cons.symm

/-! ## TOUCH_ACK and FAULT_ACK -/

/-- A write of TOUCH_ACK acknowledges the classes of its set bits. -/
theorem State.touchAck_acked (s : State) (v : Word) : Acked (bitOf v) s (s.touchAck v) :=
  (s.each_clsAck_acked _).congr fun c hc => by simp [hc]

theorem State.touchAck_keeps (s : State) (v : Word) :
    Keeps (fun k => k = Reg.TOUCH_STAT ∨ ∃ c < 16, bitOf v c = true ∧ (k = Reg.TOUCH_CLSSTAT c ∨ k = Reg.TOUCH_ARRAY c)) []
      s (s.touchAck v) := by
  refine Keeps.each s _ _ fun t c hc => ?_
  obtain ⟨hlt, hbit⟩ := List.mem_filter.mp hc
  have hc16 := List.mem_range.mp hlt
  exact t.clsAck_keeps c (.inr ⟨c, hc16, hbit, .inl rfl⟩) (.inl rfl) (.inr ⟨c, hc16, hbit, .inr rfl⟩)

/-- TOUCH_ACK where a write to it takes effect. -/
theorem exec_touchAck_up {s : State} (v : Word) (h : Up s Reg.TOUCH_ACK) : exec (.touchAck v) s = .next (s.touchAck v) := by
  obtain ⟨hmode, hfn, hunit⟩ := h
  show s.alive (fun s => s.reach 0 Reg.TOUCH_ACK fun s => .next (s.touchAck v)) = _
  simp [State.alive, State.reach, hmode, hfn, hunit]

/-- FAULT_ACK acknowledges the class of its payload and answers OK: the registers of that class and TOUCH_STAT, the function's
responses and the running commands are all that changes. -/
theorem State.clsAck_answer (s : State) (c : Cmd) (k : Nat) (payload : List Byte) :
    Acked (fun n => n == k) s ((s.clsAck k).answer c St.ok payload) ∧
      Keeps (inKeys [Reg.TOUCH_CLSSTAT k, Reg.TOUCH_STAT, Reg.TOUCH_ARRAY k]) [.mboxes, .bench] s
        ((s.clsAck k).answer c St.ok payload) := by
  have htold : Told (s.clsAck k) ((s.clsAck k).answer c St.ok payload) := Told.answer _ c _ _ (by decide)
  refine ⟨(s.clsAck_acked k).told htold, ?_⟩
  refine (s.clsAck_keeps k ?_ ?_ ?_).trans (htold.mono (fun _ h => absurd h List.not_mem_nil) (List.Subset.refl _)) <;>
    simp [inKeys]

/-- Settles O58: TOUCH_ACK acknowledges the classes of its set bits one after another, FAULT_ACK the one that its payload
names. -/
theorem acknowledgement : Obligations.Acknowledgement := by
  refine ⟨fun s v hup => ⟨_, exec_touchAck_up v hup, s.touchAck_acked v, s.touchAck_keeps v⟩, ?_⟩
  refine serves_of_cmdDo (fun c s => (s.clsAck (c.at 0 1), [])) (fun _ _ _ => rfl) fun s _ _ c _ _ k hk => ?_
  rw [hk]
  exact s.clsAck_answer c (c.at 0 1) []

end Sys2Proof.Machine
end
